-- ==== Sys2Proof/Word.lean ====
section
/-! DEFINITION. The plain data types that commands and state share: bytes, packets, write sources, and the small named sets of the specification. -/

namespace Sys2Proof

/-- One byte. -/
abbrev Byte := BitVec 8

/-- A Porxel version 2 packet (R42, Table 2.1): the header fields, the payload bytes as carried, and the two check
fields. `w1k` is the kind-specific part of Word 1; `len` is the header's LEN, which need not equal the payload's length. -/
structure Packet where
  ver : BitVec 4
  kind : BitVec 6
  tc : BitVec 3
  cm : BitVec 2
  spray : Bool
  last : Bool
  echo : Bool
  hops : BitVec 6
  dgid : BitVec 20
  sgid : BitVec 20
  psn : BitVec 24
  msgid : BitVec 16
  len : BitVec 13
  w1k : BitVec 11
  w2 : BitVec 64
  key : BitVec 16
  ctx : BitVec 32
  hcrc : BitVec 16
  payload : List Byte
  ecrc : BitVec 32
  deriving DecidableEq, Repr

/-- What crosses the switch core: a Porxel packet, or an Ethernet frame given as its bytes without the FCS. -/
inductive Body where
  | porxel (p : Packet)
  | frame (bytes : List Byte)
  deriving DecidableEq, Repr

/-- The sources of register writes (R34): the two PCI Express functions, their command rings (R449), the
configuration image (R390) and the two management cores. -/
inductive Src where
  | fn0 | fn1 | ring0 | ring1 | image | ctl0 | ctl1
  deriving DecidableEq, Repr

/-- The three kinds of block that can be declared failed (R37, Table 17.4 BLOCK_FAILED). -/
inductive BlockKind where
  | line | compute | service
  deriving DecidableEq, Repr

/-- Why a port loses its link (R89, R94, R95, R467). -/
inductive LossCause where
  /-- Lanes of the port, bit j for its lane j, that have lost signal, and that have lost clock recovery alone. -/
  | noSignal (sig cdr : BitVec 8)
  | codewords | alignment | helloTimeout | wrongPeer
  deriving DecidableEq, Repr

/-- The module families a slot can hold (R101, R206). -/
inductive ModuleKind where
  | pluggable | s8 | trefy
  deriving DecidableEq, Repr

/-- One application a module advertises: the mode code of CORE_PORT_CFG.MODE and the number of lanes (R101), and the transmit
equaliser settings that it asks of the host (R81). -/
structure ModApp where
  mode : Nat
  width : Nat
  txEq : Nat
  deriving DecidableEq, Repr

/-- A read of BAR0: its offset, and whether it is one 64-bit access. -/
structure RegRead where
  off : BitVec 26
  is64 : Bool
  deriving DecidableEq, Repr

/-- What an attempt to train finds, lane by lane of the port: reversed polarity, and the lanes that the far end reports as failed. -/
structure TrainLanes where
  polInv : BitVec 8
  farBad : BitVec 8
  deriving DecidableEq, Repr

/-- What leaves an egress port: the last byte of a packet, or with `last` false that of a segment before its last. -/
structure TxEnd where
  port : Fin 512
  last : Bool
  deriving DecidableEq, Repr

/-- The two of a transmit ring's codes that the sweep of a calibration identifies by their pilots: the place of its own line and of
the line 16 away (R220). -/
structure TxSeen where
  own : Option (Fin 32)
  far : Option (Fin 32)
  deriving DecidableEq, Repr

/-- The lane of a channel of a module slot. -/
def laneOf (slot : Fin 64) (chan : Fin 8) : Fin 512 := ⟨8 * slot.val + chan.val, by omega⟩

/-- The module slot by its region and its place there. -/
def slotOf (region n : Fin 8) : Fin 64 := ⟨8 * region.val + n.val, by omega⟩

/-- The engines of Table 10.1. -/
inductive EngId where
  | mxe (i : Fin 512) | vxe (i : Fin 128) | cve (i : Fin 64) | tke (i : Fin 16) | sme (i : Fin 16) | gte (i : Fin 16)
  | xfe (i : Fin 8) | ate (i : Fin 8)
  deriving DecidableEq, Repr

/-- Where an uncorrectable codeword was read (Table 1.4, Table 17.2). -/
inductive UeSite where
  /-- Packet SRAM of a region: the packet held there, by its internal number. -/
  | packetSram (region : Fin 8) (pid : Nat) (addr : Nat)
  /-- Scratch: the engine address and the instance whose tile or descriptor read it. -/
  | scratch (addr : BitVec 40) (inst : Option (BitVec 12))
  /-- Reduction SRAM: the home line block and the chunk whose accumulator it holds. -/
  | reduction (lb : Fin 64) (group : BitVec 14) (chunk : BitVec 24) (addr : Nat)
  /-- A table copy: table ID of Table 4.9, entry index and region. -/
  | table (id : Fin 8) (index : BitVec 18) (region : Fin 8)
  /-- A 64-byte line of the Commons, by its number in the whole Commons. -/
  | commons (line : BitVec 18)
  /-- HBM, a spilled segment of the packet named. -/
  | hbmSpill (stack : Fin 4) (pid : Nat) (addr : Nat)
  /-- HBM, a promenade chunk. -/
  | hbmProm (stack : Fin 4) (obj : BitVec 16) (chunk : BitVec 32) (addr : Nat)
  /-- HBM, read by an engine for the instance named. -/
  | hbmEngine (addr : BitVec 40) (inst : BitVec 12)
  /-- HBM, read by SVC_LOAD. -/
  | hbmLoad (addr : BitVec 40)
  /-- SRAM or HBM not in use, found by the scrub; memory number of R432, region or stack, address. -/
  | unused (mem : Fin 6) (region : Fin 8) (addr : Nat)
  deriving DecidableEq, Repr

/-- What one scrub read finds (R433); `readCorrected` is a correction made on an ordinary read of the memory, scrub or no scrub
(R36). -/
inductive ScrubFinding where
  | clean | corrected | uncorrectable (site : UeSite) | endOfPass | readCorrected
  deriving DecidableEq, Repr

/-- The upstream half of an OCL frame (Table 8.2), as the part sees it. -/
structure OclUp where
  answered : Bool
  ucrc : BitVec 8
  rings : List (BitVec 11)
  tap : BitVec 12
  utype : BitVec 4
  aux : BitVec 8
  deriving DecidableEq, Repr

/-- One register write of a command ring entry or an image record (R386, R449). -/
structure RegW where
  off : BitVec 32
  is64 : Bool
  val : BitVec 64
  deriving DecidableEq, Repr

/-- What the ROM and the memory test find at a start (R380, R388): which slots could be read, and which units the
step 6 test takes out of service. -/
structure BootFindings where
  readErrA : Bool
  readErrB : Bool
  failed : List (BlockKind × Fin 64)
  deriving DecidableEq, Repr

/-- What wakes under R415: one compute block from C1 or C2, or a region from C3 or C4. -/
inductive WakeUnit where
  | block (c : Fin 64) | region (k : Fin 8)
  deriving DecidableEq, Repr

/-- The ways into OFF (R378, R470). -/
inductive PowerPin where
  | resetN | pwrGood | rail
  deriving DecidableEq, Repr

end Sys2Proof
end

