-- ==== Sys2Proof/Syntax.lean ====
section
/-! DEFINITION. The commands of the block: one constructor for each row of the table of operations and events. -/

namespace Sys2Proof

/-- A command or event of the part. A `src` operand names who makes a register write (R34); a `pos` operand is the place of
the packet concerned in the list of packets delivered to local functions or in transit; the other operands are what the
outside world supplies with the event. -/
inductive Instr where
  /-- REGISTER_WRITE (R30). A BAR0 write to a register that has no row of its own is accepted in the MGMT_CLK domain; the lease test, the R10 CMD-busy test and the R11 half-pairing apply to it. -/
  | registerWrite (src : Src) (off : BitVec 26) (is64 : Bool) (val : BitVec 64)
  /-- WRITE_TAKES_EFFECT (R30). An accepted register write takes effect in its function's clock domain within 64 MGMT_CLK cycles, with all fields of one access in one cycle and the winner chosen by R34 when writes collide. -/
  | writeTakesEffect (picks : List Nat)
  /-- LOWER_HALF_READ (R11). A 32-bit read of the lower half of a 64-bit register latches the upper half for the next upper-half read from the same function. The read may be one 64-bit access. -/
  | lowerHalfRead (fn : Fin 2) (r : RegRead)
  /-- CFG_SYNC (R35). A write of CFG_SYNC.SYNC starts a wait for every earlier register write of this source to take effect. -/
  | cfgSync (src : Src)
  /-- CFG_SYNC_COMPLETE (R35). CFG_SYNC.SYNC returns to 0 once every earlier write of its source has taken effect. -/
  | cfgSyncComplete
  /-- CTL_FAILOVER (R20). One management core fails; the surviving core takes over its duties within 10 ms, the state becomes DEGRADED and a fault record is written. -/
  | ctlFailover (core : Fin 2)
  /-- BLOCK_FAILED (R37). A line, compute or service block is declared failed; its lanes go down or its tiles are requeued, and status bits, DEGRADED and a fault record follow. -/
  | blockFailed (kind : BlockKind) (num : Fin 64) (cause : Fin 3)
  /-- BLOCK_WATCHDOG_EXPIRY (R37). A block's watchdog finds it making no progress with work pending for 1 ms, and the block is declared failed. -/
  | blockWatchdogExpiry (kind : BlockKind) (num : Fin 64)
  /-- REGION_FAILED (R37). A region's I/O chiplet, service block or chip network port fails; the region leaves service and in-flight writes to it are discarded. -/
  | regionFailed (k : Fin 8) (cause : Fin 3)
  /-- HBM_STACK_FAILED (R26). An HBM stack fails; spill stops for its two regions, users of the stack fault, its promenade share is lost, and the state becomes DEGRADED. -/
  | hbmStackFailed (j : Fin 4)
  /-- CHIP_FATAL (R36). A fatal chip error takes every lane down, writes a fatal fault record and enters SAFE. -/
  | chipFatal (cause : Fin 6)
  /-- UNCORRECTABLE_CODEWORD (R36). An uncorrectable 2SC codeword is read; the packet, instance, chunk, table entry or HBM data concerned is handled under Table 1.4 or Table 17.2. -/
  | uncorrectableCodeword (site : UeSite)
  /-- TABLE_ENTRY_RELOAD (R123). A table entry with an uncorrectable codeword is reloaded from another region's copy, or is invalidated in every region when no copy is readable. -/
  | tableEntryReload (table : Fin 8) (index : BitVec 18) (k : Fin 8)
  /-- PACKET_HEADER_RECEIVED (R477). A packet's header is received and is taken through receive checks 1 to 6 and the ordered steps of R477. -/
  | packetHeaderReceived (port : Fin 512) (p : Packet) (start : Option (BitVec 64))
  /-- PACKET_RECEIVE_COMPLETE (R59). A packet completes at ingress; check 8 and, for a consumed packet, check 9 are made. -/
  | packetReceiveComplete (port : Fin 512) (exp : Bool) (rxLen : Nat) (fecOk : Bool)
  /-- SEGMENT_BYTES_ARRIVED (R133). The bytes of a later segment of a packet have arrived, and the segment enters the packet's queue. -/
  | segmentBytesArrived (port : Fin 512) (exp : Bool)
  /-- ETH_FRAME_RECEIVED (R83). A frame is received on an Ethernet-mode port and is classed, size-checked and routed. -/
  | ethFrameReceived (port : Fin 512) (bytes : List Byte) (fcsOk : Bool)
  /-- ETH_ENCAP_RECEIVED (R62). An ETH_ENCAP packet to the part's own GID is decapsulated, and its inner frame is routed as if received on an Ethernet-mode port. -/
  | ethEncapReceived (pos : Nat)
  /-- RESPONSE_RECEIVED (R62). A response kind to the part's own GID is matched to an outstanding request by SGID, MSGID and PSN, or is dropped as UNMATCHED_RESP. -/
  | responseReceived (pos : Nat)
  /-- MGMT_RECEIVED (R62). A MGMT packet to the part's own GID is posted unchanged to the lease owner's event ring, or is dropped when there is no owner. -/
  | mgmtReceived (pos : Nat)
  /-- PUNT_DELIVER (R451). A punted packet leaves the chip-level punt queue and is written with its punt record to the owner's ring 2. -/
  | puntDeliver
  /-- PORT_CFG_WRITE (R72). A write of CORE_PORT_CFGn is applied or refused in full, and an EN or DRAIN change moves the port's state under Table 3.5. -/
  | portCfgWrite (src : Src) (n : Fin 512) (val : BitVec 32)
  /-- LANE_POWERUP_WAIT_EXPIRY (R417). A lane powered on by the enabling of its port ends its 1 ms wait, and the port's first training attempt begins. -/
  | lanePowerupWaitExpiry (n : Fin 512)
  /-- TRAINING_BACKOFF_EXPIRY (R87). The backoff after a failed training attempt ends, and the next attempt begins. -/
  | trainingBackoffExpiry (n : Fin 512)
  /-- TRAINING_PHASE_TIMEOUT (R87). A native training phase exceeds its limit; the attempt fails with its FAIL_REASON, and the port backs off or goes DOWN. -/
  | trainingPhaseTimeout (n : Fin 512) (phase : Fin 4) (deskew : Bool)
  /-- TRAINING_SUCCESS (R86). A training attempt succeeds; a native port enters HELLO, and an Ethernet port enters UP or DRAINING. -/
  | trainingSuccess (n : Fin 512) (lanes : TrainLanes) (lrx : BitVec 16)
  /-- LOSS_OF_LINK (R89). A port loses its link; it goes to TRAINING, leaves every link group within 50 µs, and cuts off a packet in transmission as LINK_ABORT. -/
  | lossOfLink (n : Fin 512) (cause : LossCause)
  /-- LANE_FAILED (R91). A lane is declared failed, and its port re-forms at a reduced width under R90 or goes DOWN. -/
  | laneFailed (lane : Fin 512) (cause : Fin 3)
  /-- HELLO_TX_TIMER (R92). Every 1 ms each native port in HELLO, UP or DRAINING sends a HELLO carrying its neighbour record. -/
  | helloTxTimer (n : Fin 512)
  /-- HELLO_RECEIVED (R93). A link-local HELLO is checked for validity, updates the neighbour record, and may move the port to UP or DRAINING or answer a FAST HELLO. -/
  | helloReceived (pos : Nat)
  /-- HELLO_TIMEOUT (R95). A native port receives no HELLO for 3 ms and loses its link with FAIL_REASON HELLO_TIMEOUT. -/
  | helloTimeout (n : Fin 512)
  /-- FAST_RETRAIN (R97). The optical control requests a fast retrain of a bypass port, which runs training phases 3 and 4 only, keeping its equaliser settings. -/
  | fastRetrain (n : Fin 512)
  /-- DRAIN_COMPLETE (R88). A DRAINING port's egress queues are empty; DRAINED is set and any waiting calibration or test moves the port to CAL. -/
  | drainComplete (n : Fin 512)
  /-- DRAIN_TIMEOUT (R88). 100 µs after a drain begins, the packets still queued are dropped as DRAIN_DROP and the drain is complete. -/
  | drainTimeout (n : Fin 512)
  /-- LANE_TEST_START (R99). A write of CORE_LANE_TEST.START reports ACCEPTED, ACCEPTED_DEFERRED or REFUSED and begins the lane tests accepted. -/
  | laneTestStart (src : Src) (val : BitVec 32)
  /-- LANE_TEST_COMPLETE (R98). A 2 ms PRBS31 test of a lane ends with TEST_RESULT pass or fail, and the next lane or port of the test is taken. -/
  | laneTestComplete (pass : Bool)
  /-- MODULE_INSERTED (R101). A module is inserted; the part reads its identifier and CMIS revision and waits for ModuleReady. -/
  | moduleInserted (slot : Fin 64) (kind : ModuleKind) (rev : BitVec 8) (power : BitVec 4)
  /-- MODULE_READY (R101). A module reports ModuleReady; the part selects a matching application for each enabled port and activates its data paths. -/
  | moduleReady (slot : Fin 64) (apps : List ModApp)
  /-- MODULE_READY_TIMEOUT (R101). A module has not reported ModuleReady within 2 s of its insertion. -/
  | moduleReadyTimeout (slot : Fin 64)
  /-- MODULE_REMOVED (R74). A module is removed, and every port on its lanes goes DOWN with FAIL_REASON MODULE_ABSENT. -/
  | moduleRemoved (slot : Fin 64)
  /-- MODULE_POLL (R101). Every 100 ms the part polls each module's monitors and flags. -/
  | modulePoll (slot : Fin 64) (monitors : List Byte) (flags : BitVec 8)
  /-- MODULE_INTERRUPT (R101). A module interrupt arrives over the OCL and sets MOD_EVENT. -/
  | moduleInterrupt (slot : Fin 64) (flags : BitVec 8)
  /-- MODULE_ACCESS (R102). A write of OPT_MOD_ACC.START begins a one-byte CMIS access, or ends it at once with STATUS PROTECTED or NO_MODULE. -/
  | moduleAccess (src : Src) (val : BitVec 64)
  /-- MODULE_ACCESS_COMPLETE (R102). A module byte access ends with OK or NAK when the module answers. -/
  | moduleAccessComplete (ack : Bool) (data : BitVec 8)
  /-- MODULE_ACCESS_TIMEOUT (R102). A module byte access that gets no answer within 10 ms ends with STATUS TIMEOUT. -/
  | moduleAccessTimeout
  /-- SREF_LOST (R467). A region's SerDes reference is lost, and every port of the region goes to TRAINING with NO_SIGNAL. -/
  | srefLost (k : Fin 8)
  /-- SREF_RESTORED (R467). A region's SerDes reference has been present for 1 ms, and its ports retrain. -/
  | srefRestored (k : Fin 8)
  /-- TBL_READ (R126). A READ command copies a table entry into TBL_DATA. -/
  | tblRead (src : Src) (table : BitVec 3) (index : BitVec 18)
  /-- TBL_WRITE (R127). A WRITE command replaces an entry in every regional copy, or holds a link group page under R128, or ends with BAD_ENTRY. -/
  | tblWrite (src : Src) (table : BitVec 3) (index : BitVec 18)
  /-- TBL_INVALIDATE (R126). An INVALIDATE command sets a whole table entry to zero. -/
  | tblInvalidate (src : Src) (table : BitVec 3) (index : BitVec 18)
  /-- TBL_SEARCH (R126). A SEARCH command performs an LPM lookup of the address in TBL_DATA and returns the deciding slot or NOT_FOUND. -/
  | tblSearch (src : Src) (table : BitVec 3) (index : BitVec 18)
  /-- TBL_INSERT_SORTED (R126). An INSERT_SORTED command places an LPM entry in prefix-length order, replacing an equal entry or ending FULL. -/
  | tblInsertSorted (src : Src) (table : BitVec 3) (index : BitVec 18)
  /-- TBL_DELETE_SORTED (R126). A DELETE_SORTED command removes the matching LPM entry and keeps the order, or ends NOT_FOUND. -/
  | tblDeleteSorted (src : Src) (table : BitVec 3) (index : BitVec 18)
  /-- TBL_LEARN_FLUSH (R126). A LEARN_FLUSH command clears MOVES and FROZEN in the covered non-static DT or session entries and returns the number changed. -/
  | tblLearnFlush (src : Src) (table : BitVec 3) (all : Bool) (index : BitVec 18)
  /-- TABLE_COMMAND_COMPLETE (R129). Every regional copy of the entry has changed; TBL_CMD.START reads 0 and RESULT is valid. -/
  | tableCommandComplete
  /-- LEARN_APPLY (R114). A queued learning event is applied to its DT entry under Table 4.5, moving, creating or freezing the entry. -/
  | learnApply
  /-- LEARN_WINDOW_BOUNDARY (R115). A 1 s learning window ends, and MOVES is cleared in every DT entry and session slot. -/
  | learnWindowBoundary
  /-- LPM_SCRUB_SLOT (R123). The background scrub compares a TCAM slot with its shadow and rewrites it when they differ. -/
  | lpmScrubSlot (k : Fin 8) (slot : BitVec 15)
  /-- REEL_SLOT (R140). The Reel slot count advances by one CORE_CLK cycle, and both stages make their sends for that slot. -/
  | reelSlot
  /-- SEGMENT_ARRIVE_INTERMEDIATE (R142). A segment sent in the first stage arrives in the intermediate store, and a multicast record judges its ports. -/
  | segmentArriveIntermediate (pos : Nat)
  /-- SEGMENT_ARRIVE_RESEQUENCER (R148). A segment arrives at its egress resequencer and is released in SEQ order, held, or discarded as RESEQ_LATE. -/
  | segmentArriveResequencer (pos : Nat)
  /-- SKIP_NOTICE_RECEIVED (R148). A skip notice from an intermediate releases its sequence numbers as skipped at the resequencer. -/
  | skipNoticeReceived (pos : Nat)
  /-- RESEQ_TIMEOUT (R148). The resequencing timer of a flow reaches TIMEOUT; the gap is skipped, RESEQ_SKIP is counted, and packets that lost a segment are discarded or stomped. -/
  | reseqTimeout (d : Fin 72) (i : Fin 72) (c : Fin 8) (mc : Bool)
  /-- SPILL_REFILL (R137). Segments read from a VOQ's HBM part refill its SRAM head, and the VOQ leaves spill when its HBM part is empty. -/
  | spillRefill (i : Fin 72) (d : Fin 72) (c : Fin 4)
  /-- AGE_SWEEP (R161). Every 1 ms the packet at the head of every VOQ, wallflower queue and egress queue is tested for age, and aged packets are dropped as AGE_DROP. -/
  | ageSweep
  /-- SCHEDULER_DECISION (R168). An egress port free to start a packet chooses one by TC7, TC6 and deficit round robin, and applies the age, fence, marking and transparent clock steps at its start. -/
  | schedulerDecision (port : Fin 512)
  /-- PACKET_TX_END (R168). The last byte of a packet leaves an egress port; its segments are freed, PORT_TX counts it, and the port may choose again. With `last` false it is the last byte of a segment before the last, which is freed then (R135; log entry 19). -/
  | packetTxEnd (e : TxEnd)
  /-- EXPRESS_CUT_POINT (R171). An ordinary packet reaches a 256-byte cut point on a native port, and every eligible TC7 packet is sent before it resumes. -/
  | expressCutPoint (port : Fin 512)
  /-- UNDERRUN (R153). A started packet needs a segment that has not been released; it is stomped and counted as UNDERRUN. -/
  | underrun (port : Fin 512)
  /-- GATE_CYCLE_ARM (R187). A write of GATE_CYCLE_CTRL.ARM captures the cycle settings and the start time S, moving S ahead and setting START_LATE when it is not ahead. -/
  | gateCycleArm (src : Src)
  /-- GATE_CYCLE_STOP (R187). A write of GATE_CYCLE_CFG.EN to 0 stops the cycle timer at once and cancels a pending ARM. -/
  | gateCycleStop (src : Src) (val : BitVec 64)
  /-- GATE_CYCLE_BOUNDARY (R187). A cycle boundary or the armed start is reached; entry 0 of the active bank starts, pending commits apply, and SYNC_OUT may pulse. -/
  | gateCycleBoundary
  /-- SYNC_OUT_PULSE_END (R203). SYNC_OUT returns low 1,000 ns after its rising edge. -/
  | syncOutPulseEnd
  /-- GATE_ENTRY_CHANGE (R185). The next entry of a port's gate list comes into force, opening and closing class gates. -/
  | gateEntryChange (port : Fin 512)
  /-- GATE_COMMIT (R188). A write of GATE_PORT_CTRLn.COMMIT arranges that the inactive bank becomes active at the next boundary. -/
  | gateCommit (src : Src) (port : Fin 512) (val : BitVec 32)
  /-- GATE_LIST_WRITE (R188). A write of a gate list entry is applied, or is ignored with ACTIVE_WRITE set when it names the guarded active bank. -/
  | gateListWrite (src : Src) (port : Fin 512) (bank : Fin 2) (entry : Fin 64) (val : BitVec 32)
  /-- SYNC_IN_EDGE (R189). A SYNC_IN rising edge is timestamped and, when enabled, matched to a boundary that it steps or that ignores it. -/
  | syncInEdge
  /-- TIME_CLK_TICK (R191). Each TIME_CLK cycle adds Q + RATE to the fraction and advances TIME_NS by its whole part, setting WRAP on a wrap. -/
  | timeClkTick
  /-- TIME_STEP (R193). A nonzero write of TIME_STEP adds D to TIME_NS, moves the part's own deadlines, and sets WRAP or UNWRAP when the step crosses zero. -/
  | timeStep (src : Src) (d : BitVec 32)
  /-- OCL_FRAME (R209). A 1 µs Optical Control Link frame exchanges a command downstream and ring and tap samples upstream, and updates the link's sync. -/
  | oclFrame (slot : Fin 64) (up : OclUp)
  /-- RING_LOOP_UPDATE (R211). The dither-and-lock loop of a ring computes a new heater code, sends HEATER, and updates the ring's lock state. -/
  | ringLoopUpdate (lane : Fin 512) (rx : Bool)
  /-- PILOT_WINDOW (R213). Every 256 µs the pilot transform of each locked ring is checked, and two failing windows set WRONG_LINE and park the ring. -/
  | pilotWindow (slot : Fin 64) (chan : Fin 8) (rx : Bool)
  /-- RING_SWEEP_COMPLETE (R214). A ring's sweep ends; the ring relocks or, after three failed sweeps, RING_FAILED is set. -/
  | ringSweepComplete (lane : Fin 512) (rx : Bool) (found : Bool)
  /-- CHAN_CFG_WRITE (R208). A write of OPT_CHAN_CFGn is applied, or is refused with CFG_REFUSED for a line or dither conflict. -/
  | chanCfgWrite (src : Src) (n : Fin 512) (val : BitVec 32)
  /-- CALIBRATION_START (R219). The rotation takes the next eligible bypass port, which enters DRAINING and sends a HELLO with DRAINING set. -/
  | calibrationStart
  /-- CAL_HOLD_EXPIRY (R216). The drain is complete and CAL_HOLD has passed, so the waiting calibration or laser change moves the port into CAL. -/
  | calHoldExpiry (n : Fin 512)
  /-- CALIBRATION_END (R221). A calibration succeeds or fails, the tables are set or restored, and the port leaves CAL for a fast retrain. -/
  | calibrationEnd (codes : List (BitVec 12)) (tx : TxSeen) (seen : List (Fin 32 × BitVec 12))
  /-- PEER_WAIT_EXPIRY (R217). A bypass port waiting for its neighbour's signal reaches PEER_WAIT and falls back to full training attempts. -/
  | peerWaitExpiry (n : Fin 512)
  /-- PEER_SIGNAL_ARRIVAL (R217). A bypass port waiting before a fast retrain receives codeword signal from its neighbour and begins the fast retrain. -/
  | peerSignalArrival (n : Fin 512)
  /-- PLAN_ARM (R222). A write of OPT_PLAN_CTRL.ARM captures the plan time A, or is refused with PLAN_LATE or PLAN_CONFLICT. -/
  | planArm (src : Src)
  /-- PLAN_DRAIN_LEAD (R223). DRAIN_LEAD before the plan time, every pending port in UP enters DRAINING. -/
  | planDrainLead
  /-- PLAN_ACTIVATE (R223). At the plan time, every pending port takes its new lines and expected peer, its rings are set to the new line, and RETUNE is counted. -/
  | planActivate
  /-- RETUNE_SETTLED (R223). A retuned port's rings have settled for 10 µs, and the port leaves CAL for a fast retrain. -/
  | retuneSettled (n : Fin 512)
  /-- LINE_POWER_WINDOW (R225). Every 256 µs each monitored comb line's power is measured against its reference, and the line reaches or clears WARN or DRAIN. -/
  | linePowerWindow (region n : Fin 8)
  /-- RECAPTURE (R225). A write of OPT_SLOT_CTRLs.RECAPTURE captures the slot's line references over the next 16 windows. -/
  | recapture (src : Src) (slot : Fin 64)
  /-- SPARE_SETTLED (R227). 200 µs after SPARE engages the Trefy spare laser, the ring relocks and the port leaves CAL. -/
  | spareSettled (n : Fin 512) (ok : Bool)
  /-- CVT_STEP (R250). A write of CVT_SCTRLs.STEP, or a STEP_END descriptor, requests the end of a stream's step. -/
  | cvtStep (src : Src) (st : Fin 256)
  /-- AMAX_EXCHANGE (R250). Once the conversions begun before the request have ended, AMAX moves to AMAX_PREV and AMAX is cleared. -/
  | amaxExchange (st : Fin 256)
  /-- CVT_QCLR (R257). A write of CVT_SCTRLs.QCLR sets QERR to 0 and clears QERR_HIGH. -/
  | cvtQclr (src : Src) (st : Fin 256)
  /-- ACCURACY_CHECK (R257). The checker computes the relative error of a sampled block, updates QERR, and may signal QEVT of the owning instance. -/
  | accuracyCheck (k : Fin 8)
  /-- INST_START (R267). ENG_INST_CMD OP START sets up a host-reserved instance and starts it, or ends with NOT_HOST or BUSY. -/
  | instStart (src : Src) (inst : BitVec 12)
  /-- INST_ABORT (R285). ENG_INST_CMD OP ABORT stops a running instance's issue and queued tiles and sets it ABORTED. -/
  | instAbort (src : Src) (inst : BitVec 12)
  /-- INST_READ (R266). ENG_INST_CMD OP READ fills ENG_INST_STATUS and ENG_INST_EVT from the instance context. -/
  | instRead (src : Src) (inst : BitVec 12)
  /-- INST_CLEAR_FLAGS (R243). ENG_INST_CMD OP CLEAR_FLAGS clears the instance's ARITH_FLAGS. -/
  | instClearFlags (src : Src) (inst : BitVec 12)
  /-- INST_SIGNAL (R276). ENG_INST_CMD OP SIGNAL adds 1 to an event counter of a running instance. -/
  | instSignal (src : Src) (inst : BitVec 12) (ctr : BitVec 4)
  /-- DESCRIPTOR_ISSUE (R275). A fetched descriptor whose WAIT is met issues, is checked, and is cut into tiles queued on the engines of its home region. -/
  | descriptorIssue (inst : BitVec 12)
  /-- ENGINE_SEEK_WORK (R281). An idle MXE or VXE starts its own queue's head, or steals from a sibling block, or cuts in on another region's tiles. -/
  | engineSeekWork (eng : EngId)
  /-- TILE_COMPLETE (R276). An engine finishes a tile; a descriptor whose tiles are all written completes and signals, and an instance may end DONE. -/
  | tileComplete (eng : EngId)
  /-- XFE_RETRY_TIMEOUT (R273). An XFE packet unanswered within RETRY_US is resent, or faults its instance with FAULT XFER after RETRIES resends. -/
  | xfeRetryTimeout (k : Fin 8) (psn : BitVec 24)
  /-- UTIL_WINDOW (R284). At the end of each 1 µs window the four utilisations of each region are recorded, and saturated windows are counted in ENG_SAT. -/
  | utilWindow (k : Fin 8) (block : BitVec 8) (region : BitVec 8) (net : BitVec 8) (hbm : BitVec 8) (waited : Bool)
  /-- SVC_GID_WRITE (R287). A write of SVC_GIDg assigns, moves or removes a service GID and its DT entry, or is refused. -/
  | svcGidWrite (src : Src) (g : Fin 16) (val : BitVec 32)
  /-- SVC_REQ_RECEIVED (R295). An SVC_REQ packet reaches its service block, is placed in its slot, and its request is admitted or refused by the tests of R295. -/
  | svcReqReceived (pos : Nat)
  /-- ASSEMBLY_TIMEOUT (R293). A multi-packet request that is not complete within ASM_TIMEOUT is answered with ERROR ASSEMBLY, and its slot is freed. -/
  | assemblyTimeout (sv : Fin 64) (sgid : BitVec 18) (msgid : BitVec 16)
  /-- REFUSAL_RECORD_EXPIRY (R295). A refusal record ends ASM_TIMEOUT after it was made. -/
  | refusalRecordExpiry (sv : Fin 64) (sgid : BitVec 18) (msgid : BitVec 16)
  /-- JOIN_WINDOW_EXPIRY (R296). JOIN_NS after its first request was complete, an open group of a service closes. -/
  | joinWindowExpiry (sv : Fin 64)
  /-- GROUP_START (R297). A closed, complete group takes a free instance context and starts its instance, or waits as SVC_CTX_WAIT. -/
  | groupStart (sv : Fin 64)
  /-- RUN_LIMIT_EXPIRY (R300). A service instance still running RUN_LIMIT µs after its start is aborted. -/
  | runLimitExpiry (inst : BitVec 12)
  /-- SVC_LOAD (R303). A write of SVC_LOAD_CMD.START begins a copy of a promenade object or HBM range into Scratch or HBM, or ends with MISSING or ADDR. -/
  | svcLoad (src : Src) (size : BitVec 20)
  /-- SVC_LOAD_COMPLETE (R303). The copy of SVC_LOAD is complete, and START reads 0 with RESULT OK. -/
  | svcLoadComplete
  /-- SERVICE_BUILD_COMPLETE (R304). The part has written a built-in service's lists and checked its PARAM, and sets READY or PARAM_BAD. -/
  | serviceBuildComplete (sv : Fin 64)
  /-- STEER (R306). A STEER request is sent on to the session slot's GID, or is answered with an error for a missing or fenced session. -/
  | steer (pos : Nat)
  /-- CLAIM (R307). A CLAIM moves, creates or freezes a session slot under Table 11.6 and is answered. -/
  | claim (pos : Nat)
  /-- GATE_ANSWER (R313). An ANSWER is placed in its GATE request's slot by its handle, or is dropped as GATE_LATE or GATE_STRAY. -/
  | gateAnswer (pos : Nat)
  /-- GATE_TIMEOUT (R314). TIMEOUT_US after its last dispatch, a GATE instance combines the answers it has under MISS. -/
  | gateTimeout (inst : BitVec 12)
  /-- RED_CONTRIB_AT_HOME (R319). A RED_CONTRIB reaches its home line block and is tested, then opens, joins or is refused by its chunk under Table 12.3. -/
  | redContribAtHome (pos : Nat)
  /-- RED_TIMEOUT (R323). An OPEN chunk's timer reaches TIMEOUT_US, and the chunk is aborted or sends a partial result. -/
  | redTimeout (lb : Fin 64) (group : BitVec 14) (chunk : BitVec 24)
  /-- RED_RESULT_LEFT (R323). A chunk's result has left its home block; its data units are freed and it becomes DONE or FREE. -/
  | redResultLeft (lb : Fin 64) (group : BitVec 14) (chunk : BitVec 24)
  /-- RED_GRACE_EXPIRY (R323). GRACE_US after its result or abort left, a chunk's record is freed. -/
  | redGraceExpiry (lb : Fin 64) (group : BitVec 14) (chunk : BitVec 24)
  /-- RED_FENCE_SCAN (R325). After a sit-out, the member lists of groups with OPEN chunks are scanned, and groups naming the GID are set DEGRADED and aborted. -/
  | redFenceScan
  /-- COMMONS_WRITE (R329). A WRITE to the Commons reaches its ATE, is split at line boundaries, and takes its place in each line's order. -/
  | commonsWrite (pos : Nat)
  /-- COMMONS_READ (R329). A READ_REQ to the Commons reaches its ATE and is answered with READ_RESP in line order. -/
  | commonsRead (pos : Nat)
  /-- COMMONS_ATOMIC (R332). An ATOMIC_REQ reaches its ATE, is tested against the replay store, and joins a batch or is answered at once. -/
  | commonsAtomic (pos : Nat)
  /-- COMMONS_BATCH_APPLY (R330). A line's batch closes at WINDOW or at 1,024 requests, is applied in arrival order, and its responses leave. -/
  | commonsBatchApply (line : BitVec 18)
  /-- CMN_CLEAR (R335). A write of CMN_CTRL.CLEAR begins clearing the Commons, poison and replay stores of the regions named. -/
  | cmnClear (src : Src) (regions : BitVec 8)
  /-- CMN_CLEAR_COMPLETE (R335). The Commons clear ends, and the requests that waited proceed. -/
  | cmnClearComplete
  /-- PROM_CHUNK_RECEIVED (R338). A PROM_CHUNK to the part is checked, cached and relayed to the multicast group named by KEY. -/
  | promChunkReceived (pos : Nat)
  /-- PROM_REPAIR_RECEIVED (R339). A PROM_REPAIR is served with the chunks held and a NACK NOT_CACHED for those missing, or is dropped as PROM_REPAIR_DROP. -/
  | promRepairReceived (pos : Nat)
  /-- PROM_QUERY (R341). PROM_CMD OP QUERY fills PROM_OBJ_STATUS and PROM_OBJ_INFO for an object. -/
  | promQuery (src : Src) (obj : BitVec 16)
  /-- PROM_FETCH (R340). PROM_CMD OP FETCH sends repairs for an object's missing chunks to its source and spines, or ends with UNKNOWN or BAD_CFG. -/
  | promFetch (src : Src) (obj : BitVec 16)
  /-- PROM_FETCH_REPEAT (R340). Every 1 ms during a fetch, repairs are sent again for the chunks still missing. -/
  | promFetchRepeat
  /-- PROM_FETCH_DONE (R340). A fetch ends OK when every chunk is held, or INCOMPLETE after FETCH_MS. -/
  | promFetchDone
  /-- PROM_DROP (R341). PROM_CMD OP DROP frees one object's chunks and its record. -/
  | promDrop (src : Src) (obj : BitVec 16)
  /-- PROM_DROP_ALL (R341). PROM_CMD OP DROP_ALL frees the whole promenade cache. -/
  | promDropAll (src : Src)
  /-- GW_MODE_WRITE (R344). A write of GW_MODE changes the gateway mode when permitted, or is refused. -/
  | gwModeWrite (src : Src) (val : BitVec 32)
  /-- MEM_LOAD (R348). A MEM_LOAD reaches the gateway engine and is answered NOT_ROUTABLE or BAD_REQ, or is converted to a READ_REQ. -/
  | memLoad (pos : Nat)
  /-- MEM_STORE (R349). A MEM_STORE reaches the gateway engine and is answered NOT_ROUTABLE or BAD_REQ, or is placed in a coalescing buffer. -/
  | memStore (pos : Nat)
  /-- GW_COALESCE_EXPIRY (R349). COAL_NS after a coalescing buffer opened, it is flushed as one WRITE. -/
  | gwCoalesceExpiry (k : Fin 8) (buf : Nat)
  /-- GW_REQUEST_COMPLETE (R351). A gateway WRITE or READ_REQ completes, and MEM_RESPs are sent for the accesses it carried in arrival order. -/
  | gwRequestComplete (k : Fin 8) (psn : BitVec 24)
  /-- GW_NACK (R352). A NACK to a gateway request causes a resend with the same PSN, up to RETRIES times. -/
  | gwNack (k : Fin 8) (psn : BitVec 24)
  /-- GW_TIMEOUT (R352). A gateway request not complete within TIMEOUT_US is abandoned, and its accesses are answered with STATUS POISON. -/
  | gwTimeout (k : Fin 8) (psn : BitVec 24)
  /-- SCORE_RECOVER (R357). Every RECOVER_MS, each health score below 255 that may recover rises by 1. -/
  | scoreRecover
  /-- VOTE_ROUND (R360). Every VOTE_US the part sends HEALTH votes for every GID it votes about to every valid FEN_SPINE. -/
  | voteRound
  /-- HEALTH_RECEIVED (R361). A consumed HEALTH packet is checked whole and taken as spine votes or rack reports, or is dropped as FEN_HEALTH_BAD. -/
  | healthReceived (pos : Nat)
  /-- VOTE_EXPIRY (R361). A spine's vote for a GID ceases to be current 2·VOTE_US after its arrival. -/
  | voteExpiry (spine : Fin 64) (gid : BitVec 18)
  /-- RACK_REPORT_EXPIRY (R358). A rack report older than RACK_AGE_MS no longer counts toward the GID's rack score. -/
  | rackReportExpiry (port : Fin 512) (gid : BitVec 18)
  /-- FENCE_WINDOW_EXPIRY (R370). A sit-out leaves the 100 ms window, and WINDOW_COUNT falls. -/
  | fenceWindowExpiry
  /-- FENCE_RECEIVED (R366). A FENCE packet from a valid spine makes its GID a candidate, or changes nothing, or is dropped as FEN_HEALTH_BAD. -/
  | fenceReceived (pos : Nat)
  /-- FENCE_REQ_RECEIVED (R367). A FENCE_REQ fences its sender on SELF_FAULT, lowers the score of the GID named on PEER_FAULT, or is answered BAD_REQ. -/
  | fenceReqReceived (pos : Nat)
  /-- FEN_QUERY (R373). FEN_GID_CMD OP QUERY fills FEN_GID_STATUS for a GID. -/
  | fenQuery (src : Src) (gid : BitVec 18)
  /-- FEN_FENCE (R364). FEN_GID_CMD OP FENCE puts a GID into sit-out with no vote, budget or hold. -/
  | fenFence (src : Src) (gid : BitVec 18)
  /-- FEN_READMIT (R373). FEN_GID_CMD OP READMIT ends a GID's sit-out, resets its scores and votes, starts its hold, and sends FENCE READMITTED. -/
  | fenReadmit (src : Src) (gid : BitVec 18)
  /-- FEN_SUSPECT_READ (R372). FEN_GID_CMD OP SUSPECT_READ fills FEN_GID_STATUS for a suspect by its number. -/
  | fenSuspectRead (src : Src) (num : BitVec 8)
  /-- FEN_SUSPECT_DROP (R372). FEN_GID_CMD OP SUSPECT_DROP releases a GID from the suspects. -/
  | fenSuspectDrop (src : Src) (gid : BitVec 18)
  /-- STORM_CLEAR (R372). A write of FEN_CTRL.STORM_CLEAR ends the storm and tests each suspect again for sit-out or release. -/
  | stormClear (src : Src)
  /-- READMIT_HOLD_EXPIRY (R373). A GID's re-admission hold ends, and it is tested again against the quorum. -/
  | readmitHoldExpiry (gid : BitVec 18)
  /-- FEN_PORT_CLEAR (R359). A write of FEN_PORTn.CLEAR clears LINK_FENCE and sets the port's score to 255. -/
  | fenPortClear (src : Src) (n : Fin 512)
  /-- POWER_GOOD_LOSS (R378). RESET_N or PWR_GOOD goes low, or a rail leaves regulation, and the part enters OFF, losing the state of R376. -/
  | powerGoodLoss (pin : PowerPin)
  /-- RESET_N_RELEASE (R380). RESET_N is released with PWR_GOOD high, and the part enters BOOT and runs the start-up sequence of Table 15.2. -/
  | resetNRelease (found : BootFindings)
  /-- JOIN_EXIT (R391). Once the part has a GID and every enabled port has reached UP or ended an attempt, or 1 s has passed, the part leaves JOIN for RUN or DEGRADED. -/
  | joinExit (waited : Bool)
  /-- REBOOT (R379). A write of CFG_CTRL.REBOOT with KEY 0x5AFE commits the fault log and restarts the part as RESET_N would, keeping the PCI Express links. -/
  | reboot (src : Src) (val : BitVec 32) (found : BootFindings)
  /-- CFG_GID_WRITE (R392). A write of CFG_GID assigns the part's GID once and its LOCAL DT entry, or is refused. -/
  | cfgGidWrite (src : Src) (val : BitVec 32)
  /-- FLASH_READ (R384). CFG_FLASH_CMD OP READ reads flash bytes into CFG_FLASH_DATA. -/
  | flashRead (src : Src) (count : BitVec 8)
  /-- FLASH_PROGRAM (R384). CFG_FLASH_CMD OP PROGRAM writes a page of flash, or ends with PROTECTED or ALIGN. -/
  | flashProgram (src : Src) (count : BitVec 8)
  /-- FLASH_ERASE (R384). CFG_FLASH_CMD OP ERASE erases a 64 KiB sector, or ends with PROTECTED. -/
  | flashErase (src : Src)
  /-- FLASH_COMMAND_COMPLETE (R384). A flash command ends, and its RESULT becomes valid. -/
  | flashCommandComplete (devErr : Bool)
  /-- SELFTEST_START (R396). A write of CFG_SELFTEST.START begins a deferred or full self-test, or is refused. -/
  | selftestStart (src : Src) (val : BitVec 32)
  /-- SELFTEST_COMPLETE (R397). A self-test ends, and records its failures and errors; a full test then restarts the part. -/
  | selftestComplete (failed : BitVec 6) (errors : BitVec 16) (units : List (BlockKind × Fin 64)) (found : BootFindings)
  /-- OWNER_BIND (R399). A write of SEC_OWNER.BIND writes the owner anchor once while unbound and in SAFE, or is refused. -/
  | ownerBind (src : Src)
  /-- DEBUG_SUBMIT (R402). A write of SEC_DBG_CTRL.SUBMIT checks a debug authorisation record, sets ENABLE, and draws a new nonce, or refuses it. -/
  | debugSubmit (src : Src)
  /-- GET_VERSION (R400). An SPDM GET_VERSION request over DOE is answered with version 1.2. -/
  | getVersion (fn : Fin 2)
  /-- GET_CAPABILITIES (R400). An SPDM GET_CAPABILITIES request is answered with CERT_CAP, CHAL_CAP, MEAS_CAP and MEAS_FRESH_CAP. -/
  | getCapabilities (fn : Fin 2)
  /-- NEGOTIATE_ALGORITHMS (R400). An SPDM NEGOTIATE_ALGORITHMS request selects SHA-384 and the ExtAsym brainpoolP384r1 entry, or ends with an error. -/
  | negotiateAlgorithms (fn : Fin 2) (sha384 : Bool) (extAsym : Bool)
  /-- GET_DIGESTS (R400). An SPDM GET_DIGESTS request returns the digest of the certificate chain in slot 0. -/
  | getDigests (fn : Fin 2)
  /-- GET_CERTIFICATE (R400). An SPDM GET_CERTIFICATE request returns the device certificate chain. -/
  | getCertificate (fn : Fin 2) (slot : BitVec 4) (off : BitVec 16) (len : BitVec 16)
  /-- CHALLENGE (R400). An SPDM CHALLENGE request is answered with a response signed by the device key. -/
  | challenge (fn : Fin 2) (slot : BitVec 4) (nonce : BitVec 256)
  /-- GET_MEASUREMENTS (R401). An SPDM GET_MEASUREMENTS request returns the measurement blocks of Table 15.10, signed. -/
  | getMeasurements (fn : Fin 2) (index : BitVec 8) (sign : Bool) (nonce : BitVec 256)
  /-- PERST_ASSERT (R379). A PERSTx_N assertion resets its PCI Express port only and ends a lease held through it. -/
  | perstAssert (fn : Fin 2)
  /-- ARBITER_INTERVAL (R404). Every 1 µs the power arbiter sets the switching floor, the chip and HBM grants, and the ramped compute grants. -/
  | arbiterInterval (switchW : BitVec 12) (hbmW : BitVec 8) (pkgW : BitVec 12) (req : List (BitVec 8))
  /-- THERMAL_TICK (R418). Every 1 ms the thermal limit moves by STEP according to the hottest sensor, and throttling is flagged. -/
  | thermalTick (readings : List (BitVec 8))
  /-- THERMTRIP (R419). A sensor reads 110 °C or more; THERMTRIP_N is asserted, which is a fatal chip error. -/
  | thermtrip (sensor : Fin 9)
  /-- IDLE_C2_TIMER (R413). A compute block that has been in C1 for C2_US enters C2. -/
  | idleC2Timer (c : Fin 64)
  /-- IDLE_C3_TIMER (R413). A region whose blocks have all been in C2 for C3_MS enters C3. -/
  | idleC3Timer (k : Fin 8)
  /-- IDLE_C4_TIMER (R413). A region that has been in C3 for C4_S enters C4. -/
  | idleC4Timer (k : Fin 8)
  /-- WAKE_COMPLETE (R415). A block or region finishes waking, zeroing its Scratch after C4, and the work that waited proceeds. -/
  | wakeComplete (u : WakeUnit)
  /-- HBM_SELF_REFRESH (R417). An HBM stack with no access for 10 µs and no spill space enters self-refresh. -/
  | hbmSelfRefresh (j : Fin 4)
  /-- TEL_SNAP (R426). A write of TEL_CTRL.SNAP starts a snapshot that latches every counter into its shadow. -/
  | telSnap (src : Src)
  /-- AUTO_SNAPSHOT (R426). Every AUTO_MS an automatic snapshot starts, or the running one serves for it. -/
  | autoSnapshot
  /-- SNAPSHOT_COMPLETE (R426). A snapshot's shadows, SEQ and TIME change together in one step. -/
  | snapshotComplete
  /-- TEL_CLEAR (R428). A write of TEL_CTRL.CLEAR sets every live counter of a group to 0 and clears its TEL_WRAP bits. -/
  | telClear (src : Src) (g : BitVec 5)
  /-- TELEMETRY_WINDOW_READ (R429). A READ_REQ to the telemetry window is answered from one snapshot, or with STATUS ERROR or NACK BAD_REQ. -/
  | telemetryWindowRead (pos : Nat)
  /-- SCRUB_READ (R433). The background scrub reads a codeword, corrects it, and counts SCRUB_PASS at the end of each full pass. -/
  | scrubRead (mem : Fin 6) (k : Fin 8) (found : ScrubFinding)
  /-- LOG_COMMIT (R438). A pending fault record is programmed to the flash log within COMMIT_MS, or at once for a FATAL record. -/
  | logCommit
  /-- LEASE_ACQUIRE (R443). CFG_LEASE_CTRL OP ACQUIRE makes the function owner when there is none, or renews its own lease, or ends HELD. -/
  | leaseAcquire (fn : Fin 2)
  /-- LEASE_RENEW (R443). CFG_LEASE_CTRL OP RENEW restarts the owner's term, or ends NOT_OWNER. -/
  | leaseRenew (fn : Fin 2)
  /-- LEASE_RELEASE (R443). CFG_LEASE_CTRL OP RELEASE ends the owner's lease, or ends NOT_OWNER. -/
  | leaseRelease (fn : Fin 2)
  /-- LEASE_TERM_EXPIRY (R444). The lease term runs out without RENEW, and the lease ends with the effects of R446. -/
  | leaseTermExpiry
  /-- PCIE_LINK_DOWN (R444). A PCI Express link goes to DL_Down, and a lease held through it ends. -/
  | pcieLinkDown (fn : Fin 2)
  /-- FUNCTION_LEVEL_RESET (R444). A Function Level Reset stops that function's DMA and interrupts and ends its lease. -/
  | functionLevelReset (fn : Fin 2)
  /-- BAR2_WRITE (R442). A BAR2 write reaches the engine address space, or is discarded with BAR2_BAD, waking a C4 region when needed. -/
  | bar2Write (fn : Fin 2) (off : BitVec 34) (data : List Byte)
  /-- BAR2_READ (R442). A BAR2 read returns engine memory, or all-ones data with BAR2_BAD, or poisoned data for an uncorrectable codeword. -/
  | bar2Read (fn : Fin 2) (off : BitVec 34) (len : BitVec 13) (ue : Bool)
  /-- RING_ENABLE (R447). A write that sets a ring's EN from 0 to 1 clears its indices and SEQ and captures BASE and SIZE_LOG2. -/
  | ringEnable (fn : Fin 2) (r : Fin 3) (val : BitVec 32)
  /-- RING_HOST_IDX_WRITE (R447). A write of HOST_IDX posts command entries or frees cells, after which an OVERFLOW entry may be posted. -/
  | ringHostIdxWrite (fn : Fin 2) (r : Fin 3) (val : BitVec 32)
  /-- CMD_REG_WRITE (R449). A command ring REG_WRITE entry applies up to seven register writes as by the owner. -/
  | cmdRegWrite (fn : Fin 2) (complete : Bool) (seq : BitVec 32) (writes : List RegW)
  /-- CMD_TABLE (R449). A command ring TABLE entry performs a table command with its TBL_DATA. -/
  | cmdTable (fn : Fin 2) (complete : Bool) (seq : BitVec 32) (cmd : BitVec 32) (data : BitVec 512)
  /-- CMD_SYNC (R449). A command ring SYNC entry completes when every earlier entry has taken effect. -/
  | cmdSync (fn : Fin 2) (complete : Bool) (seq : BitVec 32)
  /-- CMD_UNKNOWN (R449). A command ring entry of any other TYPE completes with RESULT 0xFF and has no effect. -/
  | cmdUnknown (fn : Fin 2) (complete : Bool) (seq : BitVec 32) (type : BitVec 16)
  /-- MSIX_HOLD_EXPIRY (R452). HOLD_US after an MSI-X vector was sent, the causes merged meanwhile are sent as one message. -/
  | msixHoldExpiry (fn : Fin 2) (vec : Fin 5)
  /-- ENTDAA (R453). The I3C ENTDAA CCC gives the target a dynamic address by its provisioned ID. -/
  | entdaa (da : BitVec 7)
  /-- RSTDAA (R453). The I3C RSTDAA CCC clears the target's dynamic address. -/
  | rstdaa
  /-- ENEC (R454). The I3C ENEC CCC enables IBIs. -/
  | enec (direct : Bool)
  /-- DISEC (R454). The I3C DISEC CCC disables IBIs. -/
  | disec (direct : Bool)
  /-- GETPID (R454). The direct I3C GETPID CCC returns the provisioned ID. -/
  | getpid
  /-- GETBCR (R454). The direct I3C GETBCR CCC returns BCR 0x06. -/
  | getbcr
  /-- GETDCR (R454). The direct I3C GETDCR CCC returns DCR 0x00. -/
  | getdcr
  /-- GETSTATUS (R454). The direct I3C GETSTATUS CCC returns the target's status. -/
  | getstatus
  /-- GETMWL (R454). The I3C GETMWL CCC returns the maximum write length. -/
  | getmwl
  /-- GETMRL (R454). The I3C GETMRL CCC returns the maximum read length. -/
  | getmrl
  /-- SETMWL (R454). The I3C SETMWL CCC lowers the maximum write length, no lower than 8 bytes. -/
  | setmwl (direct : Bool) (len : BitVec 16)
  /-- SETMRL (R454). The I3C SETMRL CCC lowers the maximum read length, no lower than 24 bytes. -/
  | setmrl (direct : Bool) (len : BitVec 16)
  /-- RSTACT (R454). The I3C RSTACT CCC accepts defining byte 0x00 or 0x01, resetting the I3C target alone, and refuses 0x02. -/
  | rstact (direct : Bool) (defByte : BitVec 8)
  /-- I3C_READ_REG (R455). The I3C private READ_REG command reads a permitted BAR0 register. -/
  | i3cReadReg (off : BitVec 32)
  /-- I3C_HEALTH (R455). The I3C private HEALTH command returns 20 bytes of state, faults, fencing, power and log sequence. -/
  | i3cHealth
  /-- I3C_SET_GID (R455). The I3C private SET_GID command assigns the part's GID under R392. -/
  | i3cSetGid (gid : BitVec 24)
  /-- I3C_REBOOT (R455). The I3C private REBOOT command with 0x5AFE acts as CFG_CTRL.REBOOT. -/
  | i3cReboot (key : BitVec 16) (found : BootFindings)
  /-- I3C_PRIVATE_READ (R455). An I3C private read returns the status byte and data of the last command. -/
  | i3cPrivateRead
  /-- JTAG_BYPASS (R458). The JTAG BYPASS instruction selects the one-bit bypass register. -/
  | jtagBypass
  /-- JTAG_IDCODE (R458). The JTAG IDCODE instruction selects the 32-bit identification code. -/
  | jtagIdcode
  /-- JTAG_SAMPLE_PRELOAD (R458). The JTAG SAMPLE/PRELOAD instruction samples and loads the boundary register. -/
  | jtagSamplePreload (pins : BitVec 38) (load : BitVec 38)
  /-- JTAG_EXTEST (R458). The JTAG EXTEST instruction drives the chained lands from the boundary register while the part runs on. -/
  | jtagExtest
  /-- JTAG_CLAMP (R458). The JTAG CLAMP instruction holds the chained lands from the boundary register with bypass selected. -/
  | jtagClamp
  /-- JTAG_HIGHZ (R458). The JTAG HIGHZ instruction places the chained outputs in high impedance. -/
  | jtagHighz
  /-- JTAG_INTERNAL (R458). A JTAG instruction 0x80–0xFE acts internally while ENABLE bit 1 is 1, and as BYPASS otherwise. -/
  | jtagInternal (instr : BitVec 8)
  /-- LANE_CODEWORD_UNCORRECTABLE (R356). A single uncorrectable FEC codeword on a lane of a port lowers the port's health score by W_CW and may set LINK_FENCE. -/
  | laneCodewordUncorrectable (lane : Fin 512)
  /-- SENSOR_FAIL (R418). A temperature sensor fails, reads from then on as THROTTLE + 10 °C, and sets SENSOR_FAIL. -/
  | sensorFail (sensor : Fin 9)
  /-- POWER_MANAGEMENT_STATE (R441). A host moves a function between D0 and D3hot, which stops or restarts only that function's DMA and interrupts while the lease runs on. -/
  | powerManagementState (fn : Fin 2) (d3hot : Bool)
  /-- I3C_BAD_CMD (R455). An I3C private write with a command byte not listed in Table 18.7 is answered on the next private read with status BAD_CMD. -/
  | i3cBadCmd (cmd : BitVec 8)
  /-- I3C_UNSUPPORTED_CCC (R454). A direct CCC not listed in Table 18.6 is NACKed by the target. -/
  | i3cUnsupportedCcc (ccc : BitVec 8)
  /-- PROM_REPAIR_COMPLETE (R339). A repair in service has sent its last held chunk and any NACK NOT_CACHED, and frees its place among the 256 repairs served at once. -/
  | promRepairComplete
  deriving DecidableEq, Repr

end Sys2Proof
end

