-- ==== Sys2Proof/Decode.lean ====
section
/-! DEFINITION. Table words: no row of the table of operations and events gives bits, so no word spells a command. -/

namespace Sys2Proof

/-- The command that a table word of `nbits` bits spells: none, for no row gives bits. -/
def decodeTableWord (_nbits _w : Nat) : Option Instr := none

end Sys2Proof
end

