-- ==== Sys2Proof/Config.lean ====
section
/-! DEFINITION. What an implementation fixes, and the free values: opaque constants, so that no proof can see them. -/

namespace Sys2Proof.Config

/-- The device serial of the identity store (R398). Free: the part's own (log entry 2). -/
opaque deviceId : BitVec 64
/-- The I3C provisioned ID of the identity store (R398). Free: the part's own (log entry 2). -/
opaque i3cPid : BitVec 48
/-- Erovoal's JEP106 code in IDCODE (R458). Free: the specification gives no number (log entry 2). -/
opaque jep106 : BitVec 11
/-- Erovoal's PCI-SIG vendor ID (R441). Free: the specification gives no number (log entry 2). -/
opaque vendorId : BitVec 16
/-- A fresh free value: what a random source, an analogue measurement or an unstated result gives. The first argument says
what it stands for, the second is the count of free values drawn so far (log entry 4). -/
opaque freeNat : Nat → Nat → Nat
/-- SHA-384 of a byte string, 48 bytes as a number (R388). The algorithm is a standard outside the specification (log entry 5). -/
opaque sha384 : List Byte → BitVec 384
/-- ECDSA on brainpoolP384r1 with SHA-384: the public key (97 bytes), the digest, the signature (96 bytes) (R388; log entry 5). -/
opaque ecdsaVerify : List Byte → BitVec 384 → List Byte → Bool
/-- The signature of the device key over a message (R400, R401; log entry 5). -/
opaque deviceSign : List Byte → List Byte
/-- The SHA-384 of Erovoal's firmware public key that the ROM holds (R387). -/
opaque romFwKeyDigest : BitVec 384
/-- Measurement 1, the ROM's digest (R401). -/
opaque romDigest : BitVec 384
/-- The device certificate chain of the identity store (R398). -/
opaque certChain : List Byte

/-- The base address of the escape area of an operand read with ESC 1, by the operand's address: the specification names no
stream for such an operand (R253, R254; log entry 4). -/
opaque escArea : Nat → Nat
/-- The sine that the lock-in of a ring multiplies its samples by, at n/4000 of a turn, in units of 2^-16: the specification gives no
number format (R211; log entry 22). -/
opaque sine : Nat → Int
/-- The fixed pairwise order in which an engine sums a row, by the row's length: the places of the two terms of each addition, which
the specification does not give (R270; log entry 4). -/
opaque pairing : Nat → Nat → Nat
/-- An FP32 result that the specification bounds or leaves unstated, as a function of what is computed and of its operands'
FP32 encodings (R270, R271; log entry 4). The first argument says which function. -/
opaque f32Fn : Nat → List Nat → BitVec 32

end Sys2Proof.Config
end

