-- ==== Sys2Proof/Machine/Maps.lean ====
section
/-! DEFINITION. Sparse maps in one canonical form: the register file, counters, tables and memories are held so. -/

namespace Sys2Proof.Machine

/-- A sparse map: (key, value) pairs, keys strictly rising, absent keys having no entry. -/
abbrev KMap (α : Type) := List (Nat × α)

/-- The value at a key, if there is one. -/
def kget {α : Type} : KMap α → Nat → Option α
  | [], _ => none
  | (a, v) :: m, k => if a = k then some v else kget m k

/-- Put a value at a key. -/
def kput {α : Type} : KMap α → Nat → α → KMap α
  | [], k, v => [(k, v)]
  | (a, x) :: m, k, v => if k < a then (k, v) :: (a, x) :: m else if a = k then (k, v) :: m else (a, x) :: kput m k v

/-- Remove a key. -/
def kdel {α : Type} : KMap α → Nat → KMap α
  | [], _ => []
  | (a, x) :: m, k => if a = k then kdel m k else (a, x) :: kdel m k

/-- Put or remove. -/
def kset {α : Type} (m : KMap α) (k : Nat) : Option α → KMap α
  | some v => kput m k v
  | none => kdel m k

/-- Keys strictly rising, each above the bound where one is given. -/
def kwf {α : Type} : Option Nat → KMap α → Bool
  | _, [] => true
  | none, (a, _) :: m => kwf (some a) m
  | some b, (a, _) :: m => decide (b < a) && kwf (some a) m

/-- A map of numbers with a default: an entry equal to the default is not listed. -/
abbrev SMap := KMap Nat

/-- The number at a key, or the default. -/
def sget (d : Nat) (m : SMap) (k : Nat) : Nat := (kget m k).getD d

/-- Write a number; writing the default removes the entry. -/
def sset (d : Nat) (m : SMap) (k v : Nat) : SMap := if v = d then kdel m k else kput m k v

/-- The canonical form of a map with defaults: keys rising and no entry equal to its default. -/
def swf (d : Nat → Nat) (m : SMap) : Bool := kwf none m && m.all (fun e => e.2 != d e.1)

/-- Read `n` bytes of a byte memory whose unlisted bytes read as `d`, lowest address first. -/
def bytesAt (d : Nat) (m : SMap) (a : Nat) : Nat → List Byte
  | 0 => []
  | n + 1 => BitVec.ofNat 8 (sget d m a) :: bytesAt d m (a + 1) n

/-- Write a list of bytes to a byte memory from address `a` up. -/
def putBytes (d : Nat) (m : SMap) (a : Nat) : List Byte → SMap
  | [] => m
  | b :: bs => putBytes d (sset d m a b.toNat) (a + 1) bs

/-- The integer square root, from its bit `k - 1` down: `r` holds the bits found so far. -/
def isqrtFrom (n : Nat) : Nat → Nat → Nat
  | 0, r => r
  | k + 1, r => if (r + 2 ^ k) * (r + 2 ^ k) ≤ n then isqrtFrom n k (r + 2 ^ k) else isqrtFrom n k r

/-- The two numbers that a pair key holds: the inverse of `Nat.pair`, in a form that evaluates. -/
def unpair (n : Nat) : Nat × Nat :=
  let r := isqrtFrom n (Nat.log2 n / 2 + 1) 0
  if n - r * r < r then (n - r * r, r) else (r, n - r * r - r)

end Sys2Proof.Machine
end

