-- ==== Sys2Proof/Machine/Packets.lean ====
section
/-! DEFINITION. Bytes and numbers, the check codes, and the Porxel packet on the wire (chapter 2). -/

namespace Sys2Proof.Machine

/-- `n` bytes of a number, least significant first (R5). -/
def leBytes : Nat → Nat → List Byte
  | 0, _ => []
  | n + 1, v => BitVec.ofNat 8 v :: leBytes n (v / 256)

/-- `n` bytes of a number, most significant first (R4). -/
def beBytes (n v : Nat) : List Byte := (leBytes n v).reverse

/-- The number a little-endian byte string holds. -/
def leNat : List Byte → Nat
  | [] => 0
  | b :: bs => b.toNat + 256 * leNat bs

/-- The number a big-endian byte string holds. -/
def beNat (bs : List Byte) : Nat := leNat bs.reverse

/-- Bits `lo + w − 1` to `lo` of a number. -/
def bits (v lo w : Nat) : Nat := v / 2 ^ lo % 2 ^ w

/-- Bit `i` of a number. -/
def bitAt (v i : Nat) : Bool := Nat.testBit v i

/-- A number with one bit set. -/
def setBit (v i : Nat) : Nat := v ||| 2 ^ i

/-- A number with the bits of a mask cleared. -/
def clearMask (v m : Nat) : Nat := v - (v &&& m)

/-- The number of 1 bits among the lowest `n`. -/
def popcount (v : Nat) : Nat → Nat
  | 0 => 0
  | n + 1 => popcount v n + (if Nat.testBit v n then 1 else 0)

/-- A Bool as a bit. -/
def b2n (b : Bool) : Nat := if b then 1 else 0

/-- Bytes `a` to `a + n − 1` of a list, zeros where it is shorter. -/
def slice (bs : List Byte) (a n : Nat) : List Byte :=
  let t := (bs.drop a).take n
  t ++ List.replicate (n - t.length) 0

/-- Eight steps of a non-reflected CRC-16 with polynomial 0x1021. -/
def crc16Step : Nat → Nat → Nat
  | 0, c => c
  | n + 1, c => crc16Step n (if c < 0x8000 then 2 * c else (2 * c - 0x10000) ^^^ 0x1021)

/-- HCRC's code over a byte string (R57). -/
def crc16 (bs : List Byte) : Nat := bs.foldl (fun c b => crc16Step 8 (c ^^^ (b.toNat * 256))) 0xFFFF

/-- Eight steps of a reflected CRC-32C (polynomial 0x1EDC_6F41 reflected). -/
def crc32Step : Nat → Nat → Nat
  | 0, c => c
  | n + 1, c => crc32Step n (if c % 2 = 0 then c / 2 else (c / 2) ^^^ 0x82F63B78)

/-- CRC-32C over a byte string (R58). -/
def crc32c (bs : List Byte) : Nat :=
  (bs.foldl (fun c b => crc32Step 8 (c ^^^ b.toNat)) 0xFFFFFFFF) ^^^ 0xFFFFFFFF

end Sys2Proof.Machine

namespace Sys2Proof
open Machine

/-- Word 0 of a header (Table 2.1). -/
def Packet.word0 (p : Packet) : BitVec 64 :=
  p.ver ++ p.kind ++ p.tc ++ p.cm ++ BitVec.ofBool p.spray ++ BitVec.ofBool p.last ++ BitVec.ofBool p.echo ++ p.hops ++
    p.dgid ++ p.sgid

/-- Word 1 of a header (Table 2.1). -/
def Packet.word1 (p : Packet) : BitVec 64 := p.psn ++ p.msgid ++ p.len ++ p.w1k

/-- Header bytes 0 to 29, without HCRC. -/
def Packet.head30 (p : Packet) : List Byte :=
  beBytes 8 p.word0.toNat ++ beBytes 8 p.word1.toNat ++ beBytes 8 p.w2.toNat ++ beBytes 2 p.key.toNat ++ beBytes 4 p.ctx.toNat

/-- HCRC as R57 computes it. -/
def Packet.hcrcOf (p : Packet) : BitVec 16 := BitVec.ofNat 16 (crc16 p.head30)

/-- ECRC as R58 computes it: HOPS and CM zero, and Word 2 zero for KIND TIME. -/
def Packet.ecrcOf (p : Packet) : BitVec 32 :=
  let q := { p with hops := 0, cm := 0, w2 := if p.kind = 0x34 then 0 else p.w2 }
  BitVec.ofNat 32 (crc32c (q.head30 ++ p.payload))

/-- A packet with both check fields as they should be. -/
def Packet.sealed (p : Packet) : Packet := { p with hcrc := p.hcrcOf, ecrc := p.ecrcOf }

/-- The whole packet on the wire (R42). -/
def Packet.bytes (p : Packet) : List Byte :=
  p.head30 ++ beBytes 2 p.hcrc.toNat ++ p.payload ++ beBytes 4 p.ecrc.toNat

/-- Header, payload and trailer together, in bytes. -/
def Packet.size (p : Packet) : Nat := 36 + p.payload.length

/-- The size of a body in bytes as R425 counts it: a frame with its FCS. -/
def Body.size : Body → Nat
  | .porxel p => p.size
  | .frame bs => bs.length + 4

/-- The start word of a packet on a native port: SYNC, CHAN and PLEN (R78, Table 3.2). -/
def startWord (express : Bool) (plen : Nat) : BitVec 64 := BitVec.ofNat 64 (0xA5 * 2 ^ 56 + (if express then 2 else 1) * 2 ^ 54 + plen * 2 ^ 40)

/-- A start word that frames a packet: SYNC, a CHAN that is not reserved, and a PLEN in its range (R78). -/
def framed (w : BitVec 64) : Bool :=
  bits w.toNat 56 8 == 0xA5 && (bits w.toNat 54 2 == 1 || bits w.toNat 54 2 == 2) &&
    decide (36 ≤ bits w.toNat 40 14) && decide (bits w.toNat 40 14 ≤ 4132)

/-- The start word is of the channel that carries a packet's class: EXP for TC7, ORD for every other (R78). -/
def chanFits (w : BitVec 64) (p : Packet) : Bool := bits w.toNat 54 2 == (if p.tc = 7 then 2 else 1)

/-- The bytes of a body that a punt record counts and carries. -/
def Body.wire : Body → List Byte
  | .porxel p => p.bytes
  | .frame bs => bs

/-- A packet with its payload and LEN. -/
def Packet.withPayload (p : Packet) (bs : List Byte) : Packet := { p with payload := bs, len := BitVec.ofNat 13 bs.length }

/-- The STATUS field of a response (Table 2.3). -/
def Packet.status (p : Packet) : Nat := bits p.w1k.toNat 8 3

end Sys2Proof

namespace Sys2Proof.Machine

/-- The kinds of Table 2.3. -/
def kindListed (k : BitVec 6) : Bool :=
  k ∈ [0x01, 0x02, 0x03, 0x04, 0x05, 0x06, 0x08, 0x09, 0x0A, 0x0B, 0x0C, 0x10, 0x11, 0x12, 0x18, 0x19, 0x1A, 0x20, 0x21,
    0x30, 0x31, 0x32, 0x33, 0x34, 0x3E, 0x3F]

/-- A unicast identifier (Table 2.2). -/
def isUnicast (g : BitVec 20) : Bool := g.toNat < 0x40000

/-- A multicast group identifier (Table 2.2). -/
def isMulticast (g : BitVec 20) : Bool := 0x40000 ≤ g.toNat && g.toNat < 0x44000

/-- The link-local identifier (Table 2.2). -/
def isLinkLocal (g : BitVec 20) : Bool := g.toNat = 0xFFFFF

/-- A list entry by number, with a default. -/
def nthD {α : Type} (l : List α) (i : Nat) (d : α) : α := (l[i]?).getD d

end Sys2Proof.Machine
end

