-- ==== Sys2Proof/Machine/Counters.lean ====
section
/-! DEFINITION. The event counters of Table 17.1, in the order of j within each group. -/

namespace Sys2Proof.Machine

/-- Event counters of group 2, per port (Table 17.1), in order of j. -/
inductive PortEv where
  | rxFrameErr | hcrcErr | verErr | kindErr | hdrFieldErr | tc7Oversize | hopsExpired | lenErr | ecrcErr | stomped | frameOversize | pauseRx | encapOversize | unexpectedKind | drainDrop | noGidDrop | fenceDropSrc | fenceDropDst | fenceDropEgr | expressDrop | tc7Late | underrun | mcPortDown | tcCorrected | tcOvf | tcStepDrop | linkAbort
  deriving DecidableEq, Repr

/-- Event counters of group 3, per port and class (Table 17.1), in order of j. -/
inductive ClassEv where
  | policeDrop | cmMarked | tc6KindDrop
  deriving DecidableEq, Repr

/-- Event counters of group 4, per region and class (Table 17.1), in order of j. -/
inductive CoreEv where
  | voqDrop | spillDrop | ageDrop | reseqLate | reseqSkip | tc7CoreLate | wallflowerAged | wallflowerFull | mcFencedDrop | tc7McastDrop | mcgEmpty
  deriving DecidableEq, Repr

/-- Event counters of group 5 (Table 17.1), in order of j. -/
inductive TabEv where
  | dtMiss | dtDrop | lgInvalid | lgEmpty | tableEcc | learnMove | learnFrozen | learnFrozenHit | learnOverflow | learnDiscard | puntDrop | lpmDrop | lpmScrubFix | unmatchedResp
  deriving DecidableEq, Repr

/-- Event counters of group 6, per lane (Table 17.1), in order of j. -/
inductive OptEv where
  | wrongLine | calDone | calFail | retune | fadeDrain | spareSwap | oclCrcErr
  deriving DecidableEq, Repr

/-- Event counters of group 7, per stream (Table 17.1), in order of j. -/
inductive CvtEv where
  | satCnt | escCnt | escFullCnt | qsampleCnt | qskipCnt
  deriving DecidableEq, Repr

/-- Event counters of group 9, per service (Table 17.1), in order of j. -/
inductive SvcEv where
  | svcBusyTx | svcDupPkt | svcRefusedPkt | svcCtxWait | replyExtra | steerFwd | steerFenced | steerLoop | claimMove | claimFrozen | gateLate | gateStray | gatePartial
  deriving DecidableEq, Repr

/-- Event counters of group 10, per line block (Table 17.1), in order of j. -/
inductive RedEv where
  | redNoGroup | redBad | redNoRoom | redDup | redLate | redRepeat | redTimeout | redPartial | redFenced | redSat | redNan
  deriving DecidableEq, Repr

/-- Event counters of group 11, per region (Table 17.1), in order of j. -/
inductive CmnEv where
  | cmnReplayFull | cmnRetryPending | cmnStale | cmnReplayHit | cmnPoison
  deriving DecidableEq, Repr

/-- Event counters of group 12 (Table 17.1), in order of j. -/
inductive PromEv where
  | promBad | promDup | promNotCached | promRepairDrop
  deriving DecidableEq, Repr

/-- Event counters of group 13, per region (Table 17.1), in order of j. -/
inductive GwEv where
  | gwNotRoutable | gwLoad | gwStore | gwWrite | gwResend | gwPoison
  deriving DecidableEq, Repr

/-- Event counters of group 14 (Table 17.1), in order of j. -/
inductive ChipEv where
  | fenTableFull | fenHealthBad | fenSuspectLost | swOver | throttleMs | syncOutside | syncExtra | logDrop
  deriving DecidableEq, Repr

/-- Event counters of group 15, per region and memory (Table 17.1), in order of j. -/
inductive MemEv where
  | ce | ue | retired | scrubPass
  deriving DecidableEq, Repr

end Sys2Proof.Machine
end

