-- ==== Sys2Proof/Machine/Fields.lean ====
section
/-! DEFINITION. The register fields of the part, one constructor each, with their widths and reset values (the register
descriptions of every chapter; R7). -/

namespace Sys2Proof.Machine

/-- A register field. The constructor of field F of register R is named R_F. -/
inductive Fld where
  /-- CFG_SYNC.SYNC -/
  | cfgSync_sync
  /-- CFG_FAULT_SUMMARY.CHIP_FATAL -/
  | cfgFaultSummary_chipFatal
  /-- CFG_FAULT_SUMMARY.CTL_ONE_FAILED -/
  | cfgFaultSummary_ctlOneFailed
  /-- CFG_FAULT_SUMMARY.HBM_FAILED -/
  | cfgFaultSummary_hbmFailed
  /-- CFG_FAULT_SUMMARY.DEGRADED -/
  | cfgFaultSummary_degraded
  /-- CFG_FAULT_SUMMARY.REGION_EVENT -/
  | cfgFaultSummary_regionEvent
  /-- CFG_FAULT_SUMMARY.REGION_FAILED -/
  | cfgFaultSummary_regionFailed
  /-- CFG_REGION_STATUS.REGION_FAILED -/
  | cfgRegionStatus_regionFailed
  /-- CFG_REGION_STATUS.NET_FAIL -/
  | cfgRegionStatus_netFail
  /-- CFG_REGION_STATUS.CHIPLET_FAIL -/
  | cfgRegionStatus_chipletFail
  /-- CFG_REGION_STATUS.SV_FAIL -/
  | cfgRegionStatus_svFail
  /-- CFG_REGION_STATUS.CB_FAIL -/
  | cfgRegionStatus_cbFail
  /-- CFG_REGION_STATUS.LB_FAIL -/
  | cfgRegionStatus_lbFail
  /-- CORE_PKT_CTRL.PUNT_EXPIRED -/
  | corePktCtrl_puntExpired
  /-- CORE_PKT_CTRL.HOPS_INIT -/
  | corePktCtrl_hopsInit
  /-- CORE_ETH_PCP_MAP.UNTAGGED_TC -/
  | coreEthPcpMap_untaggedTc
  /-- CORE_ETH_PCP_MAP.PCP_TC -/
  | coreEthPcpMap_pcpTc
  /-- CORE_LANE_TEST.START -/
  | coreLaneTest_start
  /-- CORE_LANE_TEST.ALL -/
  | coreLaneTest_all
  /-- CORE_LANE_TEST.EXTERNAL -/
  | coreLaneTest_external
  /-- CORE_LANE_TEST.ACCEPT -/
  | coreLaneTest_accept
  /-- CORE_LANE_TEST.LANE -/
  | coreLaneTest_lane
  /-- CORE_LANE_STATUS.SIG_DET -/
  | coreLaneStatus_sigDet
  /-- CORE_LANE_STATUS.CDR_LOCK -/
  | coreLaneStatus_cdrLock
  /-- CORE_LANE_STATUS.FEC_LOCK -/
  | coreLaneStatus_fecLock
  /-- CORE_LANE_STATUS.RX_POL_INV -/
  | coreLaneStatus_rxPolInv
  /-- CORE_LANE_STATUS.TEST_RESULT -/
  | coreLaneStatus_testResult
  /-- CORE_LANE_STATUS.UNDER_TEST -/
  | coreLaneStatus_underTest
  /-- CORE_LANE_STATUS.FAILED -/
  | coreLaneStatus_failed
  /-- CORE_LANE_STATUS.SER -/
  | coreLaneStatus_ser
  /-- CORE_PORT_CFG.EN -/
  | corePortCfg_en
  /-- CORE_PORT_CFG.WIDTH -/
  | corePortCfg_width
  /-- CORE_PORT_CFG.MODE -/
  | corePortCfg_mode
  /-- CORE_PORT_CFG.DEGRADE_OK -/
  | corePortCfg_degradeOk
  /-- CORE_PORT_CFG.BYPASS -/
  | corePortCfg_bypass
  /-- CORE_PORT_CFG.TRAIN_RETRIES -/
  | corePortCfg_trainRetries
  /-- CORE_PORT_CFG.DRAIN -/
  | corePortCfg_drain
  /-- CORE_PORT_STATUS.STATE -/
  | corePortStatus_state
  /-- CORE_PORT_STATUS.WIDTH_NOW -/
  | corePortStatus_widthNow
  /-- CORE_PORT_STATUS.WRONG_PEER -/
  | corePortStatus_wrongPeer
  /-- CORE_PORT_STATUS.DRAINED -/
  | corePortStatus_drained
  /-- CORE_PORT_STATUS.CFG_REFUSED -/
  | corePortStatus_cfgRefused
  /-- CORE_PORT_STATUS.STATE_EVENT -/
  | corePortStatus_stateEvent
  /-- CORE_PORT_STATUS.FAIL_REASON -/
  | corePortStatus_failReason
  /-- CORE_PORT_STATUS.LANES_UP -/
  | corePortStatus_lanesUp
  /-- CORE_PORT_STATUS.ATTEMPTS -/
  | corePortStatus_attempts
  /-- CORE_NBR_EXPECT.VALID -/
  | coreNbrExpect_valid
  /-- CORE_NBR_EXPECT.PEER_GID -/
  | coreNbrExpect_peerGid
  /-- CORE_NBR_EXPECT.PEER_PORT -/
  | coreNbrExpect_peerPort
  /-- CORE_NBR.VALID -/
  | coreNbr_valid
  /-- CORE_NBR.DRAINING -/
  | coreNbr_draining
  /-- CORE_NBR.NO_GID -/
  | coreNbr_noGid
  /-- CORE_NBR.PEER_TYPE -/
  | coreNbr_peerType
  /-- CORE_NBR.PEER_GID -/
  | coreNbr_peerGid
  /-- CORE_NBR.PEER_PORT -/
  | coreNbr_peerPort
  /-- CORE_NBR.AGE -/
  | coreNbr_age
  /-- CORE_HELLO_CFG.FABRIC_ID -/
  | coreHelloCfg_fabricId
  /-- CORE_HELLO_CFG.POD -/
  | coreHelloCfg_pod
  /-- CORE_HELLO_CFG.PLANE -/
  | coreHelloCfg_plane
  /-- OPT_MOD_ACC.START -/
  | optModAcc_start
  /-- OPT_MOD_ACC.WRITE -/
  | optModAcc_write
  /-- OPT_MOD_ACC.SLOT -/
  | optModAcc_slot
  /-- OPT_MOD_ACC.BANK -/
  | optModAcc_bank
  /-- OPT_MOD_ACC.PAGE -/
  | optModAcc_page
  /-- OPT_MOD_ACC.BYTE -/
  | optModAcc_byte
  /-- OPT_MOD_ACC.STATUS -/
  | optModAcc_status
  /-- OPT_MOD_ACC.DATA -/
  | optModAcc_data
  /-- OPT_MOD_STATUS.PRESENT -/
  | optModStatus_present
  /-- OPT_MOD_STATUS.S8 -/
  | optModStatus_s8
  /-- OPT_MOD_STATUS.TREFY -/
  | optModStatus_trefy
  /-- OPT_MOD_STATUS.READY -/
  | optModStatus_ready
  /-- OPT_MOD_STATUS.MOD_EVENT -/
  | optModStatus_modEvent
  /-- OPT_MOD_STATUS.CMIS_REV -/
  | optModStatus_cmisRev
  /-- OPT_MOD_STATUS.POWER_CLASS -/
  | optModStatus_powerClass
  /-- OPT_MOD_STATUS.DP_ACTIVE -/
  | optModStatus_dpActive
  /-- LG_HASH_SEED.SEED -/
  | lgHashSeed_seed
  /-- DT_LEARN_CFG.EN -/
  | dtLearnCfg_en
  /-- DT_LEARN_CFG.CREATE -/
  | dtLearnCfg_create
  /-- DT_LEARN_STATUS.FROZEN_EVENT -/
  | dtLearnStatus_frozenEvent
  /-- DT_LEARN_STATUS.LAST_FROZEN -/
  | dtLearnStatus_lastFrozen
  /-- DT_PORT_LEARN.LEARN -/
  | dtPortLearn_learn
  /-- DT_PORT_LEARN.GROUP -/
  | dtPortLearn_group
  /-- CORE_PUNT_CFG.RATE -/
  | corePuntCfg_rate
  /-- CORE_PUNT_CFG.BURST -/
  | corePuntCfg_burst
  /-- LPM_SCRUB_CFG.EN -/
  | lpmScrubCfg_en
  /-- LPM_SCRUB_CFG.PERIOD -/
  | lpmScrubCfg_period
  /-- LPM_ROUTER_MAC.MAC -/
  | lpmRouterMac_mac
  /-- TBL_CMD.START -/
  | tblCmd_start
  /-- TBL_CMD.OP -/
  | tblCmd_op
  /-- TBL_CMD.TABLE -/
  | tblCmd_table
  /-- TBL_CMD.ALL -/
  | tblCmd_all
  /-- TBL_CMD.INDEX -/
  | tblCmd_index
  /-- TBL_STATUS.RESULT -/
  | tblStatus_result
  /-- TBL_STATUS.RINDEX -/
  | tblStatus_rindex
  /-- TBL_DATA.DATA -/
  | tblData_data
  /-- CORE_ADM_CFG.RESERVE -/
  | coreAdmCfg_reserve
  /-- CORE_ADM_CFG.ALPHA -/
  | coreAdmCfg_alpha
  /-- CORE_ADM_CFG.SPILL_ON -/
  | coreAdmCfg_spillOn
  /-- CORE_AGE_LIMIT.LIMIT -/
  | coreAgeLimit_limit
  /-- CORE_MARK_CFG.EN -/
  | coreMarkCfg_en
  /-- CORE_MARK_CFG.HIGH -/
  | coreMarkCfg_high
  /-- CORE_MARK_CFG.LOW -/
  | coreMarkCfg_low
  /-- CORE_EGR_CFG.CUT -/
  | coreEgrCfg_cut
  /-- CORE_EGR_CFG.STOP -/
  | coreEgrCfg_stop
  /-- CORE_RESEQ_CFG.TIMEOUT -/
  | coreReseqCfg_timeout
  /-- CORE_RESEQ_CFG.CUT_HOLD -/
  | coreReseqCfg_cutHold
  /-- VOQ_SPILL_CFG.EN -/
  | voqSpillCfg_en
  /-- VOQ_SPILL_CFG.SIZE -/
  | voqSpillCfg_size
  /-- VOQ_SPILL_CFG.VOQ_MAX -/
  | voqSpillCfg_voqMax
  /-- CORE_POOL_STATUS.SPILL_USED -/
  | corePoolStatus_spillUsed
  /-- CORE_POOL_STATUS.FREE -/
  | corePoolStatus_free
  /-- SCH_PORT_CFG.GUARD -/
  | schPortCfg_guard
  /-- SCH_PORT_CFG.EXPRESS_DEPTH -/
  | schPortCfg_expressDepth
  /-- SCH_PORT_CFG.OVERHEAD -/
  | schPortCfg_overhead
  /-- SCH_PORT_STATUS.TC7_BACKLOG -/
  | schPortStatus_tc7Backlog
  /-- SCH_PORT_STATUS.TC7_PEAK -/
  | schPortStatus_tc7Peak
  /-- SCH_DRR_CFG.Q5 -/
  | schDrrCfg_q5
  /-- SCH_DRR_CFG.Q4 -/
  | schDrrCfg_q4
  /-- SCH_DRR_CFG.Q3 -/
  | schDrrCfg_q3
  /-- SCH_DRR_CFG.Q2 -/
  | schDrrCfg_q2
  /-- SCH_DRR_CFG.Q1 -/
  | schDrrCfg_q1
  /-- SCH_DRR_CFG.Q0 -/
  | schDrrCfg_q0
  /-- SCH_SHAPE.EN -/
  | schShape_en
  /-- SCH_SHAPE.RATE -/
  | schShape_rate
  /-- SCH_SHAPE.BURST -/
  | schShape_burst
  /-- SCH_IPOL.EN -/
  | schIpol_en
  /-- SCH_IPOL.RATE -/
  | schIpol_rate
  /-- SCH_IPOL.BURST -/
  | schIpol_burst
  /-- GATE_CYCLE_CFG.CYCLE_TIME -/
  | gateCycleCfg_cycleTime
  /-- GATE_CYCLE_CFG.STEP_LIMIT -/
  | gateCycleCfg_stepLimit
  /-- GATE_CYCLE_CFG.EN -/
  | gateCycleCfg_en
  /-- GATE_NEXT_CYCLE_START.START -/
  | gateNextCycleStart_start
  /-- GATE_CYCLE_CTRL.ARM -/
  | gateCycleCtrl_arm
  /-- GATE_CYCLE_CTRL.RUNNING -/
  | gateCycleCtrl_running
  /-- GATE_CYCLE_CTRL.START_LATE -/
  | gateCycleCtrl_startLate
  /-- GATE_SYNC_CFG.SYNC_IN_EN -/
  | gateSyncCfg_syncInEn
  /-- GATE_SYNC_CFG.SYNC_OUT_EN -/
  | gateSyncCfg_syncOutEn
  /-- GATE_SYNC_CFG.OUT_DIV -/
  | gateSyncCfg_outDiv
  /-- GATE_SYNC_STATUS.STEP_EVENT -/
  | gateSyncStatus_stepEvent
  /-- GATE_SYNC_STATUS.OUTSIDE_EVENT -/
  | gateSyncStatus_outsideEvent
  /-- GATE_SYNC_STATUS.LAST_OFFSET -/
  | gateSyncStatus_lastOffset
  /-- GATE_SYNC_EDGE.TE -/
  | gateSyncEdge_te
  /-- GATE_PORT_CTRL.EN -/
  | gatePortCtrl_en
  /-- GATE_PORT_CTRL.COMMIT -/
  | gatePortCtrl_commit
  /-- GATE_PORT_CTRL.ACTIVE -/
  | gatePortCtrl_active
  /-- GATE_PORT_CTRL.LEN1 -/
  | gatePortCtrl_len1
  /-- GATE_PORT_CTRL.LEN0 -/
  | gatePortCtrl_len0
  /-- GATE_PORT_STATUS.ACTIVE_WRITE -/
  | gatePortStatus_activeWrite
  /-- GATE_PORT_STATUS.CUR_STATE -/
  | gatePortStatus_curState
  /-- GATE_PORT_STATUS.CUR_ENTRY -/
  | gatePortStatus_curEntry
  /-- GATE_LIST.STATE -/
  | gateList_state
  /-- GATE_LIST.DURATION -/
  | gateList_duration
  /-- TIME_NS.COUNT -/
  | timeNs_count
  /-- TIME_RATE.RATE -/
  | timeRate_rate
  /-- TIME_STEP.STEP -/
  | timeStep_step
  /-- TIME_STATUS.WRAP -/
  | timeStatus_wrap
  /-- TIME_STATUS.UNWRAP -/
  | timeStatus_unwrap
  /-- TIME_STATUS.STEPPED -/
  | timeStatus_stepped
  /-- TIME_PORT_CFG.TC_EN -/
  | timePortCfg_tcEn
  /-- TIME_PORT_CFG.RX_ADJ -/
  | timePortCfg_rxAdj
  /-- TIME_PORT_CFG.TX_ADJ -/
  | timePortCfg_txAdj
  /-- OPT_CFG.CAL_EN -/
  | optCfg_calEn
  /-- OPT_CFG.CAL_PERIOD -/
  | optCfg_calPeriod
  /-- OPT_CFG.CAL_HOLD -/
  | optCfg_calHold
  /-- OPT_CFG.PEER_WAIT -/
  | optCfg_peerWait
  /-- OPT_CFG.WARN_DB -/
  | optCfg_warnDb
  /-- OPT_CFG.DRAIN_DB -/
  | optCfg_drainDb
  /-- OPT_CFG.ID_MARGIN -/
  | optCfg_idMargin
  /-- OPT_LOOP_CFG.KP -/
  | optLoopCfg_kp
  /-- OPT_LOOP_CFG.KI -/
  | optLoopCfg_ki
  /-- OPT_LOOP_CFG.LPF -/
  | optLoopCfg_lpf
  /-- OPT_LOOP_CFG.DITHER_AMP -/
  | optLoopCfg_ditherAmp
  /-- OPT_LOOP_CFG.LOCK_THR -/
  | optLoopCfg_lockThr
  /-- OPT_PLAN_TIME.ACT -/
  | optPlanTime_act
  /-- OPT_PLAN_CTRL.ARM -/
  | optPlanCtrl_arm
  /-- OPT_PLAN_CTRL.PLAN_LATE -/
  | optPlanCtrl_planLate
  /-- OPT_PLAN_CTRL.PLAN_CONFLICT -/
  | optPlanCtrl_planConflict
  /-- OPT_PLAN_CTRL.WRITE_IGNORED -/
  | optPlanCtrl_writeIgnored
  /-- OPT_PLAN_CTRL.CONFLICT_LANE -/
  | optPlanCtrl_conflictLane
  /-- OPT_PLAN_CTRL.DRAIN_LEAD -/
  | optPlanCtrl_drainLead
  /-- OPT_CAL_STATUS.ACTIVE -/
  | optCalStatus_active
  /-- OPT_CAL_STATUS.ROUND_EVENT -/
  | optCalStatus_roundEvent
  /-- OPT_CAL_STATUS.LANE -/
  | optCalStatus_lane
  /-- OPT_CAL_STATUS.ROUND_TIME -/
  | optCalStatus_roundTime
  /-- OPT_SLOT_CTRL.RECAPTURE -/
  | optSlotCtrl_recapture
  /-- OPT_SLOT_CTRL.REF_VALID -/
  | optSlotCtrl_refValid
  /-- OPT_SLOT_CTRL.SPARE_USED -/
  | optSlotCtrl_spareUsed
  /-- OPT_SLOT_CTRL.SPARE_CHAN -/
  | optSlotCtrl_spareChan
  /-- OPT_CHAN_CFG.TX_LINE -/
  | optChanCfg_txLine
  /-- OPT_CHAN_CFG.RX_LINE -/
  | optChanCfg_rxLine
  /-- OPT_CHAN_CFG.TX_DITHER -/
  | optChanCfg_txDither
  /-- OPT_CHAN_CFG.RX_DITHER -/
  | optChanCfg_rxDither
  /-- OPT_CHAN_STATUS.TX_LOCK -/
  | optChanStatus_txLock
  /-- OPT_CHAN_STATUS.RX_LOCK -/
  | optChanStatus_rxLock
  /-- OPT_CHAN_STATUS.WRONG_LINE -/
  | optChanStatus_wrongLine
  /-- OPT_CHAN_STATUS.RING_FAILED -/
  | optChanStatus_ringFailed
  /-- OPT_CHAN_STATUS.FADE_WARN -/
  | optChanStatus_fadeWarn
  /-- OPT_CHAN_STATUS.FADE_HOLD -/
  | optChanStatus_fadeHold
  /-- OPT_CHAN_STATUS.CFG_REFUSED -/
  | optChanStatus_cfgRefused
  /-- OPT_CHAN_STATUS.SPARE -/
  | optChanStatus_spare
  /-- OPT_CHAN_STATUS.CAL_AGE -/
  | optChanStatus_calAge
  /-- OPT_PLAN_NEXT.PENDING -/
  | optPlanNext_pending
  /-- OPT_PLAN_NEXT.PEER_VALID -/
  | optPlanNext_peerValid
  /-- OPT_PLAN_NEXT.NEXT_TX -/
  | optPlanNext_nextTx
  /-- OPT_PLAN_NEXT.NEXT_RX -/
  | optPlanNext_nextRx
  /-- OPT_PLAN_NEXT.NEXT_PEER_GID -/
  | optPlanNext_nextPeerGid
  /-- OPT_PLAN_NEXT.NEXT_PEER_PORT -/
  | optPlanNext_nextPeerPort
  /-- OPT_RING_STATUS.LOCK -/
  | optRingStatus_lock
  /-- OPT_RING_STATUS.SWEEP -/
  | optRingStatus_sweep
  /-- OPT_RING_STATUS.ID_LINE -/
  | optRingStatus_idLine
  /-- OPT_RING_STATUS.SWEEP_DUE -/
  | optRingStatus_sweepDue
  /-- OPT_RING_STATUS.HEATER -/
  | optRingStatus_heater
  /-- OPT_RING_STATUS.TABLE_CODE -/
  | optRingStatus_tableCode
  /-- OPT_RING_STATUS.ERR -/
  | optRingStatus_err
  /-- OPT_LINE_PWR.WARN -/
  | optLinePwr_warn
  /-- OPT_LINE_PWR.DRAIN -/
  | optLinePwr_drain
  /-- OPT_LINE_PWR.REF_VALID -/
  | optLinePwr_refValid
  /-- OPT_LINE_PWR.REL -/
  | optLinePwr_rel
  /-- OCL_STATUS.SYNC -/
  | oclStatus_sync
  /-- OCL_STATUS.OCL_EVENT -/
  | oclStatus_oclEvent
  /-- CVT_SCFG.OWNER_VALID -/
  | cvtScfg_ownerValid
  /-- CVT_SCFG.OWNER -/
  | cvtScfg_owner
  /-- CVT_SCFG.SCALE_MODE -/
  | cvtScfg_scaleMode
  /-- CVT_SCFG.ROUND -/
  | cvtScfg_round
  /-- CVT_SCFG.ESC_EN -/
  | cvtScfg_escEn
  /-- CVT_SCFG.SAMPLE_EN -/
  | cvtScfg_sampleEn
  /-- CVT_SCFG.SAMPLE_LOG2 -/
  | cvtScfg_sampleLog2
  /-- CVT_SCFG.MARGIN -/
  | cvtScfg_margin
  /-- CVT_SCFG.QEVT -/
  | cvtScfg_qevt
  /-- CVT_SCFG.FIXED_SCALE -/
  | cvtScfg_fixedScale
  /-- CVT_SCFG.QTHR -/
  | cvtScfg_qthr
  /-- CVT_AMAX.AMAX_PREV -/
  | cvtAmax_amaxPrev
  /-- CVT_AMAX.AMAX -/
  | cvtAmax_amax
  /-- CVT_SSTATUS.QERR -/
  | cvtSstatus_qerr
  /-- CVT_SSTATUS.QERR_EVENT -/
  | cvtSstatus_qerrEvent
  /-- CVT_SSTATUS.QERR_HIGH -/
  | cvtSstatus_qerrHigh
  /-- CVT_SSTATUS.AMAX_FALLBACK -/
  | cvtSstatus_amaxFallback
  /-- CVT_SSTATUS.ESC_FULL -/
  | cvtSstatus_escFull
  /-- CVT_SSTATUS.BUSY -/
  | cvtSstatus_busy
  /-- CVT_SCTRL.STEP -/
  | cvtSctrl_step
  /-- CVT_SCTRL.QCLR -/
  | cvtSctrl_qclr
  /-- CVT_ESC_CFG.BASE -/
  | cvtEscCfg_base
  /-- CVT_ESC_CFG.CAP -/
  | cvtEscCfg_cap
  /-- CVT_ESC_NEXT.NEXT -/
  | cvtEscNext_next
  /-- ENG_INST_CMD.START -/
  | engInstCmd_start
  /-- ENG_INST_CMD.OP -/
  | engInstCmd_op
  /-- ENG_INST_CMD.RESULT -/
  | engInstCmd_result
  /-- ENG_INST_CMD.CTR -/
  | engInstCmd_ctr
  /-- ENG_INST_CMD.INST -/
  | engInstCmd_inst
  /-- ENG_INST_HEAD.MODE -/
  | engInstHead_mode
  /-- ENG_INST_HEAD.REGION -/
  | engInstHead_region
  /-- ENG_INST_HEAD.HEAD -/
  | engInstHead_head
  /-- ENG_INST_STATUS.STATE -/
  | engInstStatus_state
  /-- ENG_INST_STATUS.FAULT -/
  | engInstStatus_fault
  /-- ENG_INST_STATUS.FLAGS -/
  | engInstStatus_flags
  /-- ENG_INST_STATUS.DESC -/
  | engInstStatus_desc
  /-- ENG_INST_EVT.ODD -/
  | engInstEvt_odd
  /-- ENG_INST_EVT.EVEN -/
  | engInstEvt_even
  /-- ENG_HOST_CFG.HOST_INST -/
  | engHostCfg_hostInst
  /-- ENG_STEAL_CFG.SIB_EN -/
  | engStealCfg_sibEn
  /-- ENG_STEAL_CFG.CUT_EN -/
  | engStealCfg_cutEn
  /-- ENG_STEAL_CFG.PORT_THR -/
  | engStealCfg_portThr
  /-- ENG_STEAL_CFG.SAT_THR -/
  | engStealCfg_satThr
  /-- ENG_XFE_CFG.RETRY_US -/
  | engXfeCfg_retryUs
  /-- ENG_XFE_CFG.RETRIES -/
  | engXfeCfg_retries
  /-- ENG_HBM_MAP.GEN_TOP -/
  | engHbmMap_genTop
  /-- ENG_UTIL.BLOCK -/
  | engUtil_block
  /-- ENG_UTIL.REGION -/
  | engUtil_region
  /-- ENG_UTIL.NET -/
  | engUtil_net
  /-- ENG_UTIL.HBM -/
  | engUtil_hbm
  /-- ENG_SAT.COUNT -/
  | engSat_count
  /-- SVC_GID.VALID -/
  | svcGid_valid
  /-- SVC_GID.REFUSED -/
  | svcGid_refused
  /-- SVC_GID.GID -/
  | svcGid_gid
  /-- SVC_CFG.STEER_LEARN -/
  | svcCfg_steerLearn
  /-- SVC_CFG.STEER_CREATE -/
  | svcCfg_steerCreate
  /-- SVC_CFG.ASM_TIMEOUT -/
  | svcCfg_asmTimeout
  /-- SVC_STEER_STATUS.FROZEN_EVENT -/
  | svcSteerStatus_frozenEvent
  /-- SVC_STEER_STATUS.LAST_FROZEN -/
  | svcSteerStatus_lastFrozen
  /-- SVC_LOAD_SRC.PROM -/
  | svcLoadSrc_prom
  /-- SVC_LOAD_SRC.OBJECT -/
  | svcLoadSrc_object
  /-- SVC_LOAD_SRC.ADDR -/
  | svcLoadSrc_addr
  /-- SVC_LOAD_DST.ADDR -/
  | svcLoadDst_addr
  /-- SVC_LOAD_CMD.START -/
  | svcLoadCmd_start
  /-- SVC_LOAD_CMD.RESULT -/
  | svcLoadCmd_result
  /-- SVC_LOAD_CMD.SIZE -/
  | svcLoadCmd_size
  /-- SVC_STATUS.READY -/
  | svcStatus_ready
  /-- SVC_STATUS.BUILDING -/
  | svcStatus_building
  /-- SVC_STATUS.PARAM_BAD -/
  | svcStatus_paramBad
  /-- SVC_STATUS.SCRATCH_LOST -/
  | svcStatus_scratchLost
  /-- SVC_STATUS.LIVE -/
  | svcStatus_live
  /-- SVC_STATUS.WAITING -/
  | svcStatus_waiting
  /-- RED_LB_STATUS.OPEN -/
  | redLbStatus_open
  /-- RED_LB_STATUS.DONE -/
  | redLbStatus_done
  /-- RED_LB_STATUS.USED -/
  | redLbStatus_used
  /-- RED_FENCE_STATUS.SCANNING -/
  | redFenceStatus_scanning
  /-- RED_FENCE_STATUS.DEGRADE_EVENT -/
  | redFenceStatus_degradeEvent
  /-- RED_FENCE_STATUS.LAST_GID -/
  | redFenceStatus_lastGid
  /-- CMN_CFG.WINDOW -/
  | cmnCfg_window
  /-- CMN_CTRL.CLEAR -/
  | cmnCtrl_clear
  /-- CMN_CTRL.REGIONS -/
  | cmnCtrl_regions
  /-- CMN_STATUS.SLOTS_USED -/
  | cmnStatus_slotsUsed
  /-- CMN_STATUS.POISONED -/
  | cmnStatus_poisoned
  /-- PROM_CFG.SIZE -/
  | promCfg_size
  /-- PROM_CFG.SPINES_M1 -/
  | promCfg_spinesM1
  /-- PROM_CFG.INDEX -/
  | promCfg_index
  /-- PROM_CFG.TC -/
  | promCfg_tc
  /-- PROM_CFG.FETCH_MS -/
  | promCfg_fetchMs
  /-- PROM_CMD.START -/
  | promCmd_start
  /-- PROM_CMD.OP -/
  | promCmd_op
  /-- PROM_CMD.RESULT -/
  | promCmd_result
  /-- PROM_CMD.OBJECT -/
  | promCmd_object
  /-- PROM_OBJ_STATUS.TOTAL -/
  | promObjStatus_total
  /-- PROM_OBJ_STATUS.HELD -/
  | promObjStatus_held
  /-- PROM_OBJ_INFO.KNOWN -/
  | promObjInfo_known
  /-- PROM_OBJ_INFO.COMPLETE -/
  | promObjInfo_complete
  /-- PROM_OBJ_INFO.LAST_LEN -/
  | promObjInfo_lastLen
  /-- PROM_OBJ_INFO.SOURCE -/
  | promObjInfo_source
  /-- PROM_USAGE.USED -/
  | promUsage_used
  /-- PROM_SPINE.VALID -/
  | promSpine_valid
  /-- PROM_SPINE.GID -/
  | promSpine_gid
  /-- GW_MODE.REFUSED -/
  | gwMode_refused
  /-- GW_MODE.MODE_EVENT -/
  | gwMode_modeEvent
  /-- GW_MODE.MODE -/
  | gwMode_mode
  /-- GW_PERMIT.RECOVERY -/
  | gwPermit_recovery
  /-- GW_PERMIT.TEST -/
  | gwPermit_test
  /-- GW_PERMIT.STARTUP -/
  | gwPermit_startup
  /-- GW_CFG.TIMEOUT_US -/
  | gwCfg_timeoutUs
  /-- GW_CFG.COAL_NS -/
  | gwCfg_coalNs
  /-- GW_CFG.RETRIES -/
  | gwCfg_retries
  /-- GW_LAST_POISON.GID -/
  | gwLastPoison_gid
  /-- GW_LAST_POISON.ADDR -/
  | gwLastPoison_addr
  /-- GW_STATUS.OUTSTANDING -/
  | gwStatus_outstanding
  /-- GW_STATUS.BUFFERS -/
  | gwStatus_buffers
  /-- FEN_CFG.EN -/
  | fenCfg_en
  /-- FEN_CFG.QUORUM -/
  | fenCfg_quorum
  /-- FEN_CFG.THR -/
  | fenCfg_thr
  /-- FEN_CFG.BUDGET -/
  | fenCfg_budget
  /-- FEN_CFG.VOTE_US -/
  | fenCfg_voteUs
  /-- FEN_CFG.RECOVER_MS -/
  | fenCfg_recoverMs
  /-- FEN_CFG.READMIT_HOLD_MS -/
  | fenCfg_readmitHoldMs
  /-- FEN_CFG2.NOTICE_MCG -/
  | fenCfg2_noticeMcg
  /-- FEN_CFG2.RACK_AGE_MS -/
  | fenCfg2_rackAgeMs
  /-- FEN_CFG2.LINK_THR -/
  | fenCfg2_linkThr
  /-- FEN_WEIGHT.W_NACK -/
  | fenWeight_wNack
  /-- FEN_WEIGHT.W_CW -/
  | fenWeight_wCw
  /-- FEN_WEIGHT.W_LOSS -/
  | fenWeight_wLoss
  /-- FEN_WEIGHT.W_TIMEOUT -/
  | fenWeight_wTimeout
  /-- FEN_WEIGHT.W_REQ -/
  | fenWeight_wReq
  /-- FEN_STATUS.STORM -/
  | fenStatus_storm
  /-- FEN_STATUS.STORM_EVENT -/
  | fenStatus_stormEvent
  /-- FEN_STATUS.FENCE_EVENT -/
  | fenStatus_fenceEvent
  /-- FEN_STATUS.LINK_EVENT -/
  | fenStatus_linkEvent
  /-- FEN_STATUS.SUSPECTS -/
  | fenStatus_suspects
  /-- FEN_STATUS.WINDOW_COUNT -/
  | fenStatus_windowCount
  /-- FEN_CTRL.STORM_CLEAR -/
  | fenCtrl_stormClear
  /-- FEN_GID_CMD.START -/
  | fenGidCmd_start
  /-- FEN_GID_CMD.OP -/
  | fenGidCmd_op
  /-- FEN_GID_CMD.RESULT -/
  | fenGidCmd_result
  /-- FEN_GID_CMD.GID -/
  | fenGidCmd_gid
  /-- FEN_GID_STATUS.SITOUT -/
  | fenGidStatus_sitout
  /-- FEN_GID_STATUS.SUSPECT -/
  | fenGidStatus_suspect
  /-- FEN_GID_STATUS.HOLD -/
  | fenGidStatus_hold
  /-- FEN_GID_STATUS.CAUSE -/
  | fenGidStatus_cause
  /-- FEN_GID_STATUS.VOTES_LOW -/
  | fenGidStatus_votesLow
  /-- FEN_GID_STATUS.SCORE -/
  | fenGidStatus_score
  /-- FEN_GID_STATUS.RACK_SCORE -/
  | fenGidStatus_rackScore
  /-- FEN_GID_STATUS.GID -/
  | fenGidStatus_gid
  /-- FEN_SPINE.VALID -/
  | fenSpine_valid
  /-- FEN_SPINE.GID -/
  | fenSpine_gid
  /-- FEN_PORT.FENCED -/
  | fenPort_fenced
  /-- FEN_PORT.LINK_FENCE -/
  | fenPort_linkFence
  /-- FEN_PORT.NBR_FENCE -/
  | fenPort_nbrFence
  /-- FEN_PORT.CLEAR -/
  | fenPort_clear
  /-- FEN_PORT.SCORE -/
  | fenPort_score
  /-- CFG_STATE.STATE -/
  | cfgState_state
  /-- CFG_STATE.SLOT -/
  | cfgState_slot
  /-- CFG_STATE.SLOT_CONFLICT -/
  | cfgState_slotConflict
  /-- CFG_STATE.APPLY_FALLBACK -/
  | cfgState_applyFallback
  /-- CFG_STATE.STATE_EVENT -/
  | cfgState_stateEvent
  /-- CFG_STATE.SAFE_CAUSE -/
  | cfgState_safeCause
  /-- CFG_SLOT_STATUS.VALID -/
  | cfgSlotStatus_valid
  /-- CFG_SLOT_STATUS.REASON -/
  | cfgSlotStatus_reason
  /-- CFG_SLOT_VERSION.VERSION -/
  | cfgSlotVersion_version
  /-- CFG_CTRL.REBOOT -/
  | cfgCtrl_reboot
  /-- CFG_CTRL.KEY -/
  | cfgCtrl_key
  /-- CFG_GID.VALID -/
  | cfgGid_valid
  /-- CFG_GID.REFUSED -/
  | cfgGid_refused
  /-- CFG_GID.GID -/
  | cfgGid_gid
  /-- CFG_FLASH_CMD.START -/
  | cfgFlashCmd_start
  /-- CFG_FLASH_CMD.OP -/
  | cfgFlashCmd_op
  /-- CFG_FLASH_CMD.RESULT -/
  | cfgFlashCmd_result
  /-- CFG_FLASH_CMD.COUNT -/
  | cfgFlashCmd_count
  /-- CFG_FLASH_ADDR.ADDR -/
  | cfgFlashAddr_addr
  /-- CFG_FLASH_DATA.DATA -/
  | cfgFlashData_data
  /-- CFG_SELFTEST.START -/
  | cfgSelftest_start
  /-- CFG_SELFTEST.FULL -/
  | cfgSelftest_full
  /-- CFG_SELFTEST.MEM -/
  | cfgSelftest_mem
  /-- CFG_SELFTEST.ACCEPT -/
  | cfgSelftest_accept
  /-- CFG_SELFTEST.CAP -/
  | cfgSelftest_cap
  /-- CFG_SELFTEST_STATUS.RUNNING -/
  | cfgSelftestStatus_running
  /-- CFG_SELFTEST_STATUS.DONE_EVENT -/
  | cfgSelftestStatus_doneEvent
  /-- CFG_SELFTEST_STATUS.FAILED -/
  | cfgSelftestStatus_failed
  /-- CFG_SELFTEST_STATUS.PROGRESS -/
  | cfgSelftestStatus_progress
  /-- CFG_SELFTEST_STATUS.ERRORS -/
  | cfgSelftestStatus_errors
  /-- SEC_ID.DEVICE_ID -/
  | secId_deviceId
  /-- SEC_I3C_PID.PID -/
  | secI3cPid_pid
  /-- SEC_OWNER.BOUND -/
  | secOwner_bound
  /-- SEC_OWNER.BIND -/
  | secOwner_bind
  /-- SEC_OWNER.RESULT -/
  | secOwner_result
  /-- SEC_OWNER_HASH.HASH -/
  | secOwnerHash_hash
  /-- SEC_DBG_NONCE.NONCE -/
  | secDbgNonce_nonce
  /-- SEC_DBG_ADDR.ADDR -/
  | secDbgAddr_addr
  /-- SEC_DBG_CTRL.SUBMIT -/
  | secDbgCtrl_submit
  /-- SEC_DBG_CTRL.RESULT -/
  | secDbgCtrl_result
  /-- SEC_DBG_CTRL.ENABLE -/
  | secDbgCtrl_enable
  /-- PWR_CFG.PKG_LIMIT -/
  | pwrCfg_pkgLimit
  /-- PWR_CFG.SW_HEADROOM -/
  | pwrCfg_swHeadroom
  /-- PWR_CFG.RAMP_UP -/
  | pwrCfg_rampUp
  /-- PWR_CFG.RAMP_DN -/
  | pwrCfg_rampDn
  /-- PWR_CFG.HBM_MIN -/
  | pwrCfg_hbmMin
  /-- PWR_CFG.MAX_STATE -/
  | pwrCfg_maxState
  /-- PWR_IDLE_CFG.C2_US -/
  | pwrIdleCfg_c2Us
  /-- PWR_IDLE_CFG.C3_MS -/
  | pwrIdleCfg_c3Ms
  /-- PWR_IDLE_CFG.C4_S -/
  | pwrIdleCfg_c4S
  /-- PWR_THERM_CFG.THROTTLE -/
  | pwrThermCfg_throttle
  /-- PWR_THERM_CFG.STEP -/
  | pwrThermCfg_step
  /-- PWR_STATUS.PKG_W -/
  | pwrStatus_pkgW
  /-- PWR_STATUS.FLOOR_W -/
  | pwrStatus_floorW
  /-- PWR_STATUS.COMPUTE_W -/
  | pwrStatus_computeW
  /-- PWR_STATUS.HBM_W -/
  | pwrStatus_hbmW
  /-- PWR_STATUS.T_HOT -/
  | pwrStatus_tHot
  /-- PWR_STATUS.THROTTLING -/
  | pwrStatus_throttling
  /-- PWR_STATUS.LIMIT_LOW -/
  | pwrStatus_limitLow
  /-- PWR_STATUS.THROTTLE_EVENT -/
  | pwrStatus_throttleEvent
  /-- PWR_STATUS.LIMIT_EVENT -/
  | pwrStatus_limitEvent
  /-- PWR_STATUS.SENSOR_FAIL -/
  | pwrStatus_sensorFail
  /-- PWR_REGION_STATUS.STATE -/
  | pwrRegionStatus_state
  /-- PWR_REGION_STATUS.C2 -/
  | pwrRegionStatus_c2
  /-- PWR_REGION_STATUS.C1 -/
  | pwrRegionStatus_c1
  /-- PWR_REGION_STATUS.TEMP -/
  | pwrRegionStatus_temp
  /-- PWR_CB_GRANT.REQUEST -/
  | pwrCbGrant_request
  /-- PWR_CB_GRANT.GRANT -/
  | pwrCbGrant_grant
  /-- TEL_CFG.AUTO_MS -/
  | telCfg_autoMs
  /-- TEL_CFG.COMMIT_MS -/
  | telCfg_commitMs
  /-- TEL_CTRL.SNAP -/
  | telCtrl_snap
  /-- TEL_CTRL.CLEAR -/
  | telCtrl_clear
  /-- TEL_CTRL.GROUP -/
  | telCtrl_group
  /-- TEL_SNAP_STATUS.SEQ -/
  | telSnapStatus_seq
  /-- TEL_SNAP_STATUS.TIME -/
  | telSnapStatus_time
  /-- TEL_EXPOSE.GROUPS -/
  | telExpose_groups
  /-- TEL_SCRUB_CFG.EN -/
  | telScrubCfg_en
  /-- TEL_SCRUB_CFG.SRAM_S -/
  | telScrubCfg_sramS
  /-- TEL_SCRUB_CFG.HBM_H -/
  | telScrubCfg_hbmH
  /-- TEL_FAULT_SEQ.SEQ -/
  | telFaultSeq_seq
  /-- TEL_LOG_STATUS.PENDING -/
  | telLogStatus_pending
  /-- TEL_LOG_STATUS.NEXT -/
  | telLogStatus_next
  /-- TEL_WRAP.WRAP -/
  | telWrap_wrap
  /-- CFG_LEASE_CTRL.GO -/
  | cfgLeaseCtrl_go
  /-- CFG_LEASE_CTRL.OP -/
  | cfgLeaseCtrl_op
  /-- CFG_LEASE_CTRL.RESULT -/
  | cfgLeaseCtrl_result
  /-- CFG_LEASE_CTRL.LEASE_EVENT -/
  | cfgLeaseCtrl_leaseEvent
  /-- CFG_LEASE_CTRL.WRITE_IGNORED -/
  | cfgLeaseCtrl_writeIgnored
  /-- CFG_LEASE_CFG.TERM_MS -/
  | cfgLeaseCfg_termMs
  /-- CFG_LEASE_STATUS.OWNER -/
  | cfgLeaseStatus_owner
  /-- CFG_LEASE_STATUS.SELF_PORT -/
  | cfgLeaseStatus_selfPort
  /-- CFG_LEASE_STATUS.REMAIN_MS -/
  | cfgLeaseStatus_remainMs
  /-- CFG_LEASE_STATUS.GEN -/
  | cfgLeaseStatus_gen
  /-- PCIE_FN_CFG.HOLD_US -/
  | pcieFnCfg_holdUs
  /-- PCIE_FN_CFG.WIN -/
  | pcieFnCfg_win
  /-- PCIE_FN_STATUS.EVT_OVERFLOW -/
  | pcieFnStatus_evtOverflow
  /-- PCIE_FN_STATUS.BAR2_BAD -/
  | pcieFnStatus_bar2Bad
  /-- PCIE_FN_STATUS.EVT_LOST -/
  | pcieFnStatus_evtLost
  /-- PCIE_RING_BASE.BASE -/
  | pcieRingBase_base
  /-- PCIE_RING_CFG.EN -/
  | pcieRingCfg_en
  /-- PCIE_RING_CFG.SIZE_LOG2 -/
  | pcieRingCfg_sizeLog2
  /-- PCIE_RING_HOST_IDX.IDX -/
  | pcieRingHostIdx_idx
  /-- PCIE_RING_PART_IDX.IDX -/
  | pcieRingPartIdx_idx
  /-- I3C_STATUS.ADDR_VALID -/
  | i3cStatus_addrValid
  /-- I3C_STATUS.DA -/
  | i3cStatus_da
  /-- I3C_STATUS.IBI_EN -/
  | i3cStatus_ibiEn
  /-- DBG_SEL.ACTIVE -/
  | dbgSel_active
  /-- DBG_SEL.GROUP -/
  | dbgSel_group
  deriving DecidableEq, Repr

/-- The width of a field in bits. -/
def Fld.width : Fld → Nat
  | .coreLaneStatus_testResult | .corePortCfg_width | .corePortCfg_mode | .corePortStatus_widthNow | .cvtScfg_scaleMode | .gwMode_mode | .secOwner_result | .secDbgCtrl_result | .secDbgCtrl_enable | .cfgLeaseCtrl_op | .cfgLeaseCtrl_result | .cfgLeaseStatus_owner => 2
  | .coreEthPcpMap_untaggedTc | .coreLaneTest_accept | .corePortStatus_state | .tblCmd_op | .tblCmd_table | .optSlotCtrl_spareChan | .cvtScfg_margin | .engInstCmd_op | .engInstHead_region | .engInstStatus_state | .svcLoadCmd_result | .promCfg_tc | .promCmd_op | .fenGidCmd_op | .fenGidStatus_cause | .cfgState_state | .cfgState_safeCause | .cfgFlashCmd_op | .cfgSelftest_accept | .pwrCfg_maxState | .pwrRegionStatus_state => 3
  | .cfgFaultSummary_hbmFailed | .corePortCfg_trainRetries | .corePortStatus_failReason | .coreNbr_peerType | .optModStatus_powerClass | .tblStatus_result | .coreAdmCfg_alpha | .optCfg_idMargin | .optLoopCfg_lpf | .optLoopCfg_ditherAmp | .cvtScfg_sampleLog2 | .cvtScfg_qevt | .engInstCmd_result | .engInstCmd_ctr | .engXfeCfg_retries | .promCmd_result | .gwCfg_retries | .fenGidCmd_result | .cfgSlotStatus_reason | .cfgFlashCmd_result => 4
  | .optChanCfg_txLine | .optChanCfg_rxLine | .optPlanNext_nextTx | .optPlanNext_nextRx | .optRingStatus_idLine | .engInstStatus_fault | .engInstStatus_flags | .telCtrl_group | .pcieRingCfg_sizeLog2 => 5
  | .corePktCtrl_hopsInit | .optModAcc_slot | .schPortCfg_expressDepth | .gatePortStatus_curEntry | .cfgSelftest_mem | .cfgSelftest_cap | .cfgSelftestStatus_failed | .pcieFnCfg_win => 6
  | .voqSpillCfg_size | .gatePortCtrl_len1 | .gatePortCtrl_len0 | .optCfg_warnDb | .optCfg_drainDb | .engStealCfg_portThr | .engStealCfg_satThr | .fenCfg_quorum | .i3cStatus_da => 7
  | .cfgFaultSummary_regionEvent | .cfgFaultSummary_regionFailed | .cfgRegionStatus_cbFail | .cfgRegionStatus_lbFail | .corePortStatus_lanesUp | .corePortStatus_attempts | .coreNbr_age | .coreHelloCfg_plane | .optModAcc_bank | .optModAcc_page | .optModAcc_byte | .optModAcc_status | .optModAcc_data | .optModStatus_cmisRev | .optModStatus_dpActive | .coreReseqCfg_cutHold | .schPortCfg_overhead | .gateSyncCfg_outDiv | .gatePortStatus_curState | .gateList_state | .timePortCfg_rxAdj | .timePortCfg_txAdj | .optCfg_peerWait | .optLoopCfg_kp | .optLoopCfg_ki | .optLoopCfg_lockThr | .cvtScfg_fixedScale | .engInstHead_mode | .engUtil_block | .engUtil_region | .engUtil_net | .engUtil_hbm | .cmnCtrl_regions | .promCfg_size | .promCfg_spinesM1 | .promCfg_index | .fenCfg_thr | .fenCfg_budget | .fenCfg_recoverMs | .fenCfg2_linkThr | .fenWeight_wNack | .fenWeight_wCw | .fenWeight_wLoss | .fenWeight_wTimeout | .fenWeight_wReq | .fenStatus_windowCount | .fenGidStatus_votesLow | .fenGidStatus_score | .fenGidStatus_rackScore | .fenPort_score | .cfgFlashCmd_count | .cfgSelftestStatus_progress | .pwrCfg_swHeadroom | .pwrCfg_rampUp | .pwrCfg_rampDn | .pwrCfg_hbmMin | .pwrIdleCfg_c4S | .pwrThermCfg_throttle | .pwrThermCfg_step | .pwrStatus_hbmW | .pwrStatus_tHot | .pwrRegionStatus_c2 | .pwrRegionStatus_c1 | .pwrRegionStatus_temp | .pwrCbGrant_request | .pwrCbGrant_grant | .telScrubCfg_hbmH | .telLogStatus_pending | .dbgSel_group => 8
  | .coreLaneTest_lane | .optPlanCtrl_conflictLane | .optPlanCtrl_drainLead | .optCalStatus_lane | .optChanCfg_txDither | .optChanCfg_rxDither | .cmnCfg_window | .gwStatus_buffers | .fenStatus_suspects => 9
  | .lpmScrubCfg_period | .schDrrCfg_q5 | .schDrrCfg_q4 | .schDrrCfg_q3 | .schDrrCfg_q2 | .schDrrCfg_q1 | .schDrrCfg_q0 | .schShape_rate | .schIpol_rate | .optCfg_calHold | .gwCfg_timeoutUs | .gwCfg_coalNs | .fenCfg2_rackAgeMs | .pwrIdleCfg_c2Us | .pwrIdleCfg_c3Ms => 10
  | .gwStatus_outstanding => 11
  | .dtPortLearn_group | .coreAdmCfg_reserve | .coreAdmCfg_spillOn | .optRingStatus_heater | .optRingStatus_tableCode | .cvtScfg_owner | .engInstCmd_inst | .engHostCfg_hostInst | .svcStatus_live | .svcStatus_waiting | .cmnStatus_slotsUsed | .fenCfg_voteUs | .fenCfg_readmitHoldMs | .pwrCfg_pkgLimit | .pwrStatus_pkgW | .pwrStatus_floorW | .pwrStatus_computeW => 12
  | .promObjInfo_lastLen => 13
  | .schPortStatus_tc7Backlog | .schPortStatus_tc7Peak | .fenCfg2_noticeMcg | .cfgLeaseCfg_termMs => 14
  | .coreMarkCfg_high | .coreMarkCfg_low | .optCfg_calPeriod | .telScrubCfg_sramS => 15
  | .coreLaneStatus_ser | .coreNbrExpect_peerPort | .coreNbr_peerPort | .coreHelloCfg_pod | .corePuntCfg_rate | .corePuntCfg_burst | .coreEgrCfg_stop | .coreReseqCfg_timeout | .voqSpillCfg_voqMax | .schShape_burst | .schIpol_burst | .optChanStatus_calAge | .optPlanNext_nextPeerPort | .optRingStatus_err | .optLinePwr_rel | .cvtScfg_qthr | .engInstEvt_odd | .engInstEvt_even | .engXfeCfg_retryUs | .svcCfg_asmTimeout | .svcSteerStatus_lastFrozen | .svcLoadSrc_object | .redLbStatus_open | .redLbStatus_done | .redLbStatus_used | .cmnStatus_poisoned | .promCfg_fetchMs | .promCmd_object | .cfgCtrl_key | .cfgSelftestStatus_errors | .telCfg_autoMs | .telCfg_commitMs | .cfgLeaseStatus_remainMs | .pcieFnCfg_holdUs | .pcieFnStatus_evtLost => 16
  | .corePoolStatus_free => 17
  | .coreNbrExpect_peerGid | .coreNbr_peerGid | .dtLearnStatus_lastFrozen | .tblCmd_index | .tblStatus_rindex | .optCalStatus_roundTime | .optPlanNext_nextPeerGid | .svcGid_gid | .redFenceStatus_lastGid | .promObjInfo_source | .promSpine_gid | .gwLastPoison_gid | .fenGidCmd_gid | .fenGidStatus_gid | .fenSpine_gid | .cfgGid_gid => 18
  | .gateCycleCfg_stepLimit | .svcLoadCmd_size => 20
  | .coreEthPcpMap_pcpTc | .gateCycleCfg_cycleTime | .gateSyncStatus_lastOffset | .gateList_duration | .cvtEscCfg_cap | .cvtEscNext_next => 24
  | .promUsage_used => 26
  | .coreAgeLimit_limit => 31
  | .coreHelloCfg_fabricId | .lgHashSeed_seed | .tblData_data | .corePoolStatus_spillUsed | .gateNextCycleStart_start | .gateSyncEdge_te | .timeNs_count | .timeRate_rate | .timeStep_step | .optPlanTime_act | .cvtAmax_amaxPrev | .cvtAmax_amax | .cvtSstatus_qerr | .engSat_count | .promObjStatus_total | .promObjStatus_held | .cfgFlashAddr_addr | .cfgFlashData_data | .secOwnerHash_hash | .secDbgNonce_nonce | .telSnapStatus_seq | .telSnapStatus_time | .telExpose_groups | .telLogStatus_next | .telWrap_wrap | .cfgLeaseStatus_gen | .pcieRingHostIdx_idx | .pcieRingPartIdx_idx => 32
  | .cvtEscCfg_base | .engInstHead_head | .engInstStatus_desc | .engHbmMap_genTop | .svcLoadSrc_addr | .svcLoadDst_addr | .secDbgAddr_addr => 40
  | .gwLastPoison_addr => 46
  | .lpmRouterMac_mac | .secI3cPid_pid => 48
  | .pcieRingBase_base => 52
  | .cfgSlotVersion_version | .secId_deviceId | .telFaultSeq_seq => 64
  | _ => 1

/-- The reset value of a field at index `i` of its register (R7). Indices are flattened as the register map says. -/
def Fld.reset (f : Fld) (i : Nat) : Nat :=
  match f with
  | .corePktCtrl_hopsInit => 16
  | .corePortCfg_degradeOk => 1
  | .corePortCfg_trainRetries => 8
  | .coreNbr_age => 255
  | .lgHashSeed_seed => 4294967295
  | .corePuntCfg_rate => 100
  | .corePuntCfg_burst => 256
  | .lpmScrubCfg_en => 1
  | .lpmScrubCfg_period => 10
  | .coreAdmCfg_reserve => 256
  | .coreAdmCfg_alpha => 7
  | .coreAdmCfg_spillOn => 256
  | .coreAgeLimit_limit => 10000000
  | .coreEgrCfg_cut => if 6 ≤ i then 1 else 0
  | .coreEgrCfg_stop => 1024
  | .coreReseqCfg_timeout => 16
  | .coreReseqCfg_cutHold => 144
  | .voqSpillCfg_voqMax => 1024
  | .corePoolStatus_free => 114048
  | .schPortCfg_guard => 1
  | .schPortCfg_expressDepth => 32
  | .schDrrCfg_q5 => 40
  | .schDrrCfg_q4 => 40
  | .schDrrCfg_q3 => 40
  | .schDrrCfg_q2 => 40
  | .schDrrCfg_q1 => 40
  | .schDrrCfg_q0 => 40
  | .schShape_en => if i % 8 = 6 then 1 else 0
  | .schShape_rate => if i % 8 = 6 then 0x064 else 0x3E8
  | .schShape_burst => 256
  | .schIpol_en => if 6 ≤ i % 8 then 1 else 0
  | .schIpol_rate => if i % 8 = 7 then 0x064 else if i % 8 = 6 then 0x032 else 0x3E8
  | .schIpol_burst => 256
  | .gateCycleCfg_cycleTime => 1000000
  | .gateSyncCfg_outDiv => 1
  | .gatePortCtrl_len1 => 1
  | .gatePortCtrl_len0 => 1
  | .gatePortStatus_curState => 255
  | .gateList_state => 255
  | .timePortCfg_tcEn => 1
  | .optCfg_calEn => 1
  | .optCfg_calPeriod => 10000
  | .optCfg_calHold => 50
  | .optCfg_peerWait => 100
  | .optCfg_warnDb => 30
  | .optCfg_drainDb => 60
  | .optCfg_idMargin => 6
  | .optLoopCfg_kp => 16
  | .optLoopCfg_ki => 4
  | .optLoopCfg_lpf => 6
  | .optLoopCfg_ditherAmp => 4
  | .optLoopCfg_lockThr => 32
  | .optPlanCtrl_drainLead => 60
  | .optChanCfg_txDither => 0x050 + 5 * (i % 8)
  | .optChanCfg_rxDither => 0x078 + 5 * (i % 8)
  | .optChanStatus_calAge => 65535
  | .cvtScfg_sampleLog2 => 8
  | .cvtScfg_fixedScale => 127
  | .cvtScfg_qthr => 15396
  | .engHostCfg_hostInst => 64
  | .engStealCfg_sibEn => 1
  | .engStealCfg_cutEn => 1
  | .engStealCfg_portThr => 96
  | .engStealCfg_satThr => 122
  | .engXfeCfg_retryUs => 50
  | .engXfeCfg_retries => 4
  | .engHbmMap_genTop => 0x8000000000 + 0x2000000000 * i + 0x1200000000
  | .svcCfg_asmTimeout => 100
  | .cmnCfg_window => 128
  | .promCfg_fetchMs => 100
  | .gwCfg_timeoutUs => 50
  | .gwCfg_coalNs => 200
  | .gwCfg_retries => 4
  | .fenCfg_quorum => 2
  | .fenCfg_thr => 64
  | .fenCfg_budget => 16
  | .fenCfg_voteUs => 500
  | .fenCfg_recoverMs => 10
  | .fenCfg_readmitHoldMs => 50
  | .fenCfg2_rackAgeMs => 1000
  | .fenCfg2_linkThr => 32
  | .fenWeight_wNack => 2
  | .fenWeight_wCw => 4
  | .fenWeight_wLoss => 32
  | .fenWeight_wTimeout => 16
  | .fenWeight_wReq => 32
  | .fenGidStatus_score => 255
  | .fenGidStatus_rackScore => 255
  | .fenPort_score => 255
  | .cfgState_state => 1
  | .cfgFlashCmd_count => 255
  | .cfgSelftest_cap => 5
  | .secId_deviceId => Config.deviceId.toNat
  | .secI3cPid_pid => Config.i3cPid.toNat
  | .pwrCfg_pkgLimit => 2400
  | .pwrCfg_swHeadroom => 60
  | .pwrCfg_rampUp => 8
  | .pwrCfg_rampDn => 16
  | .pwrCfg_hbmMin => 40
  | .pwrCfg_maxState => 3
  | .pwrIdleCfg_c2Us => 10
  | .pwrIdleCfg_c3Ms => 1
  | .pwrIdleCfg_c4S => 10
  | .pwrThermCfg_throttle => 95
  | .pwrThermCfg_step => 25
  | .telCfg_autoMs => 10
  | .telCfg_commitMs => 100
  | .telScrubCfg_en => 1
  | .telScrubCfg_sramS => 10
  | .telScrubCfg_hbmH => 24
  | .telLogStatus_next => 0x3000000
  | .cfgLeaseCfg_termMs => 100
  | .cfgLeaseStatus_selfPort => i
  | .pcieRingCfg_sizeLog2 => 12
  | _ => 0

end Sys2Proof.Machine
end

