-- ==== Sys2Proof/Machine/RegMap.lean ====
section
/-! DEFINITION. The register map: where each register lies in BAR0, its width, and its fields with their bit positions and
access codes (the register descriptions of every chapter; Table 0.3; Table 18.2). -/

namespace Sys2Proof.Machine

/-- The access codes of Table 0.3. -/
inductive Access where
  | ro | rw | w1c | w1s | wo | cmd
  deriving DecidableEq, Repr

/-- The registers, by name. The counters and the fault ring are windows of their own and are not listed here. -/
inductive Reg where
  /-- CFG_SYNC -/
  | cfgSync
  /-- CFG_FAULT_SUMMARY -/
  | cfgFaultSummary
  /-- CFG_REGION_STATUS -/
  | cfgRegionStatus
  /-- CORE_PKT_CTRL -/
  | corePktCtrl
  /-- CORE_ETH_PCP_MAP -/
  | coreEthPcpMap
  /-- CORE_LANE_TEST -/
  | coreLaneTest
  /-- CORE_LANE_STATUS -/
  | coreLaneStatus
  /-- CORE_PORT_CFG -/
  | corePortCfg
  /-- CORE_PORT_STATUS -/
  | corePortStatus
  /-- CORE_NBR_EXPECT -/
  | coreNbrExpect
  /-- CORE_NBR -/
  | coreNbr
  /-- CORE_HELLO_CFG -/
  | coreHelloCfg
  /-- OPT_MOD_ACC -/
  | optModAcc
  /-- OPT_MOD_STATUS -/
  | optModStatus
  /-- LG_HASH_SEED -/
  | lgHashSeed
  /-- DT_LEARN_CFG -/
  | dtLearnCfg
  /-- DT_LEARN_STATUS -/
  | dtLearnStatus
  /-- DT_PORT_LEARN -/
  | dtPortLearn
  /-- CORE_PUNT_CFG -/
  | corePuntCfg
  /-- LPM_SCRUB_CFG -/
  | lpmScrubCfg
  /-- LPM_ROUTER_MAC -/
  | lpmRouterMac
  /-- TBL_CMD -/
  | tblCmd
  /-- TBL_STATUS -/
  | tblStatus
  /-- TBL_DATA -/
  | tblData
  /-- CORE_ADM_CFG -/
  | coreAdmCfg
  /-- CORE_AGE_LIMIT -/
  | coreAgeLimit
  /-- CORE_MARK_CFG -/
  | coreMarkCfg
  /-- CORE_EGR_CFG -/
  | coreEgrCfg
  /-- CORE_RESEQ_CFG -/
  | coreReseqCfg
  /-- VOQ_SPILL_CFG -/
  | voqSpillCfg
  /-- CORE_POOL_STATUS -/
  | corePoolStatus
  /-- SCH_PORT_CFG -/
  | schPortCfg
  /-- SCH_PORT_STATUS -/
  | schPortStatus
  /-- SCH_DRR_CFG -/
  | schDrrCfg
  /-- SCH_SHAPE -/
  | schShape
  /-- SCH_IPOL -/
  | schIpol
  /-- GATE_CYCLE_CFG -/
  | gateCycleCfg
  /-- GATE_NEXT_CYCLE_START -/
  | gateNextCycleStart
  /-- GATE_CYCLE_CTRL -/
  | gateCycleCtrl
  /-- GATE_SYNC_CFG -/
  | gateSyncCfg
  /-- GATE_SYNC_STATUS -/
  | gateSyncStatus
  /-- GATE_SYNC_EDGE -/
  | gateSyncEdge
  /-- GATE_PORT_CTRL -/
  | gatePortCtrl
  /-- GATE_PORT_STATUS -/
  | gatePortStatus
  /-- GATE_LIST -/
  | gateList
  /-- TIME_NS -/
  | timeNs
  /-- TIME_RATE -/
  | timeRate
  /-- TIME_STEP -/
  | timeStep
  /-- TIME_STATUS -/
  | timeStatus
  /-- TIME_PORT_CFG -/
  | timePortCfg
  /-- OPT_CFG -/
  | optCfg
  /-- OPT_LOOP_CFG -/
  | optLoopCfg
  /-- OPT_PLAN_TIME -/
  | optPlanTime
  /-- OPT_PLAN_CTRL -/
  | optPlanCtrl
  /-- OPT_CAL_STATUS -/
  | optCalStatus
  /-- OPT_SLOT_CTRL -/
  | optSlotCtrl
  /-- OPT_CHAN_CFG -/
  | optChanCfg
  /-- OPT_CHAN_STATUS -/
  | optChanStatus
  /-- OPT_PLAN_NEXT -/
  | optPlanNext
  /-- OPT_RING_STATUS -/
  | optRingStatus
  /-- OPT_LINE_PWR -/
  | optLinePwr
  /-- OCL_STATUS -/
  | oclStatus
  /-- CVT_SCFG -/
  | cvtScfg
  /-- CVT_AMAX -/
  | cvtAmax
  /-- CVT_SSTATUS -/
  | cvtSstatus
  /-- CVT_SCTRL -/
  | cvtSctrl
  /-- CVT_ESC_CFG -/
  | cvtEscCfg
  /-- CVT_ESC_NEXT -/
  | cvtEscNext
  /-- ENG_INST_CMD -/
  | engInstCmd
  /-- ENG_INST_HEAD -/
  | engInstHead
  /-- ENG_INST_STATUS -/
  | engInstStatus
  /-- ENG_INST_EVT -/
  | engInstEvt
  /-- ENG_HOST_CFG -/
  | engHostCfg
  /-- ENG_STEAL_CFG -/
  | engStealCfg
  /-- ENG_XFE_CFG -/
  | engXfeCfg
  /-- ENG_HBM_MAP -/
  | engHbmMap
  /-- ENG_UTIL -/
  | engUtil
  /-- ENG_SAT -/
  | engSat
  /-- SVC_GID -/
  | svcGid
  /-- SVC_CFG -/
  | svcCfg
  /-- SVC_STEER_STATUS -/
  | svcSteerStatus
  /-- SVC_LOAD_SRC -/
  | svcLoadSrc
  /-- SVC_LOAD_DST -/
  | svcLoadDst
  /-- SVC_LOAD_CMD -/
  | svcLoadCmd
  /-- SVC_STATUS -/
  | svcStatus
  /-- RED_LB_STATUS -/
  | redLbStatus
  /-- RED_FENCE_STATUS -/
  | redFenceStatus
  /-- CMN_CFG -/
  | cmnCfg
  /-- CMN_CTRL -/
  | cmnCtrl
  /-- CMN_STATUS -/
  | cmnStatus
  /-- PROM_CFG -/
  | promCfg
  /-- PROM_CMD -/
  | promCmd
  /-- PROM_OBJ_STATUS -/
  | promObjStatus
  /-- PROM_OBJ_INFO -/
  | promObjInfo
  /-- PROM_USAGE -/
  | promUsage
  /-- PROM_SPINE -/
  | promSpine
  /-- GW_MODE -/
  | gwMode
  /-- GW_PERMIT -/
  | gwPermit
  /-- GW_CFG -/
  | gwCfg
  /-- GW_LAST_POISON -/
  | gwLastPoison
  /-- GW_STATUS -/
  | gwStatus
  /-- FEN_CFG -/
  | fenCfg
  /-- FEN_CFG2 -/
  | fenCfg2
  /-- FEN_WEIGHT -/
  | fenWeight
  /-- FEN_STATUS -/
  | fenStatus
  /-- FEN_CTRL -/
  | fenCtrl
  /-- FEN_GID_CMD -/
  | fenGidCmd
  /-- FEN_GID_STATUS -/
  | fenGidStatus
  /-- FEN_SPINE -/
  | fenSpine
  /-- FEN_PORT -/
  | fenPort
  /-- CFG_STATE -/
  | cfgState
  /-- CFG_SLOT_STATUS -/
  | cfgSlotStatus
  /-- CFG_SLOT_VERSION -/
  | cfgSlotVersion
  /-- CFG_CTRL -/
  | cfgCtrl
  /-- CFG_GID -/
  | cfgGid
  /-- CFG_FLASH_CMD -/
  | cfgFlashCmd
  /-- CFG_FLASH_ADDR -/
  | cfgFlashAddr
  /-- CFG_FLASH_DATA -/
  | cfgFlashData
  /-- CFG_SELFTEST -/
  | cfgSelftest
  /-- CFG_SELFTEST_STATUS -/
  | cfgSelftestStatus
  /-- SEC_ID -/
  | secId
  /-- SEC_I3C_PID -/
  | secI3cPid
  /-- SEC_OWNER -/
  | secOwner
  /-- SEC_OWNER_HASH -/
  | secOwnerHash
  /-- SEC_DBG_NONCE -/
  | secDbgNonce
  /-- SEC_DBG_ADDR -/
  | secDbgAddr
  /-- SEC_DBG_CTRL -/
  | secDbgCtrl
  /-- PWR_CFG -/
  | pwrCfg
  /-- PWR_IDLE_CFG -/
  | pwrIdleCfg
  /-- PWR_THERM_CFG -/
  | pwrThermCfg
  /-- PWR_STATUS -/
  | pwrStatus
  /-- PWR_REGION_STATUS -/
  | pwrRegionStatus
  /-- PWR_CB_GRANT -/
  | pwrCbGrant
  /-- TEL_CFG -/
  | telCfg
  /-- TEL_CTRL -/
  | telCtrl
  /-- TEL_SNAP_STATUS -/
  | telSnapStatus
  /-- TEL_EXPOSE -/
  | telExpose
  /-- TEL_SCRUB_CFG -/
  | telScrubCfg
  /-- TEL_FAULT_SEQ -/
  | telFaultSeq
  /-- TEL_LOG_STATUS -/
  | telLogStatus
  /-- TEL_WRAP -/
  | telWrap
  /-- CFG_LEASE_CTRL -/
  | cfgLeaseCtrl
  /-- CFG_LEASE_CFG -/
  | cfgLeaseCfg
  /-- CFG_LEASE_STATUS -/
  | cfgLeaseStatus
  /-- PCIE_FN_CFG -/
  | pcieFnCfg
  /-- PCIE_FN_STATUS -/
  | pcieFnStatus
  /-- PCIE_RING_BASE -/
  | pcieRingBase
  /-- PCIE_RING_CFG -/
  | pcieRingCfg
  /-- PCIE_RING_HOST_IDX -/
  | pcieRingHostIdx
  /-- PCIE_RING_PART_IDX -/
  | pcieRingPartIdx
  /-- I3C_STATUS -/
  | i3cStatus
  /-- DBG_SEL -/
  | dbgSel
  deriving DecidableEq, Repr

/-- One dimension of an indexed register: the distance in bytes, the number of places, and what one place adds to the flattened index. -/
structure Dim where
  stride : Nat
  count : Nat
  mul : Nat
  deriving DecidableEq, Repr

/-- One field of a register: its field, its lowest bit and its access code. -/
structure FieldAt where
  fld : Fld
  lo : Nat
  acc : Access
  deriving DecidableEq, Repr

/-- BAR0 offset of the first place of a register. -/
def Reg.base : Reg → Nat
  | .cfgSync => 0x100084
  | .cfgFaultSummary => 0x100080
  | .cfgRegionStatus => 0x100100
  | .corePktCtrl => 0x200000
  | .coreEthPcpMap => 0x200014
  | .coreLaneTest => 0x200010
  | .coreLaneStatus => 0x230000
  | .corePortCfg => 0x210000
  | .corePortStatus => 0x210004
  | .coreNbrExpect => 0x210008
  | .coreNbr => 0x220000
  | .coreHelloCfg => 0x200008
  | .optModAcc => 0x500100
  | .optModStatus => 0x501000
  | .lgHashSeed => 0x320000
  | .dtLearnCfg => 0x310000
  | .dtLearnStatus => 0x310008
  | .dtPortLearn => 0x311000
  | .corePuntCfg => 0x200018
  | .lpmScrubCfg => 0x330000
  | .lpmRouterMac => 0x330008
  | .tblCmd => 0x300000
  | .tblStatus => 0x300004
  | .tblData => 0x300040
  | .coreAdmCfg => 0x240000
  | .coreAgeLimit => 0x240004
  | .coreMarkCfg => 0x240008
  | .coreEgrCfg => 0x24000C
  | .coreReseqCfg => 0x240100
  | .voqSpillCfg => 0x240200
  | .corePoolStatus => 0x240300
  | .schPortCfg => 0x400000
  | .schPortStatus => 0x400004
  | .schDrrCfg => 0x400008
  | .schShape => 0x410000
  | .schIpol => 0x420000
  | .gateCycleCfg => 0x440000
  | .gateNextCycleStart => 0x440008
  | .gateCycleCtrl => 0x44000C
  | .gateSyncCfg => 0x440010
  | .gateSyncStatus => 0x440014
  | .gateSyncEdge => 0x440018
  | .gatePortCtrl => 0x441000
  | .gatePortStatus => 0x441004
  | .gateList => 0x480000
  | .timeNs => 0x4C0000
  | .timeRate => 0x4C0004
  | .timeStep => 0x4C0008
  | .timeStatus => 0x4C000C
  | .timePortCfg => 0x4C1000
  | .optCfg => 0x500000
  | .optLoopCfg => 0x500008
  | .optPlanTime => 0x500010
  | .optPlanCtrl => 0x500014
  | .optCalStatus => 0x500018
  | .optSlotCtrl => 0x501800
  | .optChanCfg => 0x502000
  | .optChanStatus => 0x502004
  | .optPlanNext => 0x502008
  | .optRingStatus => 0x504000
  | .optLinePwr => 0x506000
  | .oclStatus => 0x510000
  | .cvtScfg => 0x5C0000
  | .cvtAmax => 0x5C0008
  | .cvtSstatus => 0x5C0010
  | .cvtSctrl => 0x5C0018
  | .cvtEscCfg => 0x5D0000
  | .cvtEscNext => 0x5D0008
  | .engInstCmd => 0x540000
  | .engInstHead => 0x540008
  | .engInstStatus => 0x540010
  | .engInstEvt => 0x540020
  | .engHostCfg => 0x540040
  | .engStealCfg => 0x540044
  | .engXfeCfg => 0x540048
  | .engHbmMap => 0x540060
  | .engUtil => 0x540080
  | .engSat => 0x540100
  | .svcGid => 0x580000
  | .svcCfg => 0x580100
  | .svcSteerStatus => 0x580108
  | .svcLoadSrc => 0x580200
  | .svcLoadDst => 0x580208
  | .svcLoadCmd => 0x580210
  | .svcStatus => 0x581000
  | .redLbStatus => 0x600000
  | .redFenceStatus => 0x600200
  | .cmnCfg => 0x610000
  | .cmnCtrl => 0x610004
  | .cmnStatus => 0x610100
  | .promCfg => 0x620000
  | .promCmd => 0x620008
  | .promObjStatus => 0x620010
  | .promObjInfo => 0x620018
  | .promUsage => 0x620020
  | .promSpine => 0x621000
  | .gwMode => 0x640000
  | .gwPermit => 0x640004
  | .gwCfg => 0x640008
  | .gwLastPoison => 0x640010
  | .gwStatus => 0x640100
  | .fenCfg => 0x680000
  | .fenCfg2 => 0x680008
  | .fenWeight => 0x680010
  | .fenStatus => 0x680018
  | .fenCtrl => 0x68001C
  | .fenGidCmd => 0x680020
  | .fenGidStatus => 0x680028
  | .fenSpine => 0x681000
  | .fenPort => 0x682000
  | .cfgState => 0x100000
  | .cfgSlotStatus => 0x100008
  | .cfgSlotVersion => 0x100010
  | .cfgCtrl => 0x100040
  | .cfgGid => 0x100044
  | .cfgFlashCmd => 0x100048
  | .cfgFlashAddr => 0x10004C
  | .cfgFlashData => 0x100400
  | .cfgSelftest => 0x100050
  | .cfgSelftestStatus => 0x100054
  | .secId => 0x6C0000
  | .secI3cPid => 0x6C0008
  | .secOwner => 0x6C0010
  | .secOwnerHash => 0x6C0020
  | .secDbgNonce => 0x6C0100
  | .secDbgAddr => 0x6C0140
  | .secDbgCtrl => 0x6C0148
  | .pwrCfg => 0x700000
  | .pwrIdleCfg => 0x700008
  | .pwrThermCfg => 0x70000C
  | .pwrStatus => 0x700010
  | .pwrRegionStatus => 0x700100
  | .pwrCbGrant => 0x700200
  | .telCfg => 0x740000
  | .telCtrl => 0x740004
  | .telSnapStatus => 0x740008
  | .telExpose => 0x740010
  | .telScrubCfg => 0x740014
  | .telFaultSeq => 0x740018
  | .telLogStatus => 0x740020
  | .telWrap => 0x741000
  | .cfgLeaseCtrl => 0x100060
  | .cfgLeaseCfg => 0x100064
  | .cfgLeaseStatus => 0x100068
  | .pcieFnCfg => 0x7C0000
  | .pcieFnStatus => 0x7C0004
  | .pcieRingBase => 0x7C0100
  | .pcieRingCfg => 0x7C0108
  | .pcieRingHostIdx => 0x7C010C
  | .pcieRingPartIdx => 0x7C0110
  | .i3cStatus => 0x7D0000
  | .dbgSel => 0x7E0000

/-- True for the 64-bit registers. -/
def Reg.is64 : Reg → Bool
  | .coreNbrExpect => true
  | .coreNbr => true
  | .coreHelloCfg => true
  | .optModAcc => true
  | .lpmRouterMac => true
  | .corePoolStatus => true
  | .schDrrCfg => true
  | .gateCycleCfg => true
  | .optCfg => true
  | .optPlanNext => true
  | .optRingStatus => true
  | .cvtScfg => true
  | .cvtAmax => true
  | .cvtSstatus => true
  | .cvtEscCfg => true
  | .engInstHead => true
  | .engInstStatus => true
  | .engHbmMap => true
  | .svcLoadSrc => true
  | .svcLoadDst => true
  | .redLbStatus => true
  | .promCfg => true
  | .promObjStatus => true
  | .promObjInfo => true
  | .gwLastPoison => true
  | .fenCfg => true
  | .fenWeight => true
  | .fenGidStatus => true
  | .cfgSlotVersion => true
  | .secId => true
  | .secI3cPid => true
  | .secDbgAddr => true
  | .pwrCfg => true
  | .pwrStatus => true
  | .telSnapStatus => true
  | .telFaultSeq => true
  | .telLogStatus => true
  | .cfgLeaseStatus => true
  | .pcieRingBase => true
  | _ => false

/-- The dimensions of an indexed register, widest stride first. -/
def Reg.dims : Reg → List Dim
  | .cfgRegionStatus => [Dim.mk 4 8 1]
  | .coreLaneStatus => [Dim.mk 4 512 1]
  | .corePortCfg => [Dim.mk 16 512 1]
  | .corePortStatus => [Dim.mk 16 512 1]
  | .coreNbrExpect => [Dim.mk 16 512 1]
  | .coreNbr => [Dim.mk 8 512 1]
  | .optModStatus => [Dim.mk 4 64 1]
  | .dtPortLearn => [Dim.mk 4 512 1]
  | .tblData => [Dim.mk 4 16 1]
  | .coreAdmCfg => [Dim.mk 16 8 1]
  | .coreAgeLimit => [Dim.mk 16 8 1]
  | .coreMarkCfg => [Dim.mk 16 8 1]
  | .coreEgrCfg => [Dim.mk 16 8 1]
  | .corePoolStatus => [Dim.mk 8 8 1]
  | .schPortCfg => [Dim.mk 16 512 1]
  | .schPortStatus => [Dim.mk 16 512 1]
  | .schDrrCfg => [Dim.mk 16 512 1]
  | .schShape => [Dim.mk 64 512 8, Dim.mk 8 7 1]
  | .schIpol => [Dim.mk 64 512 8, Dim.mk 8 8 1]
  | .gatePortCtrl => [Dim.mk 16 512 1]
  | .gatePortStatus => [Dim.mk 16 512 1]
  | .gateList => [Dim.mk 512 512 128, Dim.mk 256 2 64, Dim.mk 4 64 1]
  | .timePortCfg => [Dim.mk 16 512 1]
  | .optSlotCtrl => [Dim.mk 4 64 1]
  | .optChanCfg => [Dim.mk 16 512 1]
  | .optChanStatus => [Dim.mk 16 512 1]
  | .optPlanNext => [Dim.mk 16 512 1]
  | .optRingStatus => [Dim.mk 16 512 2, Dim.mk 8 2 1]
  | .optLinePwr => [Dim.mk 128 64 32, Dim.mk 4 32 1]
  | .oclStatus => [Dim.mk 4 64 1]
  | .cvtScfg => [Dim.mk 32 256 1]
  | .cvtAmax => [Dim.mk 32 256 1]
  | .cvtSstatus => [Dim.mk 32 256 1]
  | .cvtSctrl => [Dim.mk 32 256 1]
  | .cvtEscCfg => [Dim.mk 16 256 1]
  | .cvtEscNext => [Dim.mk 16 256 1]
  | .engInstEvt => [Dim.mk 4 8 1]
  | .engHbmMap => [Dim.mk 8 4 1]
  | .engUtil => [Dim.mk 4 8 1]
  | .engSat => [Dim.mk 16 8 4, Dim.mk 4 4 1]
  | .svcGid => [Dim.mk 8 16 1]
  | .svcStatus => [Dim.mk 16 64 1]
  | .redLbStatus => [Dim.mk 8 64 1]
  | .cmnStatus => [Dim.mk 4 8 1]
  | .promSpine => [Dim.mk 4 256 1]
  | .gwStatus => [Dim.mk 4 8 1]
  | .fenSpine => [Dim.mk 4 64 1]
  | .fenPort => [Dim.mk 4 512 1]
  | .cfgSlotStatus => [Dim.mk 4 2 1]
  | .cfgSlotVersion => [Dim.mk 8 2 1]
  | .cfgFlashData => [Dim.mk 4 64 1]
  | .secOwnerHash => [Dim.mk 4 12 1]
  | .secDbgNonce => [Dim.mk 4 8 1]
  | .pwrRegionStatus => [Dim.mk 4 8 1]
  | .pwrCbGrant => [Dim.mk 4 64 1]
  | .telWrap => [Dim.mk 4 512 1]
  | .pcieRingBase => [Dim.mk 32 3 1]
  | .pcieRingCfg => [Dim.mk 32 3 1]
  | .pcieRingHostIdx => [Dim.mk 32 3 1]
  | .pcieRingPartIdx => [Dim.mk 32 3 1]
  | _ => []

/-- True for the registers that each function sees as its own at the same offset (chapter 18). -/
def Reg.perFn : Reg → Bool
  | .cfgLeaseCtrl => true
  | .pcieFnCfg => true
  | .pcieFnStatus => true
  | .pcieRingBase => true
  | .pcieRingCfg => true
  | .pcieRingHostIdx => true
  | .pcieRingPartIdx => true
  | _ => false

/-- The fields of a register, most significant first; every bit not named is reserved (R8). -/
def Reg.fields : Reg → List FieldAt
  | .cfgSync => [FieldAt.mk Fld.cfgSync_sync 0 Access.cmd]
  | .cfgFaultSummary => [FieldAt.mk Fld.cfgFaultSummary_chipFatal 31 Access.ro,
      FieldAt.mk Fld.cfgFaultSummary_ctlOneFailed 30 Access.ro,
      FieldAt.mk Fld.cfgFaultSummary_hbmFailed 26 Access.ro,
      FieldAt.mk Fld.cfgFaultSummary_degraded 24 Access.ro,
      FieldAt.mk Fld.cfgFaultSummary_regionEvent 16 Access.w1c,
      FieldAt.mk Fld.cfgFaultSummary_regionFailed 0 Access.ro]
  | .cfgRegionStatus => [FieldAt.mk Fld.cfgRegionStatus_regionFailed 31 Access.ro,
      FieldAt.mk Fld.cfgRegionStatus_netFail 26 Access.ro,
      FieldAt.mk Fld.cfgRegionStatus_chipletFail 25 Access.ro,
      FieldAt.mk Fld.cfgRegionStatus_svFail 24 Access.ro,
      FieldAt.mk Fld.cfgRegionStatus_cbFail 16 Access.ro,
      FieldAt.mk Fld.cfgRegionStatus_lbFail 8 Access.ro]
  | .corePktCtrl => [FieldAt.mk Fld.corePktCtrl_puntExpired 9 Access.rw,
      FieldAt.mk Fld.corePktCtrl_hopsInit 0 Access.rw]
  | .coreEthPcpMap => [FieldAt.mk Fld.coreEthPcpMap_untaggedTc 24 Access.rw,
      FieldAt.mk Fld.coreEthPcpMap_pcpTc 0 Access.rw]
  | .coreLaneTest => [FieldAt.mk Fld.coreLaneTest_start 31 Access.cmd,
      FieldAt.mk Fld.coreLaneTest_all 30 Access.rw,
      FieldAt.mk Fld.coreLaneTest_external 29 Access.rw,
      FieldAt.mk Fld.coreLaneTest_accept 26 Access.ro,
      FieldAt.mk Fld.coreLaneTest_lane 0 Access.rw]
  | .coreLaneStatus => [FieldAt.mk Fld.coreLaneStatus_sigDet 31 Access.ro,
      FieldAt.mk Fld.coreLaneStatus_cdrLock 30 Access.ro,
      FieldAt.mk Fld.coreLaneStatus_fecLock 29 Access.ro,
      FieldAt.mk Fld.coreLaneStatus_rxPolInv 28 Access.ro,
      FieldAt.mk Fld.coreLaneStatus_testResult 26 Access.ro,
      FieldAt.mk Fld.coreLaneStatus_underTest 25 Access.ro,
      FieldAt.mk Fld.coreLaneStatus_failed 24 Access.ro,
      FieldAt.mk Fld.coreLaneStatus_ser 0 Access.ro]
  | .corePortCfg => [FieldAt.mk Fld.corePortCfg_en 31 Access.rw,
      FieldAt.mk Fld.corePortCfg_width 26 Access.rw,
      FieldAt.mk Fld.corePortCfg_mode 24 Access.rw,
      FieldAt.mk Fld.corePortCfg_degradeOk 23 Access.rw,
      FieldAt.mk Fld.corePortCfg_bypass 22 Access.rw,
      FieldAt.mk Fld.corePortCfg_trainRetries 16 Access.rw,
      FieldAt.mk Fld.corePortCfg_drain 15 Access.rw]
  | .corePortStatus => [FieldAt.mk Fld.corePortStatus_state 29 Access.ro,
      FieldAt.mk Fld.corePortStatus_widthNow 27 Access.ro,
      FieldAt.mk Fld.corePortStatus_wrongPeer 26 Access.ro,
      FieldAt.mk Fld.corePortStatus_drained 25 Access.ro,
      FieldAt.mk Fld.corePortStatus_cfgRefused 24 Access.w1c,
      FieldAt.mk Fld.corePortStatus_stateEvent 23 Access.w1c,
      FieldAt.mk Fld.corePortStatus_failReason 16 Access.ro,
      FieldAt.mk Fld.corePortStatus_lanesUp 8 Access.ro,
      FieldAt.mk Fld.corePortStatus_attempts 0 Access.ro]
  | .coreNbrExpect => [FieldAt.mk Fld.coreNbrExpect_valid 63 Access.rw,
      FieldAt.mk Fld.coreNbrExpect_peerGid 38 Access.rw,
      FieldAt.mk Fld.coreNbrExpect_peerPort 16 Access.rw]
  | .coreNbr => [FieldAt.mk Fld.coreNbr_valid 63 Access.ro,
      FieldAt.mk Fld.coreNbr_draining 62 Access.ro,
      FieldAt.mk Fld.coreNbr_noGid 61 Access.ro,
      FieldAt.mk Fld.coreNbr_peerType 56 Access.ro,
      FieldAt.mk Fld.coreNbr_peerGid 38 Access.ro,
      FieldAt.mk Fld.coreNbr_peerPort 16 Access.ro,
      FieldAt.mk Fld.coreNbr_age 0 Access.ro]
  | .coreHelloCfg => [FieldAt.mk Fld.coreHelloCfg_fabricId 32 Access.rw,
      FieldAt.mk Fld.coreHelloCfg_pod 16 Access.rw,
      FieldAt.mk Fld.coreHelloCfg_plane 8 Access.rw]
  | .optModAcc => [FieldAt.mk Fld.optModAcc_start 63 Access.cmd,
      FieldAt.mk Fld.optModAcc_write 62 Access.rw,
      FieldAt.mk Fld.optModAcc_slot 56 Access.rw,
      FieldAt.mk Fld.optModAcc_bank 48 Access.rw,
      FieldAt.mk Fld.optModAcc_page 40 Access.rw,
      FieldAt.mk Fld.optModAcc_byte 32 Access.rw,
      FieldAt.mk Fld.optModAcc_status 24 Access.ro,
      FieldAt.mk Fld.optModAcc_data 0 Access.rw]
  | .optModStatus => [FieldAt.mk Fld.optModStatus_present 31 Access.ro,
      FieldAt.mk Fld.optModStatus_s8 30 Access.ro,
      FieldAt.mk Fld.optModStatus_trefy 29 Access.ro,
      FieldAt.mk Fld.optModStatus_ready 28 Access.ro,
      FieldAt.mk Fld.optModStatus_modEvent 27 Access.w1c,
      FieldAt.mk Fld.optModStatus_cmisRev 16 Access.ro,
      FieldAt.mk Fld.optModStatus_powerClass 12 Access.ro,
      FieldAt.mk Fld.optModStatus_dpActive 0 Access.ro]
  | .lgHashSeed => [FieldAt.mk Fld.lgHashSeed_seed 0 Access.rw]
  | .dtLearnCfg => [FieldAt.mk Fld.dtLearnCfg_en 31 Access.rw,
      FieldAt.mk Fld.dtLearnCfg_create 30 Access.rw]
  | .dtLearnStatus => [FieldAt.mk Fld.dtLearnStatus_frozenEvent 31 Access.w1c,
      FieldAt.mk Fld.dtLearnStatus_lastFrozen 0 Access.ro]
  | .dtPortLearn => [FieldAt.mk Fld.dtPortLearn_learn 31 Access.rw,
      FieldAt.mk Fld.dtPortLearn_group 0 Access.rw]
  | .corePuntCfg => [FieldAt.mk Fld.corePuntCfg_rate 16 Access.rw,
      FieldAt.mk Fld.corePuntCfg_burst 0 Access.rw]
  | .lpmScrubCfg => [FieldAt.mk Fld.lpmScrubCfg_en 31 Access.rw,
      FieldAt.mk Fld.lpmScrubCfg_period 0 Access.rw]
  | .lpmRouterMac => [FieldAt.mk Fld.lpmRouterMac_mac 0 Access.rw]
  | .tblCmd => [FieldAt.mk Fld.tblCmd_start 31 Access.cmd,
      FieldAt.mk Fld.tblCmd_op 28 Access.rw,
      FieldAt.mk Fld.tblCmd_table 24 Access.rw,
      FieldAt.mk Fld.tblCmd_all 23 Access.rw,
      FieldAt.mk Fld.tblCmd_index 0 Access.rw]
  | .tblStatus => [FieldAt.mk Fld.tblStatus_result 28 Access.ro,
      FieldAt.mk Fld.tblStatus_rindex 0 Access.ro]
  | .tblData => [FieldAt.mk Fld.tblData_data 0 Access.rw]
  | .coreAdmCfg => [FieldAt.mk Fld.coreAdmCfg_reserve 16 Access.rw,
      FieldAt.mk Fld.coreAdmCfg_alpha 12 Access.rw,
      FieldAt.mk Fld.coreAdmCfg_spillOn 0 Access.rw]
  | .coreAgeLimit => [FieldAt.mk Fld.coreAgeLimit_limit 0 Access.rw]
  | .coreMarkCfg => [FieldAt.mk Fld.coreMarkCfg_en 31 Access.rw,
      FieldAt.mk Fld.coreMarkCfg_high 16 Access.rw,
      FieldAt.mk Fld.coreMarkCfg_low 0 Access.rw]
  | .coreEgrCfg => [FieldAt.mk Fld.coreEgrCfg_cut 31 Access.rw,
      FieldAt.mk Fld.coreEgrCfg_stop 0 Access.rw]
  | .coreReseqCfg => [FieldAt.mk Fld.coreReseqCfg_timeout 16 Access.rw,
      FieldAt.mk Fld.coreReseqCfg_cutHold 8 Access.rw]
  | .voqSpillCfg => [FieldAt.mk Fld.voqSpillCfg_en 31 Access.rw,
      FieldAt.mk Fld.voqSpillCfg_size 24 Access.rw,
      FieldAt.mk Fld.voqSpillCfg_voqMax 0 Access.rw]
  | .corePoolStatus => [FieldAt.mk Fld.corePoolStatus_spillUsed 32 Access.ro,
      FieldAt.mk Fld.corePoolStatus_free 0 Access.ro]
  | .schPortCfg => [FieldAt.mk Fld.schPortCfg_guard 31 Access.rw,
      FieldAt.mk Fld.schPortCfg_expressDepth 24 Access.rw,
      FieldAt.mk Fld.schPortCfg_overhead 0 Access.rw]
  | .schPortStatus => [FieldAt.mk Fld.schPortStatus_tc7Backlog 16 Access.ro,
      FieldAt.mk Fld.schPortStatus_tc7Peak 0 Access.w1c]
  | .schDrrCfg => [FieldAt.mk Fld.schDrrCfg_q5 50 Access.rw,
      FieldAt.mk Fld.schDrrCfg_q4 40 Access.rw,
      FieldAt.mk Fld.schDrrCfg_q3 30 Access.rw,
      FieldAt.mk Fld.schDrrCfg_q2 20 Access.rw,
      FieldAt.mk Fld.schDrrCfg_q1 10 Access.rw,
      FieldAt.mk Fld.schDrrCfg_q0 0 Access.rw]
  | .schShape => [FieldAt.mk Fld.schShape_en 31 Access.rw,
      FieldAt.mk Fld.schShape_rate 16 Access.rw,
      FieldAt.mk Fld.schShape_burst 0 Access.rw]
  | .schIpol => [FieldAt.mk Fld.schIpol_en 31 Access.rw,
      FieldAt.mk Fld.schIpol_rate 16 Access.rw,
      FieldAt.mk Fld.schIpol_burst 0 Access.rw]
  | .gateCycleCfg => [FieldAt.mk Fld.gateCycleCfg_cycleTime 40 Access.rw,
      FieldAt.mk Fld.gateCycleCfg_stepLimit 20 Access.rw,
      FieldAt.mk Fld.gateCycleCfg_en 0 Access.rw]
  | .gateNextCycleStart => [FieldAt.mk Fld.gateNextCycleStart_start 0 Access.rw]
  | .gateCycleCtrl => [FieldAt.mk Fld.gateCycleCtrl_arm 31 Access.cmd,
      FieldAt.mk Fld.gateCycleCtrl_running 30 Access.ro,
      FieldAt.mk Fld.gateCycleCtrl_startLate 29 Access.w1c]
  | .gateSyncCfg => [FieldAt.mk Fld.gateSyncCfg_syncInEn 31 Access.rw,
      FieldAt.mk Fld.gateSyncCfg_syncOutEn 30 Access.rw,
      FieldAt.mk Fld.gateSyncCfg_outDiv 16 Access.rw]
  | .gateSyncStatus => [FieldAt.mk Fld.gateSyncStatus_stepEvent 31 Access.w1c,
      FieldAt.mk Fld.gateSyncStatus_outsideEvent 30 Access.w1c,
      FieldAt.mk Fld.gateSyncStatus_lastOffset 0 Access.ro]
  | .gateSyncEdge => [FieldAt.mk Fld.gateSyncEdge_te 0 Access.ro]
  | .gatePortCtrl => [FieldAt.mk Fld.gatePortCtrl_en 31 Access.rw,
      FieldAt.mk Fld.gatePortCtrl_commit 30 Access.cmd,
      FieldAt.mk Fld.gatePortCtrl_active 29 Access.ro,
      FieldAt.mk Fld.gatePortCtrl_len1 8 Access.rw,
      FieldAt.mk Fld.gatePortCtrl_len0 0 Access.rw]
  | .gatePortStatus => [FieldAt.mk Fld.gatePortStatus_activeWrite 31 Access.w1c,
      FieldAt.mk Fld.gatePortStatus_curState 8 Access.ro,
      FieldAt.mk Fld.gatePortStatus_curEntry 0 Access.ro]
  | .gateList => [FieldAt.mk Fld.gateList_state 24 Access.rw,
      FieldAt.mk Fld.gateList_duration 0 Access.rw]
  | .timeNs => [FieldAt.mk Fld.timeNs_count 0 Access.ro]
  | .timeRate => [FieldAt.mk Fld.timeRate_rate 0 Access.rw]
  | .timeStep => [FieldAt.mk Fld.timeStep_step 0 Access.wo]
  | .timeStatus => [FieldAt.mk Fld.timeStatus_wrap 31 Access.w1c,
      FieldAt.mk Fld.timeStatus_unwrap 30 Access.w1c,
      FieldAt.mk Fld.timeStatus_stepped 29 Access.w1c]
  | .timePortCfg => [FieldAt.mk Fld.timePortCfg_tcEn 31 Access.rw,
      FieldAt.mk Fld.timePortCfg_rxAdj 8 Access.rw,
      FieldAt.mk Fld.timePortCfg_txAdj 0 Access.rw]
  | .optCfg => [FieldAt.mk Fld.optCfg_calEn 63 Access.rw,
      FieldAt.mk Fld.optCfg_calPeriod 48 Access.rw,
      FieldAt.mk Fld.optCfg_calHold 38 Access.rw,
      FieldAt.mk Fld.optCfg_peerWait 30 Access.rw,
      FieldAt.mk Fld.optCfg_warnDb 23 Access.rw,
      FieldAt.mk Fld.optCfg_drainDb 16 Access.rw,
      FieldAt.mk Fld.optCfg_idMargin 12 Access.rw]
  | .optLoopCfg => [FieldAt.mk Fld.optLoopCfg_kp 24 Access.rw,
      FieldAt.mk Fld.optLoopCfg_ki 16 Access.rw,
      FieldAt.mk Fld.optLoopCfg_lpf 12 Access.rw,
      FieldAt.mk Fld.optLoopCfg_ditherAmp 8 Access.rw,
      FieldAt.mk Fld.optLoopCfg_lockThr 0 Access.rw]
  | .optPlanTime => [FieldAt.mk Fld.optPlanTime_act 0 Access.rw]
  | .optPlanCtrl => [FieldAt.mk Fld.optPlanCtrl_arm 31 Access.cmd,
      FieldAt.mk Fld.optPlanCtrl_planLate 30 Access.w1c,
      FieldAt.mk Fld.optPlanCtrl_planConflict 29 Access.w1c,
      FieldAt.mk Fld.optPlanCtrl_writeIgnored 28 Access.w1c,
      FieldAt.mk Fld.optPlanCtrl_conflictLane 19 Access.ro,
      FieldAt.mk Fld.optPlanCtrl_drainLead 10 Access.rw]
  | .optCalStatus => [FieldAt.mk Fld.optCalStatus_active 31 Access.ro,
      FieldAt.mk Fld.optCalStatus_roundEvent 30 Access.w1c,
      FieldAt.mk Fld.optCalStatus_lane 18 Access.ro,
      FieldAt.mk Fld.optCalStatus_roundTime 0 Access.ro]
  | .optSlotCtrl => [FieldAt.mk Fld.optSlotCtrl_recapture 31 Access.cmd,
      FieldAt.mk Fld.optSlotCtrl_refValid 30 Access.ro,
      FieldAt.mk Fld.optSlotCtrl_spareUsed 29 Access.ro,
      FieldAt.mk Fld.optSlotCtrl_spareChan 26 Access.ro]
  | .optChanCfg => [FieldAt.mk Fld.optChanCfg_txLine 23 Access.rw,
      FieldAt.mk Fld.optChanCfg_rxLine 18 Access.rw,
      FieldAt.mk Fld.optChanCfg_txDither 9 Access.rw,
      FieldAt.mk Fld.optChanCfg_rxDither 0 Access.rw]
  | .optChanStatus => [FieldAt.mk Fld.optChanStatus_txLock 31 Access.ro,
      FieldAt.mk Fld.optChanStatus_rxLock 30 Access.ro,
      FieldAt.mk Fld.optChanStatus_wrongLine 29 Access.w1c,
      FieldAt.mk Fld.optChanStatus_ringFailed 28 Access.ro,
      FieldAt.mk Fld.optChanStatus_fadeWarn 27 Access.ro,
      FieldAt.mk Fld.optChanStatus_fadeHold 26 Access.ro,
      FieldAt.mk Fld.optChanStatus_cfgRefused 25 Access.w1c,
      FieldAt.mk Fld.optChanStatus_spare 24 Access.ro,
      FieldAt.mk Fld.optChanStatus_calAge 0 Access.ro]
  | .optPlanNext => [FieldAt.mk Fld.optPlanNext_pending 63 Access.rw,
      FieldAt.mk Fld.optPlanNext_peerValid 62 Access.rw,
      FieldAt.mk Fld.optPlanNext_nextTx 57 Access.rw,
      FieldAt.mk Fld.optPlanNext_nextRx 52 Access.rw,
      FieldAt.mk Fld.optPlanNext_nextPeerGid 34 Access.rw,
      FieldAt.mk Fld.optPlanNext_nextPeerPort 16 Access.rw]
  | .optRingStatus => [FieldAt.mk Fld.optRingStatus_lock 63 Access.ro,
      FieldAt.mk Fld.optRingStatus_sweep 62 Access.ro,
      FieldAt.mk Fld.optRingStatus_idLine 57 Access.ro,
      FieldAt.mk Fld.optRingStatus_sweepDue 56 Access.ro,
      FieldAt.mk Fld.optRingStatus_heater 40 Access.ro,
      FieldAt.mk Fld.optRingStatus_tableCode 28 Access.ro,
      FieldAt.mk Fld.optRingStatus_err 0 Access.ro]
  | .optLinePwr => [FieldAt.mk Fld.optLinePwr_warn 31 Access.ro,
      FieldAt.mk Fld.optLinePwr_drain 30 Access.ro,
      FieldAt.mk Fld.optLinePwr_refValid 29 Access.ro,
      FieldAt.mk Fld.optLinePwr_rel 0 Access.ro]
  | .oclStatus => [FieldAt.mk Fld.oclStatus_sync 31 Access.ro,
      FieldAt.mk Fld.oclStatus_oclEvent 30 Access.w1c]
  | .cvtScfg => [FieldAt.mk Fld.cvtScfg_ownerValid 63 Access.rw,
      FieldAt.mk Fld.cvtScfg_owner 48 Access.rw,
      FieldAt.mk Fld.cvtScfg_scaleMode 46 Access.rw,
      FieldAt.mk Fld.cvtScfg_round 45 Access.rw,
      FieldAt.mk Fld.cvtScfg_escEn 44 Access.rw,
      FieldAt.mk Fld.cvtScfg_sampleEn 43 Access.rw,
      FieldAt.mk Fld.cvtScfg_sampleLog2 39 Access.rw,
      FieldAt.mk Fld.cvtScfg_margin 36 Access.rw,
      FieldAt.mk Fld.cvtScfg_qevt 32 Access.rw,
      FieldAt.mk Fld.cvtScfg_fixedScale 24 Access.rw,
      FieldAt.mk Fld.cvtScfg_qthr 0 Access.rw]
  | .cvtAmax => [FieldAt.mk Fld.cvtAmax_amaxPrev 32 Access.rw,
      FieldAt.mk Fld.cvtAmax_amax 0 Access.ro]
  | .cvtSstatus => [FieldAt.mk Fld.cvtSstatus_qerr 32 Access.ro,
      FieldAt.mk Fld.cvtSstatus_qerrEvent 31 Access.w1c,
      FieldAt.mk Fld.cvtSstatus_qerrHigh 30 Access.ro,
      FieldAt.mk Fld.cvtSstatus_amaxFallback 29 Access.w1c,
      FieldAt.mk Fld.cvtSstatus_escFull 28 Access.w1c,
      FieldAt.mk Fld.cvtSstatus_busy 27 Access.ro]
  | .cvtSctrl => [FieldAt.mk Fld.cvtSctrl_step 31 Access.cmd,
      FieldAt.mk Fld.cvtSctrl_qclr 30 Access.cmd]
  | .cvtEscCfg => [FieldAt.mk Fld.cvtEscCfg_base 24 Access.rw,
      FieldAt.mk Fld.cvtEscCfg_cap 0 Access.rw]
  | .cvtEscNext => [FieldAt.mk Fld.cvtEscNext_next 0 Access.rw]
  | .engInstCmd => [FieldAt.mk Fld.engInstCmd_start 31 Access.cmd,
      FieldAt.mk Fld.engInstCmd_op 28 Access.rw,
      FieldAt.mk Fld.engInstCmd_result 24 Access.ro,
      FieldAt.mk Fld.engInstCmd_ctr 20 Access.rw,
      FieldAt.mk Fld.engInstCmd_inst 0 Access.rw]
  | .engInstHead => [FieldAt.mk Fld.engInstHead_mode 56 Access.rw,
      FieldAt.mk Fld.engInstHead_region 48 Access.rw,
      FieldAt.mk Fld.engInstHead_head 0 Access.rw]
  | .engInstStatus => [FieldAt.mk Fld.engInstStatus_state 61 Access.ro,
      FieldAt.mk Fld.engInstStatus_fault 56 Access.ro,
      FieldAt.mk Fld.engInstStatus_flags 48 Access.ro,
      FieldAt.mk Fld.engInstStatus_desc 0 Access.ro]
  | .engInstEvt => [FieldAt.mk Fld.engInstEvt_odd 16 Access.ro,
      FieldAt.mk Fld.engInstEvt_even 0 Access.ro]
  | .engHostCfg => [FieldAt.mk Fld.engHostCfg_hostInst 0 Access.rw]
  | .engStealCfg => [FieldAt.mk Fld.engStealCfg_sibEn 31 Access.rw,
      FieldAt.mk Fld.engStealCfg_cutEn 30 Access.rw,
      FieldAt.mk Fld.engStealCfg_portThr 16 Access.rw,
      FieldAt.mk Fld.engStealCfg_satThr 8 Access.rw]
  | .engXfeCfg => [FieldAt.mk Fld.engXfeCfg_retryUs 16 Access.rw,
      FieldAt.mk Fld.engXfeCfg_retries 12 Access.rw]
  | .engHbmMap => [FieldAt.mk Fld.engHbmMap_genTop 0 Access.ro]
  | .engUtil => [FieldAt.mk Fld.engUtil_block 24 Access.ro,
      FieldAt.mk Fld.engUtil_region 16 Access.ro,
      FieldAt.mk Fld.engUtil_net 8 Access.ro,
      FieldAt.mk Fld.engUtil_hbm 0 Access.ro]
  | .engSat => [FieldAt.mk Fld.engSat_count 0 Access.ro]
  | .svcGid => [FieldAt.mk Fld.svcGid_valid 31 Access.rw,
      FieldAt.mk Fld.svcGid_refused 30 Access.w1c,
      FieldAt.mk Fld.svcGid_gid 0 Access.rw]
  | .svcCfg => [FieldAt.mk Fld.svcCfg_steerLearn 31 Access.rw,
      FieldAt.mk Fld.svcCfg_steerCreate 30 Access.rw,
      FieldAt.mk Fld.svcCfg_asmTimeout 0 Access.rw]
  | .svcSteerStatus => [FieldAt.mk Fld.svcSteerStatus_frozenEvent 31 Access.w1c,
      FieldAt.mk Fld.svcSteerStatus_lastFrozen 0 Access.ro]
  | .svcLoadSrc => [FieldAt.mk Fld.svcLoadSrc_prom 63 Access.rw,
      FieldAt.mk Fld.svcLoadSrc_object 40 Access.rw,
      FieldAt.mk Fld.svcLoadSrc_addr 0 Access.rw]
  | .svcLoadDst => [FieldAt.mk Fld.svcLoadDst_addr 0 Access.rw]
  | .svcLoadCmd => [FieldAt.mk Fld.svcLoadCmd_start 31 Access.cmd,
      FieldAt.mk Fld.svcLoadCmd_result 28 Access.ro,
      FieldAt.mk Fld.svcLoadCmd_size 0 Access.rw]
  | .svcStatus => [FieldAt.mk Fld.svcStatus_ready 31 Access.ro,
      FieldAt.mk Fld.svcStatus_building 30 Access.ro,
      FieldAt.mk Fld.svcStatus_paramBad 29 Access.ro,
      FieldAt.mk Fld.svcStatus_scratchLost 28 Access.ro,
      FieldAt.mk Fld.svcStatus_live 12 Access.ro,
      FieldAt.mk Fld.svcStatus_waiting 0 Access.ro]
  | .redLbStatus => [FieldAt.mk Fld.redLbStatus_open 32 Access.ro,
      FieldAt.mk Fld.redLbStatus_done 16 Access.ro,
      FieldAt.mk Fld.redLbStatus_used 0 Access.ro]
  | .redFenceStatus => [FieldAt.mk Fld.redFenceStatus_scanning 31 Access.ro,
      FieldAt.mk Fld.redFenceStatus_degradeEvent 30 Access.w1c,
      FieldAt.mk Fld.redFenceStatus_lastGid 0 Access.ro]
  | .cmnCfg => [FieldAt.mk Fld.cmnCfg_window 0 Access.rw]
  | .cmnCtrl => [FieldAt.mk Fld.cmnCtrl_clear 31 Access.cmd,
      FieldAt.mk Fld.cmnCtrl_regions 0 Access.rw]
  | .cmnStatus => [FieldAt.mk Fld.cmnStatus_slotsUsed 16 Access.ro,
      FieldAt.mk Fld.cmnStatus_poisoned 0 Access.ro]
  | .promCfg => [FieldAt.mk Fld.promCfg_size 56 Access.rw,
      FieldAt.mk Fld.promCfg_spinesM1 48 Access.rw,
      FieldAt.mk Fld.promCfg_index 40 Access.rw,
      FieldAt.mk Fld.promCfg_tc 37 Access.rw,
      FieldAt.mk Fld.promCfg_fetchMs 16 Access.rw]
  | .promCmd => [FieldAt.mk Fld.promCmd_start 31 Access.cmd,
      FieldAt.mk Fld.promCmd_op 28 Access.rw,
      FieldAt.mk Fld.promCmd_result 24 Access.ro,
      FieldAt.mk Fld.promCmd_object 0 Access.rw]
  | .promObjStatus => [FieldAt.mk Fld.promObjStatus_total 32 Access.ro,
      FieldAt.mk Fld.promObjStatus_held 0 Access.ro]
  | .promObjInfo => [FieldAt.mk Fld.promObjInfo_known 63 Access.ro,
      FieldAt.mk Fld.promObjInfo_complete 62 Access.ro,
      FieldAt.mk Fld.promObjInfo_lastLen 32 Access.ro,
      FieldAt.mk Fld.promObjInfo_source 0 Access.ro]
  | .promUsage => [FieldAt.mk Fld.promUsage_used 0 Access.ro]
  | .promSpine => [FieldAt.mk Fld.promSpine_valid 31 Access.rw,
      FieldAt.mk Fld.promSpine_gid 0 Access.rw]
  | .gwMode => [FieldAt.mk Fld.gwMode_refused 31 Access.w1c,
      FieldAt.mk Fld.gwMode_modeEvent 30 Access.w1c,
      FieldAt.mk Fld.gwMode_mode 0 Access.rw]
  | .gwPermit => [FieldAt.mk Fld.gwPermit_recovery 3 Access.ro,
      FieldAt.mk Fld.gwPermit_test 2 Access.ro,
      FieldAt.mk Fld.gwPermit_startup 1 Access.ro]
  | .gwCfg => [FieldAt.mk Fld.gwCfg_timeoutUs 22 Access.rw,
      FieldAt.mk Fld.gwCfg_coalNs 12 Access.rw,
      FieldAt.mk Fld.gwCfg_retries 8 Access.rw]
  | .gwLastPoison => [FieldAt.mk Fld.gwLastPoison_gid 46 Access.ro,
      FieldAt.mk Fld.gwLastPoison_addr 0 Access.ro]
  | .gwStatus => [FieldAt.mk Fld.gwStatus_outstanding 10 Access.ro,
      FieldAt.mk Fld.gwStatus_buffers 0 Access.ro]
  | .fenCfg => [FieldAt.mk Fld.fenCfg_en 63 Access.rw,
      FieldAt.mk Fld.fenCfg_quorum 56 Access.rw,
      FieldAt.mk Fld.fenCfg_thr 48 Access.rw,
      FieldAt.mk Fld.fenCfg_budget 40 Access.rw,
      FieldAt.mk Fld.fenCfg_voteUs 28 Access.rw,
      FieldAt.mk Fld.fenCfg_recoverMs 20 Access.rw,
      FieldAt.mk Fld.fenCfg_readmitHoldMs 8 Access.rw]
  | .fenCfg2 => [FieldAt.mk Fld.fenCfg2_noticeMcg 18 Access.rw,
      FieldAt.mk Fld.fenCfg2_rackAgeMs 8 Access.rw,
      FieldAt.mk Fld.fenCfg2_linkThr 0 Access.rw]
  | .fenWeight => [FieldAt.mk Fld.fenWeight_wNack 32 Access.rw,
      FieldAt.mk Fld.fenWeight_wCw 24 Access.rw,
      FieldAt.mk Fld.fenWeight_wLoss 16 Access.rw,
      FieldAt.mk Fld.fenWeight_wTimeout 8 Access.rw,
      FieldAt.mk Fld.fenWeight_wReq 0 Access.rw]
  | .fenStatus => [FieldAt.mk Fld.fenStatus_storm 31 Access.ro,
      FieldAt.mk Fld.fenStatus_stormEvent 30 Access.w1c,
      FieldAt.mk Fld.fenStatus_fenceEvent 29 Access.w1c,
      FieldAt.mk Fld.fenStatus_linkEvent 28 Access.w1c,
      FieldAt.mk Fld.fenStatus_suspects 16 Access.ro,
      FieldAt.mk Fld.fenStatus_windowCount 8 Access.ro]
  | .fenCtrl => [FieldAt.mk Fld.fenCtrl_stormClear 31 Access.cmd]
  | .fenGidCmd => [FieldAt.mk Fld.fenGidCmd_start 31 Access.cmd,
      FieldAt.mk Fld.fenGidCmd_op 28 Access.rw,
      FieldAt.mk Fld.fenGidCmd_result 24 Access.ro,
      FieldAt.mk Fld.fenGidCmd_gid 0 Access.rw]
  | .fenGidStatus => [FieldAt.mk Fld.fenGidStatus_sitout 63 Access.ro,
      FieldAt.mk Fld.fenGidStatus_suspect 62 Access.ro,
      FieldAt.mk Fld.fenGidStatus_hold 61 Access.ro,
      FieldAt.mk Fld.fenGidStatus_cause 58 Access.ro,
      FieldAt.mk Fld.fenGidStatus_votesLow 40 Access.ro,
      FieldAt.mk Fld.fenGidStatus_score 32 Access.ro,
      FieldAt.mk Fld.fenGidStatus_rackScore 24 Access.ro,
      FieldAt.mk Fld.fenGidStatus_gid 0 Access.ro]
  | .fenSpine => [FieldAt.mk Fld.fenSpine_valid 31 Access.rw,
      FieldAt.mk Fld.fenSpine_gid 0 Access.rw]
  | .fenPort => [FieldAt.mk Fld.fenPort_fenced 31 Access.ro,
      FieldAt.mk Fld.fenPort_linkFence 30 Access.ro,
      FieldAt.mk Fld.fenPort_nbrFence 29 Access.ro,
      FieldAt.mk Fld.fenPort_clear 28 Access.cmd,
      FieldAt.mk Fld.fenPort_score 0 Access.ro]
  | .cfgState => [FieldAt.mk Fld.cfgState_state 29 Access.ro,
      FieldAt.mk Fld.cfgState_slot 28 Access.ro,
      FieldAt.mk Fld.cfgState_slotConflict 27 Access.w1c,
      FieldAt.mk Fld.cfgState_applyFallback 26 Access.w1c,
      FieldAt.mk Fld.cfgState_stateEvent 25 Access.w1c,
      FieldAt.mk Fld.cfgState_safeCause 22 Access.ro]
  | .cfgSlotStatus => [FieldAt.mk Fld.cfgSlotStatus_valid 31 Access.ro,
      FieldAt.mk Fld.cfgSlotStatus_reason 27 Access.ro]
  | .cfgSlotVersion => [FieldAt.mk Fld.cfgSlotVersion_version 0 Access.ro]
  | .cfgCtrl => [FieldAt.mk Fld.cfgCtrl_reboot 31 Access.cmd,
      FieldAt.mk Fld.cfgCtrl_key 0 Access.wo]
  | .cfgGid => [FieldAt.mk Fld.cfgGid_valid 31 Access.rw,
      FieldAt.mk Fld.cfgGid_refused 30 Access.w1c,
      FieldAt.mk Fld.cfgGid_gid 0 Access.rw]
  | .cfgFlashCmd => [FieldAt.mk Fld.cfgFlashCmd_start 31 Access.cmd,
      FieldAt.mk Fld.cfgFlashCmd_op 28 Access.rw,
      FieldAt.mk Fld.cfgFlashCmd_result 24 Access.ro,
      FieldAt.mk Fld.cfgFlashCmd_count 0 Access.rw]
  | .cfgFlashAddr => [FieldAt.mk Fld.cfgFlashAddr_addr 0 Access.rw]
  | .cfgFlashData => [FieldAt.mk Fld.cfgFlashData_data 0 Access.rw]
  | .cfgSelftest => [FieldAt.mk Fld.cfgSelftest_start 31 Access.cmd,
      FieldAt.mk Fld.cfgSelftest_full 30 Access.rw,
      FieldAt.mk Fld.cfgSelftest_mem 24 Access.rw,
      FieldAt.mk Fld.cfgSelftest_accept 21 Access.ro,
      FieldAt.mk Fld.cfgSelftest_cap 8 Access.rw]
  | .cfgSelftestStatus => [FieldAt.mk Fld.cfgSelftestStatus_running 31 Access.ro,
      FieldAt.mk Fld.cfgSelftestStatus_doneEvent 30 Access.w1c,
      FieldAt.mk Fld.cfgSelftestStatus_failed 24 Access.ro,
      FieldAt.mk Fld.cfgSelftestStatus_progress 16 Access.ro,
      FieldAt.mk Fld.cfgSelftestStatus_errors 0 Access.ro]
  | .secId => [FieldAt.mk Fld.secId_deviceId 0 Access.ro]
  | .secI3cPid => [FieldAt.mk Fld.secI3cPid_pid 0 Access.ro]
  | .secOwner => [FieldAt.mk Fld.secOwner_bound 31 Access.ro,
      FieldAt.mk Fld.secOwner_bind 30 Access.cmd,
      FieldAt.mk Fld.secOwner_result 28 Access.ro]
  | .secOwnerHash => [FieldAt.mk Fld.secOwnerHash_hash 0 Access.rw]
  | .secDbgNonce => [FieldAt.mk Fld.secDbgNonce_nonce 0 Access.ro]
  | .secDbgAddr => [FieldAt.mk Fld.secDbgAddr_addr 0 Access.rw]
  | .secDbgCtrl => [FieldAt.mk Fld.secDbgCtrl_submit 31 Access.cmd,
      FieldAt.mk Fld.secDbgCtrl_result 29 Access.ro,
      FieldAt.mk Fld.secDbgCtrl_enable 0 Access.ro]
  | .pwrCfg => [FieldAt.mk Fld.pwrCfg_pkgLimit 52 Access.rw,
      FieldAt.mk Fld.pwrCfg_swHeadroom 44 Access.rw,
      FieldAt.mk Fld.pwrCfg_rampUp 36 Access.rw,
      FieldAt.mk Fld.pwrCfg_rampDn 28 Access.rw,
      FieldAt.mk Fld.pwrCfg_hbmMin 20 Access.rw,
      FieldAt.mk Fld.pwrCfg_maxState 17 Access.rw]
  | .pwrIdleCfg => [FieldAt.mk Fld.pwrIdleCfg_c2Us 22 Access.rw,
      FieldAt.mk Fld.pwrIdleCfg_c3Ms 12 Access.rw,
      FieldAt.mk Fld.pwrIdleCfg_c4S 4 Access.rw]
  | .pwrThermCfg => [FieldAt.mk Fld.pwrThermCfg_throttle 24 Access.rw,
      FieldAt.mk Fld.pwrThermCfg_step 16 Access.rw]
  | .pwrStatus => [FieldAt.mk Fld.pwrStatus_pkgW 52 Access.ro,
      FieldAt.mk Fld.pwrStatus_floorW 40 Access.ro,
      FieldAt.mk Fld.pwrStatus_computeW 28 Access.ro,
      FieldAt.mk Fld.pwrStatus_hbmW 20 Access.ro,
      FieldAt.mk Fld.pwrStatus_tHot 12 Access.ro,
      FieldAt.mk Fld.pwrStatus_throttling 11 Access.ro,
      FieldAt.mk Fld.pwrStatus_limitLow 10 Access.ro,
      FieldAt.mk Fld.pwrStatus_throttleEvent 9 Access.w1c,
      FieldAt.mk Fld.pwrStatus_limitEvent 8 Access.w1c,
      FieldAt.mk Fld.pwrStatus_sensorFail 7 Access.ro]
  | .pwrRegionStatus => [FieldAt.mk Fld.pwrRegionStatus_state 29 Access.ro,
      FieldAt.mk Fld.pwrRegionStatus_c2 16 Access.ro,
      FieldAt.mk Fld.pwrRegionStatus_c1 8 Access.ro,
      FieldAt.mk Fld.pwrRegionStatus_temp 0 Access.ro]
  | .pwrCbGrant => [FieldAt.mk Fld.pwrCbGrant_request 8 Access.ro,
      FieldAt.mk Fld.pwrCbGrant_grant 0 Access.ro]
  | .telCfg => [FieldAt.mk Fld.telCfg_autoMs 16 Access.rw,
      FieldAt.mk Fld.telCfg_commitMs 0 Access.rw]
  | .telCtrl => [FieldAt.mk Fld.telCtrl_snap 31 Access.cmd,
      FieldAt.mk Fld.telCtrl_clear 30 Access.cmd,
      FieldAt.mk Fld.telCtrl_group 0 Access.rw]
  | .telSnapStatus => [FieldAt.mk Fld.telSnapStatus_seq 32 Access.ro,
      FieldAt.mk Fld.telSnapStatus_time 0 Access.ro]
  | .telExpose => [FieldAt.mk Fld.telExpose_groups 0 Access.rw]
  | .telScrubCfg => [FieldAt.mk Fld.telScrubCfg_en 31 Access.rw,
      FieldAt.mk Fld.telScrubCfg_sramS 16 Access.rw,
      FieldAt.mk Fld.telScrubCfg_hbmH 8 Access.rw]
  | .telFaultSeq => [FieldAt.mk Fld.telFaultSeq_seq 0 Access.ro]
  | .telLogStatus => [FieldAt.mk Fld.telLogStatus_pending 56 Access.ro,
      FieldAt.mk Fld.telLogStatus_next 0 Access.ro]
  | .telWrap => [FieldAt.mk Fld.telWrap_wrap 0 Access.w1c]
  | .cfgLeaseCtrl => [FieldAt.mk Fld.cfgLeaseCtrl_go 31 Access.cmd,
      FieldAt.mk Fld.cfgLeaseCtrl_op 29 Access.rw,
      FieldAt.mk Fld.cfgLeaseCtrl_result 27 Access.ro,
      FieldAt.mk Fld.cfgLeaseCtrl_leaseEvent 26 Access.w1c,
      FieldAt.mk Fld.cfgLeaseCtrl_writeIgnored 25 Access.w1c]
  | .cfgLeaseCfg => [FieldAt.mk Fld.cfgLeaseCfg_termMs 0 Access.rw]
  | .cfgLeaseStatus => [FieldAt.mk Fld.cfgLeaseStatus_owner 62 Access.ro,
      FieldAt.mk Fld.cfgLeaseStatus_selfPort 61 Access.ro,
      FieldAt.mk Fld.cfgLeaseStatus_remainMs 32 Access.ro,
      FieldAt.mk Fld.cfgLeaseStatus_gen 0 Access.ro]
  | .pcieFnCfg => [FieldAt.mk Fld.pcieFnCfg_holdUs 16 Access.rw,
      FieldAt.mk Fld.pcieFnCfg_win 0 Access.rw]
  | .pcieFnStatus => [FieldAt.mk Fld.pcieFnStatus_evtOverflow 31 Access.w1c,
      FieldAt.mk Fld.pcieFnStatus_bar2Bad 30 Access.w1c,
      FieldAt.mk Fld.pcieFnStatus_evtLost 0 Access.ro]
  | .pcieRingBase => [FieldAt.mk Fld.pcieRingBase_base 12 Access.rw]
  | .pcieRingCfg => [FieldAt.mk Fld.pcieRingCfg_en 31 Access.rw,
      FieldAt.mk Fld.pcieRingCfg_sizeLog2 0 Access.rw]
  | .pcieRingHostIdx => [FieldAt.mk Fld.pcieRingHostIdx_idx 0 Access.rw]
  | .pcieRingPartIdx => [FieldAt.mk Fld.pcieRingPartIdx_idx 0 Access.ro]
  | .i3cStatus => [FieldAt.mk Fld.i3cStatus_addrValid 31 Access.ro,
      FieldAt.mk Fld.i3cStatus_da 24 Access.ro,
      FieldAt.mk Fld.i3cStatus_ibiEn 23 Access.ro]
  | .dbgSel => [FieldAt.mk Fld.dbgSel_active 31 Access.ro,
      FieldAt.mk Fld.dbgSel_group 0 Access.rw]

/-- Every register, in the order of the chapters. -/
def Reg.all : List Reg :=
  [Reg.cfgSync, Reg.cfgFaultSummary, Reg.cfgRegionStatus, Reg.corePktCtrl, Reg.coreEthPcpMap, Reg.coreLaneTest, Reg.coreLaneStatus, Reg.corePortCfg, Reg.corePortStatus, Reg.coreNbrExpect, Reg.coreNbr, Reg.coreHelloCfg] ++
  [Reg.optModAcc, Reg.optModStatus, Reg.lgHashSeed, Reg.dtLearnCfg, Reg.dtLearnStatus, Reg.dtPortLearn, Reg.corePuntCfg, Reg.lpmScrubCfg, Reg.lpmRouterMac, Reg.tblCmd, Reg.tblStatus, Reg.tblData] ++
  [Reg.coreAdmCfg, Reg.coreAgeLimit, Reg.coreMarkCfg, Reg.coreEgrCfg, Reg.coreReseqCfg, Reg.voqSpillCfg, Reg.corePoolStatus, Reg.schPortCfg, Reg.schPortStatus, Reg.schDrrCfg, Reg.schShape, Reg.schIpol] ++
  [Reg.gateCycleCfg, Reg.gateNextCycleStart, Reg.gateCycleCtrl, Reg.gateSyncCfg, Reg.gateSyncStatus, Reg.gateSyncEdge, Reg.gatePortCtrl, Reg.gatePortStatus, Reg.gateList, Reg.timeNs, Reg.timeRate, Reg.timeStep] ++
  [Reg.timeStatus, Reg.timePortCfg, Reg.optCfg, Reg.optLoopCfg, Reg.optPlanTime, Reg.optPlanCtrl, Reg.optCalStatus, Reg.optSlotCtrl, Reg.optChanCfg, Reg.optChanStatus, Reg.optPlanNext, Reg.optRingStatus] ++
  [Reg.optLinePwr, Reg.oclStatus, Reg.cvtScfg, Reg.cvtAmax, Reg.cvtSstatus, Reg.cvtSctrl, Reg.cvtEscCfg, Reg.cvtEscNext, Reg.engInstCmd, Reg.engInstHead, Reg.engInstStatus, Reg.engInstEvt] ++
  [Reg.engHostCfg, Reg.engStealCfg, Reg.engXfeCfg, Reg.engHbmMap, Reg.engUtil, Reg.engSat, Reg.svcGid, Reg.svcCfg, Reg.svcSteerStatus, Reg.svcLoadSrc, Reg.svcLoadDst, Reg.svcLoadCmd] ++
  [Reg.svcStatus, Reg.redLbStatus, Reg.redFenceStatus, Reg.cmnCfg, Reg.cmnCtrl, Reg.cmnStatus, Reg.promCfg, Reg.promCmd, Reg.promObjStatus, Reg.promObjInfo, Reg.promUsage, Reg.promSpine] ++
  [Reg.gwMode, Reg.gwPermit, Reg.gwCfg, Reg.gwLastPoison, Reg.gwStatus, Reg.fenCfg, Reg.fenCfg2, Reg.fenWeight, Reg.fenStatus, Reg.fenCtrl, Reg.fenGidCmd, Reg.fenGidStatus] ++
  [Reg.fenSpine, Reg.fenPort, Reg.cfgState, Reg.cfgSlotStatus, Reg.cfgSlotVersion, Reg.cfgCtrl, Reg.cfgGid, Reg.cfgFlashCmd, Reg.cfgFlashAddr, Reg.cfgFlashData, Reg.cfgSelftest, Reg.cfgSelftestStatus] ++
  [Reg.secId, Reg.secI3cPid, Reg.secOwner, Reg.secOwnerHash, Reg.secDbgNonce, Reg.secDbgAddr, Reg.secDbgCtrl, Reg.pwrCfg, Reg.pwrIdleCfg, Reg.pwrThermCfg, Reg.pwrStatus, Reg.pwrRegionStatus] ++
  [Reg.pwrCbGrant, Reg.telCfg, Reg.telCtrl, Reg.telSnapStatus, Reg.telExpose, Reg.telScrubCfg, Reg.telFaultSeq, Reg.telLogStatus, Reg.telWrap, Reg.cfgLeaseCtrl, Reg.cfgLeaseCfg, Reg.cfgLeaseStatus] ++
  [Reg.pcieFnCfg, Reg.pcieFnStatus, Reg.pcieRingBase, Reg.pcieRingCfg, Reg.pcieRingHostIdx, Reg.pcieRingPartIdx, Reg.i3cStatus, Reg.dbgSel]

end Sys2Proof.Machine
end

