-- ==== Sys2Proof/Machine/Parts.lean ====
section
/-! DEFINITION. The parts of the state, subsystem by subsystem, as plain data. -/

namespace Sys2Proof.Machine

/-- What an SPDM response says (R400, R401); its byte layout is DMTF's, outside the specification (log entry 5). -/
inductive SpdmResp where
  /-- VERSION, as the code of SPDM: 0x12 for 1.2. -/
  | version (v : Nat)
  /-- CAPABILITIES: CERT_CAP, CHAL_CAP, MEAS_CAP with signature, MEAS_FRESH_CAP. -/
  | capabilities (cert chal measSig measFresh : Bool)
  /-- ALGORITHMS: SHA-384, and the number of the ExtAsym algorithm selected. -/
  | algorithms (sha384 : Bool) (extAsym : Nat)
  /-- DIGESTS: the digest of the chain in slot 0. -/
  | digests (slot0 : Nat)
  /-- CERTIFICATE: a portion of the chain, and the bytes that remain after it. -/
  | certificate (portion : List Byte) (remainder : Nat)
  /-- CHALLENGE_AUTH: the digest of the chain, the responder's nonce and the signature. -/
  | challengeAuth (digest nonce : Nat) (signature : List Byte)
  /-- MEASUREMENTS: (index, digest) blocks, the responder's nonce, and the signature when one was asked for. -/
  | measurements (blocks : List (Nat × Nat)) (nonce : Nat) (signature : Option (List Byte))
  /-- MEASUREMENTS in answer to a query for the number of blocks. -/
  | count (n : Nat)
  | error
  deriving DecidableEq, Repr

/-- What leaves the part: the model's own record of effects outside it, newest first (log entry 6). -/
inductive Output where
  /-- A packet begins to leave a native port: its start word, and whether its blocks bear the tag EXP or ORD (R78). -/
  | started (port : Nat) (word : BitVec 64) (exp : Bool)
  /-- A packet or frame whose last byte has left a port; `stomped` when its check field was inverted. -/
  | sent (port : Nat) (b : Body) (stomped : Bool)
  /-- A packet cut off with no trailer (R476). -/
  | cutOff (port : Nat) (b : Body)
  /-- A command on an Optical Control Link (Table 8.3): DTYPE and DPAYLOAD, and the 34 bits of its frame (Table 8.2). -/
  | ocl (slot : Nat) (dtype payload : Nat) (frame : BitVec 34)
  /-- Bytes the part writes to host memory through a function. -/
  | hostWrite (fn : Nat) (addr : Nat) (bytes : List Byte)
  /-- An MSI-X message: the address and data its table entry holds. -/
  | msix (fn : Nat) (vec : Nat) (addr : Nat) (data : Nat)
  /-- Data returned to a BAR0 or BAR2 read; `poisoned` as R434 gives. -/
  | readData (fn : Nat) (bytes : List Byte) (poisoned : Bool)
  /-- A DOE response (SPDM). -/
  | doe (fn : Nat) (r : SpdmResp)
  /-- Bytes returned on I3C. -/
  | i3c (bytes : List Byte)
  /-- An in-band interrupt with its mandatory byte (R456). -/
  | ibi (byte : Nat)
  /-- A direct CCC that the target does not acknowledge. -/
  | i3cNak
  /-- A bit string shifted out of JTAG, lowest bit first, `n` bits. -/
  | jtag (n : Nat) (bits : Nat)
  /-- An output land and its level. -/
  | pin (name : String) (level : Bool)
  /-- The lands of the boundary chain driven from the boundary register (R458). -/
  | lands (bits : Nat)
  /-- The outputs of the boundary chain placed in high impedance (R458). -/
  | landsHighZ
  deriving DecidableEq, Repr

/-- A register write accepted in the MGMT_CLK domain and not yet in effect (R30). -/
structure InWrite where
  src : Src
  reg : Reg
  idx : Nat
  val : Nat
  mask : Nat
  deriving DecidableEq, Repr

/-- The time base (R191): TIME_NS, the fraction in units of 2^-16 · 10^-9 ns, and whether it counts. -/
structure TimeBase where
  ns : BitVec 32
  frac : Nat
  counting : Bool
  /-- Nanoseconds counted since the lock, never stepped, and the number of steps made: what token buckets and R200 need. -/
  mono : Nat
  steps : Nat
  /-- `mono` at the last step of TIME_NS (R200). -/
  stepAt : Option Nat
  deriving DecidableEq, Repr

/-- The I3C target (R453 to R455). -/
structure I3c where
  da : Option (BitVec 7)
  ibiEn : Bool
  mwl : Nat
  mrl : Nat
  /-- The response waiting for the next private read: status byte and data. -/
  resp : Option (List Byte)
  deriving DecidableEq, Repr

/-- A JTAG instruction in force (R458). -/
inductive JtagInstr where
  | bypass | idcode | sample | extest | clamp | highz
  deriving DecidableEq, Repr

/-- The JTAG port (R458): the instruction in force and the boundary register. -/
structure Jtag where
  instr : JtagInstr
  boundary : BitVec 38
  deriving DecidableEq, Repr

/-- A fault record (Table 17.3). -/
structure FaultRec where
  seq : Nat
  time : Nat
  epoch : Int
  code : Nat
  sev : Nat
  state : Nat
  detail : List Nat
  deriving DecidableEq, Repr

/-- Telemetry (chapter 17). -/
structure Tel where
  /-- Live counters, keyed by (group, index); 0 when not listed. -/
  cnt : SMap
  /-- Shadows of the last complete snapshot. -/
  shadow : SMap
  /-- A snapshot in progress: the latched values, and TIME_NS at its start. -/
  latch : Option (SMap × Nat)
  /-- The on-chip ring: slot to record. -/
  ring : KMap FaultRec
  /-- Records waiting to be programmed, oldest first. -/
  log : List FaultRec
  epoch : Int
  /-- The free-running nanosecond count from which the next automatic snapshot is AUTO_MS away (R426). -/
  autoAt : Nat
  /-- The free-running nanosecond count at the end of the last full pass of a memory's scrub, keyed (memory, region or stack). -/
  passAt : SMap
  deriving DecidableEq, Repr

/-- One host ring (R447): what EN captured, the next entry SEQ and, for ring 1, the events lost since the last OVERFLOW. -/
structure Ring where
  base : Nat
  log2 : Nat
  seq : Nat
  lost : Nat
  deriving DecidableEq, Repr

/-- Host access (chapter 18). -/
structure Mgmt where
  /-- Rings, keyed 3·function + ring. -/
  rings : KMap Ring
  /-- MSI-X table dwords, keyed (function, dword). -/
  msix : SMap
  /-- MSI-X pending bits, keyed (function, vector). -/
  pba : SMap
  /-- Vectors in their hold time, keyed (function, vector): whether a cause has merged meanwhile, and the free-running nanosecond count
  when the message was sent. -/
  hold : KMap (Bool × Nat)
  /-- Functions in D3hot, and functions stopped by a Function Level Reset. -/
  d3 : List Nat
  flr : List Nat
  /-- An IBI cause raised and not yet sent (R456). -/
  ibi : Option Nat
  /-- SYNC entries of a command ring that wait: function and SEQ. -/
  owed : List (Nat × Nat)
  /-- The free-running nanosecond count when the lease's term last started. -/
  termAt : Nat
  deriving DecidableEq, Repr

/-- Register access in progress. -/
structure Acc where
  /-- Accepted writes not yet in effect, oldest first. -/
  inflight : List InWrite
  /-- Lower halves held under R11, keyed (source, register offset). -/
  halves : KMap Nat
  /-- Upper halves latched by lower-half reads, keyed (function, register offset). -/
  latched : KMap Nat
  /-- Sources whose CFG_SYNC is waiting. -/
  syncs : List Src
  /-- Writes that such a source issued after its CFG_SYNC and that may still be in flight, by register block; and the number of
  the first table command after it. -/
  later : SMap
  mark : Nat
  deriving DecidableEq, Repr

/-- The local function that consumes a packet: the part's own GID or a service GID number (Table 4.3). -/
inductive LocFn where
  | own | svcGid (g : Nat)
  deriving DecidableEq, Repr

/-- Where the lookup sends a packet. -/
inductive Dest where
  | port (n : Nat)
  | loc (f : LocFn)
  | mcast (bitmap : Nat)
  | punt (reason sub index : Nat)
  deriving DecidableEq, Repr

/-- A packet inside the part. -/
structure Pkt where
  body : Body
  /-- The port it arrived on; none when the part originated it. -/
  inPort : Option Nat
  /-- Ingress core block. -/
  blk : Nat
  /-- Egress core block of a unicast packet. -/
  dst : Nat
  cls : Nat
  itime : Nat
  /-- The free-running nanosecond count at its ingress time, and the steps of TIME_NS before it (R200). -/
  mono : Nat
  steps : Nat
  dest : Dest
  /-- Rate of its ingress port when it arrived (IN_RATE of Table 5.1), in the units of `State.rate`. -/
  inRate : Nat
  /-- PORT of its punt record, should it go to the exception path (Table 4.6). -/
  pport : Nat
  /-- Segments it was admitted for. -/
  nseg : Nat
  /-- Segments whose bytes have arrived. -/
  arrived : Nat
  /-- The packet has completed at ingress. -/
  whole : Bool
  /-- Receive check 8 or 9 failed: no copy of it may begin any more (R60, R62, R83). -/
  err : Bool
  /-- A copy of it has begun to leave (R60). -/
  begun : Bool
  /-- Egress blocks at which it is discarded: what is still released of it there is discarded too (R145, R148, R161). -/
  gone : List Nat
  /-- Sequence numbers assigned to it and not yet released or skipped: egress block and SEQ (R147). -/
  nums : List (Nat × Nat)
  /-- TIME_NS at which each segment entered its queue, oldest first; the head is ETIME. -/
  segT : List Nat
  /-- The order in which its segments entered among all segments of the part (R141). -/
  ord : List Nat
  /-- Ingress segments held from the class reserve. -/
  rsv : Nat
  /-- Segments sent in the first stage, the record of a multicast packet not counted. -/
  sent : Nat
  /-- Its last segments that lie in the HBM part of the VOQ. -/
  hseg : Nat
  deriving DecidableEq, Repr

/-- A segment on its way through the Reel (Table 5.1); `ports` is the PORTS mask of a multicast copy. -/
structure Seg where
  pid : Nat
  idx : Nat
  src : Nat
  dst : Nat
  cls : Nat
  mc : Bool
  seq : Nat
  ports : Nat
  deriving DecidableEq, Repr

/-- What travels in the first stage: a unicast segment, the record of a multicast packet, or a segment of its stream. -/
inductive Item1 where
  | uni (g : Seg) | rec_ (pid : Nat) | mseg (pid idx : Nat)
  deriving DecidableEq, Repr

/-- A first-stage send in transit to intermediate `k`; it arrives at slot `due`. -/
structure Transit1 where
  k : Nat
  due : Nat
  item : Item1
  deriving DecidableEq, Repr

/-- A multicast stream pinned to an intermediate (R155): the next segment to send, and the base SEQ toward each block. -/
structure Stream where
  pid : Nat
  i : Nat
  k : Nat
  cls : Nat
  next : Nat
  bases : List (Nat × Nat)
  deriving DecidableEq, Repr

/-- A record at its intermediate: the ports judged for each destination block (R156), and how many segments of its room are
still promised. -/
structure MRec where
  pid : Nat
  src : Nat
  k : Nat
  cls : Nat
  /-- (block, base SEQ, ports mask) for each block that has a port left. -/
  outs : List (Nat × Nat × Nat)
  room : Nat
  deriving DecidableEq, Repr

/-- Sequence numbers skipped at an intermediate for a destination: a skip notice (R156, R158). -/
structure Notice where
  k : Nat
  d : Nat
  src : Nat
  cls : Nat
  base : Nat
  n : Nat
  due : Nat
  deriving DecidableEq, Repr

/-- A copy waiting at intermediate `k`. -/
structure Copy where
  k : Nat
  seg : Seg
  deriving DecidableEq, Repr

/-- A resequencing flow: the expected number, the segments held ahead of it, in order, the numbers ahead of it that a notice has
skipped, and the timer of the gap: nanoseconds run, and since when it runs (R148). -/
structure Flow where
  exp : Nat
  held : List Seg
  skip : List Nat
  ran : Nat
  since : Option Nat
  deriving DecidableEq, Repr

/-- A packet in an egress queue: segments released, TIME_NS of its entry, and the TC7 charge admitted for it. -/
structure EPkt where
  pid : Nat
  rel : Nat
  ent : Nat
  chg : Nat
  deriving DecidableEq, Repr

/-- A packet in transmission on a port: what stomps it, if anything has. -/
structure Tx where
  ep : EPkt
  cls : Nat
  body : Body
  stomp : Bool
  underrun : Bool
  /-- Segments whose last byte has left (R135). -/
  left : Nat
  deriving DecidableEq, Repr

/-- A packet delivered to a local function. -/
structure Deliv where
  pkt : Packet
  inPort : Option Nat
  /-- Core block at which it left the Reel, and the region at which it entered. -/
  blk : Nat
  region : Nat
  fn : LocFn
  itime : Nat
  /-- Segments it holds at that block until its function takes it (R135). -/
  segs : Nat
  deriving DecidableEq, Repr

/-- A punted packet in the chip-level queue: the fields of its punt record (Table 4.6) and its bytes. -/
structure PuntEntry where
  reason : Nat
  tc : Nat
  port : Nat
  sub : Nat
  index : Nat
  bytes : List Byte
  deriving DecidableEq, Repr

/-- A token bucket: tokens at an instant of the free-running nanosecond count. -/
structure Bucket where
  tok : Int
  at_ : Nat
  deriving DecidableEq, Repr

/-- The switch core (chapters 5 and 6). -/
structure Sw where
  /-- The slot count of the Reel (R140). -/
  slot : Nat
  pkts : KMap Pkt
  nextPid : Nat
  /-- How many segments have entered ingress queues. -/
  nextSeg : Nat
  /-- Failed core blocks that have left the Reel: those failed at the start of the present Reel cycle (R145). -/
  outOf : List Nat
  /-- Segments that arrived at an intermediate in the present slot: intermediate, packet and index (R143). -/
  fresh : List (Nat × Nat × Nat)
  /-- Packet being received, keyed 2·port + (1 for the express channel). -/
  rx : KMap Nat
  /-- Ingress queues, keyed (block, class, member): member 0 to 71 the VOQ for that block, 72 the multicast queue. -/
  voq : KMap (List Nat)
  /-- VOQs in spill, by the same key. -/
  spill : List Nat
  /-- Round-robin pointers, keyed 8·block + class; 72 when not listed. -/
  ptr : SMap
  /-- Next SEQ of each flow at its ingress. -/
  seqs : SMap
  streams : List Stream
  t1 : List Transit1
  /-- Unicast intermediate queues, keyed (block, destination, class). -/
  iq : KMap (List Seg)
  mrec : List MRec
  /-- Copies due at intermediates and copies parked in wallflower queues, oldest first. -/
  copies : List Copy
  wall : List Copy
  /-- Skip notices waiting at intermediates, and those in transit. -/
  skips : List Notice
  skipT : List Notice
  /-- Second-stage sends in transit: the slot of arrival and the segment. -/
  t2 : List (Nat × Seg)
  /-- stop(d, c) asserted, as 8·d + c. -/
  stop : List Nat
  /-- Resequencing flows. -/
  flows : KMap Flow
  /-- Egress queues, keyed 8·port + class. -/
  egq : KMap (List EPkt)
  /-- Segments held of a packet at an egress block, and how many of them are freed, keyed (packet, block). -/
  eh : KMap (Nat × Nat)
  /-- Packets gathering at a service block or at the home of a collective, keyed (packet, block): segments released. -/
  gather : SMap
  /-- Transmissions, keyed 2·port + (1 for an express packet). -/
  tx : KMap Tx
  /-- Reserve segments in use, keyed 8·region + class. -/
  rsvUsed : SMap
  /-- Deficit round robin: the round of a port, the deficit of (port, class), and the classes credited. -/
  act : KMap (List Nat)
  deficit : SMap
  credited : List Nat
  /-- Token buckets; one that is not listed is full. Shapers 2·(8·port + class), policers 2·(8·port + class) + 1. -/
  buckets : KMap Bucket
  /-- The punt bucket and the punt queue, oldest first. -/
  punt : Option Bucket
  puntQ : List PuntEntry
  /-- Packets delivered to local functions, oldest first. -/
  localQ : List Deliv
  /-- What a block of the core or an egress scheduler last presented to the debug port (Table 18.8). -/
  shown : Nat
  deriving DecidableEq, Repr

/-- A table command: TBL_CMD's fields and TBL_DATA (R126). -/
structure TblCmd where
  op : Nat
  table : Nat
  index : Nat
  all : Bool
  data : Nat
  deriving DecidableEq, Repr

/-- What a table command answers: RESULT, and RINDEX and TBL_DATA where it sets them. -/
structure TblRes where
  result : Nat
  rindex : Option Nat
  data : Option Nat
  deriving DecidableEq, Repr

/-- A table command in progress (R126, R129): its source, the PCI Express function whose BAR2 writes it waits for (R290), what it
answered once it has taken effect, and the SEQ of the COMPLETION entry it owes (R449). -/
structure TblJob where
  /-- Its number, in order of acceptance (R35). -/
  num : Nat
  by_ : Nat
  fn : Option Nat
  cmd : TblCmd
  done : Option TblRes
  seq : Option Nat
  /-- BAR2 accesses accepted before it (R290). -/
  after : Nat
  deriving DecidableEq, Repr

/-- The forwarding tables (chapter 4). -/
structure Tab where
  dt : SMap
  /-- Link group pages, by group · 2 + page. -/
  lg : SMap
  /-- TCAM content, keyed region · 32768 + slot. -/
  tcam : SMap
  shadow : SMap
  mcg : SMap
  cgt : SMap
  ses : SMap
  svc : SMap
  /-- Entries with an uncorrectable codeword: (table ID, index, region). -/
  bad : List (Nat × Nat × Nat)
  /-- Learning events waiting: (GID, port). -/
  learnQ : List (Nat × Nat)
  /-- The next learning window boundary, a TIME_NS value (R115). -/
  window : Nat
  /-- Link group page 1 held for a source of table commands: (group, page). -/
  held : KMap (Nat × Nat)
  /-- Table commands in progress, oldest first. -/
  jobs : List TblJob
  /-- Table commands accepted so far. -/
  nextJob : Nat
  /-- Entries of the DT and the session table that commands changed at the instant `chgAt` of `mono`, with what each held: (table,
  index, old entry) (R130). -/
  chg : List (Nat × Nat × Nat)
  chgAt : Nat
  /-- Spray pointers, keyed (group, line block). -/
  spray : SMap
  deriving DecidableEq, Repr

/-- Why a port in DRAINING waits to enter CAL. -/
inductive CalWait where
  | cal | test | laser | plan
  deriving DecidableEq, Repr

/-- Where a port in TRAINING stands. -/
inductive TrainAt where
  | idle | powerup | backoff | rings | peer | attempt
  deriving DecidableEq, Repr

/-- What a port holds beyond its registers. -/
structure PortSt where
  at_ : TrainAt
  /-- The attempt is, or will be, a fast retrain (R97). -/
  fast : Bool
  /-- The port has been retuned, and its next attempt is to be a fast retrain (R217). -/
  nextFast : Bool
  /-- Attempts made since the count was cleared (R87). -/
  tries : Nat
  /-- The 1 ms power-on wait has passed since EN was written 1 (R417). -/
  powered : Bool
  /-- An attempt has ended, or UP was reached, since the part entered BOOT (R391). -/
  ended : Bool
  /-- First lane in use, relative to the port's first lane (R90). -/
  runAt : Nat
  /-- HELLO round number and consecutive valid HELLOs. -/
  round : Nat
  good : Nat
  /-- GID and port last heard (R92). -/
  seen : Option (Nat × Nat)
  /-- What has been requested and takes the port through DRAINING to CAL. -/
  waits : List CalWait
  /-- A drain is running (R88); CAL_HOLD has passed since the entry to DRAINING; the plan time has come (R216). -/
  draining : Bool
  holdDone : Bool
  planDue : Bool
  /-- Receive latency of an Ethernet-mode port, fixed at link-up (R197). -/
  lrx : Nat
  /-- Lanes of the port, bit j for lane j, that the far end has declared failed, as the last phase 4 exchanged them (R87, R90). -/
  far : Nat
  /-- Transmit equaliser settings taken from the module's advertisement; none where training finds them (R81). -/
  txEq : Option Nat
  /-- The free-running nanosecond count at the last valid HELLO (CORE_NBR.AGE). -/
  heard : Option Nat
  /-- The free-running nanosecond counts at the last entry to DRAINING, and at the start of the last wait for the neighbour's signal
  (R216, R217). -/
  drainAt : Nat
  peerAt : Nat
  deriving DecidableEq, Repr

/-- A lane test in progress (R98 to R100): lanes still to be tested, lowest first, the lane under test, and the port whose
lanes are to be tested in CAL. -/
structure LaneTest where
  todo : List Nat
  lane : Option Nat
  deferred : Bool
  port : Option Nat
  deriving DecidableEq, Repr

/-- Ports, lanes and module slots (chapter 3). -/
structure Ports where
  port : KMap PortSt
  test : Option LaneTest
  /-- Regions whose SerDes reference is lost (R467). -/
  sref : List Nat
  /-- Applications each slot's module advertises. -/
  apps : KMap (List ModApp)
  /-- Slots whose module has been inserted and has not reported ModuleReady. -/
  waitReady : List Nat
  /-- Slots in which a module has been inserted (log entry 13). -/
  slots : List Nat
  /-- The monitors and then the flags last polled from each slot. -/
  monitors : KMap (List Byte)
  deriving DecidableEq, Repr

/-- The cycle timer of the Figure (R187 to R190). -/
structure Gate where
  /-- CYCLE_TIME and STEP_LIMIT in force, and what a pending ARM captured: S, CYCLE_TIME and STEP_LIMIT. -/
  cycle : Nat
  limit : Nat
  armed : Option (Nat × Nat × Nat)
  /-- The last boundary and the next one, TIME_NS values, and whether each has been stepped. -/
  last : Nat
  next : Nat
  lastStepped : Bool
  nextStepped : Bool
  /-- Boundaries since the last that pulsed. -/
  count : Nat
  /-- The free-running nanosecond count at the last edge timestamped on SYNC_IN, and at the rising edge of a pulse that is high
  on SYNC_OUT. -/
  edge : Option Nat
  pulse : Option Nat
  deriving DecidableEq, Repr

/-- The fence engine (chapter 14). -/
structure Fen where
  /-- The endpoint score table, by GID; a GID with no entry has a score of 255. -/
  own : KMap Nat
  /-- Rack reports of a GID, oldest first: ingress port, score, and the free-running count of ns at its arrival. -/
  rack : KMap (List (Nat × Nat × Nat))
  /-- Votes, keyed (spine number, GID): the score, the round, and the free-running count of ns at its arrival. -/
  votes : KMap (Nat × Nat × Nat)
  /-- B of R363 at the last test of a GID. -/
  low : SMap
  /-- GIDs in sit-out, with their CAUSE. -/
  sit : SMap
  /-- Suspects, oldest first: GID and the cause of their candidacy. -/
  suspects : List (Nat × Nat)
  /-- The free-running count of ns at the sit-outs of the last 100 ms, oldest first. -/
  window : List Nat
  /-- GIDs in their re-admission hold, with the free-running count of ns at its start. -/
  holds : List (Nat × Nat)
  /-- GIDs put into sit-out whose member lists have not been scanned (R325). -/
  scan : List Nat
  /-- Fence sequence number and vote round number. -/
  seq : Nat
  round : Nat
  /-- The free-running count of ns at the last recovery of scores and at the last vote round. -/
  recAt : Nat
  roundAt : Nat
  deriving DecidableEq, Repr

/-- A gateway request (R348 to R352): a WRITE of coalesced stores or the READ_REQ of a load. -/
structure GwReq where
  /-- Its number, which no other request has. -/
  num : Nat
  k : Nat
  psn : Nat
  msgid : Nat
  isWrite : Bool
  src : Nat
  dst : Nat
  tc : Nat
  addr : Nat
  len : Nat
  /-- The bytes to write, or the bytes returned so far at their places. -/
  data : List Byte
  /-- Bytes of READ_RESP returned so far. -/
  got : Nat
  /-- The accesses it carries, in order of arrival. -/
  accs : List Deliv
  /-- TIME_NS at which it was first sent; none while it waits (R350). -/
  sentAt : Option Nat
  resends : Nat
  /-- Its answer is complete; a NACK waits to be handled. -/
  done : Bool
  nacked : Bool
  deriving DecidableEq, Repr

/-- An open coalescing buffer (R349). -/
structure GwBuf where
  k : Nat
  num : Nat
  src : Nat
  dst : Nat
  tc : Nat
  addr : Nat
  data : List Byte
  accs : List Deliv
  /-- TIME_NS at which it opened. -/
  opened : Nat
  deriving DecidableEq, Repr

/-- The gateway engines (chapter 13): requests and buffers in order of arrival, and the packet counters of each region. -/
structure Gw where
  reqs : List GwReq
  bufs : List GwBuf
  nextReq : Nat
  nextBuf : Nat
  ctr : SMap
  deriving DecidableEq, Repr

/-- What the part holds of one ring beyond its registers (R211 to R214, R220). -/
structure RingSt where
  /-- The lock-in output of the previous update, and the lock-in itself in units of 2^-16 (R211). -/
  y : Int
  acc : Int
  /-- The phase of its dither oscillator in units of 1/4000 of a turn, and the last samples of its monitor, at most 256, oldest
  first (R209, R213). -/
  ph : Nat
  win : List Nat
  /-- The heater code table of the last calibration, by line, and the one held before a calibration in progress. -/
  table : List Nat
  held : List Nat
  heldCode : Nat
  /-- Monitor value at the last calibration, and the last sample. -/
  cal : Nat
  mon : Nat
  /-- Consecutive updates that count toward lock and loss, failing windows, and failed sweeps. -/
  up : Nat
  down : Nat
  bad : Nat
  sweeps : Nat
  deriving DecidableEq, Repr

/-- What the part holds of one comb line at one slot: its reference, as the sum of the powers of 16 windows, and consecutive windows
at each level (R225, R226). -/
structure LineSt where
  ref : Option Nat
  warn : Nat
  drain : Nat
  clear : Nat
  deriving DecidableEq, Repr

/-- The optical control (chapter 8). -/
structure Opt where
  /-- Rings, keyed 2·lane + (0 transmit, 1 receive). -/
  ring : KMap RingSt
  /-- Consecutive good and bad frames of each slot's link. -/
  ocl : KMap (Nat × Nat)
  /-- Lines, keyed 32·slot + line. -/
  line : KMap LineSt
  /-- A capture in progress: windows taken and the sum of each line, keyed 32·slot + line. -/
  capN : SMap
  capSum : KMap (Option Nat)
  /-- The last samples of each slot's input tap, at most 256, and the lines that were dark there in the last window, as 32·slot + line
  (R207, R225). -/
  tap : KMap (List Nat)
  dark : List Nat
  /-- Commands of a module access in progress that the module has not yet answered before the access itself (R102). -/
  twi : Nat
  /-- The port in calibration, once it has entered CAL, and consecutive failures of each port. -/
  cal : Option Nat
  fails : SMap
  /-- The rotation: the lane after the one last taken in this round, and the free-running ns count at the round's start. -/
  next : Nat
  start : Nat
  /-- Ports taken in this round ahead of their turn, the number of ports counted at the round's start, and the free-running ns count at
  the last start. -/
  early : List Nat
  ports : Nat
  last : Option Nat
  /-- Ports whose tables are to be restored when their slot's link is in sync again (R228). -/
  restore : List Nat
  /-- The line whose fade holds a lane (R226, R228). -/
  hold : SMap
  /-- The plan time captured at ARM, and whether its drain lead has come. -/
  plan : Option Nat
  led : Bool
  /-- Lanes whose module was removed in mid-retune: their entries stay pending for the next ARM (R228). -/
  skip : List Nat
  deriving DecidableEq, Repr

end Sys2Proof.Machine
end

