-- ==== Sys2Proof/Machine/Numerics.lean ====
section
/-! DEFINITION. Number formats and exact arithmetic: the element formats, rounding, and the operations of IEEE 754 binary32
that the engines and the collectives use (R229 to R240, R246). -/

namespace Sys2Proof.Machine

/-- A number as the arithmetic knows it; `fin` stands for (−1)^neg · m · 2^e. -/
inductive Num where
  | nan
  | inf (neg : Bool)
  | fin (neg : Bool) (m : Nat) (e : Int)
  deriving DecidableEq, Repr

/-- Zero of a sign. -/
def Num.zero (neg : Bool := false) : Num := .fin neg 0 0

/-- The element formats of Table 9.1. -/
inductive Elem where
  | fp32 | bf16 | fp16 | e4m3 | e5m2 | e3m2 | e2m3 | e2m1 | int8 | int4 | trn2 | trn5
  deriving DecidableEq, Repr

/-- Bits [3:0] of a format code (Table 9.1). -/
def Elem.ofCode : Nat → Option Elem
  | 0x0 => some .fp32 | 0x1 => some .bf16 | 0x2 => some .fp16 | 0x4 => some .e4m3 | 0x5 => some .e5m2 | 0x6 => some .e3m2
  | 0x7 => some .e2m3 | 0x8 => some .e2m1 | 0xA => some .int8 | 0xB => some .int4 | 0xC => some .trn2 | 0xD => some .trn5
  | _ => none

/-- A format code taken apart (R229). -/
structure Fmt where
  el : Elem
  scaled : Bool
  esc : Bool
  deriving DecidableEq, Repr

/-- SCALED may be 1 (Table 9.1). -/
def Elem.scalable : Elem → Bool
  | .fp32 | .bf16 | .fp16 => false
  | _ => true

/-- ESC may be 1 (Table 9.1). -/
def Elem.escapable : Elem → Bool
  | .e3m2 | .e2m3 | .e2m1 => true
  | _ => false

/-- The element format may be the output of a conversion (Table 9.1). -/
def Elem.output : Elem → Bool
  | .trn2 | .trn5 => false
  | _ => true

/-- A format code of Table 9.1; ESC marks a scaled operand only. -/
def Fmt.ofCode (c : Nat) : Option Fmt :=
  (Elem.ofCode (bits c 0 4)).bind (fun el =>
    let sc := bitAt c 4
    let es := bitAt c 5
    if (sc && !el.scalable) || (es && !(sc && el.escapable)) then none else some ⟨el, sc, es⟩)

/-- E bits, M bits and bias of a floating-point format (Table 9.2). -/
def Elem.float? : Elem → Option (Nat × Nat × Nat)
  | .fp32 => some (8, 23, 127) | .bf16 => some (8, 7, 127) | .fp16 => some (5, 10, 15) | .e4m3 => some (4, 3, 7)
  | .e5m2 => some (5, 2, 15) | .e3m2 => some (3, 2, 3) | .e2m3 => some (2, 3, 1) | .e2m1 => some (2, 1, 1)
  | .int8 | .int4 | .trn2 | .trn5 => none

/-- EMAX (Table 9.2, R232). -/
def Elem.emax : Elem → Int
  | .fp32 => 127 | .bf16 => 127 | .fp16 => 15 | .e4m3 => 8 | .e5m2 => 15 | .e3m2 => 4 | .e2m3 => 2 | .e2m1 => 2
  | .int8 => 6 | .int4 => 2 | .trn2 => 0 | .trn5 => 0

/-- Formats whose exponent of all ones holds infinity and NaN (Table 9.2). -/
def Elem.ieee : Elem → Bool
  | .fp32 | .bf16 | .fp16 | .e5m2 => true
  | _ => false

/-- Formats on which FLUSH_IN and FLUSH_OUT act (R242). -/
def Elem.flushable : Elem → Bool
  | .fp32 | .bf16 | .fp16 | .e4m3 | .e5m2 => true
  | _ => false

/-- Element size in bytes of the formats of whole bytes; 0 otherwise. -/
def Elem.size : Elem → Nat
  | .fp32 => 4 | .bf16 => 2 | .fp16 => 2 | .e4m3 => 1 | .e5m2 => 1 | .int8 => 1
  | _ => 0

/-- A two's complement integer as a number. -/
def Num.ofInt (i : Int) : Num := .fin (decide (i < 0)) i.natAbs 0

/-- A two's complement field. -/
def signedBits (w v : Nat) : Int := if 2 ^ (w - 1) ≤ v % 2 ^ w then (v % 2 ^ w : Nat) - (2 ^ w : Nat) else (v % 2 ^ w : Nat)

/-- A ternary weight of code 0, 1 or −1; reserved codes are read as 0 (R233, R234). -/
def ternary (plus minus c : Nat) : Num := if c = plus then .fin false 1 0 else if c = minus then .fin true 1 0 else Num.zero

/-- A floating-point encoding (R230). -/
def decodeFloat (eb mb bias : Nat) (c : Nat) : Num :=
  let s := bitAt c (eb + mb)
  let e := bits c mb eb
  let m := bits c 0 mb
  if e = 0 then .fin s m (1 - (bias : Int) - mb) else .fin s (2 ^ mb + m) ((e : Int) - bias - mb)

/-- The value of an element encoding (R230 to R234). -/
def Elem.decode (el : Elem) (c : Nat) : Num :=
  match el.float? with
  | some (eb, mb, bias) =>
    if el.ieee && bits c mb eb == 2 ^ eb - 1 then (if bits c 0 mb = 0 then .inf (bitAt c (eb + mb)) else .nan)
    else if el = .e4m3 ∧ c % 128 = 127 then .nan
    else decodeFloat eb mb bias c
  | none =>
    match el with
    | .int8 => Num.ofInt (signedBits 8 c)
    | .int4 => Num.ofInt (signedBits 4 c)
    | .trn2 => ternary 1 3 c
    | .trn5 => ternary 1 2 c
    | _ => .nan

/-- The encoding is subnormal and nonzero. -/
def Elem.subnormal (el : Elem) (c : Nat) : Bool :=
  match el.float? with
  | some (eb, mb, _) => bits c mb eb == 0 && bits c 0 mb != 0
  | none => false

/-- A number times 2^k. -/
def Num.scale (x : Num) (k : Int) : Num :=
  match x with
  | .fin s m e => .fin s m (e + k)
  | y => y

/-- Sign flipped. -/
def Num.neg : Num → Num
  | .nan => .nan
  | .inf s => .inf (!s)
  | .fin s m e => .fin (!s) m e

/-- Magnitude. -/
def Num.abs : Num → Num
  | .nan => .nan
  | .inf _ => .inf false
  | .fin _ m e => .fin false m e

def Num.isNan : Num → Bool | .nan => true | _ => false
def Num.isInf : Num → Bool | .inf _ => true | _ => false
def Num.isZero : Num → Bool | .fin _ m _ => m == 0 | _ => false
def Num.isNeg : Num → Bool | .fin s _ _ => s | .inf s => s | .nan => false

/-- floor(log2 |x|) of a finite nonzero number m · 2^e. -/
def log2Of (m : Nat) (e : Int) : Int := (Nat.log2 m : Int) + e

/-- The exact product (R236, R239). -/
def Num.mul : Num → Num → Num
  | .nan, _ => .nan
  | _, .nan => .nan
  | .inf s, .inf t => .inf (s != t)
  | .inf s, .fin t m _ => if m = 0 then .nan else .inf (s != t)
  | .fin s m _, .inf t => if m = 0 then .nan else .inf (s != t)
  | .fin s m e, .fin t n f => .fin (s != t) (m * n) (e + f)

/-- m · 2^(e − q) for q ≤ e. -/
def alignTo (q : Int) (m : Nat) (e : Int) : Nat := m * 2 ^ (e - q).toNat

/-- The signed integer i with value i · 2^q, for q ≤ e. -/
def signedAt (q : Int) (s : Bool) (m : Nat) (e : Int) : Int := if s then -(alignTo q m e : Int) else alignTo q m e

/-- i · 2^q as a number; zero is +0. -/
def Num.ofScaled (i q : Int) : Num := .fin (decide (i < 0)) i.natAbs q

/-- The exact sum of two numbers. Zeros of both signs give +0, zeros of one sign that zero (R239, R240). -/
def Num.add : Num → Num → Num
  | .nan, _ => .nan
  | _, .nan => .nan
  | .inf s, .inf t => if s = t then .inf s else .nan
  | .inf s, _ => .inf s
  | _, .inf t => .inf t
  | .fin s m e, .fin t n f =>
    if m = 0 ∧ n = 0 then .fin (s && t) 0 0
    else
      let q := min e f
      Num.ofScaled (signedAt q s m e + signedAt q t n f) q

/-- How a value between two neighbours is rounded: to nearest even, toward zero, or stochastically with a 16-bit value. -/
inductive Rnd where
  | rne | rtz | sr (r : Nat)
  deriving DecidableEq, Repr

/-- m · 2^e rounded to a multiple of 2^q, as that multiple (R246). -/
def roundTo (k : Rnd) (m : Nat) (e q : Int) : Nat :=
  if q ≤ e then alignTo q m e
  else
    let d := 2 ^ (q - e).toNat
    let lo := m / d
    let r := m % d
    match k with
    | .rtz => lo
    | .rne => if d < 2 * r ∨ (2 * r = d ∧ lo % 2 = 1) then lo + 1 else lo
    | .sr x => if r ≠ 0 ∧ x < r * 2 ^ 16 / d then lo + 1 else lo

/-- A magnitude rounded to 24 significant bits, no range limit: the accumulator's form (R240). -/
def Num.round24 (x : Num) : Num :=
  match x with
  | .fin s m e =>
    if m = 0 then .fin s 0 0
    else
      let q := log2Of m e - 23
      .fin s (roundTo .rne m e q) q
  | y => y

/-- Add into the accumulator (R240). -/
def Num.acc (a x : Num) : Num := (a.add x).round24

/-- The multiple of the last place of a floating-point format, and that place's exponent, of a rounded magnitude; the exponent
is unbounded above (R246). -/
def roundFloat (k : Rnd) (mb bias : Nat) (m : Nat) (e : Int) : Nat × Int :=
  let q := max (log2Of m e) (1 - (bias : Int)) - mb
  (roundTo k m e q, q)

/-- The encoding, without sign, of a rounded magnitude r · 2^q that is in range. -/
def packFloat (mb bias : Nat) (r : Nat) (q : Int) : Nat :=
  if r < 2 ^ mb then r
  else
    let x := Nat.log2 r
    ((x : Int) + q + bias).toNat * 2 ^ mb + (r * 2 ^ mb / 2 ^ x - 2 ^ mb)

/-- Largest finite magnitude (Table 9.2): m and e of m · 2^e. -/
def Elem.maxMag : Elem → Nat × Int
  | .fp32 => (16777215, 104) | .bf16 => (255, 120) | .fp16 => (2047, 5) | .e4m3 => (7, 6) | .e5m2 => (7, 13)
  | .e3m2 => (7, 2) | .e2m3 => (15, -1) | .e2m1 => (3, 1) | .int8 => (127, 0) | .int4 => (7, 0) | .trn2 => (1, 0) | .trn5 => (1, 0)

/-- m · 2^e > n · 2^f. -/
def magLt (n : Nat) (f : Int) (m : Nat) (e : Int) : Bool :=
  let q := min e f
  decide (alignTo q n f < alignTo q m e)

/-- The sign bit of a format. -/
def Elem.signBit (el : Elem) (neg : Bool) : Nat :=
  match el.float? with
  | some (eb, mb, _) => if neg then 2 ^ (eb + mb) else 0
  | none => 0

/-- The encoding of Max with a sign (R245). -/
def Elem.maxCode (el : Elem) (neg : Bool) : Nat :=
  match el.float? with
  | some (_, mb, bias) =>
    let x := el.maxMag
    el.signBit neg + packFloat mb bias (roundTo .rne x.1 x.2 (log2Of x.1 x.2 - mb)) (log2Of x.1 x.2 - mb)
  | none => if el = .int8 then (if neg then 0x80 else 0x7F) else (if neg then 0x8 else 0x7)

/-! binary32 (R248, R321). -/

/-- A number rounded to a binary32 encoding by IEEE 754 with round-to-nearest-even, subnormals kept, overflow to infinity. -/
def f32 (x : Num) : Nat :=
  match x with
  | .nan => 0x7FC00000
  | .inf s => (if s then 2 ^ 31 else 0) + 0x7F800000
  | .fin s m e =>
    let sg := if s then 2 ^ 31 else 0
    if m = 0 then sg
    else
      let r := roundFloat .rne 23 127 m e
      if magLt 16777215 104 r.1 r.2 then sg + 0x7F800000 else sg + packFloat 23 127 r.1 r.2

/-- A binary32 encoding as a number. -/
def n32 (c : Nat) : Num := Elem.fp32.decode c

/-- binary32 addition, subtraction and multiplication. -/
def f32Add (a b : Nat) : Nat := f32 ((n32 a).add (n32 b))
def f32Sub (a b : Nat) : Nat := f32 ((n32 a).add (n32 b).neg)
def f32Mul (a b : Nat) : Nat := f32 ((n32 a).mul (n32 b))

/-- The quotient of two numbers: exact to more than 64 bits, with a last bit that says whether anything is left over, so that it
rounds to FP32 as the exact quotient does. A finite nonzero number over zero is infinite. -/
def Num.div : Num → Num → Num
  | .nan, _ => .nan
  | _, .nan => .nan
  | .inf _, .inf _ => .nan
  | .inf s, .fin t _ _ => .inf (s != t)
  | .fin s _ _, .inf t => .fin (s != t) 0 0
  | .fin s m e, .fin t n f =>
    if n = 0 then (if m = 0 then .nan else .inf (s != t))
    else
      let k := 64 + Nat.log2 n
      let x := m * 2 ^ k
      .fin (s != t) (2 * (x / n) + (if x % n = 0 then 0 else 1)) (e - f - k - 1)

/-- binary32 division. -/
def f32Div (a b : Nat) : Nat := f32 ((n32 a).div (n32 b))

/-- x < y for numbers that are not NaN; zeros are equal. -/
def Num.lt : Num → Num → Bool
  | .nan, _ => false
  | _, .nan => false
  | .inf s, .inf t => s && !t
  | .inf s, _ => s
  | _, .inf t => !t
  | .fin s m e, .fin t n f =>
    let q := min e f
    decide (signedAt q s m e < signedAt q t n f)

/-- Order of MAX and MIN in a collective: −0 below +0 (R321). -/
def Num.ltZ (a b : Num) : Bool := a.lt b || (a.isZero && b.isZero && a.isNeg && !b.isNeg)

/-- The magnitude rounded toward zero to FP32; too large counts as infinity; NaN gives nothing (R250). -/
def magF32 : Num → Option Nat
  | .nan => none
  | .inf _ => some 0x7F800000
  | .fin _ m e =>
    if m = 0 then some 0
    else
      let r := roundFloat .rtz 23 127 m e
      some (if magLt 16777215 104 m e && (log2Of m e ≥ 128) then 0x7F800000 else packFloat 23 127 r.1 r.2)

end Sys2Proof.Machine
end

