-- ==== Sys2Proof/Machine/Flags.lean ====
section
/-! DEFINITION. ARITH_MODE, ARITH_FLAGS, and the outcome of every conversion (R242 to R246, R249 to R252; Tables 9.5 to 9.7). -/

namespace Sys2Proof.Machine

/-! ARITH_FLAGS bits (Table 9.6). -/
def flFlushed : Nat := 1
def flUnf : Nat := 2
def flOvf : Nat := 4
def flNan : Nat := 8
def flBad : Nat := 16

/-- The bits of ARITH_MODE (Table 9.5). -/
def modeFlushIn (m : Nat) : Bool := bitAt m 7
def modeFlushOut (m : Nat) : Bool := bitAt m 6
def modeIeee (m : Nat) : Bool := bitAt m 5

/-- A flag when a condition holds. -/
def flagIf (c : Bool) (f : Nat) : Nat := if c then f else 0

/-- What reading one element gives: the number, and the flags it sets (R233, R234, R242, R243). `bad` marks a reserved code. -/
def readFlags (el : Elem) (mode code : Nat) (bad : Bool) : Num × Nat :=
  if bad then (Num.zero, flBad)
  else if modeFlushIn mode && el.flushable && el.subnormal code then (Num.zero (el.decode code).isNeg, flFlushed)
  else (el.decode code, flagIf (el.decode code).isNan flNan)

/-- The outcome of converting one value: the encoding, the flags set, and whether it was clamped to Max. -/
structure Conv where
  code : Nat
  flags : Nat
  sat : Bool
  deriving DecidableEq, Repr

/-- How a value out of range is handled: SATFINITE or IEEE of an unscaled output, or an element of a scaled one, which does not
set OVF under FROM_BLOCK while its scaled magnitude is below 2^(EMAX+1) (Table 9.7). -/
inductive Over where
  | satfinite | ieee | scaled (fromBlock : Bool)
  deriving DecidableEq, Repr

/-- The encoding of NaN in an unscaled output (Table 9.7). -/
def Elem.nanCode : Elem → Nat
  | .fp32 => 0x7FC00000 | .bf16 => 0x7FC0 | .fp16 => 0x7E00 | .e5m2 => 0x7E | .e4m3 => 0x7F
  | _ => 0

/-- The encoding of infinity in class U1. -/
def Elem.infCode (el : Elem) (neg : Bool) : Nat :=
  match el.float? with
  | some (eb, mb, _) => el.signBit neg + (2 ^ eb - 1) * 2 ^ mb
  | none => 0

/-- What a magnitude above Max becomes. `inBlock` holds when the scaled magnitude is below 2^(EMAX+1). -/
def overflowed (el : Elem) (o : Over) (neg inBlock : Bool) : Conv :=
  match o with
  | .scaled fb => ⟨el.maxCode neg, flagIf (!(fb && inBlock)) flOvf, true⟩
  | .satfinite => ⟨el.maxCode neg, flOvf, true⟩
  | .ieee =>
    if el.ieee then ⟨el.infCode neg, flOvf, false⟩
    else if el = .e4m3 then ⟨0x7F, flOvf + flNan, false⟩
    else ⟨el.maxCode neg, flOvf, true⟩

/-- An integer output (class U3). -/
def convInt (el : Elem) (o : Over) (k : Rnd) (neg : Bool) (m : Nat) (e : Int) : Conv :=
  let w := if el = .int8 then 8 else 4
  let r := roundTo k m e 0
  let inBlock := decide (log2Of m e ≤ el.emax)
  if r = 0 then ⟨0, flUnf, false⟩
  else if (if neg then 2 ^ (w - 1) else 2 ^ (w - 1) - 1) < r then overflowed el o neg inBlock
  else ⟨if neg then 2 ^ w - r else r, 0, false⟩

/-- A floating-point output (classes U1 to U3 and elements of S). -/
def convFloat (el : Elem) (o : Over) (flushOut : Bool) (k : Rnd) (eb mb bias : Nat) (neg : Bool) (m : Nat) (e : Int) : Conv :=
  let r := roundFloat k mb bias m e
  let sg := if neg then 2 ^ (eb + mb) else 0
  if r.1 = 0 then ⟨sg, flUnf, false⟩
  else if magLt el.maxMag.1 el.maxMag.2 r.1 r.2 then overflowed el o neg (decide (log2Of m e ≤ el.emax))
  else if r.1 < 2 ^ mb && flushOut && el.flushable then ⟨sg, flFlushed, false⟩
  else ⟨sg + packFloat mb bias r.1 r.2, 0, false⟩

/-- Table 9.7: the conversion of one value to an output element format. NaN and infinity of a scaled output are handled by its
block. -/
def convert (el : Elem) (o : Over) (flushOut : Bool) (k : Rnd) (v : Num) : Conv :=
  match v with
  | .nan => ⟨el.nanCode, flNan, false⟩
  | .inf s =>
    if o = .ieee ∧ el.ieee = true then ⟨el.infCode s, 0, false⟩ else overflowed el o s false
  | .fin s m e =>
    match el.float? with
    | some (eb, mb, bias) =>
      if m = 0 then ⟨if s then 2 ^ (eb + mb) else 0, 0, false⟩ else convFloat el o flushOut k eb mb bias s m e
    | none => if m = 0 then ⟨0, 0, false⟩ else convInt el o k s m e

/-- Conversion of an unscaled result under ARITH_MODE. -/
def convOut (el : Elem) (mode : Nat) (k : Rnd) (v : Num) : Conv :=
  convert el (if modeIeee mode then .ieee else .satfinite) (modeFlushOut mode) k v

/-- The three scale rules (R249 to R252), as a conversion begins with them. -/
inductive ScaleRule where
  | fromBlock | exponent (x : Int) | fixed (b : Nat)
  deriving DecidableEq, Repr

/-- The largest magnitude of a block of finite numbers, as (m, e); none when all are zero. -/
def blockMax (vs : List Num) : Option (Nat × Int) :=
  vs.foldl (fun a v =>
    match v with
    | .fin _ m e =>
      if m = 0 then a
      else match a with
        | some x => if magLt x.1 x.2 m e then some (m, e) else a
        | none => some (m, e)
    | _ => a) none

/-- A scale exponent as a scale byte, with the flag of a clamp to 0xFE (Table 9.7). -/
def scaleByte (x : Int) : Nat × Nat := ((max (-127) (min 127 x) + 127).toNat, flagIf (decide (127 < x)) flOvf)

/-- The scale byte of a block of finite values (R249 to R252). -/
def chooseScale (el : Elem) (r : ScaleRule) (vs : List Num) : Nat × Nat :=
  match r with
  | .fixed b => (b, 0)
  | .exponent x => scaleByte x
  | .fromBlock => match blockMax vs with | some m => scaleByte (log2Of m.1 m.2 - el.emax) | none => (0x7F, 0)

/-- A converted block of a scaled output: its scale byte, element encodings, flags and clamps. -/
structure BlockOut where
  scale : Nat
  codes : List Nat
  flags : Nat
  sats : Nat
  deriving DecidableEq, Repr

/-- Elements of a block converted under a scale byte; `rnd j` rounds element j. -/
def convBlock (el : Elem) (fromBlock flushOut : Bool) (rnd : Nat → Rnd) (sb : Nat) (vs : List Num) : List Conv :=
  vs.zipIdx.map (fun (v : Num × Nat) => convert el (.scaled fromBlock) flushOut (rnd v.2) (v.1.scale (127 - (sb : Int))))

/-- Flags of a list of conversions, together. -/
def convFlags (cs : List Conv) : Nat := cs.foldl (fun a c => a ||| c.flags) 0
/-- Clamps of a list of conversions. -/
def convSats (cs : List Conv) : Nat := (cs.filter (fun c => c.sat)).length

/-- A block written as NaN (R244 step 1, R252). -/
def nanBlock (n : Nat) : BlockOut := ⟨0xFF, List.replicate n 0, flNan, 0⟩

/-- The block holds NaN or infinity. -/
def blockSpecial (vs : List Num) : Bool := vs.any (fun v => v.isNan || v.isInf)

/-- One block of a scaled output without escape (R244). -/
def scaledBlock (el : Elem) (rule : ScaleRule) (flushOut : Bool) (rnd : Nat → Rnd) (vs : List Num) : BlockOut :=
  if blockSpecial vs then nanBlock vs.length
  else
    let s := chooseScale el rule vs
    if s.1 = 0xFF then nanBlock vs.length
    else
      let cs := convBlock el (decide (rule = .fromBlock)) flushOut rnd s.1 vs
      ⟨s.1, cs.map (fun c => c.code), s.2 ||| convFlags cs, convSats cs⟩

/-- The escape test: a nonzero value would round to zero under round-to-nearest-even (R246, R253). -/
def escapes (el : Elem) (rule : ScaleRule) (vs : List Num) : Bool :=
  !blockSpecial vs &&
    (let s := chooseScale el rule vs
     s.1 != 0xFF &&
      (vs.zip (convBlock el (decide (rule = .fromBlock)) false (fun _ => .rne) s.1 vs)).any (fun (p : Num × Conv) =>
        !p.1.isZero && bitAt p.2.flags 1))

end Sys2Proof.Machine
end

