-- ==== Sys2Proof/Machine/Operands.lean ====
section
/-! DEFINITION. Every operand form of a descriptor: how a matrix, its scales and its escape records lie in memory, and the
sums of products taken over them (R231 to R241, R253, R254, R265). -/

namespace Sys2Proof.Machine

/-- Bytes of a packed row of n elements (R231, R234). -/
def Elem.rowBytes (el : Elem) (n : Nat) : Nat :=
  match el with
  | .fp32 => 4 * n
  | .bf16 | .fp16 => 2 * n
  | .e4m3 | .e5m2 | .int8 => n
  | .e3m2 | .e2m3 => 3 * ((n + 3) / 4)
  | .e2m1 | .int4 => (n + 1) / 2
  | .trn2 => (n + 3) / 4
  | .trn5 => (n + 4) / 5

/-- The number at `n` bytes of engine memory, little-endian; a byte that nothing has written reads 0. -/
def memLe (m : SMap) (a n : Nat) : Nat := leNat (bytesAt 0 m a n)

/-- Element j of a row: its encoding, and whether that is a reserved code (Table 9.3, R233, R234). A base-3 digit is the
encoding of a TRN5 element. -/
def rawAt (m : SMap) (el : Elem) (row j : Nat) : Nat × Bool :=
  match el with
  | .fp32 => (memLe m (row + 4 * j) 4, false)
  | .bf16 | .fp16 => (memLe m (row + 2 * j) 2, false)
  | .e4m3 | .e5m2 | .int8 => (memLe m (row + j) 1, false)
  | .e3m2 | .e2m3 => (bits (memLe m (row + 3 * (j / 4)) 3) (6 * (j % 4)) 6, false)
  | .e2m1 | .int4 => (bits (memLe m (row + j / 2) 1) (4 * (j % 2)) 4, false)
  | .trn2 => let c := bits (memLe m (row + j / 4) 1) (2 * (j % 4)) 2; (c, c == 2)
  | .trn5 => let v := memLe m (row + j / 5) 1; if 243 ≤ v then (0, true) else (v / 3 ^ (j % 5) % 3, false)

/-- A matrix operand: format, address, row stride in units of 64 bytes (0 packed), scale address, rows and columns. -/
structure Opnd where
  fmt : Fmt
  addr : Nat
  ld : Nat
  scale : Nat
  rows : Nat
  cols : Nat
  /-- The address under which the escape records of its blocks are known: its own, or that of the operand it replicates (R283). -/
  src : Nat
  deriving DecidableEq, Repr

/-- Bytes from one row to the next (R265). -/
def Opnd.stride (o : Opnd) : Nat := if o.ld = 0 then o.fmt.el.rowBytes o.cols else 64 * o.ld

/-- Address of row r. -/
def Opnd.row (o : Opnd) (r : Nat) : Nat := o.addr + r * o.stride

/-- Blocks of 32 in a row, and in the operand (R235). -/
def Opnd.nb (o : Opnd) : Nat := (o.cols + 31) / 32
def Opnd.blocks (o : Opnd) : Nat := o.rows * o.nb

/-- The scale byte of block g of row r; an unscaled operand is read as if every scale were 0x7F (R235). -/
def Opnd.scaleAt (o : Opnd) (m : SMap) (r g : Nat) : Nat := if o.fmt.scaled then memLe m (o.scale + r * o.nb + g) 1 else 0x7F

/-- The address of an output's or operand's escape bitmap (R253). -/
def Opnd.bitmap (o : Opnd) : Nat := o.scale + (o.blocks + 7) / 8 * 8

/-- Block g of row r is an escape block (R253, R254). -/
def Opnd.escaped (o : Opnd) (m : SMap) (r g : Nat) : Bool :=
  o.fmt.esc && bitAt (memLe m (o.bitmap + (r * o.nb + g) / 8) 1) ((r * o.nb + g) % 8)

/-- The place of block g of row r. -/
def Opnd.place (o : Opnd) (r g : Nat) : Nat := o.row r + g * o.fmt.el.rowBytes 32

/-- Where escape records lie: for the place of an escaped block, the index written there and the BASE of the stream that wrote it. -/
abbrev EscMap := KMap (Nat × Nat)

/-- The address of the record of an escaped block: BASE + 32·i, with i from the block's place and BASE that of the stream that wrote
the block there (R253, R265). Where no conversion wrote that place, the specification names no area, and the free `Config.escArea`
does (R254; log entry 4). -/
def Opnd.record (o : Opnd) (m : SMap) (ar : EscMap) (r g : Nat) : Nat :=
  let i := memLe m (o.place r g) 4
  let base := match kget ar (o.src + (o.place r g - o.addr)) with
    | some x => if x.1 = i then x.2 else Config.escArea o.src
    | none => Config.escArea o.src
  base / 64 * 64 + 32 * i

/-- The elements of block g of row r and the element format they are read in, with the flags reading sets. -/
def Opnd.block (o : Opnd) (m : SMap) (ar : EscMap) (mode r g : Nat) : Elem × List (Num × Nat) :=
  let n := min 32 (o.cols - 32 * g)
  if o.escaped m r g then
    let a := o.record m ar r g
    (.e4m3, (List.range n).map (fun j => readFlags .e4m3 mode (memLe m (a + j) 1) false))
  else
    (o.fmt.el, (List.range n).map (fun j =>
      let c := rawAt m o.fmt.el (o.row r) (32 * g + j)
      readFlags o.fmt.el mode c.1 c.2))

/-- The records that rows r0 to r0 + n − 1 of an operand use in groups g0 to g0 + k − 1. -/
def Opnd.records (o : Opnd) (m : SMap) (ar : EscMap) (r0 n g0 k : Nat) : List (Nat × Nat) :=
  if o.fmt.esc then
    (List.range n).flatMap (fun i => ((List.range k).filter (fun j => o.escaped m (r0 + i) (g0 + j))).map (fun j =>
      (o.record m ar (r0 + i) (g0 + j), 32)))
  else []

/-- A number and the flags that came with it. -/
abbrev Flagged := Num × Nat

/-- The union of the flags of a list. -/
def flagsOf (xs : List Flagged) : Nat := xs.foldl (fun a x => a ||| x.2) 0

/-- Element j of row r with its block's scale applied, as an engine other than the MXE reads it (R235). -/
def Opnd.value (o : Opnd) (m : SMap) (mode r j : Nat) : Flagged :=
  let c := rawAt m o.fmt.el (o.row r) j
  let x := readFlags o.fmt.el mode c.1 c.2
  let sb := o.scaleAt m r (j / 32)
  if sb = 0xFF then (.nan, x.2 ||| flNan) else (x.1.scale ((sb : Int) - 127), x.2)

/-- A whole row. -/
def Opnd.rowValues (o : Opnd) (m : SMap) (mode r : Nat) : List Flagged := (List.range o.cols).map (fun j => o.value m mode r j)

/-! Products and group sums (R236 to R239). -/

/-- Formats that take the aligned path (Table 9.4). -/
def Elem.aligned : Elem → Bool
  | .bf16 | .fp16 | .e4m3 | .e5m2 => true
  | _ => false

def Elem.isFp8 : Elem → Bool | .e4m3 | .e5m2 => true | _ => false
def Elem.isFp6 : Elem → Bool | .e3m2 | .e2m3 => true | _ => false
def Elem.isTrn : Elem → Bool | .trn2 | .trn5 => true | _ => false

/-- The ordered pairs of Table 9.4. -/
def pairOrdered (a b : Elem) : Bool :=
  (a == .e2m1 && b == .e2m1) || (a == .int4 && b == .int4) ||
  (a.isTrn && (b == .e2m1 || b == .int4 || b.isFp6 || b == .int8 || b.isFp8)) ||
  (b.isFp6 && (a.isFp6 || a == .e2m1)) || (b == .int8 && (a == .int4 || a == .int8)) ||
  (b.isFp8 && (a.isFp8 || a.isFp6 || a == .e2m1)) || (a == .bf16 && b == .bf16) || (a == .fp16 && b == .fp16)

/-- A pair of Table 9.4, in either order (R236). -/
def pairOk (a b : Elem) : Bool := pairOrdered a b || pairOrdered b a

/-- The greatest floor(log2 |p|) over the finite nonzero products (R238). -/
def groupEmax (ps : List Num) : Option Int :=
  ps.foldl (fun a p =>
    match p with
    | .fin _ m e => if m = 0 then a else some (match a with | some x => max x (log2Of m e) | none => log2Of m e)
    | _ => a) none

/-- A product with the bits below 2^q dropped. -/
def dropBelow (q : Int) : Num → Num
  | .fin s m e => .fin s (roundTo .rtz m e q) q
  | x => x

/-- The sum of a group's products, before its scales (R237 to R239). -/
def groupSum (aligned : Bool) (ps : List Num) : Num :=
  match (if aligned then groupEmax ps else none) with
  | some x => (ps.map (dropBelow (x - 27))).foldl Num.add Num.zero
  | none => ps.foldl Num.add Num.zero

/-- The group sum of block g of row i of A with row j of B, scaled, and its flags (R235 to R239, R254). -/
def dotGroup (m : SMap) (ar : EscMap) (mode : Nat) (a b : Opnd) (i j g : Nat) : Flagged :=
  let x := a.block m ar mode i g
  let y := b.block m ar mode j g
  let fl := flagsOf x.2 ||| flagsOf y.2
  let sa := a.scaleAt m i g
  let sb := b.scaleAt m j g
  if sa = 0xFF ∨ sb = 0xFF then (.nan, fl ||| flNan)
  else
    let v := groupSum (x.1.aligned || y.1.aligned) ((x.2.zip y.2).map (fun (p : Flagged × Flagged) => p.1.1.mul p.2.1))
    (v.scale ((sa : Int) + sb - 254), fl ||| flagIf v.isNan flNan)

/-- Groups g0 to g0 + n − 1 added to an accumulator, in order along K (R240; log entry 40). -/
def dotRun (m : SMap) (ar : EscMap) (mode : Nat) (a b : Opnd) (i j g0 n : Nat) (init : Flagged) : Flagged :=
  (List.range n).foldl (fun (acc : Flagged) d =>
    let x := dotGroup m ar mode a b i j (g0 + d)
    let v := acc.1.acc x.1
    (v, acc.2 ||| x.2 ||| flagIf v.isNan flNan)) init

end Sys2Proof.Machine
end

