-- ==== Sys2Proof/Machine/Reals.lean ====
section
/-! DEFINITION. FP32 results that the specification bounds: the exact values of the functions of Table 10.7 in fixed point, free
values held within their bounds, sums in a free order, and softmax (R270, R271, R309, R311). -/

namespace Sys2Proof.Machine

/-- An FP32 value that the specification bounds or leaves unstated (log entry 4). -/
def freeF32 (fn : Nat) (args : List Nat) : Num := n32 (Config.f32Fn fn args).toNat

/-! Fixed point: an integer i stands for i · 2^-512. -/

/-- One. -/
def fxOne : Int := 2 ^ 512
def fxMul (a b : Int) : Int := a * b / fxOne
def fxDiv (a b : Int) : Int := a * fxOne / b

/-- A finite number in fixed point. -/
def Num.fx : Num → Int
  | .fin s m e =>
    let v : Int := if 0 ≤ e + 512 then (m : Int) * 2 ^ (e + 512).toNat else (m : Int) / 2 ^ (-(e + 512)).toNat
    if s then -v else v
  | _ => 0

/-- e^x: the series at x/1024, squared ten times. -/
def fxExp (x : Int) : Int :=
  if x < -400 * fxOne then 0
  else if 200 * fxOne < x then 2 ^ 800
  else
    let r := x / 1024
    let t := (List.range 80).foldl (fun (a : Int × Int) n => let u := fxMul a.2 r / (n + 1 : Nat); (a.1 + u, u)) (fxOne, fxOne)
    (List.range 10).foldl (fun v _ => fxMul v v) t.1

/-- The square root of 2π. -/
def sqrt2pi : Int := 33608390458015858626870505100184901896872972321917957839263632579749974034756919016462914710056970180595289523953895508636485683776112124777707002906256792

/-- The normal distribution function: 1/2 + φ(x) · (x + x³/3 + x⁵/15 + …). -/
def fxPhi (x : Int) : Int :=
  if 16 * fxOne < x then fxOne
  else if x < -16 * fxOne then 0
  else
    let x2 := fxMul x x
    let t := (List.range 800).foldl (fun (a : Int × Int) n => let u := fxMul a.2 x2 / (2 * n + 3 : Nat); (a.1 + u, u)) (x, x)
    fxOne / 2 + fxDiv (fxMul (fxExp (-(x2 / 2))) t.1) sqrt2pi

/-- 1/(1 + e^-x). -/
def fxSigmoid (x : Int) : Int := if 0 ≤ x then fxDiv fxOne (fxOne + fxExp (-x)) else fxDiv (fxExp x) (fxOne + fxExp x)

/-- The hyperbolic tangent. -/
def fxTanh (x : Int) : Int :=
  if 100 * fxOne < x then fxOne else if x < -100 * fxOne then -fxOne else fxDiv (fxExp (2 * x) - fxOne) (fxExp (2 * x) + fxOne)

/-- 1/√x. -/
def fxRsqrt (x : Int) : Int := (Nat.sqrt (2 ^ 1536 / x.toNat) : Int)

/-- A fixed-point value as a number. -/
def Num.ofFx (y : Int) : Num := Num.ofScaled y (-512)

/-! Bounds in units in the last place (Table 10.7). -/

/-- One unit in the last place of FP32 at a value. -/
def fxUlp (y : Int) : Nat := 2 ^ (max ((Nat.log2 y.natAbs : Int) - 512) (-126) + 489).toNat

/-- The number lies within u units in the last place of y; a thousandth of a unit more allows for the error of y itself, which is
far less. -/
def nearFx (c : Num) (y : Int) (u : Nat) : Bool :=
  match c with
  | .fin _ _ _ => decide (1024 * (c.fx - y).natAbs ≤ (1024 * u + 1) * fxUlp y)
  | _ => false

/-- An FP32 result within u units in the last place of y: any such value, by a free choice. Where y lies beyond the finite range the
specification bounds nothing, and the result is free. -/
def boundedF32 (fn : Nat) (args : List Nat) (u : Nat) (y : Int) : Num :=
  let c := freeF32 fn args
  let near := n32 (f32 (Num.ofFx y))
  if near.isInf || nearFx c y u then c else near

/-- The bound and the exact value of a function of Table 10.7 at a number: GELU, SILU, SIGMOID, EXP, TANH, RECIP and RSQRT by their
codes of Table 10.6. At an infinity it is the limit, where that is finite (IEEE 754; log entry 4). None: not stated. -/
def unaryFx (n : Nat) (x : Num) : Option (Nat × Int) :=
  let v := x.fx
  match n, x with
  | 2, .fin _ _ _ => some (4, fxMul v (fxPhi v))
  | 3, .fin _ _ _ => some (3, fxMul v (fxSigmoid v))
  | 4, .fin _ _ _ => some (2, fxSigmoid v)
  | 4, .inf s => some (2, if s then 0 else fxOne)
  | 5, .fin _ _ _ => some (2, fxExp v)
  | 5, .inf true => some (2, 0)
  | 6, .fin _ _ _ => some (2, fxTanh v)
  | 6, .inf s => some (2, if s then -fxOne else fxOne)
  | 7, .fin _ m _ => if m = 0 then none else some (1, fxDiv fxOne v)
  | 7, .inf _ => some (1, 0)
  | 8, .fin s m _ => if m = 0 || s then none else some (1, fxRsqrt v)
  | 8, .inf false => some (1, 0)
  | _, _ => none

/-- A function of Table 10.7, within its bound. -/
def boundedUnary (n : Nat) (x : Num) : Num :=
  match unaryFx n x with
  | some b => boundedF32 (0x110 + n) [f32 x] b.1 b.2
  | none => freeF32 (0x110 + n) [f32 x]

/-! Sums. -/

/-- The FP32 sum of a list of encodings, two at a time in the order that `k` picks: any tree of additions is some order. -/
def f32Tree (k : Nat → Nat) : Nat → List Nat → Nat
  | _, [] => 0
  | _, [x] => x
  | 0, x :: _ => x
  | n + 1, x :: y :: l =>
    let xs := x :: y :: l
    let i := k (2 * n) % xs.length
    let ys := xs.eraseIdx i
    let j := k (2 * n + 1) % ys.length
    f32Tree k n (f32Add (nthD xs i 0) (nthD ys j 0) :: ys.eraseIdx j)

/-- The sum of a row in the engine's fixed pairwise order, which is free but the same for every row of that length (R270). -/
def rowSum32 (xs : List Nat) : Nat := f32Tree (Config.pairing xs.length) xs.length xs

/-- The largest of a row; of a row with NaN, or whose largest are zeros of both signs, the result is not stated. -/
def rowMax (xs : List Num) : Num :=
  let z := xs.any (fun x => x.isZero && x.isNeg) && xs.any (fun x => x.isZero && !x.isNeg) && xs.all (fun x => !(Num.zero.lt x))
  if xs.any Num.isNan || z then freeF32 0x132 (xs.map f32)
  else match xs with
    | [] => Num.zero
    | x :: rest => rest.foldl (fun a y => if a.lt y then y else a) x

/-! Order (R271). -/

/-- x comes after y in the order of TOPK and SORT: smaller, or NaN where y is a number. -/
def after (x y : Num) : Bool := (x.isNan && !y.isNan) || x.lt y

/-- Insert behind everything it does not precede. -/
def insDesc (x : Num × Nat) : List (Num × Nat) → List (Num × Nat)
  | [] => [x]
  | y :: l => if after y.1 x.1 then x :: y :: l else y :: insDesc x l

/-- Values with their indices, largest first, lower index first between equals, NaN last. -/
def sortDesc (xs : List Num) : List (Num × Nat) := xs.zipIdx.foldl (fun l x => insDesc x l) []

/-! Softmax and sampling (R271). -/

/-- Softmax in FP32: the row maximum subtracted, EXP within its bound, divided by the sum of the row. -/
def softmax32 (xs : List Nat) : List Nat :=
  let m := rowMax (xs.map n32)
  let es := xs.map (fun x => f32 (boundedUnary 5 (n32 (f32 ((n32 x).add m.neg)))))
  let t := rowSum32 es
  es.map (fun e => f32Div e t)

/-- FP32 running sums, in order. -/
def runSums (xs : List Nat) : List Nat :=
  match xs with
  | [] => []
  | x :: rest => (rest.foldl (fun (a : List Nat × Nat) y => let t := f32Add a.2 y; (a.1 ++ [t], t)) ([x], x)).1

/-- What SAMPLE keeps of a row: probabilities with their indices, largest first, with their running sums: the shortest prefix of
the top_k largest whose sum reaches top_p of theirs (R271). -/
def samplePrefix (t topp topk : Nat) (xs : List Num) : List ((Num × Nat) × Nat) :=
  let p := softmax32 (xs.map (fun x => f32Div (f32 x) t))
  let o := sortDesc (p.map n32)
  let kept := if topk = 0 then o else o.take topk
  let sums := runSums (kept.map (fun x => f32 x.1))
  let all := kept.zip sums
  let want := (n32 topp).mul (n32 (sums.getLastD 0))
  if !(n32 topp).lt (.fin false 1 0) then all
  else match all.findIdx? (fun x => !(n32 x.2).isNan && !(n32 x.2).lt want) with
    | some i => all.take (i + 1)
    | none => all

/-- The index of the first whose running sum exceeds u = r/2^32 of the prefix's sum. -/
def samplePick (r : Nat) (pre : List ((Num × Nat) × Nat)) : Option Nat :=
  let u := (Num.fin false r (-32)).mul (n32 ((pre.map (fun x => x.2)).getLastD 0))
  (pre.find? (fun x => u.lt (n32 x.2))).map (fun x => x.1.2)

end Sys2Proof.Machine
end

