-- ==== Sys2Proof/Machine/Parts2.lean ====
section
/-! DEFINITION. The parts of the state that compute, services, collectives, the Commons, promenade, power and trust hold. -/

namespace Sys2Proof.Machine

/-! Engines (chapter 10). -/

/-- A tile: the descriptor it belongs to, its number, its part along K, and its home region (R279, R280). -/
structure Tile where
  job : Nat
  num : Nat
  part : Nat
  home : Nat
  deriving DecidableEq, Repr

/-- What a conversion captures when it begins (R251, R259): the stream, its CVT_SCFG word, the scale rule, the escape area, and the
count of the stream's escape sequence. -/
structure CvtRun where
  st : Nat
  cfg : Nat
  rule : ScaleRule
  base : Nat
  cap : Nat
  seq : Nat
  deriving DecidableEq, Repr

/-- A tile running on an engine; `cut` when it was taken by cut-in (R283). -/
structure Run where
  tile : Tile
  cut : Bool
  cvt : Option CvtRun
  deriving DecidableEq, Repr

/-- An issued descriptor that is not complete: its words, the ARITH_MODE it issued under, the tiles left, and the accumulators
of the parts of split tiles that have ended, in order of arrival (R279). -/
structure Job where
  inst : Nat
  addr : Nat
  words : List Nat
  mode : Nat
  left : List (Nat × Nat)
  /-- Tiles cut and not yet queued, in order: issue waits while their queue is full (R280). -/
  wait : List Tile
  accs : List (Nat × List Flagged)
  /-- Prior values that an ATOMIC has still to receive. -/
  todo : Nat
  /-- Operands of an ATOMIC handed to the ATE so far. -/
  sent : Nat
  /-- The slot of the request whose router logits it computes, for the MATMUL of a GATE (R311). -/
  router : Option Nat
  deriving DecidableEq, Repr

/-- A program instance context (R266). `state`: 0 IDLE, 1 RUNNING, 2 DONE, 3 FAULTED, 4 ABORTED. -/
structure Inst where
  state : Nat
  region : Nat
  next : Nat
  mode : Nat
  flags : Nat
  ctr : List Nat
  fault : Nat
  fdesc : Nat
  /-- The END descriptor has issued. -/
  ended : Bool
  /-- Issued descriptors that are not complete. -/
  jobs : List Nat
  /-- Starts of the context. -/
  starts : Nat
  /-- TIME_NS at its start. -/
  t0 : Nat
  /-- The group of requests it serves, when it is a service instance. -/
  grp : Option Nat
  deriving DecidableEq, Repr

/-- An XFE packet that awaits its answer (R273). -/
structure XReq where
  k : Nat
  psn : Nat
  msgid : Nat
  job : Nat
  pkt : Packet
  off : Nat
  len : Nat
  got : Nat
  resends : Nat
  /-- `mono` when it was last sent (RETRY_US, R273). -/
  sentAt : Nat
  deriving DecidableEq, Repr

/-- The engines. -/
structure Eng where
  /-- Scratch and HBM, by engine address; a byte that is not listed reads 0. -/
  mem : SMap
  inst : KMap Inst
  jobs : KMap Job
  nextJob : Nat
  /-- Tile queues, by queue number. -/
  q : KMap (List Tile)
  /-- Running tiles, by engine number. -/
  run : KMap Run
  xfe : List XReq
  /-- PSN and MSGID counters of each XFE, keyed 2·region and 2·region + 1. -/
  xctr : SMap
  /-- Streams that wait for their AMAX exchange. -/
  steps : List Nat
  /-- Blocks converted by each stream since its last sample. -/
  sampled : SMap
  /-- The blocks that each region's checker has taken: stream, the stream's CVT_SCFG word, and the relative error of the block. -/
  chk : KMap (List (Nat × Nat × Nat))
  /-- Where the records of escaped blocks lie (R253, R254). -/
  areas : EscMap
  /-- Writes of CVT_ESC_NEXT that met a conversion of the stream, and the index that the conversions begun before such a write
  use next, keyed by stream and count (R259). -/
  escSeq : SMap
  escOld : SMap
  /-- Use of each stack in the last window beyond that of the two regions it serves (R282). -/
  stackMore : SMap
  /-- A START that waits: the function, and the BAR2 accesses accepted before it (R267). -/
  startReq : Option (Nat × Nat)
  deriving DecidableEq, Repr

/-! Services (chapter 11). -/

/-- A request in a slot (R292 to R299). -/
structure SvcReq where
  sv : Nat
  slot : Nat
  /-- The first of its packets to arrive, and the packet of IDX 0. -/
  first : Deliv
  hdr0 : Option Packet
  npkt : Nat
  seen : List Nat
  lastLen : Nat
  /-- TIME_NS of its first packet. -/
  t0 : Nat
  /-- Header word 6: SES_VALID and SES_GID as they stood at admission (R308). -/
  ses : Nat
  whole : Bool
  answered : Bool
  deriving DecidableEq, Repr

/-- A group of slots (R296): its service, its first slot, the entry it runs under, its requests in order. -/
structure SvcGrp where
  num : Nat
  sv : Nat
  slot0 : Nat
  entry : Nat
  reqs : List SvcReq
  closed : Bool
  /-- The group takes no other request: NOBATCH, TC7 or JOIN_NS 0. -/
  alone : Bool
  /-- TIME_NS at which its first request was complete. -/
  ready : Option Nat
  /-- It has been counted as waiting for a context. -/
  waits : Bool
  inst : Option Nat
  deriving DecidableEq, Repr

/-- One dispatch of a GATE instance (R312, R313). -/
structure GateOrd where
  /-- The slot of the request it serves. -/
  slot : Nat
  gid : Nat
  /-- Tokens in order, each with its weight as an FP32 encoding. -/
  toks : List (Nat × Nat)
  npkt : Nat
  seen : List Nat
  bytes : Nat
  done : Bool
  missing : Bool
  deriving DecidableEq, Repr

/-- A GATE instance between its dispatch and its reply. -/
structure GateRun where
  inst : Nat
  grp : Nat
  ords : List GateOrd
  /-- Dispatches whose answers are complete, in order of arrival. -/
  order : List Nat
  /-- TIME_NS of the last dispatch packet. -/
  t0 : Nat
  deriving DecidableEq, Repr

/-- A copy of SVC_LOAD in progress: its result, the destination and the bytes to write. -/
structure Load where
  dst : Nat
  src : Nat
  prom : Option Nat
  size : Nat
  result : Nat
  deriving DecidableEq, Repr

/-- Resident services. -/
structure Svc where
  grps : List SvcGrp
  nextGrp : Nat
  /-- Refusal records: service, SGID and MSGID, and the TIME_NS at which each was made (R295). -/
  refused : List (Nat × Nat × Nat × Nat)
  /-- Admission buckets. -/
  adm : KMap Bucket
  gates : List GateRun
  /-- Router logits taken so far: instance, slot, tile number, and the tile's accumulators (R311). -/
  logits : List (Nat × Nat × Nat × List Flagged)
  load : Option Load
  deriving DecidableEq, Repr

/-! Collectives and Commons (chapter 12). -/

/-- The states of Table 12.3; FREE is the absence of a chunk. -/
inductive ChunkSt where
  | open_ | sending | done | aborted
  deriving DecidableEq, Repr

/-- A chunk at its home block: settings copied from the entry, members combined, elements of the accumulator (binary32
encodings, or bytes for AND, OR and XOR), and its result. -/
structure Chunk where
  st : ChunkSt
  entry : Nat
  members : List Nat
  acc : List Nat
  result : List Byte
  acode : Nat
  /-- TIME_NS at which it opened, and at which its result or abort left. -/
  t0 : Nat
  tEnd : Nat
  deriving DecidableEq, Repr

/-- In-network reduction: chunks keyed by home block, group and number, and units retired at each block. -/
structure Red where
  chunks : KMap Chunk
  retired : SMap
  deriving DecidableEq, Repr

/-- Who asked for a Commons operation: a packet, or operand i of an ATOMIC descriptor. -/
inductive CmnBy where
  | packet (id : Nat) | engine (job i : Nat)
  deriving DecidableEq, Repr

/-- One request to one line: the bytes it covers as offset and length, and what it does. -/
inductive CmnAct where
  | write (data : List Byte) | read (len : Nat) | atomic (aop : Nat) (ops : List Nat)
  deriving DecidableEq, Repr

/-- A request waiting in a line's batch. -/
structure CmnReq where
  byy : CmnBy
  off : Nat
  act : CmnAct
  deriving DecidableEq, Repr

/-- A packet whose parts are in batches: the parts left, and the bytes read so far at their places. -/
structure CmnOp where
  req : Deliv
  left : Nat
  data : List Byte
  error : Bool
  deriving DecidableEq, Repr

/-- A replay record (R332); `time` is the free-running count of ns at its application, absent while the atomic is pending in an
open batch. -/
structure Rec where
  psn : Nat
  aop : Nat
  off : Nat
  prior : Nat
  time : Option Nat
  deriving DecidableEq, Repr

/-- A source slot of a region's replay store. -/
structure Slot where
  hi : Nat
  recs : List Rec
  deriving DecidableEq, Repr

/-- The Commons. -/
structure Cmn where
  mem : SMap
  poison : List Nat
  /-- Open batches by line: TIME_NS at which each opened, and its requests in order. -/
  batch : KMap (Nat × List CmnReq)
  ops : KMap CmnOp
  nextOp : Nat
  /-- Replay slots, keyed (region, source). -/
  replay : KMap Slot
  /-- Regions being cleared. -/
  clearing : Nat
  deriving DecidableEq, Repr

/-- A cached chunk (R338). -/
structure PChunk where
  psn : Nat
  msgid : Nat
  key : Nat
  ctx : Nat
  data : List Byte
  deriving DecidableEq, Repr

/-- The record of an object (R337). -/
structure Obj where
  total : Nat
  source : Nat
  chunks : KMap PChunk
  deriving DecidableEq, Repr

/-- A repair in service (R339): the PROM_REPAIR, how many of its chunks have been dealt with, how many were sent, and whether all
is sent, NACK and all. -/
structure PRep where
  req : Deliv
  at_ : Nat
  sent : Nat
  ended : Bool
  deriving DecidableEq, Repr

/-- A fetch under way (R340): the object, INDEX as it stood at its start (R336), and the free-running count of ns at its start and
when its repairs were last asked. -/
structure PFetch where
  obj : Nat
  index : Nat
  start : Nat
  last : Nat
  deriving DecidableEq, Repr

/-- Promenade: objects, repairs in service in order of arrival, the fetch under way, and the repairs asked for it: PSN, MSGID and
target. -/
structure Prom where
  objs : KMap Obj
  reps : List PRep
  fetch : Option PFetch
  asked : List (Nat × Nat × Nat)
  deriving DecidableEq, Repr

/-! Power and trust (chapters 15 and 16). -/

/-- A BAR2 access: its number, function, engine address and length, and the bytes of a write. -/
structure Bar2 where
  num : Nat
  fn : Nat
  addr : Nat
  len : Nat
  data : Option (List Byte)
  deriving DecidableEq, Repr

/-- Power and thermal control. -/
structure Pwr where
  /-- The thermal limit in W; none while it equals PKG_LIMIT. -/
  limit : Option Nat
  /-- Block at which the spare units start. -/
  ptr : Nat
  /-- Switching draw used as the basis of the next floor. -/
  floor : Nat
  /-- Failed sensors. -/
  sensors : List Nat
  /-- Regions that are waking. -/
  waking : List Nat
  /-- Stacks in self-refresh. -/
  refresh : List Nat
  /-- The free-running count of ns at the last access to each stack, when each block entered C1 and C2, and when each region entered C3
  (R413, R417). -/
  used : SMap
  c1At : SMap
  c2At : SMap
  c3At : SMap
  /-- Package draws of the intervals of the last ms: their number and sum. -/
  nW : Nat
  sumW : Nat
  /-- BAR2 accesses that wait for a region to wake, oldest first. -/
  bar2 : List Bar2
  /-- BAR2 accesses accepted so far. -/
  nextBar2 : Nat
  deriving DecidableEq, Repr

/-- A flash command in progress (R384): OP, byte address, bytes to program or the number to read, and its RESULT. -/
structure FlashJob where
  op : Nat
  addr : Nat
  count : Nat
  data : List Byte
  result : Nat
  deriving DecidableEq, Repr

/-- Chip-level state: management cores, THERMTRIP_N, the flash interface, self-test and trust (R19, R384, R396 to R402, R419). -/
structure Chip where
  /-- The free-running count of ns when JOIN began (R391). -/
  joinAt : Nat
  /-- The management core that has failed, when one has. -/
  ctlDead : Option Nat
  /-- THERMTRIP_N is asserted. -/
  tripped : Bool
  /-- A slot has been chosen at the last start and is in use. -/
  chosen : Bool
  /-- Slots whose PROGRAM or ERASE was cut by a loss of power or RESET_N (R403). -/
  torn : List Nat
  flash : Option FlashJob
  /-- A self-test is running: whether it is a full one, and its MEM. -/
  test : Option (Bool × Nat)
  /-- The owner anchor of the identity store, 48 bytes, once bound (R399). -/
  anchor : Option (List Byte)
  /-- The root and signing keys of the KEYS record in use, 97 bytes each. -/
  keys : List (List Byte)
  /-- Measurements 2, 3 and 4 (Table 15.10). -/
  m2 : Nat
  m3 : Nat
  m4 : Nat
  /-- Functions whose requester has agreed the algorithms of Table 15.9. -/
  agreed : List Nat
  deriving DecidableEq, Repr

end Sys2Proof.Machine
end

