-- ==== Sys2Proof/Machine/State.lean ====
section
/-! DEFINITION. The state of the part: every register, queue, table, memory and pin the specification gives it, as plain data. -/

namespace Sys2Proof.Machine

/-- The state of the part. -/
structure State where
  /-- Commands waiting, first in, first out. -/
  pending : List Instr
  tb : TimeBase
  i3c : I3c
  jtag : Jtag
  /-- Register fields, keyed (field, index); a field not listed holds its reset value. -/
  regs : SMap
  /-- True in device state OFF. -/
  off : Bool
  /-- True once the start-up sequence has reached its step 9, or SAFE. -/
  started : Bool
  /-- True while CTL0 or CTL1 runs firmware (R381, R394). -/
  fw : Bool
  acc : Acc
  tel : Tel
  mgmt : Mgmt
  /-- The configuration flash; a byte not listed reads 0xFF. -/
  flash : SMap
  sw : Sw
  tab : Tab
  ports : Ports
  gate : Gate
  fen : Fen
  gw : Gw
  opt : Opt
  eng : Eng
  svc : Svc
  red : Red
  cmn : Cmn
  prom : Prom
  pwr : Pwr
  chip : Chip
  /-- Effects outside the part, newest first. -/
  out : List Output
  /-- How many free values have been drawn (log entry 4). -/
  freeCtr : Nat
  deriving DecidableEq, Repr

/-- Reasons for a fault. No command of this block ends in one: every error the specification names is an effect on the
state (a record, a counter, an answer), so this closed type has no constructor. -/
inductive Fault where
  deriving DecidableEq, Repr

/-- Reasons for a refusal. -/
inductive Refusal where
  /-- Raised by a dispatch arm of a command that has no meaning yet. Safe: the machine stops. -/
  | notModelled (mnemonic : String)
  /-- Raised by JTAG_INTERNAL while internal JTAG is enabled: the specification gives instructions 0x80 to 0xFE no effect.
  Safe: the machine stops. -/
  | debugUnit
  deriving DecidableEq, Repr

/-- The part right after RESET_N is released (R7): every register field at its reset value, every queue empty. -/
def State.reset : State where
  pending := []
  tb := ⟨0, 0, false, 0, 0, none⟩
  i3c := ⟨none, false, 16, 32, none⟩
  jtag := ⟨.idcode, 0⟩
  regs := []
  off := false
  started := false
  fw := false
  acc := ⟨[], [], [], [], [], 0⟩
  tel := ⟨[], [], none, [], [], 0, 0, []⟩
  mgmt := ⟨[], [], [], [], [], [], none, [], 0⟩
  flash := []
  sw := { slot := 0, pkts := [], nextPid := 0, nextSeg := 0, outOf := [], fresh := [], rx := [], voq := [], spill := [], ptr := [], seqs := [], streams := [], t1 := [],
          iq := [], mrec := [], copies := [], wall := [], skips := [], skipT := [], t2 := [], stop := [], flows := [], egq := [],
          eh := [], gather := [], tx := [], rsvUsed := [], act := [], deficit := [], credited := [], buckets := [], punt := none,
          puntQ := [], localQ := [], shown := 0 }
  tab := { dt := [], lg := [], tcam := [], shadow := [], mcg := [], cgt := [], ses := [], svc := [], bad := [], learnQ := [],
           window := 1000000000, held := [], jobs := [], nextJob := 0, chg := [], chgAt := 0, spray := [] }
  ports := { port := [], test := none, sref := [], apps := [], waitReady := [], slots := [], monitors := [] }
  gate := { cycle := 0, limit := 0, armed := none, last := 0, next := 0, lastStepped := false, nextStepped := false, count := 0,
            edge := none, pulse := none }
  fen := { own := [], rack := [], votes := [], low := [], sit := [], suspects := [], window := [], holds := [], scan := [], seq := 0, round := 0, recAt := 0, roundAt := 0 }
  gw := { reqs := [], bufs := [], nextReq := 0, nextBuf := 0, ctr := [] }
  opt := { ring := [], ocl := [], line := [], capN := [], capSum := [], tap := [], dark := [], twi := 0, cal := none, fails := [], next := 0,
           start := 0, early := [], ports := 0, last := none, restore := [], hold := [], plan := none, led := false, skip := [] }
  eng := { mem := [], inst := [], jobs := [], nextJob := 0, q := [], run := [], xfe := [], xctr := [], steps := [], sampled := [], chk := [],
           areas := [], escSeq := [], escOld := [], stackMore := [], startReq := none }
  svc := { grps := [], nextGrp := 0, refused := [], adm := [], gates := [], logits := [], load := none }
  red := { chunks := [], retired := [] }
  cmn := { mem := [], poison := [], batch := [], ops := [], nextOp := 0, replay := [], clearing := 0 }
  prom := { objs := [], reps := [], fetch := none, asked := [] }
  pwr := { limit := none, ptr := 0, floor := 0, sensors := [], waking := [], refresh := [], used := [], c1At := [], c2At := [], c3At := [], nW := 0, sumW := 0, bar2 := [], nextBar2 := 0 }
  chip := { joinAt := 0, ctlDead := none, tripped := false, chosen := false, torn := [], flash := none, test := none, anchor := none, keys := [], m2 := 0,
            m3 := 0, m4 := 0, agreed := [] }
  out := []
  freeCtr := 0

end Sys2Proof.Machine
end

