-- ==== Sys2Proof/Machine/Ops.lean ====
section
/-! DEFINITION. The named operations over the state that every family of commands shares: register fields, counters, free
values, host rings and interrupts, host events, fault records, and the numbering of units. -/

namespace Sys2Proof.Machine

/-- The key of a register field in the register file. -/
def fkey (f : Fld) (i : Nat) : Nat := Nat.pair f.ctorIdx i

/-- The value of a register field: what was last stored, or its reset value, in the field's own bits. -/
def State.rd (s : State) (f : Fld) (i : Nat) : Nat := sget (f.reset i) s.regs (fkey f i) % 2 ^ f.width

/-- Store a register field, cut to its width. -/
def State.wr (s : State) (f : Fld) (i v : Nat) : State :=
  { s with regs := sset (f.reset i) s.regs (fkey f i) (v % 2 ^ f.width) }

/-- True when a one-bit field is 1. -/
def State.flag (s : State) (f : Fld) (i : Nat) : Bool := s.rd f i == 1

/-- Do something to the state when a condition holds. -/
def State.when (s : State) (c : Bool) (g : State → State) : State := if c then g s else s

/-- Draw a free value below `n` (log entry 4). `tag` says what it stands for. -/
def State.free (s : State) (tag n : Nat) : Nat × State :=
  (Config.freeNat tag s.freeCtr % n, { s with freeCtr := s.freeCtr + 1 })

/-- Record an effect outside the part. -/
def State.emit (s : State) (o : Output) : State := { s with out := o :: s.out }

/-- The lands of the boundary chain follow the boundary register: sideband, flash and SYNC traffic is lost (R458). -/
def State.landsHeld (s : State) : Bool := s.jtag.instr == .extest || s.jtag.instr == .clamp || s.jtag.instr == .highz

/-- Drive an output land of the boundary chain. -/
def State.pin (s : State) (name : String) (level : Bool) : State := if s.landsHeld then s else s.emit (.pin name level)

/-- TIME_NS. A captured timestamp is this value: of the deviations up to 2 ns that R28 allows the model takes 0 (the model's choice,
log entry 20). -/
def State.now (s : State) : Nat := s.tb.ns.toNat

/-- The span from one TIME_NS value to another, modulo 2^32. -/
def span32 (a b : Nat) : Nat := (b + 2 ^ 32 - a % 2 ^ 32) % 2 ^ 32

/-- An instant given by its TIME_NS value lies at or before now, by the modular order of R194. -/
def State.reached (s : State) (t : Nat) : Bool := decide (span32 t s.now < 2 ^ 31)

/-- `t` with what only the time, sideband and JTAG families change, and the queue of commands, as in `s`. -/
def State.settled (s t : State) : State := { t with pending := s.pending, tb := s.tb, i3c := s.i3c, jtag := s.jtag }
/-- The outcome of a command of another family: its effect `t`, settled. -/
def settle (s t : State) : Host.Outcome State Fault Refusal := .next (s.settled t)

/-! Units (R15 to R17). -/

/-- The first lane of the port that a lane belongs to is found among lanes of its line block: a port is enabled and covers
the lane. Width code w of CORE_PORT_CFG means 2^w lanes. -/
def State.portOfLane (s : State) (lane : Nat) : Option Nat :=
  ((List.range 8).map (fun j => 8 * (lane / 8) + j)).find? (fun n =>
    s.flag .corePortCfg_en n && n ≤ lane && decide (lane < n + 2 ^ s.rd .corePortCfg_width n))

/-- The region of a core block (R17). -/
def regionOfBlock (b : Nat) : Nat := if b < 64 then b / 8 else b - 64

/-- The core block of a port: its line block (R16, R17). -/
def blockOfPort (n : Nat) : Nat := n / 8

/-- True when region k is out of service. -/
def State.regionDead (s : State) (k : Nat) : Bool := bitAt (s.rd .cfgFaultSummary_regionFailed 0) k

/-- True when core block b is out of service: failed itself, or in a failed region (R37, R38). -/
def State.blockDead (s : State) (b : Nat) : Bool :=
  s.regionDead (regionOfBlock b) ||
    (if b < 64 then bitAt (s.rd .cfgRegionStatus_lbFail (b / 8)) (b % 8) else s.flag .cfgRegionStatus_svFail (b - 64))

/-- True when compute block c is out of service. -/
def State.computeDead (s : State) (c : Nat) : Bool :=
  s.regionDead (c / 8) || bitAt (s.rd .cfgRegionStatus_cbFail (c / 8)) (c % 8)

/-- True when HBM stack j has failed (R26). -/
def State.stackDead (s : State) (j : Nat) : Bool := bitAt (s.rd .cfgFaultSummary_hbmFailed 0) j

/-- The part's own GID, when it has one (R392). -/
def State.gid? (s : State) : Option Nat := if s.flag .cfgGid_valid 0 then some (s.rd .cfgGid_gid 0) else none

/-! Counters (R421 to R423). -/

/-- The live value of counter i of group g. -/
def State.count (s : State) (g i : Nat) : Nat := sget 0 s.tel.cnt (Nat.pair g i)

/-- Add to a counter: traffic counters (groups 0 and 1) wrap at 48 bits and set their TEL_WRAP bit, event counters stop at
32 ones (R421, R422). Nothing counts in OFF. -/
def State.bumpN (s : State) (g i n : Nat) : State :=
  if s.off then s else
  let v := s.count g i + n
  let w := if g < 2 then v % 2 ^ 48 else min v 0xFFFFFFFF
  let s1 := { s with tel := { s.tel with cnt := sset 0 s.tel.cnt (Nat.pair g i) w } }
  if g < 2 ∧ 2 ^ 48 ≤ v then
    s1.wr .telWrap_wrap (256 * g + i / 32) (setBit (s1.rd .telWrap_wrap (256 * g + i / 32)) (i % 32))
  else s1

/-- Count one event of a port; it counts only while its index is the first lane of an enabled port (R423). -/
def State.bumpPort (s : State) (n : Nat) (e : PortEv) : State :=
  s.when (s.flag .corePortCfg_en n) (fun s => s.bumpN 2 (64 * n + e.ctorIdx) 1)
/-- Count one event of a port and class. -/
def State.bumpClass (s : State) (n c : Nat) (e : ClassEv) : State :=
  s.when (s.flag .corePortCfg_en n) (fun s => s.bumpN 3 (4 * (8 * n + c) + e.ctorIdx) 1)
/-- Count bytes and one packet of a port and class, received (group 0) or sent (group 1) (R425). -/
def State.bumpTraffic (s : State) (g n c bytes : Nat) : State :=
  s.when (s.flag .corePortCfg_en n) (fun s => (s.bumpN g (2 * (8 * n + c)) bytes).bumpN g (2 * (8 * n + c) + 1) 1)
/-- Count events of the Reel, in the region of the core block at which they arise. -/
def State.bumpCore (s : State) (k c : Nat) (e : CoreEv) (n : Nat := 1) : State := s.bumpN 4 (16 * (8 * k + c) + e.ctorIdx) n
/-- Count events of the tables. -/
def State.bumpTab (s : State) (e : TabEv) (n : Nat := 1) : State := s.bumpN 5 e.ctorIdx n
/-- Count one event of a lane's optics. -/
def State.bumpOpt (s : State) (n : Nat) (e : OptEv) : State := s.bumpN 6 (8 * n + e.ctorIdx) 1
/-- Count events of a conversion stream. -/
def State.bumpCvt (s : State) (st : Nat) (e : CvtEv) (n : Nat := 1) : State := s.bumpN 7 (8 * st + e.ctorIdx) n
/-- Count one event of a service. -/
def State.bumpSvc (s : State) (sv : Nat) (e : SvcEv) : State := s.bumpN 9 (16 * sv + e.ctorIdx) 1
/-- Count events of a line block's reductions. -/
def State.bumpRed (s : State) (lb : Nat) (e : RedEv) (n : Nat := 1) : State := s.bumpN 10 (16 * lb + e.ctorIdx) n
/-- Count one event of a region's Commons. -/
def State.bumpCmn (s : State) (k : Nat) (e : CmnEv) : State := s.bumpN 11 (8 * k + e.ctorIdx) 1
/-- Count events of the promenade cache. -/
def State.bumpProm (s : State) (e : PromEv) (n : Nat := 1) : State := s.bumpN 12 e.ctorIdx n
/-- Count one event of a region's gateway engine. -/
def State.bumpGw (s : State) (k : Nat) (e : GwEv) : State := s.bumpN 13 (8 * k + e.ctorIdx) 1
/-- Count one event of the chip. -/
def State.bumpChip (s : State) (e : ChipEv) : State := s.bumpN 14 e.ctorIdx 1
/-- Count one event of memory m of region k (R432). -/
def State.bumpMem (s : State) (k m : Nat) (e : MemEv) : State := s.bumpN 15 (4 * (8 * k + m) + e.ctorIdx) 1

/-! Host rings and interrupts (R447 to R452). -/

/-- True while a function's DMA and interrupts are stopped (R441; log entry 7). -/
def State.fnStopped (s : State) (fn : Nat) : Bool := s.mgmt.d3.contains fn || s.mgmt.flr.contains fn

/-- A dword of a function's MSI-X table; vector control is masked at reset (log entry 8). -/
def State.msixWord (s : State) (fn d : Nat) : Nat := sget (if d % 4 = 3 then 1 else 0) s.mgmt.msix (Nat.pair fn d)

/-- Send a vector's message, or set its pending bit while it is masked. -/
def State.msixSend (s : State) (fn vec : Nat) : State :=
  if s.msixWord fn (4 * vec + 3) % 2 = 1 then
    { s with mgmt := { s.mgmt with pba := sset 0 s.mgmt.pba (Nat.pair fn vec) 1 } }
  else
    let s := s.emit (.msix fn vec (s.msixWord fn (4 * vec) + 2 ^ 32 * s.msixWord fn (4 * vec + 1)) (s.msixWord fn (4 * vec + 2)))
    if s.rd .pcieFnCfg_holdUs fn = 0 then s
    else { s with mgmt := { s.mgmt with hold := kput s.mgmt.hold (Nat.pair fn vec) (false, s.tb.mono) } }

/-- A cause of a vector arises: it is sent, or merged into the message that the hold time delays (R452). -/
def State.msixCause (s : State) (fn vec : Nat) : State :=
  if s.fnStopped fn then s else
  match kget s.mgmt.hold (Nat.pair fn vec) with
  | some h => { s with mgmt := { s.mgmt with hold := kput s.mgmt.hold (Nat.pair fn vec) (true, h.2) } }
  | none => s.msixSend fn vec

/-- The ring index of a function's ring in the register file and the ring table. -/
def ringIdx (fn r : Nat) : Nat := 3 * fn + r

/-- What a ring captured at EN. -/
def State.ring (s : State) (fn r : Nat) : Ring := (kget s.mgmt.rings (ringIdx fn r)).getD ⟨0, 12, 0, 0⟩

/-- Replace a ring's record. -/
def State.setRing (s : State) (fn r : Nat) (x : Ring) : State :=
  { s with mgmt := { s.mgmt with rings := kput s.mgmt.rings (ringIdx fn r) x } }

/-- The vector of Table 18.5 that a ring's advance causes. -/
def ringVec (r : Nat) : Nat := if r = 0 then 2 else r - 1

/-- The head of an entry (R448). -/
def entryHead (ty cells seq : Nat) (b8 : List Byte) : List Byte :=
  leBytes 2 ty ++ leBytes 2 cells ++ leBytes 4 seq ++ slice b8 0 8

/-- Write one entry into a ring that is known to have room for it, at the part's index. -/
def State.putEntry (s : State) (fn r ty cells : Nat) (b8 body : List Byte) : State :=
  let ring := s.ring fn r
  let x := s.rd .pcieRingPartIdx_idx (ringIdx fn r)
  let s := s.emit (.hostWrite fn (ring.base + 64 * (x % 2 ^ ring.log2)) (slice (entryHead ty cells ring.seq b8 ++ body) 0 (64 * cells)))
  let s := s.setRing fn r { ring with seq := (ring.seq + 1) % 2 ^ 32 }
  s.wr .pcieRingPartIdx_idx (ringIdx fn r) (x + cells)

/-- Cells free in ring 1 or 2 of a function: its size less what the host has not yet consumed (R447). -/
def State.ringRoom (s : State) (fn r : Nat) : Nat :=
  2 ^ (s.ring fn r).log2 -
    span32 (s.rd .pcieRingHostIdx_idx (ringIdx fn r)) (s.rd .pcieRingPartIdx_idx (ringIdx fn r))

/-- The cells an entry of `body` bytes after its head takes. -/
def entryCells (body : List Byte) : Nat := (16 + body.length + 63) / 64

/-- Cells needed at the ring's present place: those of the entry, and of the PAD entry before it when it would wrap (R448). -/
def State.padCells (s : State) (fn r cells : Nat) : Nat :=
  let size := 2 ^ (s.ring fn r).log2
  let pos := s.rd .pcieRingPartIdx_idx (ringIdx fn r) % size
  if pos + cells ≤ size then 0 else size - pos

/-- True when an entry can be written to a ring now. -/
def State.ringTakes (s : State) (fn r : Nat) (body : List Byte) : Bool :=
  s.flag .pcieRingCfg_en (ringIdx fn r) && !s.fnStopped fn &&
    decide (s.padCells fn r (entryCells body) + entryCells body ≤ s.ringRoom fn r)

/-- Write an entry, preceded by PAD where it would wrap, and send the ring's message (R447, R448). The ring is known to take it. -/
def State.writeEntry (s : State) (fn r ty : Nat) (b8 body : List Byte) : State :=
  let pad := s.padCells fn r (entryCells body)
  let s := s.when (pad != 0) (fun s => s.putEntry fn r 0x0006 pad [] [])
  (s.putEntry fn r ty (entryCells body) b8 body).msixCause fn (ringVec r)

/-- Post an event to a function's ring 1; an event that the ring cannot take is lost and counted (R450). -/
def State.postEvent (s : State) (fn ty : Nat) (b8 body : List Byte) : State :=
  if s.ringTakes fn 1 body then s.writeEntry fn 1 ty b8 body
  else
    let s := s.wr .pcieFnStatus_evtLost fn (min (s.rd .pcieFnStatus_evtLost fn + 1) 0xFFFF)
    let s := s.wr .pcieFnStatus_evtOverflow fn 1
    s.setRing fn 1 { s.ring fn 1 with lost := (s.ring fn 1).lost + 1 }

/-- When room has returned, post one OVERFLOW entry naming the events lost since the last such entry (R450). -/
def State.postOverflow (s : State) (fn : Nat) : State :=
  if (s.ring fn 1).lost ≠ 0 ∧ s.ringTakes fn 1 [] then
    let n := (s.ring fn 1).lost
    let s := s.setRing fn 1 { s.ring fn 1 with lost := 0 }
    s.writeEntry fn 1 0x0005 (leBytes 4 n) []
  else s

/-- The lease owner's function, when there is one (R443). -/
def State.owner? (s : State) : Option Nat :=
  let o := s.rd .cfgLeaseStatus_owner 0
  if o = 1 then some 0 else if o = 2 then some 1 else none

/-! Intervals are measured by the free-running count of ns, which TIME_NS counts with and whose steps do not change it: a deadline set
from TIME_NS moves with a step (R195). -/

/-- `n` ns have passed since `t`. -/
def State.passed (s : State) (t n : Nat) : Bool := decide (t + n ≤ s.tb.mono)

/-! Host events and fault records (R435 to R439). -/

/-- The BAR0 offset of one place of a register. -/
def Reg.offset (r : Reg) (i : Nat) : Nat := r.dims.foldl (fun a d => a + d.stride * (i / d.mul % d.count)) r.base

/-- The lowest bit of a field in its register. -/
def Reg.bitOf (r : Reg) (f : Fld) : Nat :=
  match r.fields.find? (fun x => x.fld.ctorIdx == f.ctorIdx) with
  | some x => x.lo
  | none => 0

/-- Post a HOST_EVENT entry naming a register bit to both event rings (R439, Table 18.3). -/
def State.hostEvent (s : State) (off bit : Nat) : State :=
  let b8 := leBytes 4 off ++ [BitVec.ofNat 8 bit]
  (s.postEvent 0 0x0002 b8 []).postEvent 1 0x0002 b8 []

/-- Set bit `b` of a field that raises a host event, and raise it. -/
def State.event (s : State) (r : Reg) (f : Fld) (i : Nat) (b : Nat := 0) : State :=
  (s.wr f i (setBit (s.rd f i) b)).hostEvent (r.offset i) (r.bitOf f + b)

/-- The 64 bytes of a fault record (Table 17.3), with its CRC. -/
def FaultRec.image (q : FaultRec) : List Byte :=
  let head := leBytes 8 q.seq ++ leBytes 4 q.time ++ leBytes 4 (q.epoch % 2 ^ 32).toNat ++ leBytes 2 q.code ++
    leBytes 1 q.sev ++ leBytes 1 q.state ++ leBytes 8 0
  let det := slice (q.detail.flatMap (fun d => leBytes 4 d)) 0 32
  head ++ leBytes 4 (crc32c (head ++ det)) ++ det

/-- Program one byte: a flash program only clears bits. -/
def progByte (m : SMap) (a : Nat) (b : Byte) : SMap := sset 0xFF m a (sget 0xFF m a &&& b.toNat)

/-- Program bytes from an address up. -/
def progBytes (m : SMap) (a : Nat) : List Byte → SMap
  | [] => m
  | b :: bs => progBytes (progByte m a b) (a + 1) bs

/-- Erase the 64 KiB sector that holds an address. -/
def eraseSector (m : SMap) (a : Nat) : SMap := m.filter (fun e => decide (e.1 / 0x10000 ≠ a / 0x10000))

/-- The place after a record in the flash log, which wraps at its end (R438). -/
def nextLogPlace (a : Nat) : Nat := if a + 64 < 0x3800000 then a + 64 else 0x3000000

/-- Program the oldest pending record at the next place. When that place opens a sector, the sector after it is erased, so
that the next sector is kept erased ahead (R438). -/
def State.commitOne (s : State) : State :=
  match s.tel.log with
  | [] => s
  | q :: rest =>
    let a := s.rd .telLogStatus_next 0
    let ahead := if a + 0x10000 < 0x3800000 then a + 0x10000 else 0x3000000
    let m := if a % 0x10000 = 0 then eraseSector s.flash ahead else s.flash
    let s := { s with flash := if s.landsHeld then s.flash else progBytes m a q.image, tel := { s.tel with log := rest } }
    (s.wr .telLogStatus_next 0 (nextLogPlace a)).wr .telLogStatus_pending 0 rest.length

/-- Program every pending record, in SEQ order. -/
def State.commitLog (s : State) : State := Nat.rec s (fun _ t => t.commitOne) s.tel.log.length

/-- Make a fault record: SEQ, the on-chip ring, the flash log and both event rings (R435 to R439). A FATAL record is programmed at once,
with those that wait before it, but after a flash command in progress (R438, Table 17.5). -/
def State.fault (s : State) (code sev : Nat) (detail : List Nat) : State :=
  let q : FaultRec := ⟨s.rd .telFaultSeq_seq 0 + 1, s.now, s.tel.epoch, code, sev, s.rd .cfgState_state 0, detail⟩
  let s := { s with tel := { s.tel with ring := kput s.tel.ring (q.seq % 1024) q } }
  let s := s.wr .telFaultSeq_seq 0 q.seq
  let s := if s.tel.log.length < 64 then
      { s with tel := { s.tel with log := s.tel.log ++ [q] } }.wr .telLogStatus_pending 0 (s.tel.log.length + 1)
    else s.bumpChip .logDrop
  let s := s.when (sev == 3 && s.chip.flash.isNone) State.commitLog
  (s.postEvent 0 0x0001 [] q.image).postEvent 1 0x0001 [] q.image

/-- Raise an IBI cause: pending causes merge, the lowest being named; none is raised while IBIs are disabled (R456). -/
def State.raiseIbi (s : State) (cause : Nat) : State :=
  if s.i3c.ibiEn then
    { s with mgmt := { s.mgmt with ibi := some (match s.mgmt.ibi with | some c => min c cause | none => cause) } }
  else s

/-- A GID is in sit-out (R365). -/
def State.inSitOut (s : State) (g : Nat) : Bool := (kget s.fen.sit g).isSome

end Sys2Proof.Machine
end

