-- ==== Sys2Proof/Machine/Access.lean ====
section
/-! DEFINITION. Register access: which register an offset names, whether a write is accepted, and the access codes
(R6 to R11, R34, R39, R381, R394, R445). -/

namespace Sys2Proof.Machine

/-- The source's number: a key for what each source holds of its own (R128, R11). -/
def srcIdx : Src → Nat
  | .fn0 => 0 | .fn1 => 1 | .ring0 => 2 | .ring1 => 3 | .image => 4 | .ctl0 => 5 | .ctl1 => 6

/-- The PCI Express function that a BAR0 write comes from. -/
def srcFn? : Src → Option Nat
  | .fn0 => some 0 | .fn1 => some 1 | _ => none

/-- The function whose own registers a source sees in the PCIE_ range and at CFG_LEASE_CTRL; the others see none there. -/
def srcView : Src → Option Nat
  | .fn0 => some 0 | .ring0 => some 0 | .fn1 => some 1 | .ring1 => some 1 | .image => none | .ctl0 => none | .ctl1 => none

/-- The rank of a source among writes of one register in one cycle; the least is kept (R34). A function and a ring that are not
the lease owner's come after every source that R34 lists: their write was accepted under a lease that has ended since (log
entry 16). No two sources have one rank. -/
def State.srcRank (s : State) (src : Src) : Nat :=
  let late := match srcView src with
    | some f => if s.owner? = some f then 0 else 10 + f
    | none => 0
  late + match src with
    | .fn0 => 1 | .fn1 => 1 | .ring0 => 3 | .ring1 => 3 | .image => 5 | .ctl0 => 6 | .ctl1 => 7

/-- The flattened index of an offset relative to a register's base, and what is left over. -/
def decodeDims : List Dim → Nat → Nat → Option (Nat × Nat)
  | [], rel, i => some (i, rel)
  | d :: ds, rel, i => if rel / d.stride < d.count then decodeDims ds (rel % d.stride) (i + rel / d.stride * d.mul) else none

/-- A register place: the register, its index, and whether the offset names the upper half. -/
structure Place where
  reg : Reg
  idx : Nat
  upper : Bool
  deriving DecidableEq, Repr

/-- The place of a register that an offset names, if it names one. -/
def placeIn (r : Reg) (off : Nat) : Option Place :=
  if off < r.base then none
  else match decodeDims r.dims (off - r.base) 0 with
    | some (i, 0) => some ⟨r, i, false⟩
    | some (i, 4) => if r.is64 then some ⟨r, i, true⟩ else none
    | _ => none

/-- The register that an offset names, as function `fn` sees it: a register kept per function takes that function's index. -/
def place? (fn off : Nat) : Option Place :=
  (Reg.all.findSome? (fun r => placeIn r off)).map (fun p =>
    if p.reg.perFn then { p with idx := fn * (p.reg.dims.foldl (fun a d => a * d.count) 1) + p.idx } else p)

/-- The region inside which a register lies, for registers of a port, lane, slot, stream, line block or region (R39; log
entry 12). FEN_PORT belongs to the fence engine, PWR_REGION_STATUS and PWR_CB_GRANT to the power arbiter: units of the chip
level, whose registers stay readable (the model's choice, log entry 12). -/
def Reg.region? (r : Reg) (i : Nat) : Option Nat :=
  match r with
  | .coreLaneStatus | .corePortCfg | .corePortStatus | .coreNbrExpect | .coreNbr | .dtPortLearn | .schPortCfg | .schPortStatus
  | .schDrrCfg | .gatePortCtrl | .gatePortStatus | .timePortCfg | .optChanCfg | .optChanStatus | .optPlanNext => some (i / 64)
  | .schShape | .schIpol => some (i / 512)
  | .gateList => some (i / 8192)
  | .optRingStatus => some (i / 128)
  | .optLinePwr => some (i / 256)
  | .optModStatus | .optSlotCtrl | .oclStatus | .redLbStatus => some (i / 8)
  | .corePoolStatus | .cmnStatus | .gwStatus | .engUtil => some i
  | .engSat => some (i / 4)
  | .cvtScfg | .cvtAmax | .cvtSstatus | .cvtSctrl | .cvtEscCfg | .cvtEscNext => some (i / 32)
  | _ => none

/-- A register lies inside a failed region (R39). -/
def State.regDead (s : State) (r : Reg) (i : Nat) : Bool := match r.region? i with | some k => s.regionDead k | none => false

/-- The CFG_ and SEC_ blocks, which are served before firmware runs and in SAFE (R381, R394). -/
def cfgOrSec (off : Nat) : Bool := off / 0x10000 == 0x10 || off / 0x10000 == 0x6C

/-- BAR0 is served at an offset: never in OFF, and only the CFG_ and SEC_ blocks while firmware is not running. -/
def State.served (s : State) (off : Nat) : Bool := !s.off && (s.fw || cfgOrSec off)

/-- Offsets that a function may write without the lease: its own CFG_LEASE_CTRL and its PCIE_ range (R445). -/
def leaseExempt (off : Nat) : Bool := off == 0x100060 || (decide (0x7C0000 ≤ off) && decide (off < 0x7C2000))

/-- The lease test of a write (R445). -/
def State.leaseOk (s : State) (src : Src) (off : Nat) : Bool :=
  match srcFn? src with
  | some fn => leaseExempt off || s.owner? == some fn
  | none => true

/-- A CMD field of a register reads 1 (R10). -/
def State.cmdBusy (s : State) (r : Reg) (i : Nat) : Bool := r.fields.any (fun f => decide (f.acc = .cmd) && s.rd f.fld i != 0)

/-- A write of a register place is accepted (R8, R10, R39, R381, R394, R445). -/
def State.accepts (s : State) (src : Src) (r : Reg) (i : Nat) : Bool :=
  (s.served (r.offset i) || (src == .image && !s.off)) && s.leaseOk src (r.offset i) && !s.regDead r i && !s.cmdBusy r i

/-- A write that fails the lease test sets its function's WRITE_IGNORED (R445). -/
def State.markIgnored (s : State) (src : Src) (off : Nat) : State :=
  match srcFn? src with
  | some fn => if s.off ∨ s.leaseOk src off then s else s.wr .cfgLeaseCtrl_writeIgnored fn 1
  | none => s

/-- The new value of a field under its access code (Table 0.3). `v` and `m` are the bits written and the mask of bits that
the access covers. -/
def accessValue (a : Access) (old v m : Nat) : Nat :=
  match a with
  | .rw => clearMask old m ||| (v &&& m)
  | .w1c => clearMask old (v &&& m)
  | .w1s => old ||| (v &&& m)
  | .ro | .wo | .cmd => old

/-- All fields of one register change in one step (R31). -/
def State.writeFields (s : State) (r : Reg) (i val mask : Nat) : State :=
  r.fields.foldl (fun s f =>
    match f.acc with
    | .rw | .w1c | .w1s =>
      let w := f.fld.width
      let old := s.rd f.fld i
      let new := accessValue f.acc old (bits val f.lo w) (bits mask f.lo w)
      if new = old then s else s.wr f.fld i new
    | _ => s) s

/-- A register as its stored fields give it. -/
def State.storedReg (s : State) (r : Reg) (i : Nat) : Nat :=
  r.fields.foldl (fun a f => if f.acc = .wo then a else a + s.rd f.fld i * 2 ^ f.lo) 0

/-- The whole mask of a register. -/
def Reg.mask (r : Reg) : Nat := if r.is64 then 2 ^ 64 - 1 else 2 ^ 32 - 1

/-- The value of a field in a register value. -/
def Reg.get (r : Reg) (f : Fld) (val : Nat) : Nat := bits val (r.bitOf f) f.width

end Sys2Proof.Machine
end

