-- ==== Sys2Proof/Machine/Lookup.lean ====
section
/-! DEFINITION. The lookup: link groups, the Destination Table, multicast groups and the LPM TCAM (chapter 4). -/

namespace Sys2Proof.Machine

/-- Where a lookup sends a packet: it is dropped (and already counted), or goes on. -/
inductive Verdict where
  | drop | go (d : Dest)
  deriving DecidableEq, Repr

/-! Link groups (R107 to R111). -/

/-- One page of a link group entry. -/
def State.lgPage (s : State) (g page : Nat) : Nat := sget 0 s.tab.lg (2 * g + page)
/-- The 12-bit field of member m: weight less 1 in [11:9], port in [8:0]. -/
def State.lgMember (s : State) (g m : Nat) : Nat := bits (s.lgPage g (m / 32)) (12 * (m % 32)) 12
/-- Members in use, as (member number, weight, port), in list order. -/
def State.lgMembers (s : State) (g : Nat) : List (Nat × Nat × Nat) :=
  (List.range (min 64 (bits (s.lgPage g 0) 501 7))).map (fun m =>
    (m, bits (s.lgMember g m) 9 3 + 1, bits (s.lgMember g m) 0 9))

/-- True for an Ethernet-mode port. -/
def State.isEth (s : State) (n : Nat) : Bool := s.rd .corePortCfg_mode n != 0

/-- True when a port is fenced for egress choice (R359, R375). -/
def State.portFenced (s : State) (n : Nat) : Bool := s.flag .fenPort_linkFence n || s.flag .fenPort_nbrFence n

/-- R108: the port of a member is eligible. -/
def State.eligiblePort (s : State) (eth bypass : Bool) (n : Nat) : Bool :=
  s.flag .corePortCfg_en n && s.rd .corePortStatus_state n == 3 && !s.flag .coreNbr_draining n && s.isEth n == eth &&
    (!bypass || s.flag .corePortCfg_bypass n) && !s.flag .fenPort_linkFence n

/-- The eligible members of a group. -/
def State.eligible (s : State) (eth : Bool) (g : Nat) : List (Nat × Nat × Nat) :=
  (s.lgMembers g).filter (fun m => s.eligiblePort eth (bitAt (s.lgPage g 0) 510) m.2.2)

/-- The egress backlog of a port in a class, in segments (R109). -/
def State.backlog (s : State) (n c : Nat) : Nat :=
  (((kget s.sw.egq (8 * n + c)).getD []).map (·.rel)).sum +
    (match kget s.sw.tx (2 * n + b2n (c == 7)) with
     | some t => if t.cls = c then t.ep.rel else 0
     | none => 0)

/-- The reflected CRC-32C started from SEED (R110). -/
def hash32 (seed : Nat) (bs : List Byte) : Nat := (bs.foldl (fun c b => crc32Step 8 (c ^^^ b.toNat)) seed) ^^^ 0xFFFFFFFF

/-- The member that a hash chooses among eligible members, by weight (R110). -/
def hashPick : List (Nat × Nat × Nat) → Nat → Option (Nat × Nat × Nat)
  | [], _ => none
  | m :: ms, r => if r < m.2.1 then some m else hashPick ms (r - m.2.1)

/-- The member that spraying chooses: least weighted backlog, ties to the first at or after the pointer, wrapping (R109). -/
def State.sprayPick (s : State) (c ptr : Nat) (ms : List (Nat × Nat × Nat)) : Option (Nat × Nat × Nat) :=
  let cost := fun (m : Nat × Nat × Nat) => s.backlog m.2.2 c * 8 / m.2.1
  let ordered := ms.filter (fun m => decide (ptr ≤ m.1)) ++ ms.filter (fun m => decide (m.1 < ptr))
  ordered.foldl (fun best m => match best with
    | none => some m
    | some b => if cost m < cost b then some m else some b) none

/-- Choose a member of a group whose eligible members are `ms` (R109, R110): the state with its spray pointer moved, and the
port. -/
def State.pickMember (s : State) (g blk c : Nat) (spray : Bool) (input : List Byte) (ms : List (Nat × Nat × Nat)) :
    State × Option Nat :=
  if spray && bits (s.lgPage g 0) 508 2 == 1 then
    match s.sprayPick c (sget 0 s.tab.spray (Nat.pair g blk)) ms with
    | none => (s, none)
    | some m =>
      let count := bits (s.lgPage g 0) 501 7
      let nxt := if m.1 + 1 < count then m.1 + 1 else 0
      ({ s with tab := { s.tab with spray := sset 0 s.tab.spray (Nat.pair g blk) nxt } }, some m.2.2)
  else
    let total := (ms.map (·.2.1)).sum
    let h := hash32 (s.rd .lgHashSeed_seed 0) input
    (s, if total = 0 then none else (hashPick ms (h % total)).map (·.2.2))

/-- True when a link group page cannot be trusted in a region (R36). -/
def State.lgBad (s : State) (k g : Nat) : Bool := s.tab.bad.contains (1, 2 * g, k) || s.tab.bad.contains (1, 2 * g + 1, k)

/-- Send a packet of a region to a link group (R108 to R111). -/
def State.toGroup (s : State) (k blk c g : Nat) (eth spray : Bool) (input : List Byte) : State × Verdict :=
  if s.lgBad k g then (s.bumpTab .tableEcc, .go (.punt 7 0 g)) else
  let ms := s.eligible eth g
  if ms.isEmpty then
    let s := s.bumpTab .lgEmpty
    let act := bits (s.lgPage g 0) 499 2
    if act = 1 then (s, .go (.punt 4 0 g))
    else if act = 2 then
      let fb := bits (s.lgPage g 0) 487 12
      let fms := s.eligible eth fb
      if s.lgBad k fb then (s.bumpTab .tableEcc, .go (.punt 7 0 fb))
      else if bitAt (s.lgPage fb 0) 511 && !fms.isEmpty then
        let (s, r) := s.pickMember fb blk c spray input fms
        (s, match r with | some n => .go (.port n) | none => .drop)
      else (s, .drop)
    else (s, .drop)
  else
    let (s, r) := s.pickMember g blk c spray input ms
    (s, match r with | some n => .go (.port n) | none => .drop)

/-! The Destination Table (R104, R105). -/

/-- DT entry of a GID. -/
def State.dt (s : State) (g : Nat) : Nat := sget 0 s.tab.dt g

/-- The hash input of a native packet (R110). -/
def hashInput (p : Packet) : List Byte := beBytes 3 p.sgid.toNat ++ beBytes 3 p.dgid.toNat ++ beBytes 2 p.msgid.toNat

/-- The kinds that a part without a GID forwards (R393). -/
def joinKind (k : BitVec 6) : Bool := k ∈ [0x30, 0x31, 0x32, 0x33, 0x34, 0x3F]

/-- Count NO_GID_DROP at the ingress port, where there is one. -/
def State.bumpIn (s : State) (port : Option Nat) (e : PortEv) : State :=
  match port with
  | some n => s.bumpPort n e
  | none => s

/-- The action of a DT entry on a unicast packet (Table 4.3, R393). -/
def State.dtAction (s : State) (k blk : Nat) (port : Option Nat) (p : Packet) : State × Verdict :=
  let g := p.dgid.toNat % 2 ^ 18
  let e := s.dt g
  let ty := bits e 59 3
  if s.tab.bad.contains (0, g, k) then (s.bumpTab .tableEcc, .go (.punt 7 0 g))
  else if !bitAt e 63 then (s.bumpTab .dtMiss, .go (.punt 1 0 g))
  else if ty = 0 then (s.bumpTab .dtDrop, .drop)
  else if ty = 1 ∨ ty = 2 then
    let lg := bits e 0 12
    if bitAt (s.lgPage lg 0) 511 && bitAt (s.lgPage lg 0) 510 == (ty == 2) then
      s.toGroup k blk p.tc.toNat lg false p.spray (hashInput p)
    else if s.lgBad k lg then (s.bumpTab .tableEcc, .go (.punt 7 0 lg))
    else (s.bumpTab .lgInvalid, .go (.punt 3 0 lg))
  else if ty = 3 then
    if s.gid?.isNone then (s.bumpIn port .noGidDrop, .drop)
    else if p.kind = 0x34 then (s, .go (.punt 6 0 g))
    else (s, .go (.loc (if bitAt e 4 then .svcGid (bits e 0 4) else .own)))
  else if ty = 4 then (s, .go (.punt 2 (bits e 0 8) g))
  else (s.bumpTab .dtMiss, .go (.punt 1 0 g))

/-- Bits of a bitmap that stand for enabled ports other than the ingress port (R124). -/
def State.mcPorts (s : State) (bm : Nat) (port : Option Nat) : Nat :=
  ((List.range 512).filter (fun n => bitAt bm n && s.flag .corePortCfg_en n && port != some n)).foldl (fun a n => setBit a n) 0

/-- The lookup of a native packet (R103, R105, R124, R154, R393). `k` is the region whose copy serves it. The INDEX of a punt
record names a DT index, a link group or an LPM slot (Table 4.6): none applies to a multicast group. -/
def State.lookup (s : State) (k blk : Nat) (port : Option Nat) (p : Packet) : State × Verdict :=
  if isLinkLocal p.dgid then (s, .go (.loc .own))
  else if s.gid?.isNone && !joinKind p.kind then (s.bumpIn port .noGidDrop, .drop)
  else if isMulticast p.dgid then
    let g := p.dgid.toNat % 2 ^ 14
    if p.tc = 7 then (s.bumpCore k 7 .tc7McastDrop, .drop)
    else if s.tab.bad.contains (4, g, k) then (s.bumpTab .tableEcc, .go (.punt 7 0 0xFFFFFFFF))
    else
      let bm := s.mcPorts (sget 0 s.tab.mcg g) port
      if bm = 0 then (s.bumpCore k p.tc.toNat .mcgEmpty, .drop) else (s, .go (.mcast bm))
  else s.dtAction k blk port p

/-! Ethernet frames and the LPM TCAM (R120 to R122). -/

/-- The place of the EtherType that follows the VLAN tags, at most two (IEEE 802.1Q; log entry 10). -/
def etherAt (bs : List Byte) : Nat :=
  let ty := fun a => beNat (slice bs a 2)
  if ty 12 = 0x8100 ∨ ty 12 = 0x88A8 then (if ty 16 = 0x8100 ∨ ty 16 = 0x88A8 then 20 else 16) else 12

/-- The PCP of the outer VLAN tag, if there is one. -/
def framePcp (bs : List Byte) : Option Nat :=
  let ty := beNat (slice bs 12 2)
  if ty = 0x8100 ∨ ty = 0x88A8 then some (beNat (slice bs 14 1) / 32) else none

/-- The class of a frame (R84). -/
def State.frameClass (s : State) (bs : List Byte) : Nat :=
  match framePcp bs with
  | some p => bits (s.rd .coreEthPcpMap_pcpTc 0) (3 * p) 3
  | none => s.rd .coreEthPcpMap_untaggedTc 0

/-- The IP family of a frame: 4, 6, or 0 for any other. -/
def frameIp (bs : List Byte) : Nat :=
  let ty := beNat (slice bs (etherAt bs) 2)
  if ty = 0x0800 then 4 else if ty = 0x86DD then 6 else 0

/-- The IP header's place. -/
def ipAt (bs : List Byte) : Nat := etherAt bs + 2

/-- The destination address of an IP frame. -/
def ipDest (bs : List Byte) : Nat := if frameIp bs = 4 then beNat (slice bs (ipAt bs + 16) 4) else beNat (slice bs (ipAt bs + 24) 16)

/-- The IP protocol or next header. -/
def ipProto (bs : List Byte) : Nat := beNat (slice bs (if frameIp bs = 4 then ipAt bs + 9 else ipAt bs + 6) 1)

/-- The place of the header above IP. -/
def l4At (bs : List Byte) : Nat := if frameIp bs = 4 then ipAt bs + 4 * (beNat (slice bs (ipAt bs) 1) % 16) else ipAt bs + 40

/-- The hash input of an IP frame (R110). -/
def frameHash (bs : List Byte) : List Byte :=
  (if frameIp bs = 4 then slice bs (ipAt bs + 12) 8 else slice bs (ipAt bs + 8) 32) ++ [BitVec.ofNat 8 (ipProto bs)] ++
    (if ipProto bs = 6 ∨ ipProto bs = 17 then slice bs (l4At bs) 4 else [])

/-- An LPM entry matches an address of its family (Table 4.8). -/
def lpmMatch (e : Nat) (v6 : Bool) (addr : Nat) : Bool :=
  let w := if v6 then 128 else 32
  let pl := min w (bits e 246 8)
  bitAt e 255 && bitAt e 254 == v6 && bits e (w - pl) pl == bits addr (w - pl) pl

/-- The first slot of a region's TCAM, in ascending order, whose valid entry matches (R121). -/
def State.lpmFind (s : State) (k : Nat) (v6 : Bool) (addr : Nat) : Option (Nat × Nat) :=
  (s.tab.tcam.find? (fun x => x.1 / 32768 == k && lpmMatch x.2 v6 addr)).map (fun x => (x.1 % 32768, x.2))

/-- Replace bytes of a frame. -/
def patch (bs : List Byte) (a : Nat) (new : List Byte) : List Byte := bs.take a ++ new ++ bs.drop (a + new.length)

/-- One's complement update of a 16-bit checksum when a 16-bit word changes (RFC 1624, cited by R122 as 'updates'; log entry 10). -/
def cksumUpdate (ck old new : Nat) : Nat :=
  let t := (0xFFFF - ck) + (0xFFFF - old) + new
  let t := t % 65536 + t / 65536
  0xFFFF - (t % 65536 + t / 65536)

/-- TTL or hop limit of an IP frame. -/
def ipTtl (bs : List Byte) : Nat := beNat (slice bs (if frameIp bs = 4 then ipAt bs + 8 else ipAt bs + 7) 1)

/-- The frame as routed: TTL or hop limit down by one, header checksum, next-hop and router MAC addresses (R122). -/
def State.routeFrame (s : State) (bs : List Byte) (nh : Nat) : List Byte :=
  let a := ipAt bs
  let bs := if frameIp bs = 4 then
      let old := beNat (slice bs (a + 8) 2)
      let ck := beNat (slice bs (a + 10) 2)
      patch (patch bs (a + 8) (beBytes 2 (old - 256))) (a + 10) (beBytes 2 (cksumUpdate ck old (old - 256)))
    else patch bs (a + 7) (beBytes 1 (ipTtl bs - 1))
  patch bs 0 (beBytes 6 nh ++ beBytes 6 (s.rd .lpmRouterMac_mac 0))

/-- What becomes of a frame: a verdict with the frame as it leaves, or its carriage in ETH_ENCAP to a GID. -/
inductive FrameFate where
  | v (x : Verdict) (bytes : List Byte)
  | encap (dgid : Nat) (bytes : List Byte)
  deriving DecidableEq, Repr

/-- The lookup of an Ethernet frame (R103, R121, R122). `k` is the region, `c` the frame's class. -/
def State.frameLookup (s : State) (k blk c : Nat) (port : Option Nat) (bs : List Byte) : State × FrameFate :=
  if s.gid?.isNone then (s.bumpIn port .noGidDrop, .v .drop bs)
  else if frameIp bs = 0 ∨ beNat (slice bs 0 6) ≠ s.rd .lpmRouterMac_mac 0 then (s, .v (.go (.punt 8 0 0xFFFFFFFF)) bs)
  else match s.lpmFind k (frameIp bs == 6) (ipDest bs) with
    | none => (s, .v (.go (.punt 9 0 0xFFFFFFFF)) bs)
    | some (slot, e) =>
      let act := bits e 243 3
      if act = 0 then (s.bumpTab .lpmDrop, .v .drop bs)
      else if act = 1 ∨ act = 2 then
        if ipTtl bs ≤ 1 then (s, .v (.go (.punt 11 0 slot)) bs)
        else
          let out := s.routeFrame bs (bits e 160 48)
          if act = 2 then (s, .encap (bits e 213 18) out)
          else
            let g := bits e 231 12
            if bitAt (s.lgPage g 0) 511 then
              let (s, v) := s.toGroup k blk c g true false (frameHash bs)
              (s, .v v out)
            else if s.lgBad k g then (s.bumpTab .tableEcc, .v (.go (.punt 7 0 g)) bs)
            else (s.bumpTab .lgInvalid, .v (.go (.punt 3 0 g)) bs)
      else (s, .v (.go (.punt 10 0 slot)) bs)

end Sys2Proof.Machine
end

