-- ==== Sys2Proof/Machine/Switch.lean ====
section
/-! DEFINITION. The switch core's operations: queues, admission, spill, the two stages of the Reel, resequencing and the
egress queues (chapter 5). -/

namespace Sys2Proof.Machine

/-- Replace the switch core. -/
def State.onSw (s : State) (g : Sw → Sw) : State := { s with sw := g s.sw }

/-- A packet by its number. -/
def State.pkt? (s : State) (pid : Nat) : Option Pkt := kget s.sw.pkts pid
/-- Change a packet, if it is there. -/
def State.onPkt (s : State) (pid : Nat) (g : Pkt → Pkt) : State :=
  match kget s.sw.pkts pid with
  | some p => s.onSw (fun w => { w with pkts := kput w.pkts pid (g p) })
  | none => s

/-! Queues and pools (R133 to R136). -/

/-- The key of an ingress queue: block i, class c, member m (0 to 71 a VOQ, 72 the multicast queue). -/
def voqKey (i c m : Nat) : Nat := (8 * i + (7 - c)) * 128 + m
/-- The packets in an ingress queue, oldest first. -/
def State.voq (s : State) (i c m : Nat) : List Nat := (kget s.sw.voq (voqKey i c m)).getD []
/-- Replace an ingress queue. -/
def State.setVoq (s : State) (i c m : Nat) (q : List Nat) : State :=
  s.onSw (fun w => { w with voq := if q.isEmpty then kdel w.voq (voqKey i c m) else kput w.voq (voqKey i c m) q })

/-- Segments of a packet still held in SRAM at ingress. -/
def Pkt.sram (p : Pkt) : Nat := p.nseg - p.sent - p.hseg
/-- occ(q): the SRAM occupancy of a queue (R135). -/
def State.occ (s : State) (q : List Nat) : Nat := (q.map (fun pid => ((s.pkt? pid).map Pkt.sram).getD 0)).sum
/-- Segments in the HBM part of a queue (R137). -/
def State.hbmPart (s : State) (q : List Nat) : Nat := (q.map (fun pid => ((s.pkt? pid).map (·.hseg)).getD 0)).sum

/-- Free segments of a region's pool. -/
def State.poolFree (s : State) (k : Nat) : Nat := s.rd .corePoolStatus_free k
/-- Return segments to a region's pool, which holds 114,048. -/
def State.poolAdd (s : State) (k n : Nat) : State := s.wr .corePoolStatus_free k (min 114048 (s.poolFree k + n))
/-- Take segments from a region's pool. -/
def State.poolSub (s : State) (k n : Nat) : State := s.wr .corePoolStatus_free k (s.poolFree k - n)

/-- Unused segments of class c's reserve in region k (R135). -/
def State.rsvUnused (s : State) (k c : Nat) : Nat := s.rd .coreAdmCfg_reserve c - sget 0 s.sw.rsvUsed (8 * k + c)
/-- F of R135: the free segments less the unused reserves of all classes. -/
def State.poolF (s : State) (k : Nat) : Nat := s.poolFree k - ((List.range 8).map (s.rsvUnused k)).sum

/-- Free n ingress segments of a packet: those from the reserve return to it first (R135). -/
def State.freeIngress (s : State) (pid n : Nat) : State :=
  match s.pkt? pid with
  | none => s
  | some p =>
    let k := regionOfBlock p.blk
    let r := min n p.rsv
    let s := s.onPkt pid (fun p => { p with rsv := p.rsv - r })
    let s := s.onSw (fun w => { w with rsvUsed := sset 0 w.rsvUsed (8 * k + p.cls) (sget 0 w.rsvUsed (8 * k + p.cls) - r) })
    s.poolAdd k n

/-- Segments of TC7 at a line block lie in its TC7 store, not in the pool (Table 5.2; log entry 11). -/
def poolSeg (d c : Nat) : Bool := !(decide (d < 64) && c == 7)
/-- n segments of class c take their place at egress block d (R135). -/
def State.egTake (s : State) (d c n : Nat) : State := s.when (poolSeg d c) (fun s => s.poolSub (regionOfBlock d) n)
/-- n segments of class c at egress block d are freed (R135). -/
def State.egFree (s : State) (d c n : Nat) : State := s.when (poolSeg d c) (fun s => s.poolAdd (regionOfBlock d) n)

/-! Resequencing flows (R146, R148) and stop (R144). -/

/-- The key of a resequencing flow (R146). -/
def flowKey (d src c : Nat) (mc : Bool) : Nat := ((72 * d + src) * 8 + c) * 2 + b2n mc
/-- A flow at its egress block. -/
def State.flow (s : State) (key : Nat) : Flow := (kget s.sw.flows key).getD ⟨0, [], [], 0, none⟩
/-- Replace a flow. -/
def State.setFlow (s : State) (key : Nat) (f : Flow) : State := s.onSw (fun w => { w with flows := kput w.flows key f })

/-- stop(d, c) is asserted (R144). -/
def State.stopped (s : State) (d c : Nat) : Bool := s.sw.stop.contains (8 * d + c)

/-- The timer of a flow's gap runs: segments are held and stop is clear for its class (R148). -/
def State.gapRuns (s : State) (key : Nat) : Bool := !(s.flow key).held.isEmpty && !s.stopped (key / 16 / 72) (key / 2 % 8)
/-- Start or halt the timer of a flow's gap where E has not moved (R148). -/
def State.gapJudge (s : State) (key : Nat) : State :=
  let f := s.flow key
  match s.gapRuns key, f.since with
  | true, none => s.setFlow key { f with since := some s.tb.mono }
  | false, some t => s.setFlow key { f with ran := f.ran + (s.tb.mono - t), since := none }
  | _, _ => s
/-- E of a flow has advanced: the timer starts from 0 where a gap remains with segments held (R148). -/
def State.gapRestart (s : State) (key : Nat) : State :=
  s.setFlow key { s.flow key with ran := 0, since := if s.gapRuns key then some s.tb.mono else none }
/-- Nanoseconds that the timer of a flow's gap has run. -/
def State.gapTime (s : State) (key : Nat) : Nat :=
  (s.flow key).ran + (match (s.flow key).since with | some t => s.tb.mono - t | none => 0)
/-- TIMEOUT of R148 in ns: 1 to 1,000 µs. -/
def State.reseqLimit (s : State) : Nat := 1000 * min 1000 (max 1 (s.rd .coreReseqCfg_timeout 0))

/-- The egress queue of a port and class. -/
def State.egq (s : State) (n c : Nat) : List EPkt := (kget s.sw.egq (8 * n + c)).getD []
/-- Replace an egress queue. -/
def State.setEgq (s : State) (n c : Nat) (q : List EPkt) : State :=
  s.onSw (fun w => { w with egq := if q.isEmpty then kdel w.egq (8 * n + c) else kput w.egq (8 * n + c) q })

/-- Class-c segments in the egress queues of block d (R144): a multicast segment counts once for each port that has still to
send it, and what gathers for a local function, or waits there for it, counts as well. -/
def State.egrCount (s : State) (d c : Nat) : Nat :=
  ((List.range 8).map (fun j =>
    ((s.egq (8 * d + j) c).map (·.rel)).sum +
      (match kget s.sw.tx (2 * (8 * d + j) + b2n (c == 7)) with
       | some t => if t.cls = c then t.ep.rel - t.left else 0
       | none => 0))).sum +
    ((s.sw.gather.filter (fun e => (unpair e.1).2 == d && ((s.pkt? (unpair e.1).1).map (·.cls)) == some c)).map (·.2)).sum +
    ((s.sw.localQ.filter (fun r => r.blk == d && r.pkt.tc.toNat == c)).map (·.segs)).sum

/-- Replace the set of asserted stops; the timers of the class's flows at the block halt or go on (R148). -/
def State.setStop (s : State) (d c : Nat) (on : Bool) : State :=
  let s := s.onSw (fun w => { w with stop := if on then (8 * d + c) :: w.stop else w.stop.filter (· != 8 * d + c) })
  ((s.sw.flows.map (·.1)).filter (fun k => k / 16 / 72 == d && k / 2 % 8 == c)).foldl State.gapJudge s

/-- Assert or clear stop for one block and class (R144). -/
def State.updStop (s : State) (d c : Nat) : State :=
  let limit := s.rd .coreEgrCfg_stop c
  let n := s.egrCount d c
  let free := s.poolFree (regionOfBlock d)
  if limit ≤ n ∨ free < 1024 then
    if s.stopped d c then s else s.setStop d c true
  else if s.stopped d c ∧ 8 * n < 7 * limit ∧ 1171 ≤ free then s.setStop d c false
  else s

/-- The core blocks of a region (R17). -/
def blocksOf (k : Nat) : List Nat := (List.range 8).map (fun j => 8 * k + j) ++ [64 + k]

/-- Judge stop again for every block of a region. -/
def State.updStops (s : State) (k : Nat) : State :=
  (blocksOf k).foldl (fun s d => (List.range 7).foldl (fun s c => s.updStop d c) s) s

/-- The age of a packet has reached the limit of its class (R161). -/
def State.aged (s : State) (c itime : Nat) : Bool :=
  let lim := s.rd .coreAgeLimit_limit c
  let age := span32 itime s.now
  decide ((if lim = 0 then 0x7FFFFFFF else lim) ≤ age) || decide (2 ^ 31 ≤ age)

/-- A packet of the exception path. -/
def Pkt.isPunt (p : Pkt) : Bool := match p.dest with | .punt _ _ _ => true | _ => false
/-- A multicast packet. -/
def Pkt.isMc (p : Pkt) : Bool := match p.dest with | .mcast _ => true | _ => false
/-- A packet in the core has aged (R161). One on the exception path does not age: nothing but its bucket drops it (R119). -/
def State.agedPkt (s : State) (p : Pkt) : Bool := !p.isPunt && s.aged p.cls p.itime
/-- A packet whose reception goes on though it has left its ingress queue, dropped. -/
def Pkt.dropped (p : Pkt) : Bool := !p.whole && decide (p.nseg ≤ p.sent)

/-- Something in the core still refers to a packet. -/
def State.pidLive (s : State) (pid : Nat) : Bool :=
  s.sw.voq.any (fun e => e.2.contains pid) || s.sw.rx.any (fun e => e.2 == pid) || s.sw.streams.any (fun x => x.pid == pid) ||
    s.sw.mrec.any (fun x => x.pid == pid) || s.sw.iq.any (fun e => e.2.any (fun g => g.pid == pid)) ||
    s.sw.copies.any (fun x => x.seg.pid == pid) || s.sw.wall.any (fun x => x.seg.pid == pid) ||
    s.sw.t2.any (fun x => x.2.pid == pid) || s.sw.flows.any (fun e => e.2.held.any (fun g => g.pid == pid)) ||
    s.sw.t1.any (fun x => match x.item with | .uni g => g.pid == pid | .rec_ p => p == pid | .mseg p _ => p == pid) ||
    s.sw.egq.any (fun e => e.2.any (fun x => x.pid == pid)) || s.sw.tx.any (fun e => e.2.ep.pid == pid) ||
    s.sw.gather.any (fun e => (unpair e.1).1 == pid) ||
    (match s.pkt? pid with | some p => !p.nums.isEmpty | none => false)

/-- Forget a packet that nothing refers to. -/
def State.gc (s : State) (pid : Nat) : State := if s.pidLive pid then s else s.onSw (fun w => { w with pkts := kdel w.pkts pid })

/-! Egress holdings (R135). -/

/-- One more segment of a packet is held at an egress block. -/
def State.holdSeg (s : State) (pid d c : Nat) : State :=
  let e := (kget s.sw.eh (Nat.pair pid d)).getD (0, 0)
  (s.onSw (fun w => { w with eh := kput w.eh (Nat.pair pid d) (e.1 + 1, e.2) })).egTake d c 1

/-- For each copy of a packet left at an egress block, how many of its segments have left. -/
def State.copiesLeft (s : State) (pid d c : Nat) : List Nat :=
  (List.range 8).flatMap (fun j =>
    ((s.egq (8 * d + j) c).filter (fun e => e.pid == pid)).map (fun _ => 0) ++
      (match kget s.sw.tx (2 * (8 * d + j) + b2n (c == 7)) with
       | some t => if t.ep.pid = pid then [t.left] else []
       | none => []))

/-- Free the segments of a packet at an egress block that have left on every port that still takes a copy; all of them when no
copy is left (R135). -/
def State.copyDone (s : State) (pid d c : Nat) : State :=
  match kget s.sw.eh (Nat.pair pid d) with
  | none => s
  | some (held, freed) =>
    match s.copiesLeft pid d c with
    | [] => ((s.onSw (fun w => { w with eh := kdel w.eh (Nat.pair pid d) })).egFree d c (held - freed)).gc pid
    | x :: xs =>
      let m := min held (xs.foldl min x)
      if freed < m then (s.onSw (fun w => { w with eh := kput w.eh (Nat.pair pid d) (held, m) })).egFree d c (m - freed) else s

/-- Take a packet that is to be dropped out of an egress queue. -/
def State.dropEgress (s : State) (n c : Nat) (e : EPkt) : State :=
  let q := (s.egq n c).filter (· != e)
  let s := s.setEgq n c q
  let s := s.when (c == 7) (fun s => s.wr .schPortStatus_tc7Backlog n (s.rd .schPortStatus_tc7Backlog n - e.chg))
  let s := s.when (q.isEmpty && decide (c ≤ 5)) (fun s => s.onSw (fun w =>
    { w with act := kput w.act n (((kget w.act n).getD []).filter (· != c)), deficit := sset 0 w.deficit (8 * n + c) 0,
             credited := w.credited.filter (· != 8 * n + c) }))
  s.copyDone e.pid (blockOfPort n) c

/-- Free what has gathered of a packet at a block. -/
def State.dropGather (s : State) (pid d : Nat) : State :=
  let n := sget 0 s.sw.gather (Nat.pair pid d)
  let c := ((s.pkt? pid).map (·.cls)).getD 0
  if n = 0 then s else (s.onSw (fun w => { w with gather := kdel w.gather (Nat.pair pid d) })).egFree d c n

/-- Destination blocks that hold ports of a bitmap (R155). -/
def mcBlocks (bm : Nat) : List Nat := (List.range 64).filter (fun d => bits bm (8 * d) 8 != 0)
/-- The egress blocks of a packet. -/
def Pkt.blocks (p : Pkt) : List Nat := match p.dest with | .mcast bm => mcBlocks bm | _ => [p.dst]

/-- Drop the copies of a packet that stand in the queues of an egress block, not begun. -/
def State.dropCopies (s : State) (pid d c : Nat) : State :=
  ((List.range 8).map (fun j => 8 * d + j)).foldl (fun s n =>
    ((s.egq n c).filter (fun e => e.pid == pid)).foldl (fun s e => s.dropEgress n c e) s) s

/-- Discard a packet at one egress block: its copies there, or a stomp under R153 where one has begun to leave, and what has
gathered; what is still released of it there is discarded as it is released (R145, R148, R161). -/
def State.discardAt (s : State) (pid d : Nat) : State :=
  match s.pkt? pid with
  | none => s
  | some p =>
    let s := s.onPkt pid (fun p => { p with gone := if p.gone.contains d then p.gone else d :: p.gone })
    let s := s.dropCopies pid d p.cls
    let s := s.onSw (fun w => { w with tx := w.tx.map (fun (e : Nat × Tx) =>
      if e.2.ep.pid = pid ∧ blockOfPort (e.1 / 2) = d then (e.1, { e.2 with underrun := true }) else e) })
    s.dropGather pid d

/-- Discard a packet at every one of its egress blocks. -/
def State.lose (s : State) (pid : Nat) : State :=
  match s.pkt? pid with
  | none => s
  | some p => p.blocks.foldl (fun s d => s.discardAt pid d) s

/-- A VOQ whose HBM part is empty leaves spill (R137). -/
def State.spillEnds (s : State) (i c m : Nat) : State :=
  if s.hbmPart (s.voq i c m) = 0 then s.onSw (fun w => { w with spill := w.spill.filter (· != voqKey i c m) }) else s

/-- Take a packet out of its ingress queue and free what it holds there. One that had been sent in part is discarded wherever its
segments are. -/
def State.dropQueued (s : State) (pid m : Nat) : State :=
  match s.pkt? pid with
  | none => s
  | some p =>
    let k := regionOfBlock p.blk
    let s := s.freeIngress pid p.sram
    let s := s.wr .corePoolStatus_spillUsed k (s.rd .corePoolStatus_spillUsed k - p.hseg)
    let s := s.onPkt pid (fun p => { p with hseg := 0, nseg := p.sent })
    let s := (s.setVoq p.blk p.cls m ((s.voq p.blk p.cls m).filter (· != pid))).spillEnds p.blk p.cls m
    (s.lose pid).gc pid

/-- The queue member a packet belongs to. -/
def Pkt.member (p : Pkt) : Nat := match p.dest with | .mcast _ => 72 | _ => p.dst

/-- A packet at its reception or creation, before its admission (R132, R160). `d` is its egress block. -/
def State.newPkt (s : State) (b : Body) (inPort : Option Nat) (blk cls n d : Nat) (dest : Dest) : Pkt :=
  { body := b, inPort := inPort, blk := blk, dst := d, cls := cls, itime := s.now, mono := s.tb.mono, steps := s.tb.steps, dest := dest,
    inRate := 0, pport := 0xFFFE, nseg := n, arrived := 0, whole := false, err := false, begun := false, gone := [], nums := [],
    segT := [], ord := [], rsv := 0, sent := 0, hseg := 0 }

/-- The next n segments of a packet enter its ingress queue (R133). -/
def State.segIn (s : State) (pid n : Nat) : State :=
  (s.onPkt pid (fun p => { p with arrived := p.arrived + n, segT := p.segT ++ List.replicate n s.now,
                                  ord := p.ord ++ List.range' s.sw.nextSeg n })).onSw (fun w => { w with nextSeg := w.nextSeg + n })

/-! Spill (R137, R138). -/

/-- The stack that serves a region. -/
def stackOf (k : Nat) : Nat := k / 2

/-- Segments a region's spill space holds: one eighth of SIZE GiB at 280 bytes a segment. -/
def State.spillRoom (s : State) : Nat := min 96 (s.rd .voqSpillCfg_size 0) * 2 ^ 30 / 8 / 280

/-- Put an admitted packet at the tail of its queue. -/
def State.enqueue (s : State) (p : Pkt) : State :=
  let pid := s.sw.nextPid
  let s := s.onSw (fun w => { w with nextPid := pid + 1, pkts := kput w.pkts pid p })
  s.setVoq p.blk p.cls p.member (s.voq p.blk p.cls p.member ++ [pid])

/-- Write a packet to its VOQ's HBM part, or drop it as SPILL_DROP (R137, R138). Whether the stack's write queue for spill is full
is a free value (log entry 19). -/
def State.spillPacket (s : State) (p : Pkt) : State × Option Nat :=
  let k := regionOfBlock p.blk
  let q := s.voq p.blk p.cls p.member
  let max := s.rd .voqSpillCfg_voqMax 0
  let (full, s) := s.free 32 2
  if s.rd .corePoolStatus_spillUsed k + p.nseg > s.spillRoom ∨ (max ≠ 0 ∧ (s.hbmPart q + p.nseg) * 280 > max * 2 ^ 20) ∨ full = 1 then
    (s.bumpCore k p.cls .spillDrop, none)
  else
    let key := voqKey p.blk p.cls p.member
    let s := s.onSw (fun w => { w with spill := if w.spill.contains key then w.spill else key :: w.spill })
    let s := s.wr .corePoolStatus_spillUsed k (s.rd .corePoolStatus_spillUsed k + p.nseg)
    (s.enqueue { p with hseg := p.nseg }, some s.sw.nextPid)

/-- Admission of a packet to its ingress queue (R135, R137): the packet's number when it is admitted. A packet of the exception
path is admitted always, from the pool where the reserve has no room: nothing but its bucket drops it (R119; log entry 18). -/
def State.admitPkt (s : State) (p : Pkt) : State × Option Nat :=
  let k := regionOfBlock p.blk
  let q := s.voq p.blk p.cls p.member
  let key := voqKey p.blk p.cls p.member
  let canSpill := decide (p.cls < 4) && !p.isMc && !p.isPunt && !s.stackDead (stackOf k)
  let enterSpill := canSpill && s.flag .voqSpillCfg_en 0
  if canSpill && (s.sw.spill.contains key || (enterSpill && decide (s.rd .coreAdmCfg_spillOn p.cls ≤ s.occ q))) then s.spillPacket p
  else if p.nseg ≤ s.rsvUnused k p.cls then
    let s := s.onSw (fun w => { w with rsvUsed := sset 0 w.rsvUsed (8 * k + p.cls) (sget 0 w.rsvUsed (8 * k + p.cls) + p.nseg) })
    let n := s.sw.nextPid
    (((s.poolSub k p.nseg).enqueue { p with rsv := p.nseg }).updStops k, some n)
  else if p.isPunt || decide ((s.occ q + p.nseg) * 128 ≤ 2 ^ s.rd .coreAdmCfg_alpha p.cls * s.poolF k) then
    let n := s.sw.nextPid
    (((s.poolSub k p.nseg).enqueue p).updStops k, some n)
  else if enterSpill then s.spillPacket p
  else (s.bumpCore k p.cls .voqDrop, none)

/-- Of some packets, the one for which a number is least, with that number. -/
def State.least (s : State) (f : Pkt → Option Nat) : List Nat → Option (Nat × Nat)
  | [] => none
  | pid :: rest =>
    match (s.pkt? pid).bind f, s.least f rest with
    | some v, some (w, x) => if v ≤ w then some (v, pid) else some (w, x)
    | some v, none => some (v, pid)
    | none, r => r

/-- The packet whose segment is the oldest that has arrived in the HBM part of a queue. -/
def State.nextHbm (s : State) (q : List Nat) : Option Nat :=
  (s.least (fun p => if p.hseg = 0 then none else p.ord[p.nseg - p.hseg]?) q).map (·.2)

/-- Refill the SRAM head of a VOQ from its HBM part, oldest segment first, up to 64 segments (R137). -/
def State.refillRun (s : State) (i c m : Nat) : Nat → State
  | 0 => s
  | fuel + 1 =>
    let k := regionOfBlock i
    if s.occ (s.voq i c m) < 64 ∧ 0 < s.poolFree k then
      match s.nextHbm (s.voq i c m) with
      | some pid =>
        (((s.onPkt pid (fun p => { p with hseg := p.hseg - 1 })).poolSub k 1).wr .corePoolStatus_spillUsed k
          (s.rd .corePoolStatus_spillUsed k - 1)).refillRun i c m fuel
      | none => s
    else s

/-- Refill the head of a VOQ; it leaves spill when its HBM part is empty (R137). -/
def State.refill (s : State) (i c m : Nat) : State := (s.refillRun i c m 64).spillEnds i c m

/-! The first stage (R141, R142, R146, R155). -/

/-- Sequence numbers outstanding in a flow: assigned, and not yet released or skipped (R147). -/
def State.outstanding (s : State) (d src c : Nat) (mc : Bool) : Nat :=
  (s.sw.pkts.map (fun e =>
    if e.2.blk == src && e.2.cls == c && e.2.isMc == mc then (e.2.nums.filter (fun x => x.1 == d)).length else 0)).sum

/-- The key of an intermediate queue. -/
def iqKey (k d c : Nat) : Nat := (72 * k + d) * 8 + (7 - c)
/-- Segments in, or in transit to, the intermediate queue of (k, d, c). -/
def State.iqCount (s : State) (k d c : Nat) : Nat :=
  ((kget s.sw.iq (iqKey k d c)).getD []).length +
    (s.sw.t1.filter (fun x => x.k == k && (match x.item with | .uni g => g.dst == d && g.cls == c | _ => false))).length
/-- Segments of TC5 to TC0 in, or in transit to, the store of intermediate k. -/
def State.iqShared (s : State) (k : Nat) : Nat :=
  ((s.sw.iq.filter (fun e => e.1 / 8 / 72 == k && decide (2 ≤ e.1 % 8))).map (fun e => e.2.length)).sum +
    (s.sw.t1.filter (fun x => x.k == k && (match x.item with | .uni g => decide (g.cls < 6) | _ => false))).length
/-- iq_room (R142). -/
def State.iqRoom (s : State) (k d c : Nat) : Bool :=
  if 6 ≤ c then decide (s.iqCount k d c < 2) else decide (s.iqCount k d c < 8) && decide (s.iqShared k < 480)
/-- mc_store_room for a packet of n segments at intermediate k (R141, R142). -/
def State.mcRoom (s : State) (k n : Nat) : Bool :=
  decide (((s.sw.mrec.filter (fun r => r.k == k)).map (·.room)).sum + n + 1 ≤ 256)

/-- What block i sends to intermediate k. -/
inductive Choice1 where
  | stream (x : Stream) | record (pid c : Nat) | unicast (pid c d : Nat)
  deriving DecidableEq, Repr

/-- The next segment of a packet in an ingress queue is at block i, in SRAM. -/
def Pkt.ready1 (p : Pkt) : Bool := decide (p.sent < p.arrived) && decide (p.sent + p.hseg < p.nseg)

/-- The packet whose next segment is the head segment of an ingress queue: the oldest that has entered it and is not sent
(R133, R141). -/
def State.headPkt (s : State) (q : List Nat) : Option Nat :=
  (s.least (fun p => if p.sent < p.arrived then p.ord[p.sent]? else none) q).map (·.2)

/-- Members of class c that hold packets at block i, in order after the pointer, wrapping (R141). -/
def State.members (s : State) (i c : Nat) : List (Nat × List Nat) :=
  let base := voqKey i c 0
  let ms := (s.sw.voq.filter (fun e => e.1 / 128 == base / 128)).map (fun e => (e.1 - base, e.2))
  let p := sget 72 s.sw.ptr (8 * i + c)
  ms.filter (fun m => decide (p < m.1)) ++ ms.filter (fun m => decide (m.1 ≤ p))

/-- The first member of a class that may send to intermediate k (R141). -/
def State.pickMemberQ (s : State) (i k c : Nat) : List (Nat × List Nat) → Option Choice1
  | [] => none
  | (m, q) :: rest =>
    match s.headPkt q with
    | none => s.pickMemberQ i k c rest
    | some pid =>
      match s.pkt? pid with
      | none => s.pickMemberQ i k c rest
      | some p =>
        if m = 72 then
          let bm := match p.dest with | .mcast b => b | _ => 0
          if s.mcRoom k p.nseg && (mcBlocks bm).all (fun d => decide (s.outstanding d i c true + p.nseg ≤ 2048)) then
            some (.record pid c)
          else s.pickMemberQ i k c rest
        else if p.ready1 && s.iqRoom k m c && decide (s.outstanding m i c false < 2048) then some (.unicast pid c m)
        else s.pickMemberQ i k c rest

/-- What block i sends to intermediate k, classes from `c` down (R141). -/
def State.choose1 (s : State) (i k : Nat) : Nat → Option Choice1
  | 0 => none
  | c + 1 =>
    match s.sw.streams.find? (fun x => x.i == i && x.k == k && x.cls == c &&
        (match s.pkt? x.pid with | some p => decide (x.next < p.arrived) | none => false)) with
    | some x => some (.stream x)
    | none =>
      match s.pickMemberQ i k c (s.members i c) with
      | some ch => some ch
      | none => s.choose1 i k c

/-- Present a word to the debug port, while its group is the one selected (R457). -/
def State.present (s : State) (g w : Nat) : State :=
  if bitAt (s.rd .secDbgCtrl_enable 0) 0 && s.rd .dbgSel_group 0 == g then s.onSw (fun x => { x with shown := w }) else s

/-- The word of the first stage of block 8k: segment sent, TC, DST and SEQ[4:0] (Table 18.8). -/
def State.presentSend (s : State) (i c dst seq : Nat) : State :=
  if i % 8 = 0 ∧ i < 64 then s.present (0x10 + i / 8) (0x8000 + c * 0x1000 + dst % 128 * 32 + seq % 32) else s

/-- The first stage of one block presents a slot in which nothing was sent. -/
def State.presentIdle (s : State) : State :=
  let g := s.rd .dbgSel_group 0
  if 0x10 ≤ g ∧ g < 0x18 then s.present g 0 else s

/-- A multicast item has a DST and a SEQ for each block it goes to; which of them its word shows is not stated (log entry 36). -/
def State.presentMcast (s : State) (i c : Nat) : State :=
  let g := s.rd .dbgSel_group 0
  if g = 0x10 + i / 8 then (let (v, s) := s.free 42 4096; s.presentSend i c (v / 32) v) else s

/-- Send one item to intermediate k; it arrives 8 slots later. -/
def State.send1 (s : State) (k : Nat) (x : Item1) : State := s.onSw (fun w => { w with t1 := w.t1 ++ [⟨k, w.slot + 8, x⟩] })

/-- Carry out a choice of the first stage. -/
def State.do1 (s : State) (i k : Nat) : Choice1 → State
  | .stream x =>
    let last := match s.pkt? x.pid with | some p => decide (p.nseg ≤ x.next + 1) | none => true
    let s := (s.freeIngress x.pid 1).onPkt x.pid (fun p => { p with sent := p.sent + 1 })
    let ys := if last then s.sw.streams.filter (· != x)
      else s.sw.streams.map (fun y => if y = x then { y with next := y.next + 1 } else y)
    let s := s.onSw (fun w => { w with streams := ys })
    (s.send1 k (.mseg x.pid x.next)).presentMcast i x.cls
  | .record pid c =>
    match s.pkt? pid with
    | none => s
    | some p =>
      let bm := match p.dest with | .mcast b => b | _ => 0
      let bases := (mcBlocks bm).map (fun d => (d, sget 0 s.sw.seqs (flowKey d i c true)))
      let nums := bases.flatMap (fun b => (List.range p.nseg).map (fun j => (b.1, (b.2 + j) % 4096)))
      let s := s.onPkt pid (fun p => { p with nums := nums })
      let s := s.setVoq i c 72 ((s.voq i c 72).filter (· != pid))
      let s := s.onSw (fun w => { w with
        ptr := sset 72 w.ptr (8 * i + c) 72,
        seqs := bases.foldl (fun m b => sset 0 m (flowKey b.1 i c true) ((b.2 + p.nseg) % 4096)) w.seqs,
        streams := w.streams ++ [⟨pid, i, k, c, 0, bases⟩],
        mrec := w.mrec ++ [⟨pid, i, k, c, bases.map (fun b => (b.1, b.2, 0)), p.nseg + 1⟩] })
      (s.send1 k (.rec_ pid)).presentMcast i c
  | .unicast pid c d =>
    match s.pkt? pid with
    | none => s
    | some p =>
      let key := flowKey d i c false
      let seq := sget 0 s.sw.seqs key
      let g : Seg := ⟨pid, p.sent, i, d, c, false, seq, 0⟩
      let s := (s.freeIngress pid 1).onPkt pid (fun p => { p with sent := p.sent + 1, nums := p.nums ++ [(d, seq)] })
      let s := s.onSw (fun w => { w with ptr := sset 72 w.ptr (8 * i + c) d, seqs := sset 0 w.seqs key ((seq + 1) % 4096) })
      let s := (s.send1 k (.uni g)).presentSend i c d seq
      s.when (p.sent + 1 == p.nseg) (fun s => s.setVoq i c d ((s.voq i c d).filter (· != pid)))

/-- Block i's turn in the first stage: a packet whose first segment is next and has aged is discarded and the choice made
again (R161). `fuel` bounds the packets that can be discarded. -/
def State.turn1 (s : State) (i k : Nat) : Nat → State
  | 0 => s
  | fuel + 1 =>
    match s.choose1 i k 8 with
    | none => s
    | some ch =>
      let tried := match ch with | .stream _ => none | .record pid _ => some pid | .unicast pid _ _ => some pid
      match tried.bind s.pkt? with
      | some p =>
        if p.sent = 0 ∧ s.agedPkt p then
          ((s.dropQueued (tried.getD 0) p.member).bumpCore (regionOfBlock i) p.cls .ageDrop).turn1 i k fuel
        else s.do1 i k ch
      | none => s.do1 i k ch

/-- A core block takes no part in the Reel: it has failed, and the Reel cycle in which it failed is over (R40, R145). -/
def State.outOfReel (s : State) (b : Nat) : Bool := s.blockDead b && s.sw.outOf.contains b

/-- The first stage of one slot: each core block in service sends at most one segment to the block it meets (R140, R145). -/
def State.stage1 (s : State) : State :=
  let blocks : List Nat := ((s.sw.voq.map (fun (e : Nat × List Nat) => e.1 / 1024)) ++ (s.sw.streams.map (fun (x : Stream) => x.i))).eraseDups
  blocks.foldl (fun s i =>
    let k := (i + s.sw.slot) % 72
    if s.outOfReel i || s.outOfReel k then s else s.turn1 i k (s.sw.pkts.length + 1)) s.presentIdle

/-! The second stage (R143, R157, R158). -/

/-- Queue a skip notice at an intermediate. -/
def State.skipAt (s : State) (n : Notice) : State := s.onSw (fun w => { w with skips := w.skips ++ [n] })

/-- Discard a copy at an intermediate with a skip notice for its number (R158). -/
def State.skipCopy (s : State) (x : Copy) : State := s.skipAt ⟨x.k, x.seg.dst, x.seg.src, x.seg.cls, x.seg.seq, 1, 0⟩

/-- Free the store room of a multicast segment once no copy of it waits among the due copies, and forget a record whose room
is all freed (R142). -/
def State.freeMroom (s : State) (k pid idx : Nat) : State :=
  if s.sw.copies.any (fun x => x.k == k && x.seg.pid == pid && x.seg.idx == idx) then s
  else
    let rs := (s.sw.mrec.map (fun r => if r.pid = pid then { r with room := r.room - 1 } else r)).filter (fun r => r.room != 0)
    (s.onSw (fun w => { w with mrec := rs })).gc pid

/-- Distinct segments in the wallflower store of block k. -/
def State.wallUsed (s : State) (k : Nat) : List (Nat × Nat) :=
  ((s.sw.wall.filter (fun x => x.k == k)).map (fun x => (x.seg.pid, x.seg.idx))).eraseDups

/-- Park one due copy, or discard it when the wallflower store is full (R157, R158). -/
def State.park (s : State) (x : Copy) : State :=
  let used := s.wallUsed x.k
  let s := s.onSw (fun w => { w with copies := w.copies.erase x })
  let s := if used.contains (x.seg.pid, x.seg.idx) ∨ used.length < 512 then s.onSw (fun w => { w with wall := w.wall ++ [x] })
    else (s.skipCopy x).bumpCore (regionOfBlock x.k) x.seg.cls .wallflowerFull
  s.freeMroom x.k x.seg.pid x.seg.idx

/-- Send one segment to its destination's resequencer; it arrives 8 slots later. -/
def State.send2 (s : State) (g : Seg) : State := s.onSw (fun w => { w with t2 := w.t2 ++ [(w.slot + 8, g)] })

/-- A packet whose parked copy has aged is discarded whole at its wallflower queue: every parked segment of it there goes with a
skip notice, and the packet is counted once as AGE_DROP (R158, R161). -/
def State.wallAged (s : State) (k d c pid : Nat) : State :=
  let mine := s.sw.wall.filter (fun x => x.k == k && x.seg.dst == d && x.seg.cls == c && x.seg.pid == pid)
  let s := s.onSw (fun w => { w with wall := w.wall.filter (fun x => !mine.contains x) })
  let s := mine.foldl (fun s x => (s.skipCopy x).bumpCore (regionOfBlock k) c .wallflowerAged) s
  (s.bumpCore (regionOfBlock k) c .ageDrop).gc pid

/-- Send the oldest parked copy of (k, d, c) that has not aged (R158, R161). True when one was sent. -/
def State.fromWall (s : State) (k d c : Nat) : Nat → State × Bool
  | 0 => (s, false)
  | fuel + 1 =>
    match s.sw.wall.find? (fun x => x.k == k && x.seg.dst == d && x.seg.cls == c) with
    | none => (s, false)
    | some x =>
      if (match s.pkt? x.seg.pid with | some p => s.agedPkt p | none => false) then (s.wallAged k d c x.seg.pid).fromWall k d c fuel
      else ((s.onSw (fun w => { w with wall := w.wall.erase x })).send2 x.seg, true)

/-- A segment has arrived at intermediate k in the present slot: it is not sent in that slot (R143). -/
def State.isFresh (s : State) (k : Nat) (g : Seg) : Bool := s.sw.fresh.contains (k, g.pid, g.idx)

/-- Intermediate k's turn toward destination d, classes from `c` down (R143). -/
def State.turn2 (s : State) (k d : Nat) : Nat → State
  | 0 => s
  | c + 1 =>
    let due := s.sw.copies.filter (fun x => x.k == k && x.seg.dst == d && x.seg.cls == c && !s.isFresh k x.seg)
    if decide (c < 7) && s.stopped d c then (due.foldl State.park s).turn2 k d c
    else
      let (s, sent) := s.fromWall k d c s.sw.wall.length
      if sent then s else
      match due with
      | x :: _ => ((s.onSw (fun w => { w with copies := w.copies.erase x })).send2 x.seg).freeMroom k x.seg.pid x.seg.idx
      | [] =>
        match kget s.sw.iq (iqKey k d c) with
        | some (g :: rest) =>
          if s.isFresh k g then s.turn2 k d c
          else (s.onSw (fun w => { w with iq := if rest.isEmpty then kdel w.iq (iqKey k d c) else kput w.iq (iqKey k d c) rest })).send2 g
        | _ => s.turn2 k d c

/-- The sideband of the slot: at most one skip notice from k to d (R156). -/
def State.notice2 (s : State) (k d : Nat) : State :=
  match s.sw.skips.find? (fun n => n.k == k && n.d == d) with
  | none => s
  | some n => s.onSw (fun w => { w with skips := w.skips.erase n, skipT := w.skipT ++ [{ n with due := w.slot + 8 }] })

/-- The second stage of one slot (R143, R145). -/
def State.stage2 (s : State) : State :=
  let blocks : List Nat := ((s.sw.iq.map (fun (e : Nat × List Seg) => e.1 / 8 / 72)) ++ (s.sw.copies.map (fun (x : Copy) => x.k)) ++
    (s.sw.wall.map (fun (x : Copy) => x.k)) ++ (s.sw.skips.map (fun (x : Notice) => x.k))).eraseDups
  blocks.foldl (fun s k =>
    let d := (k + s.sw.slot) % 72
    if s.outOfReel k || s.outOfReel d then s else (s.turn2 k d 8).notice2 k d) s

/-! Arrival at the intermediate (R142, R156). -/

/-- Judge the ports of a record when it reaches its intermediate (R156): fenced ports are removed and counted, and a block
with no port left gets a skip notice. -/
def State.judge (s : State) (k pid : Nat) : State :=
  match s.pkt? pid, s.sw.mrec.find? (fun r => r.pid == pid) with
  | some p, some r =>
    let bm := match p.dest with | .mcast b => b | _ => 0
    let (s, outs) := r.outs.foldl (fun (acc : State × List (Nat × Nat × Nat)) o =>
      let (s, outs) := acc
      let named := (List.range 8).filter (fun j => bitAt bm (8 * o.1 + j) && p.inPort != some (8 * o.1 + j))
      let s := (named.filter (fun j => s.portFenced (8 * o.1 + j))).foldl (fun s _ => s.bumpCore (regionOfBlock k) r.cls .mcFencedDrop) s
      let mask := (named.filter (fun j => !s.portFenced (8 * o.1 + j))).foldl (fun a j => setBit a j) 0
      if mask = 0 then (s.skipAt ⟨k, o.1, r.src, r.cls, o.2.1, p.nseg, 0⟩, outs) else (s, outs ++ [(o.1, o.2.1, mask)])) (s, [])
    s.onSw (fun w => { w with mrec := w.mrec.map (fun x => if x.pid = pid then { x with outs := outs, room := x.room - 1 } else x) })
  | _, _ => s

/-- An item of the first stage arrives at intermediate k. -/
def State.arrive1 (s : State) (k : Nat) : Item1 → State
  | .uni g => s.onSw (fun w => { w with iq := kput w.iq (iqKey k g.dst g.cls) (((kget w.iq (iqKey k g.dst g.cls)).getD []) ++ [g]) })
  | .rec_ pid => s.judge k pid
  | .mseg pid idx =>
    match s.sw.mrec.find? (fun r => r.pid == pid) with
    | none => s
    | some r =>
      let new := r.outs.map (fun o => (⟨k, ⟨pid, idx, r.src, o.1, r.cls, true, (o.2.1 + idx) % 4096, o.2.2⟩⟩ : Copy))
      (s.onSw (fun w => { w with copies := w.copies ++ new })).when new.isEmpty (fun s => s.freeMroom k pid idx)

/-- An item of the first stage arrives at an intermediate that has failed: it is lost, and with a record the packet pinned to that
intermediate; the numbers are skipped at the resequencers by their timers (R145, R148). -/
def State.lostItem (s : State) : Item1 → State
  | .uni g => s.gc g.pid
  | .rec_ pid =>
    (s.onSw (fun w => { w with streams := w.streams.filter (fun x => x.pid != pid), mrec := w.mrec.filter (fun r => r.pid != pid) })).dropQueued pid 72
  | .mseg pid _ => s.gc pid

/-! Egress: the resequencers and the egress queues (R148, R151, R169, R178). -/

/-- The overhead of a port (R163). -/
def State.overhead (s : State) (n : Nat) : Nat :=
  let o := s.rd .schPortCfg_overhead n
  if o = 0 then (if s.isEth n then 20 else 8) else o
/-- The cost of a body at a port (R163). -/
def State.cost (s : State) (n : Nat) (b : Body) : Nat := b.size + s.overhead n
/-- The charge of a TC7 packet at a port (R165). -/
def State.charge (s : State) (n : Nat) (b : Body) : Nat := 256 * ((s.cost n b + 255) / 256)

/-- Express admission of a TC7 packet at its egress port (R178): its charge, or none when it is dropped. -/
def State.expressAdmit (s : State) (n : Nat) (b : Body) : State × Option Nat :=
  let d := s.rd .schPortCfg_expressDepth n
  let depth := 256 * (if d = 0 ∨ 32 < d then 32 else d)
  let ch := s.charge n b
  let back := s.rd .schPortStatus_tc7Backlog n + ch
  if depth < back then (s.bumpPort n .expressDrop, none)
  else
    let s := s.wr .schPortStatus_tc7Backlog n back
    (s.when (decide (s.rd .schPortStatus_tc7Peak n < back)) (fun s => s.wr .schPortStatus_tc7Peak n back), some ch)

/-- Put a packet into an egress queue; the class joins the round when its queue was empty (R169). -/
def State.enterEgress (s : State) (n c : Nat) (e : EPkt) : State :=
  let q := s.egq n c
  let s := s.when (q.isEmpty && decide (c ≤ 5)) (fun s => s.onSw (fun w =>
    let round := ((kget w.act n).getD []).filter (· != c)
    { w with act := kput w.act n (round ++ [c]), deficit := sset 0 w.deficit (8 * n + c) 0, credited := w.credited.filter (· != 8 * n + c) }))
  s.setEgq n c (q ++ [e])

/-- The kinds delivered at the part's own GID, at a service GID, and link-local (Table 2.9). -/
def kindTaken (linkLocal : Bool) (f : LocFn) (k : BitVec 6) : Bool :=
  if linkLocal then k == 0x30
  else match f with
    | .svcGid _ => k == 0x18
    | .own => k ∈ [0x01, 0x02, 0x05, 0x0A, 0x0B, 0x10, 0x20, 0x21, 0x31, 0x32, 0x33, 0x3E, 0x3F, 0x03, 0x06, 0x08, 0x09, 0x0C]

/-- Add one released segment to the copies of a packet that stand in a port's queue or in transmission there. True when one
took it. -/
def State.growAt (s : State) (n c pid : Nat) : State × Bool :=
  if (s.egq n c).any (fun e => e.pid == pid) then
    (s.setEgq n c ((s.egq n c).map (fun e => if e.pid = pid then { e with rel := e.rel + 1 } else e)), true)
  else
    let key := 2 * n + b2n (c == 7)
    match kget s.sw.tx key with
    | some t =>
      if t.ep.pid = pid ∧ !t.underrun then (s.onSw (fun w => { w with tx := kput w.tx key { t with ep := { t.ep with rel := t.ep.rel + 1 } } }), true)
      else (s, false)
    | none => (s, false)

/-- Ports that a segment is for at its egress block. -/
def segPorts (p : Pkt) (g : Seg) : List Nat :=
  if g.mc then ((List.range 8).filter (fun j => bitAt g.ports j)).map (fun j => 8 * g.dst + j)
  else match p.dest with | .port n => [n] | _ => []

/-! The exception path's bucket and queue (R119, R451). -/

/-- A punted packet meets the token bucket and the punt queue (R119, R451): the bucket is empty while the queue, with what is on its
way to it, lacks room, or no owner's ring 2 is enabled. -/
def State.puntBlocked (s : State) : Bool :=
  decide (4 * 2 ^ 20 < (s.sw.puntQ.map (fun e => 32 + e.bytes.length)).sum +
    ((s.sw.pkts.filter (fun e => e.2.isPunt)).map (fun e => 32 + e.2.body.size)).sum + 9248) ||
    (match s.owner? with
     | some fn => !s.flag .pcieRingCfg_en (ringIdx fn 2)
     | none => true)

/-- The punt bucket brought up to now, in millionths of a packet: full at first, empty while R451 holds it so, filling at RATE
per ms otherwise (R119, R177, R451). -/
def State.puntRefresh (s : State) : State :=
  let depth : Int := 1000000 * (s.rd .corePuntCfg_burst 0 : Int)
  let b := s.sw.punt.getD ⟨depth, s.tb.mono⟩
  let tok := if s.puntBlocked then 0 else min depth (b.tok + ((s.rd .corePuntCfg_rate 0) * (s.tb.mono - b.at_) : Nat))
  s.onSw (fun w => { w with punt := some ⟨tok, s.tb.mono⟩ })

/-- Take a token for a packet sent to the exception path. False: it is dropped and counted (R119). -/
def State.puntToken (s : State) : State × Bool :=
  let s := s.puntRefresh
  let tok := match s.sw.punt with | some b => b.tok | none => 0
  if 1000000 ≤ tok ∧ s.rd .corePuntCfg_rate 0 ≠ 0 then
    (s.onSw (fun w => { w with punt := some ⟨tok - 1000000, s.tb.mono⟩ }), true)
  else (s.bumpTab .puntDrop, false)

/-- A packet joins the punt queue behind its record (Table 4.6). -/
def State.puntEnter (s : State) (reason sub index tc port : Nat) (b : Body) : State :=
  (s.onSw (fun w => { w with puntQ := w.puntQ ++ [⟨reason, tc, port, sub, index, b.wire⟩] })).puntRefresh

/-! Release and resequencing (R148). -/

/-- A packet is whole at block d: it is delivered to its local function there, or passed to the chip level, or dropped where its
kind is not listed. It holds its segments at the block until its function takes it (R62, R119, R134, R135). -/
def State.deliver (s : State) (p : Pkt) (d segs : Nat) : State :=
  match p.body, p.dest with
  | .porxel q, .loc f =>
    if kindTaken (isLinkLocal q.dgid) f q.kind then
      s.onSw (fun w => { w with localQ := w.localQ ++ [⟨q, p.inPort, d, regionOfBlock p.blk, f, p.itime, segs⟩] })
    else (s.bumpIn p.inPort .unexpectedKind).egFree d p.cls segs
  | b, .punt r sub ix => (s.puntEnter r sub ix p.cls p.pport b).egFree d p.cls segs
  | _, _ => s.egFree d p.cls segs

/-- A packet for a local function, or for the exception path, all of whose segments have been released is delivered once it has
completed at ingress (R62, R134). -/
def State.deliverIfGathered (s : State) (pid : Nat) : State :=
  match s.pkt? pid with
  | none => s
  | some p =>
    let n := sget 0 s.sw.gather (Nat.pair pid p.dst)
    if n = p.nseg ∧ n ≠ 0 ∧ p.whole ∧ !p.err then
      ((s.onSw (fun w => { w with gather := kdel w.gather (Nat.pair pid p.dst) })).deliver p p.dst n).gc pid
    else s

/-- A released segment joins those of its packet that gather for a local function. True when it did. -/
def State.gatherSeg (s : State) (g : Seg) : State × Bool :=
  let n := sget 0 s.sw.gather (Nat.pair g.pid g.dst)
  if g.idx ≠ n then (s.discardAt g.pid g.dst, false)
  else
    (((s.onSw (fun w => { w with gather := kput w.gather (Nat.pair g.pid g.dst) (n + 1) })).egTake g.dst g.cls 1).deliverIfGathered g.pid, true)

/-- A released segment joins the egress queues of its ports: the first makes the packet's copies there, a later one lengthens them.
True when a queue took it. It is in the queue 28 ns after its release (Table 5.4). -/
def State.queueSeg (s : State) (g : Seg) (p : Pkt) : State × Bool :=
  let ports := segPorts p g
  let (s, took) := ports.foldl (fun (acc : State × Bool) n =>
    let s := acc.1
    if g.idx ≠ 0 then
      let (s, t) := s.growAt n g.cls g.pid
      (s, acc.2 || t)
    else if g.cls = 7 then
      match s.expressAdmit n p.body with
      | (s, some ch) => (s.enterEgress n 7 ⟨g.pid, 1, (s.now + 28) % 2 ^ 32, ch⟩, true)
      | (s, none) => (s, acc.2)
    else (s.enterEgress n g.cls ⟨g.pid, 1, (s.now + 28) % 2 ^ 32, 0⟩, true)) (s, false)
  if took then (s.holdSeg g.pid g.dst g.cls, true) else (s.gc g.pid, false)

/-- Release one segment into the egress queues of its block, or to the local function there (R148, R178). A TC7 segment that took
more than 144 ns from its VOQ to the queue is counted (R151). -/
def State.release (s : State) (g : Seg) : State :=
  let s := s.onPkt g.pid (fun p => { p with nums := p.nums.erase (g.dst, g.seq) })
  match s.pkt? g.pid with
  | none => s
  | some p =>
    if p.gone.contains g.dst ∨ (p.err ∧ (g.idx = 0 ∨ !p.begun)) then s.gc g.pid
    else
      let late := match p.segT[g.idx]? with | some t => decide (144 < span32 t s.now + 28) | none => false
      let (s, took) := match p.dest with
        | .loc _ => s.gatherSeg g
        | .punt _ _ _ => s.gatherSeg g
        | _ => s.queueSeg g p
      s.when (g.cls == 7 && took && late) (fun s => s.bumpCore (regionOfBlock g.dst) 7 .tc7CoreLate)

/-- Release every held segment that follows without a gap, passing over the numbers already skipped (R148). -/
def State.releaseRun (s : State) (key : Nat) : Nat → State
  | 0 => s
  | fuel + 1 =>
    let f := s.flow key
    if f.skip.contains f.exp then (s.setFlow key { f with exp := (f.exp + 1) % 4096, skip := f.skip.erase f.exp }).releaseRun key fuel
    else match f.held with
      | g :: rest =>
        if g.seq = f.exp then ((s.setFlow key { f with exp := (f.exp + 1) % 4096, held := rest }).release g).releaseRun key fuel else s
      | [] => s

/-- E of a flow has advanced: what follows without a gap is released, and the timer starts anew on the gap that remains (R148). -/
def State.runOn (s : State) (key : Nat) : State :=
  (s.releaseRun key ((s.flow key).held.length + (s.flow key).skip.length + 1)).gapRestart key

/-- Insert a held segment in order of its distance ahead of the expected number. -/
def insertHeld (e : Nat) (g : Seg) : List Seg → List Seg
  | [] => [g]
  | h :: t => if (g.seq + 4096 - e) % 4096 < (h.seq + 4096 - e) % 4096 then g :: h :: t else h :: insertHeld e g t

/-- A segment arrives at the resequencer of its egress block (R148). -/
def State.arrive2 (s : State) (g : Seg) : State :=
  let key := flowKey g.dst g.src g.cls g.mc
  let f := s.flow key
  let ahead := (g.seq + 4096 - f.exp) % 4096
  let s :=
    if 2048 ≤ ahead ∨ f.skip.contains g.seq then (s.bumpCore (regionOfBlock g.dst) g.cls .reseqLate).gc g.pid
    else if ahead = 0 then ((s.setFlow key { f with exp := (f.exp + 1) % 4096 }).release g).runOn key
    else (s.setFlow key { f with held := insertHeld f.exp g f.held }).gapJudge key
  s.updStops (regionOfBlock g.dst)

/-- A number of a flow is skipped: the packet it was assigned to is discarded at that block (R147, R148). -/
def State.numSkipped (s : State) (d src c : Nat) (mc : Bool) (seq : Nat) : State :=
  match s.sw.pkts.find? (fun e => e.2.blk == src && e.2.cls == c && e.2.isMc == mc && e.2.nums.contains (d, seq)) with
  | some e => ((s.onPkt e.1 (fun p => { p with nums := p.nums.erase (d, seq) })).discardAt e.1 d).gc e.1
  | none => s

/-- Skip n numbers from `base` in a flow at once, whatever stands between: one at the expected number moves it on, with every held
segment that then follows; one ahead is marked, and one behind has been accounted for (R148). -/
def State.skipNums (s : State) (d src c : Nat) (mc : Bool) (base : Nat) : Nat → State
  | 0 => s
  | n + 1 =>
    let key := flowKey d src c mc
    let x := base % 4096
    let f := s.flow key
    let s :=
      if 2048 ≤ (x + 4096 - f.exp) % 4096 ∨ f.skip.contains x then s
      else
        let s := s.numSkipped d src c mc x
        let f := s.flow key
        if x = f.exp then (s.setFlow key { f with exp := (f.exp + 1) % 4096 }).runOn key
        else s.setFlow key { f with skip := f.skip ++ [x] }
    s.skipNums d src c mc (base + 1) n

/-- The gap before the next held segment of a flow is skipped (R148). -/
def State.skipGap (s : State) (d src c : Nat) (mc : Bool) : State :=
  let key := flowKey d src c mc
  let f := s.flow key
  match f.held with
  | [] => s
  | g :: _ =>
    let gap := (List.range ((g.seq + 4096 - f.exp) % 4096)).map (fun j => (f.exp + j) % 4096)
    let s := (gap.filter (fun x => !f.skip.contains x)).foldl (fun s x => s.numSkipped d src c mc x) s
    (s.setFlow key { s.flow key with exp := g.seq, skip := f.skip.filter (fun x => !gap.contains x) }).runOn key

/-! Packets the part originates (R65, R134, R160). -/

/-- HOPS of originated packets (CORE_PKT_CTRL). -/
def State.hopsInit (s : State) : Nat := let h := s.rd .corePktCtrl_hopsInit 0; if h = 0 then 16 else h

/-- A packet the part originates, before its check fields: VER 2, HOPS_INIT, CM 0, SPRAY 0 (R65). -/
def State.newPacket (s : State) (kind tc dgid : Nat) : Packet :=
  { ver := 2, kind := BitVec.ofNat 6 kind, tc := BitVec.ofNat 3 tc, cm := 0, spray := false, last := false, echo := false,
    hops := BitVec.ofNat 6 s.hopsInit, dgid := BitVec.ofNat 20 dgid, sgid := BitVec.ofNat 20 (s.gid?.getD 0xFFFFF), psn := 0,
    msgid := 0, len := 0, w1k := 0, w2 := 0, key := 0, ctx := 0, hcrc := 0, payload := [], ecrc := 0 }

/-- The home line block of a chunk of a collective group: from the hash, passing over failed blocks in ascending order (R318). -/
def State.homeLb (s : State) (group chunk : Nat) : Nat :=
  let h := crc32c (beBytes 2 group ++ beBytes 3 chunk) % 64
  (((List.range 64).map (fun j => (h + j) % 64)).find? (fun b => !s.blockDead b)).getD h

/-- The region of the local function that takes a packet, as seen from region k: the Commons' region by its offset, the service's
by its entry, the requester's for a response, and otherwise the region at which the packet enters (R134, R288, R327). -/
def State.funRegion (s : State) (k : Nat) (p : Packet) (f : LocFn) : Nat :=
  match f with
  | .svcGid g =>
    let e := sget 0 s.tab.svc (bits p.w2.toNat 58 6)
    if bitAt e 511 && bits e 506 3 < 4 && bitAt e (483 + g) then bits e 499 3 else k
  | .own =>
    if (p.kind = 0x01 ∨ p.kind = 0x02 ∨ p.kind = 0x05) ∧ p.w2.toNat < 0x1000000 then bits p.w2.toNat 21 3
    else
      let here := s.gw.reqs.find? (fun r => r.psn == p.psn.toNat && r.msgid == p.msgid.toNat && r.dst == p.sgid.toNat && r.sentAt.isSome)
      let xfe := s.eng.xfe.find? (fun r => r.psn == p.psn.toNat && r.msgid == p.msgid.toNat && r.pkt.dgid == p.sgid)
      if p.kind = 0x03 ∨ p.kind = 0x06 ∨ p.kind = 0x08 ∨ p.kind = 0x09 ∨ p.kind = 0x0C then
        match here, xfe with
        | some r, _ => r.k
        | none, some x => x.k
        | none, none => k
      else k

/-- The core block at which a local function stands: the service block of its region, or the home of a RED_CONTRIB (R134). A
failed region's functions are answered for at the region where the packet enters. -/
def State.localBlock (s : State) (k : Nat) (b : Body) (f : LocFn) : Nat :=
  match b with
  | .porxel p =>
    if f = .own ∧ p.kind = 0x10 then s.homeLb (bits p.w2.toNat 50 14) (bits p.w2.toNat 26 24)
    else
      let r := s.funRegion k p f
      64 + (if s.regionDead r then k else r)
  | .frame _ => 64 + k

/-- The lowest-lettered region in service. -/
def State.lowRegion (s : State) : Nat := ((List.range 8).find? (fun k => !s.regionDead k)).getD 0

/-- Segments of a body (R132). -/
def segsOf (b : Body) : Nat := (b.size + 255) / 256

/-- A whole packet enters the Reel at core block `blk` with all its segments, when it is admitted. -/
def State.admitWhole (s : State) (p : Pkt) : State :=
  match s.admitPkt { p with whole := true } with
  | (s, some pid) => s.segIn pid p.nseg
  | (s, none) => s

/-- The egress block of a unicast verdict for a packet that enters in region k (R134). -/
def State.destBlock (s : State) (k : Nat) (b : Body) : Dest → Nat
  | .port x => blockOfPort x
  | .loc f => s.localBlock k b f
  | .punt _ _ _ => 64 + k
  | .mcast _ => 0

/-- A packet enters the Reel at the service block of region k, whole, after its lookup, with an ingress time (R134, R160). On the
exception path it takes its token first (R119). -/
def State.injectAt (s : State) (k : Nat) (b : Body) (cls : Nat) (v : Verdict) (puntPort itime : Nat) : State :=
  match v with
  | .drop => s
  | .go d =>
    let (s, ok) := match d with | .punt _ _ _ => s.puntToken | _ => (s, true)
    if ok then
      s.admitWhole { s.newPkt b none (64 + k) cls (segsOf b) (s.destBlock k b d) d with itime := itime, pport := puntPort }
    else s

/-- A packet from inside the part enters the Reel as it is created. -/
def State.inject (s : State) (k : Nat) (b : Body) (cls : Nat) (v : Verdict) (puntPort : Nat) : State :=
  s.injectAt k b cls v puntPort s.now

/-- The part originates a packet at the service block of region k: nothing but HELLO until it has a GID (R393). -/
def State.originate (s : State) (k : Nat) (p : Packet) : State :=
  if s.gid?.isNone then s else
  let p := p.sealed
  let (s, v) := s.lookup k (64 + k) none p
  s.inject k (.porxel p) p.tc.toNat v 0xFFFE

/-- Originate a packet of a chip-level unit (R134). -/
def State.originateChip (s : State) (p : Packet) : State := s.originate s.lowRegion p

/-- The region at which the answer to a delivered packet enters: that of the request, or the lowest in service when it has
failed (R134). -/
def State.answerRegion (s : State) (r : Deliv) : Nat :=
  let k := if 64 ≤ r.blk then r.blk - 64 else regionOfBlock r.blk
  if s.regionDead k then s.lowRegion else k

/-- A response to a delivered request: to its SGID, from its DGID, in its class, with PSN, MSGID, KEY and CTX copied, and ECHO 1
when the request was marked (R45, R55, R67). -/
def State.respond (s : State) (r : Deliv) (kind w1k : Nat) (w2 : BitVec 64) (body : List Byte) : State :=
  let q := r.pkt
  let p := (s.newPacket kind q.tc.toNat q.sgid.toNat).withPayload body
  s.originate (s.answerRegion r) { p with sgid := q.dgid, psn := q.psn, msgid := q.msgid, key := q.key, ctx := q.ctx, w2 := w2,
                                          w1k := BitVec.ofNat 11 w1k, echo := q.cm == 3 }

/-- A NACK with an NCODE, in TC6; reserved bits are 0 (R44, R62, R67). -/
def State.nack (s : State) (r : Deliv) (code : Nat) : State :=
  let q := r.pkt
  let p := s.newPacket 0x09 6 q.sgid.toNat
  s.originate (s.answerRegion r) { p with sgid := q.dgid, psn := q.psn, msgid := q.msgid, key := q.key, ctx := q.ctx,
                                          w1k := BitVec.ofNat 11 (code * 64), echo := q.cm == 3 }

/-- Take the delivered packet at a place of the list when it is of the kind asked for: the segments it held are freed (R135). -/
def State.takeLocal (s : State) (pos : Nat) (ok : Deliv → Bool) : Option (Deliv × State) :=
  match s.sw.localQ[pos]? with
  | some r =>
    if ok r then
      some (r, ((s.onSw (fun w => { w with localQ := w.localQ.eraseIdx pos })).egFree r.blk r.pkt.tc.toNat r.segs).updStops (regionOfBlock r.blk))
    else none
  | none => none

end Sys2Proof.Machine
end

