-- ==== Sys2Proof/Machine/Receive.lean ====
section
/-! DEFINITION. Reception: the receive checks, the steps from header to admission, the completion of a packet, Ethernet frames,
and the exception path (chapters 2 to 6). -/

namespace Sys2Proof.Machine

/-! Ingress policers (R163, R174, R177). Tokens are counted in two-thousandths of a byte. -/

/-- Tokens of a thousandth of port rate gained per ns, for each lane: a native lane is 50 bytes per ns (R164). -/
def State.laneUnits (s : State) (n : Nat) : Nat :=
  let m := s.rd .corePortCfg_mode n
  if m = 0 then 100 else if m = 1 then 50 else 25

/-- The rate of a port, in lanes times lane rate (R164). -/
def State.rate (s : State) (n : Nat) : Nat := s.laneUnits n * 2 ^ s.rd .corePortStatus_widthNow n

/-- Units a bucket of a port gains per ns at RATE. -/
def State.gainRate (s : State) (n rate : Nat) : Nat := s.rate n * rate

/-- The number of a policer's bucket, and of a shaper's. -/
def polKey (n c : Nat) : Nat := 2 * (8 * n + c) + 1
def shapeKey (n c : Nat) : Nat := 2 * (8 * n + c)

/-- Depth of a bucket in units; a shaper's BURST of 0 is used as 1. -/
def State.bucketDepth (s : State) (key : Nat) : Int :=
  let b := if key % 2 = 1 then s.rd .schIpol_burst (key / 2) else (let b := s.rd .schShape_burst (key / 2); if b = 0 then 1 else b)
  (b * 64 * 2000 : Nat)

/-- RATE of a bucket in thousandths, within its limits. -/
def State.bucketRate (s : State) (key : Nat) : Nat :=
  if key % 2 = 1 then min 1000 (s.rd .schIpol_rate (key / 2))
  else (let r := s.rd .schShape_rate (key / 2); if r = 0 then 1 else min 1000 r)

/-- EN of a bucket. -/
def State.bucketEn (s : State) (key : Nat) : Bool :=
  if key % 2 = 1 then s.flag .schIpol_en (key / 2) else s.flag .schShape_en (key / 2)

/-- The tokens of a bucket now: full when it has not been used, standing still while EN is 0 (R177). -/
def State.tokens (s : State) (key : Nat) : Int :=
  match kget s.sw.buckets key with
  | none => s.bucketDepth key
  | some b =>
    if s.bucketEn key then
      min (s.bucketDepth key) (b.tok + (s.gainRate (key / 16) (s.bucketRate key) * (s.tb.mono - b.at_) : Nat))
    else b.tok

/-- Fix the tokens of a bucket as they stand now. -/
def State.setTokens (s : State) (key : Nat) (v : Int) : State :=
  s.onSw (fun w => { w with buckets := kput w.buckets key ⟨v, s.tb.mono⟩ })

/-- Fix the tokens of every bucket of a port before its rate changes: what was gained was gained at the rate then in use (R164). -/
def State.fixBuckets (s : State) (n : Nat) : State :=
  ((s.sw.buckets.map (·.1)).filter (fun k => k / 16 == n)).foldl (fun s k => s.setTokens k (s.tokens k)) s

/-- Take a cost in bytes from a bucket that is on. -/
def State.takeTokens (s : State) (key bytes : Nat) : State :=
  if s.bucketEn key then s.setTokens key (s.tokens key - (2000 * bytes : Nat)) else s

/-- The ingress policer admits a packet: its bucket holds at least 0 tokens, or it is off (R174). -/
def State.policerPasses (s : State) (n c : Nat) : Bool := !s.bucketEn (polKey n c) || decide (0 ≤ s.tokens (polKey n c))

/-! Learning events (R113, R117). -/

/-- A packet from a learning port queues a learning event against its SGID. -/
def State.learnEvent (s : State) (n : Nat) (p : Packet) : State :=
  if s.flag .dtLearnCfg_en 0 && s.flag .dtPortLearn_learn n && !s.isEth n && s.rd .corePortStatus_state n == 3 &&
      isUnicast p.sgid && !isLinkLocal p.dgid then
    if s.tab.learnQ.length < 4096 then { s with tab := { s.tab with learnQ := s.tab.learnQ ++ [(p.sgid.toNat % 2 ^ 18, n)] } }
    else s.bumpTab .learnOverflow
  else s

/-! The receive checks (R59, Table 2.8). -/

/-- Checks 1 to 5 on a header: the event counted at the first that fails. `start` is the start word received, none where the FEC
could not correct the header. A packet whose channel is not that of its class is misframed (R78); as the class is trusted only after
HCRC, that is seen last (log entry 18). -/
def headerFault (p : Packet) (start : Option (BitVec 64)) : Option PortEv :=
  if !(start.any framed) then some .rxFrameErr
  else if p.hcrc ≠ p.hcrcOf then some .hcrcErr
  else if p.ver ≠ 2 then some .verErr
  else if !kindListed p.kind then some .kindErr
  else if 4096 < p.len.toNat then some .hdrFieldErr
  else if !(isUnicast p.dgid || isMulticast p.dgid || isLinkLocal p.dgid) then some .hdrFieldErr
  else if !(isUnicast p.sgid || (p.kind == 0x30 && isLinkLocal p.sgid)) then some .hdrFieldErr
  else if !(start.any (fun w => chanFits w p)) then some .rxFrameErr
  else none

/-- The kinds that may travel in TC6 (R175). -/
def tc6Kind (k : BitVec 6) : Bool := k ∈ [0x08, 0x09, 0x30, 0x31, 0x32, 0x33, 0x34, 0x3F]

/-- A packet that is received on a port, after its verdict. `n` is its number of segments (R132). -/
def State.rxPkt (s : State) (port : Nat) (b : Body) (cls n : Nat) (d : Dest) : Pkt :=
  let blk := blockOfPort port
  { s.newPkt b (some port) blk cls n (s.destBlock (regionOfBlock blk) b d) d with inRate := s.rate port, pport := port }

/-- Start the reception of a packet with a verdict: it is admitted to its queue or dropped. None of its segments has arrived (R133;
log entry 18). A frame that is dropped is still followed to its end, where the policer's cost of it is known (R174). -/
def State.startRx (s : State) (port : Nat) (b : Body) (cls n : Nat) (d : Dest) : State :=
  let pk := s.rxPkt port b cls n d
  let key := 2 * port + b2n (cls == 7)
  match s.admitPkt pk, b with
  | (s, some pid), _ => s.onSw (fun w => { w with rx := kput w.rx key pid })
  | (s, none), .porxel _ => s
  | (s, none), .frame _ =>
    let pid := s.sw.nextPid
    s.onSw (fun w => { w with nextPid := pid + 1, pkts := kput w.pkts pid { pk with nseg := 0 }, rx := kput w.rx key pid })

/-- The steps of R477 after checks 1 to 6: TC6 kind, sit-out, lookup, check 7, policer, admission. -/
def State.headerSteps (s : State) (port : Nat) (p : Packet) : State :=
  let c := p.tc.toNat
  let blk := blockOfPort port
  let k := regionOfBlock blk
  if p.tc = 6 ∧ !tc6Kind p.kind then s.bumpClass port 6 .tc6KindDrop
  else if !isLinkLocal p.dgid && isUnicast p.sgid && s.inSitOut p.sgid.toNat then s.bumpPort port .fenceDropSrc
  else if isUnicast p.dgid && s.inSitOut p.dgid.toNat then s.bumpPort port .fenceDropDst
  else
    let n := (36 + p.len.toNat + 255) / 256
    let police := fun (s : State) (d : Dest) =>
      if s.policerPasses port c then
        (s.takeTokens (polKey port c) (36 + p.len.toNat + s.overhead port)).startRx port (.porxel p) c n d
      else s.bumpClass port c .policeDrop
    let punt := fun (s : State) (d : Dest) =>
      match s.puntToken with
      | (s, true) => s.startRx port (.porxel p) c n d
      | (s, false) => s
    match s.lookup k blk (some port) p with
    | (s, .drop) => s
    | (s, .go (.punt r sub ix)) => punt s (.punt r sub ix)
    | (s, .go (.loc f)) => police s (.loc f)
    | (s, .go d) =>
      if p.hops = 0 then
        let s := s.bumpPort port .hopsExpired
        if s.flag .corePktCtrl_puntExpired 0 then punt s (.punt 5 0 0xFFFFFFFF) else s
      else police s d

/-- A link-local HELLO with FAST set, which a port in TRAINING answers (R218, Table 3.7). -/
def fastHello (p : Packet) : Bool := isLinkLocal p.dgid && p.kind == 0x30 && bitAt (beNat (slice p.payload 5 1)) 5

/-- A packet's header is received (R59, R85, R477). A port in TRAINING receives nothing but a HELLO with FAST set, which R218 has it
answer, and counts nothing (log entry 18). -/
def doPacketHeaderReceived (port : Fin 512) (p : Packet) (start : Option (BitVec 64)) (s : State) : State :=
  let n := port.val
  let st := s.rd .corePortStatus_state n
  if s.off || s.regionDead (n / 64) || !s.flag .corePortCfg_en n || s.isEth n || !(st == 1 || st == 2 || st == 3 || st == 4) then s
  else if st = 1 then
    if headerFault p start = none ∧ fastHello p then s.headerSteps n p else s
  else match headerFault p start with
    | some e => s.bumpPort n e
    | none =>
      if st = 2 ∧ !(isLinkLocal p.dgid && p.kind == 0x30) then s.bumpPort n .unexpectedKind
      else
        let s := s.learnEvent n p
        if p.tc = 7 ∧ 2048 < 36 + p.len.toNat then s.bumpPort n .tc7Oversize
        else (s.bumpTraffic 0 n p.tc.toNat (36 + p.len.toNat)).headerSteps n p

/-- PACKET_HEADER_RECEIVED (R477). -/
def execPacketHeaderReceived (port : Fin 512) (p : Packet) (start : Option (BitVec 64)) (s : State) : Host.Outcome State Fault Refusal :=
  settle s (doPacketHeaderReceived port p start s)

/-- The bytes of a segment other than the last have arrived, and it enters the packet's queue (R133). The last segment enters when
the packet completes. -/
def doSegmentBytesArrived (port : Fin 512) (exp : Bool) (s : State) : State :=
  match kget s.sw.rx (2 * port.val + b2n exp) with
  | none => s
  | some pid =>
    match s.pkt? pid with
    | none => s
    | some p =>
      let n := match p.body with | .porxel _ => p.nseg | .frame _ => min p.nseg (segsOf p.body)
      if p.arrived + 1 < n then s.segIn pid 1 else s

/-- SEGMENT_BYTES_ARRIVED (R133). -/
def execSegmentBytesArrived (port : Fin 512) (exp : Bool) (s : State) : Host.Outcome State Fault Refusal :=
  settle s (doSegmentBytesArrived port exp s)

/-- The transmissions of a packet in progress are to be stomped (R60, R83). -/
def State.stompTx (s : State) (pid : Nat) : State :=
  s.onSw (fun w => { w with tx := w.tx.map (fun e => if e.2.ep.pid = pid then (e.1, { e.2 with stomp := true }) else e) })

/-- A packet that failed at its completion is dropped wherever it has not begun to leave, and stomped where it has (R60, R83). -/
def State.spoil (s : State) (pid : Nat) : State :=
  match s.pkt? pid with
  | none => s
  | some p =>
    let s := (s.onPkt pid (fun p => { p with err := true })).stompTx pid
    let s := p.blocks.foldl (fun s d => (s.dropCopies pid d p.cls).dropGather pid d) s
    if !p.begun && (s.voq p.blk p.cls p.member).contains pid then s.dropQueued pid p.member else s.gc pid

/-- The event of check 8: the length received differs from LEN, or the payload's FEC is uncorrectable (R59). -/
def tailFault (p : Packet) (rxLen : Nat) (fecOk : Bool) : Option PortEv :=
  if rxLen ≠ p.len.toNat then some .lenErr else if !fecOk then some .rxFrameErr else none

/-- The numbers reserved for segments that a multicast frame does not use are skipped from its intermediate, and the store room
promised for them is free (R136, R148, R155; log entry 19). -/
def State.unreserve (s : State) (pid segs n : Nat) : State :=
  match s.sw.streams.find? (fun x => x.pid == pid) with
  | none => s
  | some x =>
    let s := x.bases.foldl (fun s b => s.skipAt ⟨x.k, b.1, x.i, x.cls, (b.2 + segs) % 4096, n, 0⟩) s
    s.onSw (fun w => { w with mrec := w.mrec.map (fun r => if r.pid = pid then { r with room := r.room - n } else r) })

/-- A received packet is whole: its last segments are at the block, unused segments return (R136), and its end is fixed. -/
def State.completeRx (s : State) (pid segs : Nat) : State :=
  match s.pkt? pid with
  | none => s
  | some p =>
    let s := s.when (decide (segs < p.nseg)) (fun s => (s.freeIngress pid (min p.sram (p.nseg - segs))).unreserve pid segs (p.nseg - segs))
    let h := min p.hseg (segs - p.sent)
    let k := regionOfBlock p.blk
    let s := s.when (decide (h < p.hseg)) (fun s =>
      s.wr .corePoolStatus_spillUsed k (s.rd .corePoolStatus_spillUsed k - (p.hseg - h)))
    let s := (s.segIn pid (segs - p.arrived)).onPkt pid (fun p => { p with nseg := segs, whole := true, hseg := h })
    let s := s.when (decide (segs ≤ p.sent) && !p.isMc) (fun s =>
      s.setVoq p.blk p.cls p.dst ((s.voq p.blk p.cls p.dst).filter (· != pid)))
    s.when (decide (h < p.hseg)) (fun s => s.spillEnds p.blk p.cls p.member)

/-- A body whose payload is cut at the length received; the header, as it stands or has already left, is kept (R60). -/
def cutPayload (n : Nat) : Body → Body
  | .porxel q => .porxel { q with payload := q.payload.take n }
  | .frame bs => .frame bs

/-- Check 8 has failed for a packet: it is dropped and counted, or where it has begun to leave it is stomped and ends at the length
received, or at LEN when it ran long (R59, R60). -/
def State.failTail (s : State) (n pid : Nat) (p : Pkt) (segs len : Nat) (e : PortEv) : State :=
  let s := s.onPkt pid (fun p => { p with body := cutPayload len p.body })
  let s := s.onSw (fun w => { w with tx := w.tx.map (fun t =>
    if t.2.ep.pid = pid then (t.1, { t.2 with body := cutPayload len t.2.body }) else t) })
  ((s.completeRx pid segs).when (!p.begun) (fun s => s.bumpPort n e)).spoil pid

/-- A packet completes at ingress: check 8, and check 9 for a packet that is consumed (R59, R60, R62, R83). -/
def doPacketReceiveComplete (port : Fin 512) (exp : Bool) (rxLen : Nat) (fecOk : Bool) (s : State) : State :=
  let n := port.val
  let key := 2 * n + b2n exp
  match kget s.sw.rx key with
  | none => s
  | some pid =>
    let s := s.onSw (fun w => { w with rx := kdel w.rx key })
    match s.pkt? pid with
    | none => s
    | some p =>
      -- the policer's cost of a frame is known at its end (R174)
      let s := match p.body with
        | .frame bs => s.when (!p.isPunt) (fun s => s.takeTokens (polKey n p.cls) (bs.length + 4 + s.overhead n))
        | .porxel _ => s
      if p.dropped then s.gc pid else
      match p.body with
      | .porxel q =>
        match tailFault q rxLen fecOk with
        | some e => s.failTail n pid p p.nseg (min rxLen q.len.toNat) e
        | none =>
          let s := s.completeRx pid p.nseg
          match p.dest with
          | .loc f =>
            if q.ecrc ≠ q.ecrcOf then (s.bumpPort n .ecrcErr).spoil pid
            else if !kindTaken (isLinkLocal q.dgid) f q.kind then (s.bumpPort n .unexpectedKind).spoil pid
            else s.deliverIfGathered pid
          | _ => s.deliverIfGathered pid
      | .frame bs =>
        if fecOk then (s.completeRx pid (segsOf (.frame bs))).deliverIfGathered pid
        else s.failTail n pid p (segsOf (.frame bs)) 0 .rxFrameErr

/-- PACKET_RECEIVE_COMPLETE (R59). -/
def execPacketReceiveComplete (port : Fin 512) (exp : Bool) (rxLen : Nat) (fecOk : Bool) (s : State) :
    Host.Outcome State Fault Refusal :=
  settle s (doPacketReceiveComplete port exp rxLen fecOk s)

/-! Ethernet frames (R64, R83, R84). -/

/-- A PAUSE or priority flow control frame: a MAC Control frame with opcode 0x0001 or 0x0101 (IEEE 802.3; log entry 10). -/
def isPause (bs : List Byte) : Bool :=
  beNat (slice bs 12 2) == 0x8808 && (beNat (slice bs 14 2) == 0x0001 || beNat (slice bs 14 2) == 0x0101)

/-- An ETH_ENCAP packet that carries a frame to a GID (R64, R65, R66). Its PSN and MSGID, which no rule fixes, are free. -/
def State.encapPacket (s : State) (cls dgid : Nat) (bs : List Byte) : State × Packet :=
  let (psn, s) := s.free 1 (2 ^ 24)
  let (mid, s) := s.free 2 (2 ^ 16)
  (s, { (s.newPacket 0x3E cls dgid).withPayload bs with psn := BitVec.ofNat 24 psn, msgid := BitVec.ofNat 16 mid }.sealed)

/-- A frame's path after its size checks: lookup, encapsulation or egress, policer and admission. `port` is none for the inner
frame of an ETH_ENCAP packet, which enters at block `blk`. -/
def State.frameSteps (s : State) (port : Option Nat) (blk cls : Nat) (bs : List Byte) : State :=
  let k := regionOfBlock blk
  let passes := match port with | some n => s.policerPasses n cls | none => true
  let police := fun (s : State) => match port with | some n => s.bumpClass n cls .policeDrop | none => s
  let start := fun (s : State) (b : Body) (n : Nat) (d : Dest) => match port with
    | some x => s.startRx x b cls n d
    | none => s.inject k b cls (.go d) 0xFFFF
  -- the ETH_ENCAP packet is originated here, so a punt record of it carries 0xFFFE (Tables 2.10 and 4.6)
  let route := fun (s : State) (p : Packet) (v : Verdict) => match v with
    | .drop => s
    | .go d =>
      let (s, ok) := match d with | .punt _ _ _ => s.puntToken | _ => (s, true)
      if ok then s.admitWhole (s.newPkt (.porxel p) none blk cls (segsOf (.porxel p)) (s.destBlock k (.porxel p) d) d) else s
  match s.frameLookup k blk cls port bs with
  | (s, .v .drop _) => s
  | (s, .v (.go (.punt r sub ix)) b) =>
    match port with
    | some x =>
      (match s.puntToken with
       | (s, true) => s.startRx x (.frame b) cls 36 (.punt r sub ix)
       | (s, false) => s)
    | none => s.inject k (.frame b) cls (.go (.punt r sub ix)) 0xFFFF
  | (s, .v (.go d) b) => if passes then start s (.frame b) 36 d else police s
  | (s, .encap dgid b) =>
    if 4096 < b.length then s.bumpIn port .encapOversize
    -- a TC7 packet is at most 2,048 bytes long (R68; log entry 18)
    else if cls = 7 ∧ 2048 < 36 + b.length then s.bumpIn port .tc7Oversize
    else if !passes then police s
    else
      let s := match port with | some n => s.takeTokens (polKey n cls) (bs.length + 4 + s.overhead n) | none => s
      let (s, p) := s.encapPacket cls dgid b
      let (s, v) := s.lookup k blk none p
      route s p v

/-- A frame is received on an Ethernet-mode port: classed, size-checked and routed (R83, R84). A frame that is encapsulated or
dropped here is not seen again at its completion. -/
def doEthFrameReceived (port : Fin 512) (bytes : List Byte) (fcsOk : Bool) (s : State) : State :=
  let n := port.val
  let st := s.rd .corePortStatus_state n
  if s.off || s.regionDead (n / 64) || !s.flag .corePortCfg_en n || !s.isEth n || !(st == 3 || st == 4) then s
  else
    let size := bytes.length + 4
    if 9216 < size then s.bumpPort n .frameOversize
    else if size < 64 ∨ !fcsOk then s.bumpPort n .rxFrameErr
    else if isPause bytes then s.bumpPort n .pauseRx
    else
      let c := s.frameClass bytes
      if c = 7 ∧ 2048 < size then s.bumpPort n .tc7Oversize
      else (s.bumpTraffic 0 n c size).frameSteps (some n) (blockOfPort n) c bytes

/-- ETH_FRAME_RECEIVED (R83). -/
def execEthFrameReceived (port : Fin 512) (bytes : List Byte) (fcsOk : Bool) (s : State) : Host.Outcome State Fault Refusal :=
  settle s (doEthFrameReceived port bytes fcsOk s)

/-- An ETH_ENCAP packet to the part's own GID is decapsulated and its inner frame routed as if received on an Ethernet-mode
port (R62, R103); a payload outside 60 to 4,096 bytes is no frame and is answered with NACK BAD_REQ. A PAUSE or priority flow
control frame in it is dropped and not counted, PAUSE_RX being a count of a port's frames (the model's choice, log entry 18). -/
def doEthEncapReceived (pos : Nat) (s : State) : State :=
  match s.takeLocal pos (fun r => r.pkt.kind == 0x3E && r.fn == .own) with
  | none => s
  | some (r, s) =>
    let bs := r.pkt.payload
    if bs.length < 60 ∨ 4096 < bs.length then s.nack r 5
    else if isPause bs then s
    else
      let c := s.frameClass bs
      if c = 7 ∧ 2048 < bs.length + 4 then s.bumpIn r.inPort .tc7Oversize
      else s.frameSteps none (64 + s.answerRegion r) c bs

/-- ETH_ENCAP_RECEIVED (R62). -/
def execEthEncapReceived (pos : Nat) (s : State) : Host.Outcome State Fault Refusal := settle s (doEthEncapReceived pos s)

/-- A MGMT packet to the part's own GID is posted unchanged to the event ring of the lease owner, or dropped when there is none
(R62, R446, Table 18.3). -/
def doMgmtReceived (pos : Nat) (s : State) : State :=
  match s.takeLocal pos (fun r => r.pkt.kind == 0x3F && r.fn == .own) with
  | none => s
  | some (r, s) =>
    match s.owner? with
    | none => s
    | some fn => s.postEvent fn 0x0003 (leBytes 2 r.pkt.bytes.length) r.pkt.bytes

/-- MGMT_RECEIVED (R62). -/
def execMgmtReceived (pos : Nat) (s : State) : Host.Outcome State Fault Refusal := settle s (doMgmtReceived pos s)

/-- The punt record of Table 4.6. -/
def PuntEntry.record (e : PuntEntry) : List Byte :=
  leBytes 1 e.reason ++ leBytes 1 e.tc ++ leBytes 2 e.port ++ leBytes 2 e.bytes.length ++ leBytes 1 e.sub ++ leBytes 1 0 ++
    leBytes 4 e.index ++ leBytes 4 0

/-- The oldest punted packet leaves the punt queue for the owner's ring 2, when that ring takes it (R119, R451). -/
def doPuntDeliver (s : State) : State :=
  match s.sw.puntQ, s.owner? with
  | e :: rest, some fn =>
    if s.ringTakes fn 2 (e.record ++ e.bytes) then
      let s := s.puntRefresh
      let s := s.onSw (fun w => { w with puntQ := rest })
      (s.writeEntry fn 2 0x0010 [] (e.record ++ e.bytes)).puntRefresh
    else s
  | _, _ => s

/-- PUNT_DELIVER (R451). -/
def execPuntDeliver (s : State) : Host.Outcome State Fault Refusal := settle s (doPuntDeliver s)

end Sys2Proof.Machine
end

