-- ==== Sys2Proof/Machine/Sched.lean ====
section
/-! DEFINITION. The egress scheduler, express interleave, marking, the transparent clock, and the commands of the Reel
(chapters 5 to 7). -/

namespace Sys2Proof.Machine

/-! When a packet may start (R152, R166, R167, R186). -/

/-- R152: the packet has entered the egress queue of port n and class c and is ready there. -/
def State.readyPkt (s : State) (n c : Nat) (e : EPkt) : Bool :=
  match s.pkt? e.pid with
  | none => false
  | some p =>
    s.reached e.ent && ((p.whole && e.rel == p.nseg) ||
      (decide (1 ≤ e.rel) && s.flag .coreEgrCfg_cut c &&
        (match p.dest, p.inPort with
         | .port _, some _ => decide (s.rate n ≤ p.inRate) && s.reached (p.segT.headD 0 + s.rd .coreReseqCfg_cutHold 0)
         | _, _ => false)))

/-- A port follows its gate list: its EN is 1 and the cycle timer runs (R184, R188). -/
def State.follows (s : State) (n : Nat) : Bool := s.flag .gatePortCtrl_en n && s.flag .gateCycleCtrl_running 0

/-- Entries in use in a bank of a port: 0 is used as 1, above 64 as 64. -/
def State.gateLen (s : State) (n b : Nat) : Nat :=
  let l := if b = 1 then s.rd .gatePortCtrl_len1 n else s.rd .gatePortCtrl_len0 n
  if l = 0 then 1 else min 64 l

/-- The flattened index of a gate list entry. -/
def gateIdx (n b e : Nat) : Nat := 128 * n + 64 * b + e

/-- The entries of a bank in force within a cycle of length `cyc`, from entry e at offset `at_`: (entry, start, end, STATE)
(R185). -/
def State.gateFrom (s : State) (n b cyc : Nat) : Nat → Nat → Nat → List (Nat × Nat × Nat × Nat)
  | 0, _, _ => []
  | fuel + 1, e, at_ =>
    if cyc ≤ at_ then [] else
    let st := s.rd .gateList_state (gateIdx n b e)
    let dur := s.rd .gateList_duration (gateIdx n b e)
    if e + 1 = s.gateLen n b then [(e, at_, cyc, st)]
    else if dur = 0 then s.gateFrom n b cyc fuel (e + 1) at_
    else (e, at_, min cyc (at_ + dur), st) :: s.gateFrom n b cyc fuel (e + 1) (at_ + dur)

/-- The windows of a bank in one cycle. -/
def State.gateWindows (s : State) (n b cyc : Nat) : List (Nat × Nat × Nat × Nat) := s.gateFrom n b cyc 64 0 0

/-- The gate of class c is open at port n (R184, R185). -/
def State.gateOpen (s : State) (n c : Nat) : Bool := c == 7 || !s.follows n || bitAt (s.rd .gatePortStatus_curState n) c

/-- Where the present cycle ends, as an offset from its boundary: the next boundary, or a pending start before it (R187). -/
def State.gateEnd (s : State) : Nat :=
  let e := span32 s.gate.last s.gate.next
  match s.gate.armed with
  | some a => min e (span32 s.gate.last a.1)
  | none => e

/-- The windows of the bank in force, the last one holding to the end of the cycle when a late step has lengthened it (R189). -/
def State.gateSpans (s : State) (n : Nat) : List (Nat × Nat × Nat × Nat) :=
  let ws := s.gateWindows n (s.rd .gatePortCtrl_active n) s.gate.cycle
  ws.dropLast ++ (ws.getLast?.map (fun (w : Nat × Nat × Nat × Nat) => (w.1, w.2.1, max w.2.2.1 s.gateEnd, w.2.2.2))).toList

/-- Where class c's gate closes in the present cycle, as an offset from its boundary; none when it stays open beyond the cycle
(R186). -/
def State.gateCloses (s : State) (n c : Nat) : Option Nat :=
  let b := s.rd .gatePortCtrl_active n
  let cyc := s.gateEnd
  let now := span32 s.gate.last s.now
  let ws := (s.gateSpans n).filter (fun w => decide (now < w.2.2.1))
  let nb := if s.flag .gatePortCtrl_commit n then 1 - b else b
  let beyond := bitAt (s.rd .gateList_state (gateIdx n nb 0)) c
  match ws.find? (fun w => !bitAt w.2.2.2 c) with
  | some w => if w.2.1 < cyc then some w.2.1 else if beyond then none else some cyc
  | none => if beyond then none else some cyc

/-- R186: the head packet would end before its gate closes, or at that instant. -/
def State.guardOk (s : State) (n c : Nat) (b : Body) : Bool :=
  if !s.flag .schPortCfg_guard n || !s.follows n then true
  else match s.gateCloses n c with
    | none => true
    | some close => decide (2 * s.cost n b ≤ (close - span32 s.gate.last s.now) * s.rate n)

/-- R167: the packet is eligible at port n in class c. -/
def State.eligibleAt (s : State) (n c : Nat) (e : EPkt) : Bool :=
  s.readyPkt n c e && (c == 7 ||
    (s.gateOpen n c && (match s.pkt? e.pid with | some p => s.guardOk n c p.body | none => false) &&
      (!s.bucketEn (shapeKey n c) || decide (0 ≤ s.tokens (shapeKey n c)))))

/-- The head of a class queue when it is eligible. -/
def State.headIf (s : State) (n c : Nat) : Option EPkt :=
  match s.egq n c with
  | e :: _ => if s.eligibleAt n c e then some e else none
  | [] => none

/-- The quantum of a class in bytes; 0 is used as 1. -/
def State.quantum (s : State) (n c : Nat) : Nat :=
  let q := match c with
    | 0 => s.rd .schDrrCfg_q0 n | 1 => s.rd .schDrrCfg_q1 n | 2 => s.rd .schDrrCfg_q2 n
    | 3 => s.rd .schDrrCfg_q3 n | 4 => s.rd .schDrrCfg_q4 n | _ => s.rd .schDrrCfg_q5 n
  256 * (if q = 0 then 1 else q)

/-- The round of a port. -/
def State.round (s : State) (n : Nat) : List Nat := (kget s.sw.act n).getD []
/-- Move a class to the tail of the round, without credit. -/
def State.toTail (s : State) (n c : Nat) : State :=
  s.onSw (fun w => { w with act := kput w.act n ((s.round n).filter (· != c) ++ [c]), credited := w.credited.filter (· != 8 * n + c) })

/-- The cost of a queued packet at a port. -/
def State.costOf (s : State) (n : Nat) (e : EPkt) : Nat := match s.pkt? e.pid with | some p => s.cost n p.body | none => 0

/-- Deficit round robin over the classes of the round (R168): the class whose head starts, with its deficit charged. -/
def State.drr (s : State) (n : Nat) : Nat → State × Option (Nat × EPkt)
  | 0 => (s, none)
  | fuel + 1 =>
    match s.round n with
    | [] => (s, none)
    | c :: _ =>
      match s.headIf n c with
      | none => (s.toTail n c).drr n fuel
      | some e =>
        let key := 8 * n + c
        let s := if s.sw.credited.contains key then s
          else s.onSw (fun w => { w with deficit := sset 0 w.deficit key (sget 0 w.deficit key + s.quantum n c), credited := key :: w.credited })
        let d := sget 0 s.sw.deficit key
        if s.costOf n e ≤ d then (s.onSw (fun w => { w with deficit := sset 0 w.deficit key (d - s.costOf n e) }), some (c, e))
        else (s.toTail n c).drr n fuel

/-- The class and packet that the scheduler chooses for a free port (R168). -/
def State.pick (s : State) (n : Nat) : State × Option (Nat × EPkt) :=
  match s.headIf n 7 with
  | some e => (s, some (7, e))
  | none =>
    match s.headIf n 6 with
    | some e => (s, some (6, e))
    | none => s.drr n (s.round n).length

/-! What is done to a packet at its start (R51, R52, R162, R183, R196 to R200). -/

/-- R162: a capable packet is marked by the ramp of its sojourn time; the random value is free. -/
def State.marks (s : State) (c ent : Nat) : State × Bool :=
  if s.flag .coreMarkCfg_en c then
    let t := span32 ent s.now
    let lo := 16 * s.rd .coreMarkCfg_low c
    let hi := 16 * s.rd .coreMarkCfg_high c
    if t < lo then (s, false)
    else if hi ≤ lo ∨ hi ≤ t then (s, true)
    else
      let (r, s) := s.free 3 65536
      (s, decide (r * (hi - lo) < (t - lo) * 65536))
  else (s, false)

/-- A two's complement value of w bits. -/
def signed (w v : Nat) : Int := if v < 2 ^ (w - 1) then v else (v : Int) - 2 ^ w

/-- The residence of a message, modulo 2^32 (R197). -/
def State.residence (s : State) (i n itime : Nat) : Nat :=
  let lrx : Int := if s.isEth i then ((kget s.ports.port i).map (·.lrx)).getD 0 else 110
  let ltx : Int := if s.isEth n then 100 else 60
  let tin : Int := itime - lrx - signed 8 (s.rd .timePortCfg_rxAdj i)
  let tout : Int := s.now + ltx + signed 8 (s.rd .timePortCfg_txAdj n)
  ((tout - tin) % 2 ^ 32).toNat

/-- A correction with a residence added: the new field, and whether the sum passed the signed range (R197, R200). -/
def correct (old r : Nat) : Nat × Bool :=
  let v := signed 64 old + r * 65536
  if v < 2 ^ 63 then ((v % 2 ^ 64).toNat, false) else (0x7FFFFFFFFFFFFFFF, true)

/-- Where the IEEE 1588 header of a frame lies, when it is an event message that R196 names. -/
def ptpAt? (bs : List Byte) : Option Nat :=
  let l4 := l4At bs
  let m := l4 + 8
  if frameIp bs ≠ 0 ∧ etherAt bs ≤ 16 ∧ ipProto bs = 17 ∧ beNat (slice bs (l4 + 2) 2) = 319 ∧ beNat (slice bs m 1) % 16 ≤ 3 ∧
      beNat (slice bs (m + 1) 1) % 16 = 2 then some m else none

/-- The frame with a new correctionField and its UDP checksum updated (R199). -/
def patchPtp (bs : List Byte) (m new : Nat) : List Byte :=
  let old := beNat (slice bs (m + 8) 8)
  let ckAt := l4At bs + 6
  let ck := beNat (slice bs ckAt 2)
  let ck' := [0, 16, 32, 48].foldl (fun c i => cksumUpdate c (bits old i 16) (bits new i 16)) ck
  let bs' := patch bs (m + 8) (beBytes 8 new)
  if frameIp bs = 4 ∧ ck = 0 then bs' else patch bs' ckAt (beBytes 2 (if ck' = 0 then 0xFFFF else ck'))

/-- TIME_NS has stepped since a message passed its reference point: its Tin lies before a step (R197, R200). -/
def State.stepSince (s : State) (i : Nat) (p : Pkt) : Bool :=
  let lead : Int := (if s.isEth i then (((kget s.ports.port i).map (·.lrx)).getD 0 : Int) else 110) + signed 8 (s.rd .timePortCfg_rxAdj i)
  match s.tb.stepAt with
  | some m => decide ((p.mono : Int) - lead < m) || (lead == 0 && m == p.mono && p.steps != s.tb.steps)
  | none => false

/-- The transparent clock at a packet's start (R196, R200): the body as it leaves, or none when it is dropped. -/
def State.transparent (s : State) (n : Nat) (p : Pkt) : State × Option Body :=
  match p.inPort with
  | none => (s, some p.body)
  | some i =>
    if !s.flag .timePortCfg_tcEn n then (s, some p.body) else
    match p.body with
    | .porxel q =>
      if q.kind = 0x34 ∧ q.status ≤ 1 ∧ !s.isEth i ∧ !s.isEth n then
        if s.stepSince i p then (s.bumpPort n .tcStepDrop, none)
        else
          let (w2, ovf) := correct q.w2.toNat (s.residence i n p.itime)
          let s := (s.when ovf (fun s => s.bumpPort n .tcOvf)).bumpPort n .tcCorrected
          (s, some (.porxel { q with w2 := BitVec.ofNat 64 w2 }))
      else (s, some p.body)
    | .frame bs =>
      match ptpAt? bs with
      | some m =>
        if s.isEth i ∧ s.isEth n then
          if s.stepSince i p then (s.bumpPort n .tcStepDrop, none)
          else
            let (c, ovf) := correct (beNat (slice bs (m + 8) 8)) (s.residence i n p.itime)
            let s := (s.when ovf (fun s => s.bumpPort n .tcOvf)).bumpPort n .tcCorrected
            (s, some (.frame (patchPtp bs m c)))
        else (s, some p.body)
      | none => (s, some p.body)

/-- A unicast identifier of the packet is in sit-out (R365). -/
def State.fencedBody (s : State) (b : Body) : Bool :=
  match b with
  | .porxel q => !isLinkLocal q.dgid && ((isUnicast q.sgid && s.inSitOut q.sgid.toNat) || (isUnicast q.dgid && s.inSitOut q.dgid.toNat))
  | .frame _ => false

/-- Take the head out of a class queue; an emptied class of TC5 to TC0 leaves the round (R168). -/
def State.popEgress (s : State) (n c : Nat) (e : EPkt) : State :=
  let q := (s.egq n c).filter (· != e)
  let s := s.setEgq n c q
  s.when (q.isEmpty && decide (c ≤ 5)) (fun s => s.onSw (fun w =>
    { w with act := kput w.act n (((kget w.act n).getD []).filter (· != c)), deficit := sset 0 w.deficit (8 * n + c) 0,
             credited := w.credited.filter (· != 8 * n + c) }))

/-- The body as it leaves: HOPS down by one when forwarded, CM marked, HCRC afresh (R50 to R52). -/
def State.leaveBody (s : State) (n c ent : Nat) (forwarded : Bool) (b : Body) : State × Body :=
  match b with
  | .frame _ => (s, b)
  | .porxel q =>
    let q := if forwarded then { q with hops := q.hops - 1 } else q
    let (s, m) := if q.cm = 1 then s.marks c ent else (s, false)
    let s := s.when m (fun s => s.bumpClass n c .cmMarked)
    let q := if m then { q with cm := 3 } else q
    (s, .porxel { q with hcrc := q.hcrcOf })

/-- The word of the egress scheduler of port 64k: start, class, express interleave and cost in 8 bytes, or 0 for a decision that starts
nothing (Table 18.8). -/
def State.presentStart (s : State) (n w : Nat) : State := if n % 64 = 0 then s.present (0x20 + n / 64) w else s

/-- Try to start a chosen packet: the age, fence and transparent clock steps may drop it instead (R161, R200, R365). True when it
started. -/
def State.start (s : State) (n c : Nat) (e : EPkt) : State × Bool :=
  match s.pkt? e.pid with
  | none => (s.dropEgress n c e, false)
  | some p =>
    if p.err then (s.dropEgress n c e, false)
    else if s.aged c p.itime then ((s.bumpCore (regionOfBlock (blockOfPort n)) c .ageDrop).dropEgress n c e, false)
    else if s.fencedBody p.body then ((s.bumpPort n .fenceDropEgr).dropEgress n c e, false)
    else
      match s.transparent n p with
      | (s, none) => (s.dropEgress n c e, false)
      | (s, some b) =>
        let (s, b) := s.leaveBody n c e.ent p.inPort.isSome b
        let lim := match p.inPort, p.body with
          | some i, .porxel _ => if !s.isEth i && !s.isEth n then 830 else 2 ^ 32
          | some i, .frame _ => if s.isEth i && s.isEth n then 1080 else 2 ^ 32
          | none, _ => 2 ^ 32
        let s := s.when (c == 7 && decide (lim < span32 p.itime s.now)) (fun s => s.bumpPort n .tc7Late)
        let s := s.when (!s.isEth n) (fun s => s.emit (.started n (startWord (c == 7) b.size) (c == 7)))
        let s := (s.popEgress n c e).onPkt e.pid (fun p => { p with begun := true })
        let s := s.presentStart n (0x8000 + c * 0x1000 + b2n (c == 7 && (kget s.sw.tx (2 * n)).isSome) * 0x800 + s.cost n p.body / 8 % 0x800)
        let s := s.when (c != 7) (fun s => s.takeTokens (shapeKey n c) (s.cost n p.body))
        (s.onSw (fun w => { w with tx := kput w.tx (2 * n + b2n (c == 7)) ⟨e, c, b, false, false, 0⟩ }), true)

/-- A multicast copy at the head of a queue of a port that is not in UP or DRAINING is dropped (R159). -/
def State.dropMcDown (s : State) (n c : Nat) : Nat → State
  | 0 => s
  | fuel + 1 =>
    let st := s.rd .corePortStatus_state n
    match s.egq n c with
    | e :: _ =>
      if st != 3 && st != 4 && (match s.pkt? e.pid with | some p => (match p.dest with | .mcast _ => true | _ => false) | none => false) then
        ((s.bumpPort n .mcPortDown).dropEgress n c e).dropMcDown n c fuel
      else s
    | [] => s

/-- One decision of a free port in UP or DRAINING, repeated while the packet chosen is dropped instead of started (R168). -/
def State.decide1 (s : State) (n : Nat) : Nat → State
  | 0 => s
  | fuel + 1 =>
    match s.pick n with
    | (s, none) => s
    | (s, some (c, e)) =>
      match s.start n c e with
      | (s, true) => s
      | (s, false) => s.decide1 n fuel

/-- The first link-local HELLO in the TC6 queue of a port in HELLO. Such a port carries nothing else (Table 3.4), so that HELLO counts
as the head of the queue, and starts when it is eligible (R167, R168; log entry 21). -/
def State.firstHello (s : State) (n : Nat) : Option EPkt :=
  (s.egq n 6).find? (fun e => match s.pkt? e.pid with
    | some p => (match p.body with | .porxel q => isLinkLocal q.dgid && q.kind == 0x30 | .frame _ => false)
    | none => false)

/-- An egress port free to start a packet makes its decision (R168). -/
def doSchedulerDecision (port : Fin 512) (s : State) : State :=
  let n := port.val
  let st := s.rd .corePortStatus_state n
  if s.off || (kget s.sw.tx (2 * n)).isSome || (kget s.sw.tx (2 * n + 1)).isSome then s
  else
    let s := ((List.range 8).foldl (fun s c => s.dropMcDown n c (s.egq n c).length) s).presentStart n 0
    if !s.flag .corePortCfg_en n then s
    else if st = 3 ∨ st = 4 then s.decide1 n (((List.range 8).map (fun c => (s.egq n c).length)).sum + 1)
    else if st = 2 then
      match s.firstHello n with
      | some e => if s.eligibleAt n 6 e then (s.start n 6 e).1 else s
      | none => s
    else s

/-- SCHEDULER_DECISION (R168). -/
def execSchedulerDecision (port : Fin 512) (s : State) : Host.Outcome State Fault Refusal := settle s (doSchedulerDecision port s)

/-- Start the next eligible TC7 packet on a native port where an ordinary packet is interrupted (R171, R172). -/
def State.nextExpress (s : State) (n : Nat) : Nat → State
  | 0 => s
  | fuel + 1 =>
    match s.headIf n 7 with
    | none => s
    | some e =>
      match s.start n 7 e with
      | (s, true) => s
      | (s, false) => s.nextExpress n fuel

/-- An ordinary packet reaches a cut point on a native port (R171). -/
def doExpressCutPoint (port : Fin 512) (s : State) : State :=
  let n := port.val
  if s.isEth n || (kget s.sw.tx (2 * n)).isNone || (kget s.sw.tx (2 * n + 1)).isSome then s
  else s.nextExpress n ((s.egq n 7).length + 1)

/-- EXPRESS_CUT_POINT (R171). -/
def execExpressCutPoint (port : Fin 512) (s : State) : Host.Outcome State Fault Refusal := settle s (doExpressCutPoint port s)

/-- The body of a stomped packet: its check value inverted (R60, R83). -/
def stomped (b : Body) : Body :=
  match b with
  | .porxel q => .porxel { q with ecrc := ~~~q.ecrc }
  | .frame bs => .frame bs

/-- A transmission is over: the port is free of it, its TC7 charge returns, and its segments are freed (R135, R178). -/
def State.endTx (s : State) (n key : Nat) (t : Tx) : State :=
  let s := s.onSw (fun w => { w with tx := kdel w.tx key })
  let s := s.when (t.cls == 7) (fun s => s.wr .schPortStatus_tc7Backlog n (s.rd .schPortStatus_tc7Backlog n - t.ep.chg))
  (s.copyDone t.ep.pid (blockOfPort n) t.cls).updStops (regionOfBlock (blockOfPort n))

/-- A packet's last byte leaves: it is counted and recorded (R425, R60). -/
def State.leave (s : State) (n key : Nat) (t : Tx) : State :=
  let b := if t.stomp then stomped t.body else t.body
  let s := s.when t.stomp (fun s => s.bumpPort n .stomped)
  ((s.emit (.sent n b t.stomp)).bumpTraffic 1 n t.cls b.size).endTx n key t

/-- Every segment of a packet in transmission has been released, or its end is fixed by a stomp. -/
def State.txWhole (s : State) (t : Tx) : Bool :=
  match s.pkt? t.ep.pid with
  | some p => p.whole && t.ep.rel == p.nseg && !t.underrun
  | none => false

/-- The transmission in progress at a port: the express packet where one is in progress, else the ordinary one. -/
def State.txKey (s : State) (n : Nat) : Nat := if (kget s.sw.tx (2 * n + 1)).isSome then 2 * n + 1 else 2 * n

/-- A transmission has ended; where it was a TC7 packet that interrupted an ordinary one, the next eligible TC7 packet follows
(R171, R172). -/
def State.afterTx (s : State) (n key : Nat) : State :=
  s.when (key == 2 * n + 1 && (kget s.sw.tx (2 * n)).isSome && !s.isEth n) (fun s => s.nextExpress n ((s.egq n 7).length + 1))

/-- The last byte of a segment other than the packet's last leaves a port: the segment is freed when it has left on every port that
takes a copy (R135). -/
def State.segLeaves (s : State) (n key : Nat) (t : Tx) : State :=
  if t.left < t.ep.rel ∧ !(s.txWhole t && t.left + 1 == t.ep.rel) then
    ((s.onSw (fun w => { w with tx := kput w.tx key { t with left := t.left + 1 } })).copyDone t.ep.pid (blockOfPort n) t.cls).updStops
      (regionOfBlock (blockOfPort n))
  else s

/-- The last byte of a packet leaves an egress port, or that of a segment before its last (R135, R168). -/
def doPacketTxEnd (port : Fin 512) (last : Bool) (s : State) : State :=
  let n := port.val
  let key := s.txKey n
  match kget s.sw.tx key with
  | none => s
  | some t =>
    if !last then s.segLeaves n key t
    else if s.txWhole t then (s.leave n key t).afterTx n key
    else s

/-- A body cut at the segments sent so far, with its check value inverted (R153). -/
def cutBody (b : Body) (segs : Nat) : Body :=
  match b with
  | .porxel q => .porxel { q with payload := q.payload.take (256 * segs - 32), ecrc := ~~~q.ecrc }
  | .frame bs => .frame (bs.take (256 * segs))

/-- A started packet needs a segment that has not been released: it is stomped, and what is left of it is discarded as it is
released (R153). -/
def doUnderrun (port : Fin 512) (s : State) : State :=
  let n := port.val
  let key := s.txKey n
  match kget s.sw.tx key with
  | none => s
  | some t =>
    if s.txWhole t then s
    else
      let b := cutBody t.body t.ep.rel
      ((((s.bumpPort n .underrun).emit (.sent n b true)).bumpTraffic 1 n t.cls b.size).endTx n key t).afterTx n key

/-- Cut off what a port is transmitting when it leaves service other than at the end of a drain (R476). -/
def State.linkAbort (s : State) (n : Nat) : State :=
  [2 * n + 1, 2 * n].foldl (fun s key =>
    match kget s.sw.tx key with
    | some t => ((s.emit (.cutOff n t.body)).bumpPort n .linkAbort).endTx n key t
    | none => s) s

/-! The Reel's commands. -/

/-- The slot count advances by one CORE_CLK cycle, and both stages make their sends for the slot (R140). At the start of a Reel cycle
the failed blocks leave the Reel (R145). -/
def doReelSlot (s : State) : State :=
  if s.off then s
  else
    let s := s.when (s.sw.slot % 72 == 0) (fun s => s.onSw (fun w => { w with outOf := (List.range 72).filter s.blockDead }))
    let s := s.stage1.stage2
    let s := s.onSw (fun w => { w with slot := w.slot + 1, fresh := [] })
    (List.range 8).foldl (fun s k => s.updStops k) s

/-- REEL_SLOT (R140). -/
def execReelSlot (s : State) : Host.Outcome State Fault Refusal := settle s (doReelSlot s)

/-- A segment that arrives at an intermediate in the slot that is still to be run is not sent in it (R143). -/
def State.markFresh (s : State) (x : Transit1) : State :=
  match x.item with
  | .uni g => s.onSw (fun w => { w with fresh := (x.k, g.pid, g.idx) :: w.fresh })
  | .mseg pid idx => s.onSw (fun w => { w with fresh := (x.k, pid, idx) :: w.fresh })
  | .rec_ _ => s

/-- A segment sent in the first stage arrives, 8 slots after it was sent (R142, R143). -/
def doSegmentArriveIntermediate (pos : Nat) (s : State) : State :=
  match s.sw.t1[pos]? with
  | some x =>
    if x.due ≤ s.sw.slot then
      let s := s.onSw (fun w => { w with t1 := w.t1.eraseIdx pos })
      if s.blockDead x.k then s.lostItem x.item else (s.arrive1 x.k x.item).when (x.due == s.sw.slot) (fun s => s.markFresh x)
    else s
  | none => s

/-- SEGMENT_ARRIVE_INTERMEDIATE (R142). -/
def execSegmentArriveIntermediate (pos : Nat) (s : State) : Host.Outcome State Fault Refusal :=
  settle s (doSegmentArriveIntermediate pos s)

/-- A segment arrives at its egress resequencer, 8 slots after it was sent (R143, R148). -/
def doSegmentArriveResequencer (pos : Nat) (s : State) : State :=
  match s.sw.t2[pos]? with
  | some (due, g) =>
    if due ≤ s.sw.slot then
      let s := s.onSw (fun w => { w with t2 := w.t2.eraseIdx pos })
      if s.blockDead g.dst then s.gc g.pid else s.arrive2 g
    else s
  | none => s

/-- SEGMENT_ARRIVE_RESEQUENCER (R148). -/
def execSegmentArriveResequencer (pos : Nat) (s : State) : Host.Outcome State Fault Refusal :=
  settle s (doSegmentArriveResequencer pos s)

/-- A skip notice reaches its resequencer (R148, R156). -/
def doSkipNoticeReceived (pos : Nat) (s : State) : State :=
  match s.sw.skipT[pos]? with
  | some n =>
    if n.due ≤ s.sw.slot then
      ((s.onSw (fun w => { w with skipT := w.skipT.eraseIdx pos })).skipNums n.d n.src n.cls true n.base n.n).updStops (regionOfBlock n.d)
    else s
  | none => s

/-- SKIP_NOTICE_RECEIVED (R148). -/
def execSkipNoticeReceived (pos : Nat) (s : State) : Host.Outcome State Fault Refusal := settle s (doSkipNoticeReceived pos s)

/-- The resequencing timer of a flow has reached TIMEOUT: the gap before the next held segment is skipped (R148). It runs only while
segments are held behind a gap and stop is clear. -/
def doReseqTimeout (d i : Fin 72) (c : Fin 8) (mc : Bool) (s : State) : State :=
  let key := flowKey d.val i.val c.val mc
  if s.gapRuns key && decide (s.reseqLimit ≤ s.gapTime key) then
    ((s.bumpCore (regionOfBlock d.val) c.val .reseqSkip).skipGap d.val i.val c.val mc).updStops (regionOfBlock d.val)
  else s

/-- RESEQ_TIMEOUT (R148). -/
def execReseqTimeout (d i : Fin 72) (c : Fin 8) (mc : Bool) (s : State) : Host.Outcome State Fault Refusal :=
  settle s (doReseqTimeout d i c mc s)

/-- Segments read from a VOQ's HBM part refill its SRAM head (R137). -/
def doSpillRefill (i d : Fin 72) (c : Fin 4) (s : State) : State :=
  if s.stackDead (stackOf (regionOfBlock i.val)) then s else (s.refill i.val c.val d.val).updStops (regionOfBlock i.val)

/-- SPILL_REFILL (R137). -/
def execSpillRefill (i d : Fin 72) (c : Fin 4) (s : State) : Host.Outcome State Fault Refusal := settle s (doSpillRefill i d c s)

/-- Every 1 ms the head of every VOQ, wallflower queue and egress queue is tested for age; a packet already begun in the first
stage is passed over (R161). -/
def doAgeSweep (s : State) : State :=
  if s.off then s else
  let s := s.sw.voq.foldl (fun s e =>
    match e.2 with
    | pid :: _ =>
      (match s.pkt? pid with
       | some p =>
         if p.sent = 0 ∧ s.agedPkt p then (s.dropQueued pid p.member).bumpCore (regionOfBlock p.blk) p.cls .ageDrop else s
       | none => s)
    | [] => s) s
  let heads := s.sw.wall.foldl (fun (acc : List Copy) x =>
    if acc.any (fun y => y.k == x.k && y.seg.dst == x.seg.dst && y.seg.cls == x.seg.cls) then acc else acc ++ [x]) []
  let s := heads.foldl (fun s x =>
    match s.pkt? x.seg.pid with
    | some p =>
      if s.agedPkt p then s.wallAged x.k x.seg.dst x.seg.cls x.seg.pid else s
    | none => s) s
  s.sw.egq.foldl (fun s q =>
    match q.2 with
    | e :: _ =>
      (match s.pkt? e.pid with
       | some p =>
         if s.aged (q.1 % 8) p.itime then
           (s.bumpCore (regionOfBlock (blockOfPort (q.1 / 8))) (q.1 % 8) .ageDrop).dropEgress (q.1 / 8) (q.1 % 8) e
         else s
       | none => s)
    | [] => s) s

/-- AGE_SWEEP (R161). -/
def execAgeSweep (s : State) : Host.Outcome State Fault Refusal := settle s (doAgeSweep s)

end Sys2Proof.Machine
end

