-- ==== Sys2Proof/Machine/GwOps.lean ====
section
/-! DEFINITION. The gateway's shared operations: requests, coalescing buffers, answers and abandonment (chapter 13). -/

namespace Sys2Proof.Machine

/-- Replace the gateway. -/
def State.onGw (s : State) (g : Gw → Gw) : State := { s with gw := g s.gw }

/-- The source GID of an access, and what its Word 2 names (R343). -/
def Deliv.src (r : Deliv) : Nat := r.pkt.sgid.toNat % 2 ^ 18
def Deliv.gwTarget (r : Deliv) : Nat := bits r.pkt.w2.toNat 46 18
def Deliv.gwAddr (r : Deliv) : Nat := bits r.pkt.w2.toNat 0 46

/-- TIMEOUT_US in ns (GW_CFG). -/
def State.gwTimeoutNs (s : State) : Nat :=
  let t := s.rd .gwCfg_timeoutUs 0
  1000 * (if t = 0 then 1 else min 1000 t)

/-- COAL_NS (GW_CFG). -/
def State.gwCoalNs (s : State) : Nat := min 1000 (s.rd .gwCfg_coalNs 0)

/-- OUTSTANDING and BUFFERS of a region as they stand. -/
def State.gwOutstanding (s : State) (k : Nat) : Nat := (s.gw.reqs.filter (fun r => r.k == k && r.sentAt.isSome)).length
def State.gwBuffers (s : State) (k : Nat) : Nat := (s.gw.bufs.filter (fun b => b.k == k)).length

/-- Two requests are of one pair and their target bytes overlap (R350). -/
def GwReq.clash (a b : GwReq) : Bool :=
  a.k == b.k && a.src == b.src && a.dst == b.dst && decide (a.addr < b.addr + b.len) && decide (b.addr < a.addr + a.len)

/-- The packet of a request (R348, R349, R351). -/
def State.gwPacket (s : State) (r : GwReq) : Packet :=
  let p := s.newPacket (if r.isWrite then 0x01 else 0x02) r.tc r.dst
  let p := if r.isWrite then p.withPayload r.data else p
  { p with psn := BitVec.ofNat 24 r.psn, msgid := BitVec.ofNat 16 r.msgid, w2 := BitVec.ofNat 64 r.addr,
           w1k := BitVec.ofNat 11 (if r.isWrite then 2 ^ 10 else r.len / 4) }

/-- Send a request for the first time: it takes PSN and MSGID from the region's counters (R351). -/
def State.gwSend (s : State) (r : GwReq) : State :=
  let c := sget 0 s.gw.ctr r.k
  let q := { r with psn := c % 2 ^ 24, msgid := c % 2 ^ 16, sentAt := some s.now }
  let s := s.onGw (fun g => { g with ctr := sset 0 g.ctr r.k (c + 1), reqs := g.reqs.map (fun x => if x.num = r.num then q else x) })
  let s := s.when r.isWrite (fun s => s.bumpGw r.k .gwWrite)
  s.originate r.k (s.gwPacket q)

/-- Send the waiting requests of a region that nothing earlier of their pair overlaps, while fewer than 1,024 are outstanding
(R350). -/
def State.gwRelease (s : State) (k : Nat) : State :=
  (s.gw.reqs.foldl (fun (acc : State × List GwReq) r =>
    let s := acc.1
    if r.k = k ∧ r.sentAt.isNone ∧ !acc.2.any (fun e => e.clash r) ∧ s.gwOutstanding k < 1024 then (s.gwSend r, acc.2 ++ [r])
    else (s, acc.2 ++ [r])) (s, [])).1

/-- Add a request at the end of its region's order, numbered, and send what may be sent. -/
def State.gwAdd (s : State) (r : GwReq) : State :=
  (s.onGw (fun g => { g with reqs := g.reqs ++ [{ r with num := g.nextReq }], nextReq := g.nextReq + 1 })).gwRelease r.k

/-- Flush one buffer: its bytes leave as one WRITE (R349). -/
def State.gwFlush (s : State) (b : GwBuf) : State :=
  let s := s.onGw (fun g => { g with bufs := g.bufs.filter (fun x => x.num != b.num) })
  s.gwAdd { num := 0, k := b.k, psn := 0, msgid := 0, isWrite := true, src := b.src, dst := b.dst, tc := b.tc, addr := b.addr,
            len := b.data.length, data := b.data, got := 0, accs := b.accs, sentAt := none, resends := 0, done := false, nacked := false }

/-- Flush every buffer that a test names, oldest first. -/
def State.gwFlushIf (s : State) (t : GwBuf → Bool) : State := (s.gw.bufs.filter t).foldl State.gwFlush s

/-- The MEM_RESP to an access (R351, R352): Word 2 and CTX copied, KEY reserved. -/
def State.memResp (s : State) (k : Nat) (r : Deliv) (status : Nat) (body : List Byte) : State :=
  let q := r.pkt
  let p := (s.newPacket 0x0C q.tc.toNat q.sgid.toNat).withPayload body
  s.originate k { p with sgid := q.dgid, psn := q.psn, msgid := q.msgid, ctx := q.ctx, w2 := q.w2,
                         w1k := BitVec.ofNat 11 (status * 256), echo := q.cm == 3 }

/-- The access is a load. -/
def Deliv.isLoad (r : Deliv) : Bool := r.pkt.kind == 0x0A

/-- SIZE of a load. -/
def Deliv.loadSize (r : Deliv) : Nat := r.pkt.w1k.toNat

/-- Answer an access with STATUS POISON (R352). -/
def State.memPoison (s : State) (k : Nat) (r : Deliv) : State :=
  s.memResp k r 1 (if r.isLoad then List.replicate r.loadSize 0xFF else [])

/-- Count and record a request abandoned under R352 or R353. `kind` is the KIND of the request. -/
def State.gwPoisoned (s : State) (k src dst addr kind : Nat) : State :=
  let s := s.bumpGw k .gwPoison
  let s := (s.wr .gwLastPoison_gid 0 dst).wr .gwLastPoison_addr 0 addr
  s.fault 0x0041 1 [src, dst, addr % 2 ^ 32, addr / 2 ^ 32, kind, s.rd .gwMode_mode 0]

/-- Take a request away and send what waited for it. -/
def State.gwDrop (s : State) (r : GwReq) : State := (s.onGw (fun g => { g with reqs := g.reqs.filter (fun x => x.num != r.num) })).gwRelease r.k

/-- Abandon a request: every access it carried is answered with POISON (R352). -/
def State.gwAbandon (s : State) (r : GwReq) : State :=
  let s := r.accs.foldl (fun s a => s.memPoison r.k a) s
  ((s.gwPoisoned r.k r.src r.dst r.addr (if r.isWrite then 0x01 else 0x02)).gwDrop r)

/-- A GID enters sit-out: the requests outstanding to it, those that have not completed, are answered at once (R353). -/
def State.gwFenced (s : State) (g : Nat) : State :=
  (s.gw.reqs.filter (fun r => r.dst == g && r.sentAt.isSome && !r.done)).foldl State.gwAbandon s

/-- An outstanding request by its PSN. -/
def State.gwFind (s : State) (k psn : Nat) : Option GwReq :=
  s.gw.reqs.find? (fun r => r.k == k && r.psn == psn && r.sentAt.isSome)

/-- Bytes of a READ_RESP put at their places in a buffer whose first byte stands for address `addr`. -/
def placeBytes (buf : List Byte) (addr at_ : Nat) (bs : List Byte) : List Byte :=
  if at_ < addr then buf else patch buf (at_ - addr) (bs.take (buf.length - (at_ - addr)))

/-- The answer of an access that a completed request carried (R351). -/
def State.gwAnswer (s : State) (r : GwReq) (a : Deliv) : State :=
  s.memResp r.k a 0 (if a.isLoad then slice r.data (a.gwAddr - r.addr) a.loadSize else [])

end Sys2Proof.Machine
end

