-- ==== Sys2Proof/Machine/Rings.lean ====
section
/-! DEFINITION. The Optical Control Links and the rings: frames, the lock-in, the pilot transform and the ring registers that ports and
the optical control share (R204, R206, R209, R211 to R214). -/

namespace Sys2Proof.Machine

/-! Frames of an Optical Control Link (R209, Tables 8.2 and 8.3). -/

/-- One bit into a CRC-8 with polynomial 0x07, not reflected. -/
def crc8Step (c : Nat) (b : Bool) : Nat := if Nat.testBit c 7 != b then (2 * c) % 256 ^^^ 0x07 else (2 * c) % 256
/-- The CRC-8 of n bits, the first sent first, from the initial value 0. -/
def crc8 (bs : List Bool) : Nat := bs.foldl crc8Step 0
/-- The bits of a field in the order sent: bit 0 first (R209; log entry 22). -/
def fieldBits (n v : Nat) : List Bool := (List.range n).map (fun i => Nat.testBit v i)

/-- SYNC of every frame. -/
def oclSync : Nat := 0b101100
/-- DCRC, over DTYPE and DPAYLOAD. -/
def dcrcOf (dtype payload : Nat) : Nat := crc8 (fieldBits 4 dtype ++ fieldBits 16 payload)
/-- The 34 bits that the part drives in a frame: SYNC, DTYPE, DPAYLOAD and DCRC. -/
def downFrame (dtype payload : Nat) : BitVec 34 :=
  BitVec.ofNat 34 (oclSync + 2 ^ 6 * dtype + 2 ^ 10 * payload + 2 ^ 26 * dcrcOf dtype payload)
/-- UCRC, over the fields of the module's part of a frame: RING, TAP, UTYPE and AUX. -/
def ucrcOf (up : OclUp) : Nat :=
  crc8 (up.rings.flatMap (fun v => fieldBits 11 v.toNat) ++ fieldBits 12 up.tap.toNat ++ fieldBits 4 up.utype.toNat ++
    fieldBits 8 up.aux.toNat)
/-- A frame that the module has answered with a good UCRC. -/
def oclGood (up : OclUp) : Bool := up.answered && up.ucrc.toNat == ucrcOf up

/-- Send a command to a slot's module. -/
def State.sendOcl (s : State) (slot dtype payload : Nat) : State := s.emit (.ocl slot dtype payload (downFrame dtype payload))
/-- HEATER: ring and code. -/
def heaterPay (ring code : Nat) : Nat := 2 ^ 12 * ring + code
/-- TWI_WR: byte address and data; TWI_RD has no data. -/
def twiPay (byte data : Nat) : Nat := 2 ^ 8 * byte + data
/-- DITHER: ring and frequency in units of 250 Hz. -/
def ditherPay (ring freq : Nat) : Nat := 2 ^ 12 * ring + freq
/-- SPARE, engaged on a channel's line. -/
def sparePay (chan line : Nat) : Nat := 2 ^ 15 + 2 ^ 5 * chan + line

/-! The pilot transform (R204, R213). -/

/-- A quarter wave of the sine of 256 points, in units of 2^-30. -/
def quarterWave : List Int :=
  [0, 26350943, 52686014, 78989349, 105245103, 131437462, 157550647, 183568930] ++
  [209476638, 235258165, 260897982, 286380643, 311690799, 336813204, 361732726, 386434353] ++
  [410903207, 435124548, 459083786, 482766489, 506158392, 529245404, 552013618, 574449320] ++
  [596538995, 618269338, 639627258, 660599890, 681174602, 701339000, 721080937, 740388522] ++
  [759250125, 777654384, 795590213, 813046808, 830013654, 846480531, 862437520, 877875009] ++
  [892783698, 907154608, 920979082, 934248793, 946955747, 959092290, 970651112, 981625251] ++
  [992008094, 1001793390, 1010975242, 1019548121, 1027506862, 1034846671, 1041563127, 1047652185] ++
  [1053110176, 1057933813, 1062120190, 1065666786, 1068571464, 1070832474, 1072448455, 1073418433] ++
  [1073741824]

/-- sin(2π·j/256) in units of 2^-30. -/
def sin256 (j : Nat) : Int :=
  let q := j % 128
  let v := nthD quarterWave (if q ≤ 64 then q else 128 - q) 0
  if j % 256 < 128 then v else -v

/-- The correlation of samples with the sine of bin b, begun at a phase of the 256-point circle. -/
def correlate (b : Nat) : Nat → List Nat → Int
  | _, [] => 0
  | j, x :: xs => (x : Int) * sin256 j + correlate b ((j + b) % 256) xs

/-- The power of bin b of the 256-point transform of samples: the squared magnitude. The specification gives the transform and no
number format, so the twiddles are those of 2^-30 and the rest is exact (log entry 22). -/
def binPower (xs : List Nat) (b : Nat) : Nat := ((correlate b 64 xs) ^ 2 + (correlate b 0 xs) ^ 2).natAbs
/-- Bins 32 to 63, the pilots of the lines (R204). -/
def pilotBins (xs : List Nat) : List Nat := (List.range 32).map (fun k => binPower xs (32 + k))
/-- A sample joins a window of the last 256. -/
def pushSample (w : List Nat) (x : Nat) : List Nat := (w ++ [x]).drop ((w.length + 1) - 256)

/-! Rings (R206, R211, R212). -/

/-- Replace the optical control. -/
def State.onOpt (s : State) (g : Opt → Opt) : State := { s with opt := g s.opt }

/-- A ring at rest. -/
def RingSt.init : RingSt :=
  { y := 0, acc := 0, ph := 0, win := [], table := [], held := [], heldCode := 0, cal := 0, mon := 0, up := 0, down := 0, bad := 0,
    sweeps := 0 }
/-- A ring: key 2·lane + (0 transmit, 1 receive). -/
def State.ringSt (s : State) (key : Nat) : RingSt := (kget s.opt.ring key).getD RingSt.init
/-- Change what the part holds of a ring. -/
def State.onRing (s : State) (key : Nat) (g : RingSt → RingSt) : State :=
  s.onOpt (fun o => { o with ring := kput o.ring key (g (s.ringSt key)) })

/-- The line a ring is for. -/
def State.ringLine (s : State) (key : Nat) : Nat :=
  if key % 2 = 0 then s.rd .optChanCfg_txLine (key / 2) else s.rd .optChanCfg_rxLine (key / 2)
/-- The dither frequency of a ring, in units of 250 Hz. -/
def State.ringDither (s : State) (key : Nat) : Nat :=
  if key % 2 = 0 then s.rd .optChanCfg_txDither (key / 2) else s.rd .optChanCfg_rxDither (key / 2)

/-- The number of a ring on its module: transmit j, receive 8 + j (R206). -/
def ringOnModule (key : Nat) : Nat := key / 2 % 8 + 8 * (key % 2)
/-- The keys of the rings of a slot, by their number on the module. -/
def slotRing (t r : Nat) : Nat := 2 * (8 * t + r % 8) + r / 8

/-- Every dither oscillator of a module restarts at phase 0, and the part's demodulators with them (R209). -/
def State.phaseSync (s : State) (t : Nat) : State :=
  (List.range 16).foldl (fun s r => s.onRing (slotRing t r) (fun x => { x with ph := 0 })) (s.sendOcl t 7 0)

/-- One sample of a ring's monitor: the lock-in of R211, with y in units of 2^-16; the oscillator moves on by one microsecond, f/4000
of a turn. The sine, for which the specification gives no number format, is free (log entry 22). -/
def RingSt.sample (x : RingSt) (lpf dither v : Nat) : RingSt :=
  { x with mon := v, win := pushSample x.win v, ph := (x.ph + dither) % 4000,
           acc := x.acc + ((v : Int) * Config.sine x.ph - x.acc) / 2 ^ lpf }

/-- Send HEATER for a ring; a code outside 256 to 3,839 makes a sweep due (R211, R212). -/
def State.heat (s : State) (key code : Nat) : State :=
  let s := s.wr .optRingStatus_heater key code
  let s := s.when (decide (code < 256) || decide (3839 < code)) (fun s => s.wr .optRingStatus_sweepDue key 1)
  s.sendOcl (key / 16) 1 (heaterPay (ringOnModule key) code)

/-- The table code of a ring's line, shown in OPT_RING_STATUS. -/
def State.showTable (s : State) (key : Nat) : State :=
  s.wr .optRingStatus_tableCode key (nthD (s.ringSt key).table (s.ringLine key) 0)

/-- The monitor of a ring stands above one quarter of its value at the last calibration (R212). -/
def RingSt.lit (r : RingSt) : Bool := decide (r.cal < 4 * r.mon)
/-- The monitor of a ring has fallen below that level (R212). -/
def RingSt.faint (r : RingSt) : Bool := decide (4 * r.mon < r.cal)

/-- LOCK of a ring, shown in both registers that give it. -/
def State.setLock (s : State) (key : Nat) (b : Bool) : State :=
  let s := s.wr .optRingStatus_lock key (b2n b)
  s.wr (if key % 2 = 0 then .optChanStatus_txLock else .optChanStatus_rxLock) (key / 2) (b2n b)

/-- Begin a sweep of a ring: its lock is given up (R213, R220). -/
def State.beginSweep (s : State) (key : Nat) : State := (s.wr .optRingStatus_sweep key 1).setLock key false

/-- A transmit ring whose line is dark at the module's tap cannot lock (R207). -/
def State.ringDark (s : State) (key : Nat) : Bool := key % 2 == 0 && s.opt.dark.contains (32 * (key / 16) + s.ringLine key)

/-- A failed calibration, or one given up: tables and codes are restored as they were before it (R221, R228). -/
def State.restoreRings (s : State) (n : Nat) : State :=
  [2 * n, 2 * n + 1].foldl (fun s k =>
    let r := s.ringSt k
    let s := (s.onRing k (fun r => { r with table := r.held })).wr .optRingStatus_sweep k 0
    ((s.heat k r.heldCode).setLock k true).showTable k) s

/-- The calibration of a port has ended (R219). -/
def State.calOver (s : State) : State := (s.onOpt (fun o => { o with cal := none })).wr .optCalStatus_active 0 0

end Sys2Proof.Machine
end

