-- ==== Sys2Proof/Machine/PortOps.lean ====
section
/-! DEFINITION. The port state machine and the health scores of ports: the operations that every event of a port shares
(chapter 3, R355 to R359). -/

namespace Sys2Proof.Machine

/-! What a port holds. -/

/-- Replace the ports. -/
def State.onPorts (s : State) (g : Ports → Ports) : State := { s with ports := g s.ports }

/-- A port at rest. -/
def PortSt.init : PortSt :=
  { at_ := .idle, fast := false, nextFast := false, tries := 0, powered := false, ended := false, runAt := 0, round := 0, good := 0, seen := none,
    waits := [], draining := false, holdDone := false, planDue := false, lrx := 0, far := 0, txEq := none, heard := none, drainAt := 0, peerAt := 0 }

/-- What a port holds beyond its registers. -/
def State.pst (s : State) (n : Nat) : PortSt := (kget s.ports.port n).getD PortSt.init
/-- Change what a port holds. -/
def State.setPst (s : State) (n : Nat) (g : PortSt → PortSt) : State :=
  s.onPorts (fun w => { w with port := kput w.port n (g (s.pst n)) })

/-- STATE of a port (Table 3.4). -/
def State.portState (s : State) (n : Nat) : Nat := s.rd .corePortStatus_state n
/-- BYPASS of a port. -/
def State.isBypass (s : State) (n : Nat) : Bool := s.flag .corePortCfg_bypass n
/-- The port carries or may carry packets: HELLO, UP or DRAINING. -/
def State.linked (s : State) (n : Nat) : Bool := s.portState n == 2 || s.portState n == 3 || s.portState n == 4
/-- Lanes of a port at its configured width. -/
def State.lanesOf (s : State) (n : Nat) : List Nat := (List.range (2 ^ s.rd .corePortCfg_width n)).map (fun j => n + j)
/-- A native port. -/
def State.isNative (s : State) (n : Nat) : Bool := !s.isEth n
/-- AGE of CORE_NBR: milliseconds since the last valid HELLO, saturating at 255. -/
def State.nbrAge (s : State) (n : Nat) : Nat :=
  match (s.pst n).heard with | some t => min 255 ((s.tb.mono - t) / 1000000) | none => s.rd .coreNbr_age n
/-- Every enabled port, by its first lane. -/
def State.enabledPorts (s : State) : List Nat := (List.range 512).filter (fun n => s.flag .corePortCfg_en n)

/-- Set STATE_EVENT and raise its host event. -/
def State.portEvent (s : State) (n : Nat) : State := s.event .corePortStatus .corePortStatus_stateEvent n

/-- LANES_UP as the state and the run in use give it. -/
def State.showLanes (s : State) (n : Nat) : State :=
  let mask := if s.linked n then (List.range (2 ^ s.rd .corePortStatus_widthNow n)).foldl (fun a j => setBit a ((s.pst n).runAt + j)) 0 else 0
  s.wr .corePortStatus_lanesUp n mask

/-- Set FAIL_REASON where a reason is given. -/
def State.failReason (s : State) (n : Nat) : Option Nat → State
  | some r => s.wr .corePortStatus_failReason n r
  | none => s

/-! HELLO (R92, Table 3.7). -/

/-- The neighbour record that the port sends. -/
def State.helloRecord (s : State) (n : Nat) (fast : Bool) : List Byte :=
  let flags := (if s.portState n = 4 then 128 else 0) + (if s.gid?.isNone then 64 else 0) + (if fast then 32 else 0)
  let seen := match (s.pst n).seen with | some (g, _) => 2 ^ 31 + g | none => 0
  let seenPort := match (s.pst n).seen with | some (_, p) => p | none => 0
  beBytes 1 1 ++ beBytes 1 1 ++ beBytes 2 n ++ beBytes 1 (2 ^ s.rd .corePortStatus_widthNow n) ++ beBytes 1 flags ++
    beBytes 2 (s.rd .coreHelloCfg_pod 0) ++ beBytes 4 (s.rd .coreHelloCfg_fabricId 0) ++ beBytes 1 (s.rd .coreHelloCfg_plane 0) ++
    beBytes 3 0 ++ beBytes 8 (s.rd .secId_deviceId 0) ++ beBytes 4 seen ++ beBytes 2 seenPort ++ beBytes 2 0

/-- A port sends a HELLO: it joins the port's TC6 queue (R92, R97, R215). PSN and MSGID, which no rule fixes, are free. -/
def State.sendHello (s : State) (n : Nat) (fast : Bool) : State :=
  let (psn, s) := s.free 1 (2 ^ 24)
  let (mid, s) := s.free 2 (2 ^ 16)
  let p := (s.newPacket 0x30 6 0xFFFFF).withPayload (s.helloRecord n fast)
  let p := { p with psn := BitVec.ofNat 24 psn, msgid := BitVec.ofNat 16 mid, ctx := BitVec.ofNat 32 (s.pst n).round }.sealed
  let s := s.setPst n (fun x => { x with round := (x.round + 1) % 2 ^ 32 })
  let pid := s.sw.nextPid
  let pk : Pkt := { s.newPkt (.porxel p) none (blockOfPort n) 6 1 (blockOfPort n) (.port n) with
                    arrived := 1, whole := true, segT := [s.now], ord := [s.sw.nextSeg], sent := 1 }
  let s := s.onSw (fun w => { w with nextPid := pid + 1, pkts := kput w.pkts pid pk })
  (s.enterEgress n 6 ⟨pid, 1, s.now, 0⟩).holdSeg pid (blockOfPort n) 6

/-! Fences of ports (R359). -/

/-- DRAIN as Table 3.5 takes it: a fenced port is treated as if it were 1 (R359). -/
def State.wantDrain (s : State) (n : Nat) : Bool := s.flag .corePortCfg_drain n || s.portFenced n

/-- Enter a port state: STATE_EVENT, LANES_UP as it then stands, and on entering UP the count of attempts since (R86). -/
def State.setPort (s : State) (n st : Nat) : State :=
  if s.portState n = st then s.showLanes n
  else (((s.wr .corePortStatus_state n st).when (st == 3) (fun s => s.wr .corePortStatus_attempts n 0)).showLanes n).portEvent n

/-- Enter DRAINING: the drain begins; a bypass port sends a HELLO at once (R88, R215). -/
def State.toDraining (s : State) (n : Nat) : State :=
  let s := s.setPort n 4
  let s := s.wr .corePortStatus_drained n 0
  let s := s.setPst n (fun x => { x with draining := true, holdDone := false, drainAt := s.tb.mono })
  s.when (s.isBypass n) (fun s => s.sendHello n false)

/-- Move between UP and DRAINING as Table 3.5 requires. -/
def State.reDrain (s : State) (n : Nat) : State :=
  let want := s.wantDrain n || !(s.pst n).waits.isEmpty
  if s.portState n = 3 ∧ want then s.toDraining n
  else if s.portState n = 4 ∧ !want then (s.setPst n (fun x => { x with draining := false })).setPort n 3
  else s

/-- Leave TRAINING or HELLO for UP or DRAINING (Table 3.5). -/
def State.toUp (s : State) (n : Nat) : State :=
  let s := s.setPst n (fun x => { x with ended := true })
  if s.wantDrain n then s.toDraining n
  else (s.setPort n 3).reDrain n

/-- Set or clear NBR_FENCE and FENCED of a port as its neighbour and LINK_FENCE stand, and follow them (R359). -/
def State.syncFence (s : State) (n : Nat) : State :=
  let nbr := s.flag .coreNbr_valid n && !s.flag .coreNbr_noGid n && s.inSitOut (s.rd .coreNbr_peerGid n)
  let s := s.wr .fenPort_nbrFence n (b2n nbr)
  (s.wr .fenPort_fenced n (b2n (s.portFenced n))).reDrain n

/-- Lower a port's score; below LINK_THR the link is fenced (R356, R359). -/
def State.lowerPort (s : State) (n w : Nat) : State :=
  let s := s.wr .fenPort_score n (s.rd .fenPort_score n - w)
  if s.rd .fenPort_score n < s.rd .fenCfg2_linkThr 0 ∧ !s.flag .fenPort_linkFence n then
    ((s.wr .fenPort_linkFence n 1).event .fenStatus .fenStatus_linkEvent 0).syncFence n
  else s

/-! Training (R86, R87, R90, R97, R214, R217). -/

/-- The port's slot allows it to leave DOWN: no module slot, or a ready module with a matching application (Table 3.5, R101,
R206; log entry 13). -/
def State.appMatch (s : State) (n : Nat) : Bool :=
  let slot := n / 8
  if s.flag .optModStatus_s8 slot || s.flag .optModStatus_trefy slot then
    s.isBypass n && s.isNative n && s.rd .corePortCfg_width n == 0
  else !s.isBypass n && ((kget s.ports.apps slot).getD []).any (fun a =>
    a.mode == s.rd .corePortCfg_mode n && a.width == 2 ^ s.rd .corePortCfg_width n)
def State.moduleOk (s : State) (n : Nat) : Bool :=
  !s.ports.slots.contains (n / 8) ||
    (s.flag .optModStatus_present (n / 8) && s.flag .optModStatus_ready (n / 8) && s.appMatch n)

/-- A ring is locked and not under a sweep. -/
def State.ringReady (s : State) (key : Nat) : Bool := s.flag .optRingStatus_lock key && !s.flag .optRingStatus_sweep key

/-- Three sweeps of a ring have failed in a row (R214). -/
def State.sweptOut (s : State) (key : Nat) : Bool := decide (3 ≤ (s.ringSt key).sweeps)

/-- R214: an attempt may begin as far as the port's rings are concerned: both are ready, or three sweeps of one have failed in a
row. -/
def State.ringsReady (s : State) (n : Nat) : Bool :=
  !s.isBypass n || s.sweptOut (2 * n) || s.sweptOut (2 * n + 1) || (s.ringReady (2 * n) && s.ringReady (2 * n + 1))

/-- Rings of a bypass port that are unlocked and at rest are swept, so that an attempt may come (R214). -/
def State.sweepUnlocked (s : State) (n : Nat) : State :=
  if s.isBypass n then [2 * n, 2 * n + 1].foldl (fun s k => if s.ringReady k || s.flag .optRingStatus_sweep k then s else s.beginSweep k) s
  else s

/-- Begin a training attempt, once the rings of a bypass port allow it. -/
def State.beginAttempt (s : State) (n : Nat) : State :=
  if s.ringsReady n then
    let s := s.setPst n (fun x => { x with at_ := .attempt, tries := x.tries + 1 })
    s.wr .corePortStatus_attempts n (min 255 (s.rd .corePortStatus_attempts n + 1))
  else (s.setPst n (fun x => { x with at_ := .rings })).sweepUnlocked n

/-- The port's next attempt: a port that has been retuned waits for its neighbour's signal and makes it as a fast retrain (R217). -/
def State.nextAttempt (s : State) (n : Nat) : State :=
  if s.isBypass n && (s.pst n).nextFast then s.setPst n (fun x => { x with at_ := .peer, fast := true, nextFast := false, peerAt := s.tb.mono })
  else s.beginAttempt n

/-- A port that goes DOWN leaves the calibration rotation: a calibration of it in CAL is given up, its tables restored (R219). -/
def State.calDrop (s : State) (n : Nat) : State :=
  if s.opt.cal = some n then (s.restoreRings n).calOver
  else if s.flag .optCalStatus_active 0 && s.rd .optCalStatus_lane 0 == n && (s.pst n).waits.contains .cal then s.calOver else s

/-- Cut off what a port in HELLO, UP or DRAINING is sending when it leaves service (R476). -/
def State.abortIfLinked (s : State) (n : Nat) : State := s.when (s.linked n) (fun s => s.linkAbort n)

/-- The widest aligned run of lanes of a port that are healthy at both ends: (offset, width code) (R90). -/
def State.healthyRun (s : State) (n : Nat) : Option (Nat × Nat) :=
  let w := s.rd .corePortCfg_width n
  ((List.range (w + 1)).reverse.flatMap (fun c => (List.range (2 ^ (w - c))).map (fun i => (i * 2 ^ c, c)))).find? (fun r =>
    (List.range (2 ^ r.2)).all (fun j => !s.flag .coreLaneStatus_failed (n + r.1 + j) && !bitAt (s.pst n).far (r.1 + j)))

/-- The run a port may train on: all its lanes, or a reduced run under R90. -/
def State.runFor (s : State) (n : Nat) : Option (Nat × Nat) :=
  match s.healthyRun n with
  | some (a, c) =>
    if c = s.rd .corePortCfg_width n then some (a, c)
    else if s.isNative n && s.flag .corePortCfg_degradeOk n && s.rd .corePortCfg_width n != 0 then some (a, c) else none
  | none => none

/-- Give up the tests and calibrations asked of a port, and the lock of its lanes. -/
def State.goDown (s : State) (n : Nat) (reason : Option Nat) : State :=
  let s := (s.abortIfLinked n).calDrop n
  let s := s.setPst n (fun x => { x with at_ := .idle, fast := false, tries := 0, waits := x.waits.filter (· == .test), draining := false,
                                         holdDone := false, planDue := false, seen := none })
  let s := (s.lanesOf n).foldl (fun s l => ((s.wr .coreLaneStatus_sigDet l 0).wr .coreLaneStatus_cdrLock l 0).wr .coreLaneStatus_fecLock l 0) s
  (((s.failReason n reason).fixBuckets n).wr .corePortStatus_widthNow n 0).setPort n 0

/-- Enter TRAINING on a run of lanes: the count of attempts and the backoff start afresh. `how` says where training begins. -/
def State.toTraining (s : State) (n : Nat) (run : Nat × Nat) (how : TrainAt) (fast : Bool) (reason : Option Nat) : State :=
  let s := s.abortIfLinked n
  let wide := s.rd .corePortStatus_widthNow n ≠ run.2
  let was := s.portState n
  let s := s.setPst n (fun x => { x with at_ := how, fast := fast, tries := 0, runAt := run.1, draining := false, holdDone := false,
                                         planDue := false, seen := none, good := 0, peerAt := s.tb.mono })
  let s := ((s.failReason n reason).fixBuckets n).wr .corePortStatus_widthNow n run.2
  let s := (s.lanesOf n).foldl (fun s l => s.wr .coreLaneStatus_fecLock l 0) s
  let s := s.when (was == 0) (fun s => s.wr .coreNbr_valid n 0)
  let s := (s.setPort n 1).when (was == 0) (fun s => s.syncFence n)
  let s := s.when (was == 1 && wide) (fun s => s.portEvent n)
  let s := s.when (how == .peer) (fun s => s.setPst n (fun x => { x with nextFast := false }))
  s.when (how == .attempt) (fun s => s.nextAttempt n)

/-- The part's state lets lanes train (Table 15.1). -/
def State.lanesAllowed (s : State) : Bool := decide (2 ≤ s.rd .cfgState_state 0) && decide (s.rd .cfgState_state 0 ≤ 5) && !s.off && s.started

/-- The application of an enabled port in DOWN whose slot holds a ready module: a match is selected and its data paths activated,
with the equaliser settings it asks for; without one the port stays DOWN with MODULE_MISMATCH (R81, R101, R206). -/
def State.selectApp (s : State) (n : Nat) : State :=
  let t := n / 8
  if s.portState n != 0 || !s.flag .corePortCfg_en n || !s.flag .optModStatus_present t || !s.flag .optModStatus_ready t then s
  else if s.appMatch n then
    let app := ((kget s.ports.apps t).getD []).find? (fun a => a.mode == s.rd .corePortCfg_mode n && a.width == 2 ^ s.rd .corePortCfg_width n)
    let s := s.wr .optModStatus_dpActive t ((s.lanesOf n).foldl (fun a l => setBit a (l - 8 * t)) (s.rd .optModStatus_dpActive t))
    s.when (s.isEth n) (fun s => s.setPst n (fun x => { x with txEq := app.map (·.txEq) }))
  else s.failReason n (some 10)

/-- A port in DOWN goes to TRAINING when Table 3.5 lets it (R86, R90, R417). -/
def State.leaveDown (s : State) (n : Nat) : State :=
  let s := s.selectApp n
  if s.portState n = 0 ∧ s.flag .corePortCfg_en n ∧ s.lanesAllowed ∧ !s.regionDead (n / 64) ∧ !s.blockDead (n / 8) ∧ s.moduleOk n ∧
      !(s.lanesOf n).any (fun l => s.flag .coreLaneStatus_underTest l) ∧ !s.ports.sref.contains (n / 64) then
    match s.runFor n with
    | some run => s.toTraining n run (if (s.pst n).powered then .attempt else .powerup) false none
    | none => s.failReason n (some 8)
  else s

/-- A lane of a port in any state but CAL has failed: the port re-forms, or goes DOWN (R86, R90). -/
def State.reform (s : State) (n : Nat) : State :=
  if s.portState n = 0 ∨ s.portState n = 5 then s
  else match s.runFor n with
    | some run => s.toTraining n run .attempt false none
    | none => s.goDown n (some 8)

/-- A port in HELLO, UP or DRAINING has lost its link (R89, R217, R356). -/
def State.loseLink (s : State) (n : Nat) (reason : Option Nat) : State :=
  if s.linked n then
    let wait := s.isBypass n && s.flag .coreNbr_draining n
    let run := ((s.pst n).runAt, s.rd .corePortStatus_widthNow n)
    (s.toTraining n run (if wait then .peer else .attempt) wait reason).lowerPort n (s.rd .fenWeight_wLoss 0)
  else s

/-- The calibration, test, retune or laser change that stands first among the waits of a port in CAL has ended: the port retrains, a bypass port by a fast retrain after
its neighbour's signal (Table 3.5, R217). -/
def State.leaveCal (s : State) (n : Nat) : State :=
  if s.portState n = 5 then
    let s := s.setPst n (fun x => { x with waits := x.waits.drop 1 })
    match s.runFor n with
    | none => s.goDown n (some 8)
    | some run =>
      let cur := ((s.pst n).runAt, s.rd .corePortStatus_widthNow n)
      let healthy := (List.range (2 ^ cur.2)).all (fun j => !s.flag .coreLaneStatus_failed (n + cur.1 + j) && !bitAt (s.pst n).far (cur.1 + j))
      let run := if healthy then cur else run
      if s.isBypass n then s.toTraining n run .peer true none else s.toTraining n run .attempt false none
  else s

/-! Draining to CAL (R86, R88, R216). -/

/-- A request that is waiting for Table 3.5 now. -/
def PortSt.waiting (x : PortSt) : Bool :=
  x.waits.any (fun w => match w with | .test => true | .cal => x.holdDone | .laser => x.holdDone | .plan => x.planDue)

/-- The port's egress queues are empty. -/
def State.queuesEmpty (s : State) (n : Nat) : Bool := (List.range 8).all (fun c => (s.egq n c).isEmpty)
/-- Nothing is in transmission on the port. -/
def State.txIdle (s : State) (n : Nat) : Bool := (kget s.sw.tx (2 * n)).isNone && (kget s.sw.tx (2 * n + 1)).isNone

/-- Ask that a port go through DRAINING to CAL (Table 3.5). -/
def State.request (s : State) (n : Nat) (w : CalWait) : State :=
  (s.setPst n (fun x => { x with waits := if x.waits.contains w then x.waits else x.waits ++ [w] })).reDrain n

/-- Drop every packet queued at a port, counting each (R88). -/
def State.flushPort (s : State) (n : Nat) (e : PortEv) : State :=
  (List.range 8).foldl (fun s c => (s.egq n c).foldl (fun s x => (s.dropEgress n c x).bumpPort n e) s) s

/-- The only member in UP of a link group (R100, R219). -/
def State.soleMember (s : State) (n : Nat) : Bool :=
  s.tab.lg.any (fun e => e.1 % 2 == 0 && bitAt e.2 511 &&
    (let up := ((s.lgMembers (e.1 / 2)).map (fun m => m.2.2)).filter (fun x => s.portState x == 3)
     up.contains n && up.all (· == n)))

end Sys2Proof.Machine
end

