-- ==== Sys2Proof/Machine/Plain.lean ====
section
/-! DEFINITION. Plain register writes: what a write that starts no command does when it takes effect, the writes in flight of one
source and block, and the acceptance of a write that acts at once (R10, R30 to R32, R177, R222, R259, R445, R447). -/

namespace Sys2Proof.Machine

/-- First offsets of the register blocks: the rows of Table 18.2. -/
def blockStarts : List Nat :=
  [0x100000, 0x200000, 0x240000, 0x300000, 0x400000, 0x440000, 0x4C0000, 0x500000, 0x540000, 0x580000, 0x5C0000, 0x600000,
   0x640000, 0x680000, 0x6C0000, 0x700000, 0x740000, 0x7C0000, 0x7D0000, 0x7E0000]

/-- The register block of an offset. -/
def regBlock (off : Nat) : Nat := blockStarts.countP (fun b => decide (b ≤ off))

/-- A write of a shaper or policer (R177): the tokens stand as they are, cut to the new depth, and the bucket fills when EN goes
from 0 to 1. -/
def State.bucketWrite (s : State) (r : Reg) (i key val mask : Nat) : State :=
  let on := s.bucketEn key
  let tok := s.tokens key
  let t := s.writeFields r i val mask
  t.setTokens key (if !on && t.bucketEn key then t.bucketDepth key else min (t.bucketDepth key) tok)

/-- A write of ENG_HOST_CFG is ignored while an instance whose reservation it changes is RUNNING (R267). -/
def State.hostCfgHeld (s : State) (val mask : Nat) : Bool :=
  let a := s.rd .engHostCfg_hostInst 0
  let b := accessValue .rw a (bits val 0 12) (bits mask 0 12)
  s.eng.inst.any (fun e => decide (4096 - max a b ≤ e.1) && decide (e.1 < 4096 - min a b) && e.2.state == 1)

/-- A conversion runs on the stream. -/
def State.converting (s : State) (st : Nat) : Bool := s.eng.run.any (fun r => match r.2.cvt with | some c => c.st == st | none => false)

/-- A write of PROM_CFG leaves SIZE and SPINES_M1 while the cache holds any chunk (R336). -/
def State.promCfgWrite (s : State) (val mask : Nat) : State :=
  let t := s.writeFields .promCfg 0 val mask
  if s.prom.objs.any (fun o => !o.2.chunks.isEmpty) then
    (t.wr .promCfg_size 0 (s.rd .promCfg_size 0)).wr .promCfg_spinesM1 0 (s.rd .promCfg_spinesM1 0)
  else t

/-! Power (R404, R413, R418). -/

/-- Engine number n is MXE or VXE of compute block c, or its CVE. -/
def engInBlock (n c : Nat) : Bool :=
  (decide (n < 512) && n / 8 == c) || (decide (512 ≤ n) && decide (n < 640) && (n - 512) / 2 == c) || n == 640 + c

/-- A tile queue. -/
def State.tq (s : State) (q : Nat) : List Tile := (kget s.eng.q q).getD []
/-- A compute block with no tile queued or running is in C1, where that state is allowed (R413). -/
def State.idleC1 (s : State) (c : Nat) : State :=
  let k := c / 8
  let busy := !(s.tq c).isEmpty || !(s.tq (64 + c)).isEmpty || !(s.tq (128 + c)).isEmpty || s.eng.run.any (fun r => engInBlock r.1 c)
  if !busy && s.rd .pwrCfg_maxState 0 != 0 && s.rd .pwrRegionStatus_state k == 0 && !bitAt (s.rd .pwrRegionStatus_c2 k) (c % 8) then
    if bitAt (s.rd .pwrRegionStatus_c1 k) (c % 8) then s
    else ({ s with pwr := { s.pwr with c1At := sset 0 s.pwr.c1At c s.tb.mono } }).wr .pwrRegionStatus_c1 k
      (setBit (s.rd .pwrRegionStatus_c1 k) (c % 8))
  else s

/-- Every block of a list that has become idle enters C1. -/
def State.idleAll (s : State) (cs : List Nat) : State := cs.foldl State.idleC1 s

/-- PKG_LIMIT as used, in W (R404). -/
def State.pkgLimit (s : State) : Nat := min 2400 (max 600 (s.rd .pwrCfg_pkgLimit 0))
/-- The thermal limit, in W: never above PKG_LIMIT (R420). -/
def State.thermLimit (s : State) : Nat := match s.pwr.limit with | some l => min l s.pkgLimit | none => s.pkgLimit

/-- THROTTLING follows the thermal limit; its start sets THROTTLE_EVENT, asserts ALERT_N and raises the IBI of R456. -/
def State.showThrottle (s : State) : State :=
  if s.thermLimit < s.pkgLimit then
    if s.flag .pwrStatus_throttling 0 then s
    else (((s.wr .pwrStatus_throttling 0 1).event .pwrStatus .pwrStatus_throttleEvent 0).raiseIbi 3).pin "ALERT_N" false
  else if s.flag .pwrStatus_throttling 0 then (s.wr .pwrStatus_throttling 0 0).pin "ALERT_N" true else s

/-- A write of PWR_CFG: a new PKG_LIMIT may start or end throttling, and a new MAX_STATE may let idle blocks into C1 (R413, R418,
R420). -/
def State.pwrCfgWrite (s : State) (val mask : Nat) : State :=
  let t := (s.writeFields .pwrCfg 0 val mask).showThrottle
  if t.started ∧ !t.off then t.idleAll (List.range 64) else t

/-- What a write that starts no command does to its register. -/
def State.plainWrite (s : State) (r : Reg) (i val mask : Nat) : State :=
  match r with
  | .schShape => s.bucketWrite r i (shapeKey (i / 8) (i % 8)) val mask
  | .schIpol => s.bucketWrite r i (polKey (i / 8) (i % 8)) val mask
  | .corePuntCfg => (s.puntRefresh.writeFields r i val mask).puntRefresh
  | .engHostCfg => if s.hostCfgHeld val mask then s else s.writeFields r i val mask
  | .promCfg => s.promCfgWrite val mask
  | .pwrCfg => s.pwrCfgWrite val mask
  | .telCfg =>
    -- the schedule of automatic snapshots starts afresh where AUTO_MS changes (R426)
    let t := s.writeFields r i val mask
    if t.rd .telCfg_autoMs 0 = s.rd .telCfg_autoMs 0 then t else { t with tel := { t.tel with autoAt := s.tb.mono } }
  | .dbgSel => { s.writeFields r i val mask with sw := { s.sw with shown := 0 } }
  | .tblData => if s.flag .tblCmd_start (i / 16) then s else s.writeFields r i val mask
  | .optPlanNext =>
    if s.flag .optPlanCtrl_arm 0 then s.wr .optPlanCtrl_writeIgnored 0 1 else s.writeFields r i val mask
  | .cvtAmax =>
    let t := s.writeFields r i val mask
    t.wr .cvtAmax_amaxPrev i (t.rd .cvtAmax_amaxPrev i % 2 ^ 31)
  | .cvtEscNext =>
    -- conversions already begun go on with the index they have (R259)
    let n := sget 0 s.eng.escSeq i
    let t := if s.converting i then
        { s with eng := { s.eng with escOld := sset 0 s.eng.escOld (Nat.pair i n) (s.rd .cvtEscNext_next i), escSeq := sset 0 s.eng.escSeq i (n + 1) } }
      else s
    t.writeFields r i val mask
  | .optLoopCfg =>
    -- DITHER_AMP is sent to every module (OPT_LOOP_CFG)
    let t := s.writeFields r i val mask
    ((List.range 64).filter (fun k => t.flag .optModStatus_s8 k || t.flag .optModStatus_trefy k)).foldl
      (fun t k => t.sendOcl k 5 (t.rd .optLoopCfg_ditherAmp 0)) t
  | .secOwnerHash => if s.flag .secOwner_bound 0 then s else s.writeFields r i val mask
  | .pcieRingBase => if s.flag .pcieRingCfg_en i then s else s.writeFields r i val mask
  | .voqSpillCfg =>
    -- SIZE stays while EN is 1, and while an HBM part holds segments (VOQ_SPILL_CFG)
    let kept := s.flag .voqSpillCfg_en 0 || s.sw.pkts.any (fun e => e.2.hseg != 0)
    let t := (s.writeFields r i val mask).when kept (fun t => t.wr .voqSpillCfg_size 0 (s.rd .voqSpillCfg_size 0))
    if t.flag .voqSpillCfg_en 0 ∧ t.rd .voqSpillCfg_size 0 ≠ 0 then { t with pwr := { t.pwr with refresh := [] } } else t
  | _ => s.writeFields r i val mask

/-- A write in flight takes effect; one addressed to a register in a failed region is ignored (R39). -/
def State.applyIn (s : State) (w : InWrite) : State :=
  if s.off || s.regDead w.reg w.idx then s else s.plainWrite w.reg w.idx w.val w.mask

/-- The register block of a write. -/
def InWrite.block (w : InWrite) : Nat := regBlock (w.reg.offset w.idx)

/-- A write in flight is of a source and a block. -/
def InWrite.isOf (src : Src) (blk : Nat) (w : InWrite) : Bool := w.src == src && regBlock (w.reg.offset w.idx) == blk

/-- The writes in flight of one source to one block take effect, in the order issued (R32). -/
def State.flush (s : State) (src : Src) (blk : Nat) : State :=
  let mine := s.acc.inflight.filter (InWrite.isOf src blk)
  let s := { s with acc := { s.acc with inflight := s.acc.inflight.filter (fun w => !InWrite.isOf src blk w) } }
  mine.foldl State.applyIn s

/-- A write that acts at once: its effect when it is accepted, after the source's earlier writes to the block (R32), and
otherwise only the mark of R445. -/
def State.onWrite (s : State) (src : Src) (r : Reg) (i : Nat) (g : State → State) : State :=
  if s.accepts src r i then g (s.flush src (regBlock (r.offset i))) else s.markIgnored src (r.offset i)

end Sys2Proof.Machine
end

