-- ==== Sys2Proof/Machine/Fence.lean ====
section
/-! DEFINITION. The fence engine: scores, votes, the quorum, sit-out, the budget and storms, re-admission (chapter 14). -/

namespace Sys2Proof.Machine

/-- Replace the fence engine. -/
def State.onFen (s : State) (g : Fen → Fen) : State := { s with fen := g s.fen }

/-- VOTE_US, RECOVER_MS, READMIT_HOLD_MS and RACK_AGE_MS in ns (FEN_CFG, FEN_CFG2). -/
def State.voteNs (s : State) : Nat := 1000 * max 100 (s.rd .fenCfg_voteUs 0)
def State.recoverNs (s : State) : Nat := 1000000 * max 1 (s.rd .fenCfg_recoverMs 0)
def State.readmitNs (s : State) : Nat := 1000000 * s.rd .fenCfg_readmitHoldMs 0
def State.rackAgeNs (s : State) : Nat := 1000000 * max 1 (s.rd .fenCfg2_rackAgeMs 0)

/-- Sit-outs of the last 100 ms (R370). -/
def State.fenWindow (s : State) : List Nat := s.fen.window.filter (fun t => !s.passed t 100000000)

/-- The re-admission hold of a GID runs (R373). -/
def State.held (s : State) (g : Nat) : Bool := s.fen.holds.any (fun h => h.1 == g && !s.passed h.2 s.readmitNs)

/-- Valid spines: (number, GID). -/
def State.spines (s : State) : List (Nat × Nat) :=
  ((List.range 64).filter (fun j => s.flag .fenSpine_valid j)).map (fun j => (j, s.rd .fenSpine_gid j))

/-- The spine that a GID names, if any. -/
def State.spineOf (s : State) (g : Nat) : Option Nat := (s.spines.find? (fun x => x.2 == g)).map (·.1)

/-- The part's own GID or one of its service GIDs. -/
def State.isSelf (s : State) (g : Nat) : Bool :=
  s.gid? == some g || (List.range 16).any (fun i => s.flag .svcGid_valid i && s.rd .svcGid_gid i == g)

/-- The part's own score for a GID, its rack score from the reports of the last RACK_AGE_MS, and the score used (R355, R358). -/
def State.ownScore (s : State) (g : Nat) : Nat := (kget s.fen.own g).getD 255
def State.rackScore (s : State) (g : Nat) : Nat :=
  ((((kget s.fen.rack g).getD []).filter (fun r => !s.passed r.2.2 s.rackAgeNs)).map (fun r => r.2.1)).foldl min 255
def State.usedScore (s : State) (g : Nat) : Nat := min (s.ownScore g) (s.rackScore g)

/-- The part votes about a GID (R360). -/
def State.votesAbout (s : State) (g : Nat) : Bool :=
  let e := s.dt g
  bitAt e 63 && (bits e 59 3 == 1 || bits e 59 3 == 2) && !s.isSelf g && decide (s.usedScore g < 255)

/-- A GID held as a suspect. -/
def State.isSuspect (s : State) (g : Nat) : Bool := s.fen.suspects.any (fun x => x.1 == g)

/-- B of R363. A vote is current for 2 · VOTE_US (R361); a spine whose GID is in sit-out counts no more (R375). -/
def State.votesLow (s : State) (g : Nat) : Nat :=
  let thr := s.rd .fenCfg_thr 0
  b2n (s.votesAbout g && decide (s.usedScore g < thr)) +
    (s.spines.filter (fun x => !s.inSitOut x.2 && (match kget s.fen.votes (Nat.pair x.1 g) with
      | some v => decide (v.1 < thr) && !s.passed v.2.2 (2 * s.voteNs)
      | none => false))).length

/-- QUORUM and BUDGET as used. -/
def State.quorum (s : State) : Nat := let q := s.rd .fenCfg_quorum 0; if q = 0 then 1 else q
def State.budget (s : State) : Nat := let b := s.rd .fenCfg_budget 0; if b = 0 then 1 else b

/-- Originate a packet of a chip-level unit whose PSN and MSGID no rule fixes: they are free. -/
def State.originateFree (s : State) (p : Packet) : State :=
  let (psn, s) := s.free 1 (2 ^ 24)
  let (mid, s) := s.free 2 (2 ^ 16)
  s.originateChip { p with psn := BitVec.ofNat 24 psn, msgid := BitVec.ofNat 16 mid }

/-- Send a FENCE, which takes the next fence sequence number (R364, R373). -/
def State.sendFence (s : State) (action g dgid : Nat) : State :=
  let p := s.newPacket 0x32 6 dgid
  let s := s.originateFree { p with w1k := BitVec.ofNat 11 (action * 256), w2 := BitVec.ofNat 64 g, ctx := BitVec.ofNat 32 s.fen.seq }
  s.onFen (fun f => { f with seq := (f.seq + 1) % 2 ^ 32 })

/-- The multicast DGID of FENCE notices. -/
def State.noticeGid (s : State) : Nat := 0x40000 + s.rd .fenCfg2_noticeMcg 0

/-- Ports whose neighbour is a GID follow its sit-out (R359). -/
def State.syncNbr (s : State) (g : Nat) : State :=
  ((List.range 512).filter (fun n => s.flag .coreNbr_valid n && s.rd .coreNbr_peerGid n == g)).foldl State.syncFence s

/-- A GID enters sit-out: record, notice, fenced ports, the member scan to come, and the gateway's requests (R364, R366, R325,
R353). -/
def State.sitOut (s : State) (g cause : Nat) : State :=
  let s := s.onFen (fun f => { f with
    suspects := f.suspects.filter (fun x => x.1 != g), window := s.fenWindow ++ [s.tb.mono], sit := kput f.sit g cause, scan := f.scan ++ [g] })
  let s := s.wr .redFenceStatus_scanning 0 1
  let s := (s.event .fenStatus .fenStatus_fenceEvent 0).fault 0x0050 1 [g, cause]
  let s := (s.syncNbr g).gwFenced g
  if cause = 2 then s
  else s.spines.foldl (fun s x => s.sendFence 0 g x.2) (s.sendFence 0 g s.noticeGid)

/-- Hold a candidate as a suspect, or count it lost when the list is full (R371). -/
def State.hold (s : State) (g cause : Nat) : State :=
  if s.fen.suspects.length < 256 then s.onFen (fun f => { f with suspects := f.suspects ++ [(g, cause)] })
  else s.bumpChip .fenSuspectLost

/-- A fence storm begins (R371, R456). -/
def State.beginStorm (s : State) : State :=
  let s := s.wr .fenStatus_storm 0 1
  let s := s.event .fenStatus .fenStatus_stormEvent 0
  let first := match s.fen.suspects with | x :: _ => x.1 | [] => 0
  (s.raiseIbi 2).fault 0x0051 2 [min 255 s.fenWindow.length, first]

/-- A candidate enters sit-out, or is held by the storm or the budget (R364, R370, R371). -/
def State.admitCandidate (s : State) (g cause : Nat) : State :=
  if s.flag .fenStatus_storm 0 then s.hold g cause
  else if s.budget < s.fenWindow.length + 1 then (s.hold g cause).beginStorm
  else s.sitOut g cause

/-- A GID becomes a candidate; the re-admission hold keeps out the quorum and a peer's FENCE (R363, R373, R375, FEN_CFG.EN). -/
def State.candidate (s : State) (g cause : Nat) : State :=
  if !s.flag .fenCfg_en 0 || s.isSelf g || s.inSitOut g || s.isSuspect g || (cause != 3 && s.held g) then s
  else s.admitCandidate g cause

/-- Test a GID against the quorum (R363). -/
def State.testGid (s : State) (g : Nat) : State :=
  let b := s.votesLow g
  let s := s.onFen (fun f => { f with low := sset 0 f.low g b })
  if s.quorum ≤ b then s.candidate g 1 else s

/-- The HEALTH packets that carry entries for some GIDs, up to 1,024 a packet, to every valid spine (R360, Table 2.7). -/
def State.sendVotes (s : State) (gs : List Nat) : Nat → State
  | 0 => s
  | fuel + 1 =>
    if gs.isEmpty then s
    else
      let part := gs.take 1024
      let body := part.flatMap (fun g => beBytes 4 (g * 2 ^ 14 + s.usedScore g))
      let s := s.spines.foldl (fun s x =>
        let p := (s.newPacket 0x31 6 x.2).withPayload body
        s.originateFree { p with w1k := BitVec.ofNat 11 part.length, ctx := BitVec.ofNat 32 s.fen.round }) s
      s.sendVotes (gs.drop 1024) fuel

/-- What follows when the score used for a GID has changed from `before`: its vote leaves at once when it falls below THR, and it
is tested (R360, R363). -/
def State.scoreChanged (s : State) (g before : Nat) : State :=
  let thr := s.rd .fenCfg_thr 0
  let s := s.when (s.flag .fenCfg_en 0 && decide (thr ≤ before) && decide (s.usedScore g < thr) && s.votesAbout g)
    (fun s => s.sendVotes [g] 1)
  if s.usedScore g = before then s else s.testGid g

/-- Entries of the score table that are free: of score 255, their GID neither in sit-out nor a suspect (R355). -/
def State.freeEntries (s : State) : List Nat :=
  (s.fen.own.filter (fun e => e.2 == 255 && !s.inSitOut e.1 && !s.isSuspect e.1)).map (fun e => e.1)

/-- Make an entry for a GID: its own, one never used, or one that is free, which of these being a free value; none when the table is
full (R355). -/
def State.scoreEntry (s : State) (g : Nat) : Option State :=
  if (kget s.fen.own g).isSome || decide (s.fen.own.length < 16384) then some s
  else
    let fs := s.freeEntries
    if fs.isEmpty then none
    else
      let (i, s) := s.free 41 fs.length
      some (s.onFen (fun f => { f with own := kdel f.own (nthD fs i 0) }))

/-- Lower the score of a GID; an untracked GID takes a free entry, when there is one (R355, R356). -/
def State.lowerGid (s : State) (g w : Nat) : State :=
  match s.scoreEntry g with
  | none => s.bumpChip .fenTableFull
  | some t => (t.onFen (fun f => { f with own := kput f.own g (s.ownScore g - w) })).scoreChanged g (s.usedScore g)

/-- A request of the part to a GID is abandoned, and a NACK comes from a GID (Table 14.1). -/
def State.requestLost (s : State) (g : Nat) : State := s.lowerGid g (s.rd .fenWeight_wTimeout 0)

/-! Commands of time. -/

/-- The score of a GID rises by 1 where it may (R357). -/
def State.recoverGid (s : State) (g : Nat) : State :=
  if s.inSitOut g || s.isSuspect g || s.ownScore g == 255 then s
  else (s.onFen (fun f => { f with own := kput f.own g (s.ownScore g + 1) })).scoreChanged g (s.usedScore g)

/-- The score of a port rises by 1 where it may (R357). -/
def State.recoverPort (s : State) (n : Nat) : State :=
  if s.flag .fenPort_linkFence n || s.rd .fenPort_score n == 255 then s else s.wr .fenPort_score n (s.rd .fenPort_score n + 1)

/-- Every RECOVER_MS, scores below 255 that may recover rise by 1 (R357). -/
def doScoreRecover (s : State) : State :=
  if s.off || !s.passed s.fen.recAt s.recoverNs then s else
  let s := s.onFen (fun f => { f with recAt := s.tb.mono })
  let s := (s.fen.own.map (fun e => e.1)).foldl State.recoverGid s
  (List.range 512).foldl State.recoverPort s

/-- SCORE_RECOVER (R357). -/
def execScoreRecover (s : State) : Host.Outcome State Fault Refusal := settle s (doScoreRecover s)

/-- Every VOTE_US, a vote round (R360). -/
def doVoteRound (s : State) : State :=
  if s.off || !s.flag .fenCfg_en 0 || !s.passed s.fen.roundAt s.voteNs then s
  else
    let s := s.onFen (fun f => { f with round := (f.round + 1) % 2 ^ 32, roundAt := s.tb.mono })
    let gs := ((s.fen.own.map (fun e => e.1)) ++ (s.fen.rack.map (fun e => e.1))).eraseDups
    let gs := (gs.filter s.votesAbout).mergeSort
    s.sendVotes gs (gs.length + 1)

/-- VOTE_ROUND (R360). -/
def execVoteRound (s : State) : Host.Outcome State Fault Refusal := settle s (doVoteRound s)

/-- The entries of a HEALTH payload; of two for one GID the later stands (R362). -/
def healthEntries (bs : List Byte) : Nat → List (Nat × Nat)
  | 0 => []
  | n + 1 =>
    let v := beNat (slice bs 0 4)
    let rest := healthEntries (bs.drop 4) n
    if rest.any (fun e => e.1 == v / 2 ^ 14) then rest else (v / 2 ^ 14, v % 256) :: rest

/-- A spine's entries become its votes. A packet of fewer than 1,024 entries ends its round, and a packet of a later round ends the
one before it: the spine's votes for GIDs that an ended round did not name are cleared (R361). -/
def State.takeVotes (s : State) (j round nent : Nat) (es : List (Nat × Nat)) : State :=
  let s := es.foldl (fun s e => s.onFen (fun f => { f with votes := kput f.votes (Nat.pair j e.1) (e.2, round, s.tb.mono) })) s
  let live := if nent < 1024 then [round] else [round, (round + 2 ^ 32 - 1) % 2 ^ 32]
  let s := s.onFen (fun f => { f with votes := f.votes.filter (fun v => (unpair v.1).1 != j || live.contains v.2.2.1) })
  es.foldl (fun s e => s.testGid e.1) s

/-- A consumed HEALTH packet (R361, R362). -/
def doHealthReceived (pos : Nat) (s : State) : State :=
  match s.takeLocal pos (fun r => r.pkt.kind == 0x31 && r.fn == .own) with
  | none => s
  | some (r, s) =>
    let q := r.pkt
    let n := q.w1k.toNat
    let g := q.sgid.toNat
    if n = 0 ∨ 1024 < n ∨ q.len.toNat ≠ 4 * n then s.bumpChip .fenHealthBad
    else
      let es := healthEntries q.payload n
      match s.spineOf g with
      | some j => s.takeVotes j q.ctx.toNat n es
      | none =>
        match r.inPort with
        | some p =>
          if s.flag .coreNbr_valid p && s.rd .coreNbr_peerGid p == g && s.rd .coreNbr_peerType p == 2 then
            es.foldl (fun s e =>
              let before := s.usedScore e.1
              (s.onFen (fun f => { f with rack := kput f.rack e.1 (((kget f.rack e.1).getD []) ++ [(p, e.2, s.tb.mono)]) })).scoreChanged e.1 before) s
          else s.bumpChip .fenHealthBad
        | none => s.bumpChip .fenHealthBad

/-- HEALTH_RECEIVED (R361). -/
def execHealthReceived (pos : Nat) (s : State) : Host.Outcome State Fault Refusal := settle s (doHealthReceived pos s)

/-- A vote ceases to be current, 2 · VOTE_US after its arrival (R361, R363). -/
def doVoteExpiry (spine : Fin 64) (gid : BitVec 18) (s : State) : State :=
  let key := Nat.pair spine.val gid.toNat
  match kget s.fen.votes key with
  | some v => if s.passed v.2.2 (2 * s.voteNs) then (s.onFen (fun f => { f with votes := kdel f.votes key })).testGid gid.toNat else s
  | none => s

/-- VOTE_EXPIRY (R361). -/
def execVoteExpiry (spine : Fin 64) (gid : BitVec 18) (s : State) : Host.Outcome State Fault Refusal :=
  settle s (doVoteExpiry spine gid s)

/-- The first report of a port in a list. -/
def reportOf (p : Nat) (rs : List (Nat × Nat × Nat)) : Option (Nat × Nat × Nat) := rs.find? (fun x => x.1 == p)

/-- A rack report no longer counts, RACK_AGE_MS after its arrival (R358). -/
def doRackReportExpiry (port : Fin 512) (gid : BitVec 18) (s : State) : State :=
  let g := gid.toNat
  let rs := (kget s.fen.rack g).getD []
  match reportOf port.val rs with
  | none => s
  | some r =>
    if s.passed r.2.2 s.rackAgeNs then
      let left := rs.erase r
      (s.onFen (fun f => { f with rack := if left.isEmpty then kdel f.rack g else kput f.rack g left })).testGid g
    else s

/-- RACK_REPORT_EXPIRY (R358). -/
def execRackReportExpiry (port : Fin 512) (gid : BitVec 18) (s : State) : Host.Outcome State Fault Refusal :=
  settle s (doRackReportExpiry port gid s)

/-- The oldest sit-out leaves the 100 ms window (R370). -/
def doFenceWindowExpiry (s : State) : State :=
  match s.fen.window with
  | t :: rest => if s.passed t 100000000 then s.onFen (fun f => { f with window := rest }) else s
  | [] => s

/-- FENCE_WINDOW_EXPIRY (R370). -/
def execFenceWindowExpiry (s : State) : Host.Outcome State Fault Refusal := settle s (doFenceWindowExpiry s)

/-- A consumed FENCE (R366). -/
def doFenceReceived (pos : Nat) (s : State) : State :=
  match s.takeLocal pos (fun r => r.pkt.kind == 0x32 && r.fn == .own) with
  | none => s
  | some (r, s) =>
    match s.spineOf r.pkt.sgid.toNat with
    | none => s.bumpChip .fenHealthBad
    | some _ => if r.pkt.status = 0 then s.candidate (bits r.pkt.w2.toNat 0 18) 2 else s

/-- FENCE_RECEIVED (R366). -/
def execFenceReceived (pos : Nat) (s : State) : Host.Outcome State Fault Refusal := settle s (doFenceReceived pos s)

/-- A consumed FENCE_REQ, by its REASON (R367); a reserved REASON is answered as UNSPECIFIED. -/
def doFenceReqReceived (pos : Nat) (s : State) : State :=
  match s.takeLocal pos (fun r => r.pkt.kind == 0x33 && r.fn == .own) with
  | none => s
  | some (r, s) =>
    let reason := bits r.pkt.w1k.toNat 6 5
    let g := bits r.pkt.w2.toNat 0 18
    if reason = 1 ∧ g = r.pkt.sgid.toNat then s.candidate g 3
    else if reason = 2 then
      (if s.inSitOut r.pkt.sgid.toNat then s else s.lowerGid g (s.rd .fenWeight_wReq 0))
    else s.nack r 5

/-- FENCE_REQ_RECEIVED (R367). -/
def execFenceReqReceived (pos : Nat) (s : State) : Host.Outcome State Fault Refusal := settle s (doFenceReqReceived pos s)

/-! FEN_GID_CMD. -/

/-- Fill FEN_GID_STATUS for a GID. -/
def State.fillGid (s : State) (g : Nat) : State :=
  let cause := match kget s.fen.sit g with
    | some c => c
    | none => match s.fen.suspects.find? (fun x => x.1 == g) with | some x => x.2 | none => 0
  let s := s.wr .fenGidStatus_sitout 0 (b2n (s.inSitOut g))
  let s := s.wr .fenGidStatus_suspect 0 (b2n (s.isSuspect g))
  let s := s.wr .fenGidStatus_hold 0 (b2n (s.held g))
  let s := s.wr .fenGidStatus_cause 0 cause
  let s := s.wr .fenGidStatus_votesLow 0 (sget 0 s.fen.low g)
  let s := s.wr .fenGidStatus_score 0 (s.usedScore g)
  let s := s.wr .fenGidStatus_rackScore 0 (s.rackScore g)
  s.wr .fenGidStatus_gid 0 g

/-- A write of FEN_GID_CMD with START: OP and GID are stored, the command is done, and RESULT stands. -/
def State.gidCmd (s : State) (src : Src) (op g : Nat) (run : State → State × Nat) : State :=
  s.onWrite src .fenGidCmd 0 (fun s =>
    let s := (s.wr .fenGidCmd_op 0 op).wr .fenGidCmd_gid 0 g
    let (s, r) := run s
    s.wr .fenGidCmd_result 0 r)

/-- FEN_QUERY (R373). -/
def execFenQuery (src : Src) (gid : BitVec 18) (s : State) : Host.Outcome State Fault Refusal :=
  settle s (s.gidCmd src 0 gid.toNat (fun s => (s.fillGid gid.toNat, 0)))

/-- OP FENCE: into sit-out with no vote, budget or hold (R364, R370, R375). -/
def State.manageFence (s : State) (g : Nat) : State × Nat :=
  if s.isSelf g then (s, 1) else if s.inSitOut g then (s, 3) else (s.sitOut g 4, 0)

/-- FEN_FENCE (R364). -/
def execFenFence (src : Src) (gid : BitVec 18) (s : State) : Host.Outcome State Fault Refusal :=
  settle s (s.gidCmd src 1 gid.toNat (fun s => s.manageFence gid.toNat))

/-- OP READMIT (R373). -/
def State.readmit (s : State) (g : Nat) : State × Nat :=
  if s.isSelf g then (s, 1)
  else if !s.inSitOut g then (s, 2)
  else
    let s := s.onFen (fun f => { f with
      sit := kdel f.sit g, own := if (kget f.own g).isSome then kput f.own g 255 else f.own, rack := kdel f.rack g, votes := f.votes.filter (fun v => (unpair v.1).2 != g),
      holds := (g, s.tb.mono) :: f.holds.filter (fun h => h.1 != g) })
    ((s.syncNbr g).sendFence 1 g s.noticeGid, 0)

/-- FEN_READMIT (R373). -/
def execFenReadmit (src : Src) (gid : BitVec 18) (s : State) : Host.Outcome State Fault Refusal :=
  settle s (s.gidCmd src 2 gid.toNat (fun s => s.readmit gid.toNat))

/-- OP SUSPECT_READ (R372). -/
def State.suspectRead (s : State) (num : Nat) : State × Nat :=
  match s.fen.suspects[num]? with
  | some x => (s.fillGid x.1, 0)
  | none => (s, 4)

/-- FEN_SUSPECT_READ (R372). -/
def execFenSuspectRead (src : Src) (num : BitVec 8) (s : State) : Host.Outcome State Fault Refusal :=
  settle s (s.gidCmd src 3 num.toNat (fun s => s.suspectRead num.toNat))

/-- OP SUSPECT_DROP (R372). -/
def State.suspectDrop (s : State) (g : Nat) : State × Nat :=
  if s.isSuspect g then (s.onFen (fun f => { f with suspects := f.suspects.filter (fun x => x.1 != g) }), 0) else (s, 4)

/-- FEN_SUSPECT_DROP (R372). -/
def execFenSuspectDrop (src : Src) (gid : BitVec 18) (s : State) : Host.Outcome State Fault Refusal :=
  settle s (s.gidCmd src 4 gid.toNat (fun s => s.suspectDrop gid.toNat))

/-- Test the suspects of a storm that has been cleared, in the order held: those still candidates under R363 enter sit-out while
the budget allows it, and the others are released (R372). -/
def State.retest (s : State) : List (Nat × Nat) → State
  | [] => s
  | (g, c) :: rest =>
    let b := s.votesLow g
    let s := s.onFen (fun f => { f with low := sset 0 f.low g b })
    if s.flag .fenCfg_en 0 && decide (s.quorum ≤ b) && !s.isSelf g && !s.held g then (s.admitCandidate g c).retest rest else s.retest rest

/-- A write of FEN_CTRL.STORM_CLEAR (R372). -/
def doStormClear (src : Src) (s : State) : State :=
  s.onWrite src .fenCtrl 0 (fun s =>
    if s.flag .fenStatus_storm 0 then
      let old := s.fen.suspects
      ((s.wr .fenStatus_storm 0 0).onFen (fun f => { f with suspects := [] })).retest old
    else s)

/-- STORM_CLEAR (R372). -/
def execStormClear (src : Src) (s : State) : Host.Outcome State Fault Refusal := settle s (doStormClear src s)

/-- A re-admission hold ends, and the GID is tested again (R373, R375). -/
def doReadmitHoldExpiry (gid : BitVec 18) (s : State) : State :=
  match s.fen.holds.find? (fun h => h.1 == gid.toNat) with
  | some h =>
    if s.passed h.2 s.readmitNs then (s.onFen (fun f => { f with holds := f.holds.filter (fun x => x.1 != gid.toNat) })).testGid gid.toNat
    else s
  | none => s

/-- READMIT_HOLD_EXPIRY (R373). -/
def execReadmitHoldExpiry (gid : BitVec 18) (s : State) : Host.Outcome State Fault Refusal := settle s (doReadmitHoldExpiry gid s)

/-- A write of FEN_PORTn.CLEAR (R359). -/
def doFenPortClear (src : Src) (n : Fin 512) (s : State) : State :=
  s.onWrite src .fenPort n.val (fun s => ((s.wr .fenPort_linkFence n.val 0).wr .fenPort_score n.val 255).syncFence n.val)

/-- FEN_PORT_CLEAR (R359). -/
def execFenPortClear (src : Src) (n : Fin 512) (s : State) : Host.Outcome State Fault Refusal := settle s (doFenPortClear src n s)

/-- A single uncorrectable codeword on a lane lowers its port's score by W_CW (R356). -/
def doLaneCodewordUncorrectable (lane : Fin 512) (s : State) : State :=
  match s.portOfLane lane.val with
  | some n => if s.off then s else s.lowerPort n (s.rd .fenWeight_wCw 0)
  | none => s

/-- LANE_CODEWORD_UNCORRECTABLE (R356). -/
def execLaneCodewordUncorrectable (lane : Fin 512) (s : State) : Host.Outcome State Fault Refusal :=
  settle s (doLaneCodewordUncorrectable lane s)

end Sys2Proof.Machine
end

