-- ==== Sys2Proof/Machine/Gateway.lean ====
section
/-! DEFINITION. The commands of the memory-semantic gateway (chapter 13). -/

namespace Sys2Proof.Machine

/-- The checks of R347 on an access: true when it is answered BAD_REQ. -/
def State.gwBad (s : State) (r : Deliv) : Bool :=
  let q := r.pkt
  let n := if r.isLoad then r.loadSize else q.len.toNat
  let e := s.dt r.gwTarget
  decide (n = 0 ∨ 256 < n) || (r.isLoad && q.len != 0) || decide (4096 < r.gwAddr % 4096 + n) || s.gid? == some r.gwTarget ||
    !(bitAt e 63 && (bits e 59 3 == 1 || bits e 59 3 == 2))

/-- Requests of a region that wait, unsent: the engine's queue of 1,024 (R346). -/
def State.gwWaiting (s : State) (k : Nat) : Nat := (s.gw.reqs.filter (fun r => r.k == k && r.sentAt.isNone)).length

/-- An earlier access of the same source to the same target waits in the Reel: the order of the pair is kept (R350). -/
def State.gwBehind (s : State) (pos : Nat) (r : Deliv) : Bool :=
  (s.sw.localQ.take pos).any (fun e => e.fn == .own && (e.pkt.kind == 0x0A || e.pkt.kind == 0x0B) && e.region == r.region &&
    e.src == r.src && e.gwTarget == r.gwTarget)

/-- Admit an access to the gateway engine of its region: refused while NORMAL, when it is not well formed, or when its target is
in sit-out; otherwise `g` takes it (R345, R347, R353). An access that finds no credit, or one behind another of its pair, waits where
it is (R346, R350). A load flushes the open buffers of its pair as it arrives, whatever comes of it (R349). -/
def State.gwAdmit (s : State) (pos : Nat) (kind : BitVec 6) (g : State → Deliv → State) : State :=
  match s.takeLocal pos (fun r => r.pkt.kind == kind && r.fn == .own) with
  | none => s
  | some (r, t) =>
    let k := r.region
    if s.regionDead k then t
    else if s.gwBehind pos r then s
    else if s.rd .gwMode_mode 0 = 0 then (t.bumpGw k .gwNotRoutable).nack r 3
    else if 1024 ≤ s.gwWaiting k then s
    else if t.gwBad r then t.nack r 5
    else
      let t := t.bumpGw k (if r.isLoad then .gwLoad else .gwStore)
      let t := t.when r.isLoad (fun s => s.gwFlushIf (fun b => b.k == k && b.src == r.src && b.dst == r.gwTarget))
      if t.inSitOut r.gwTarget then
        (t.memPoison k r).gwPoisoned k r.src r.gwTarget r.gwAddr (if r.isLoad then 0x02 else 0x01)
      else g t r

/-- A load becomes one READ_REQ (R348). -/
def State.gwLoad (s : State) (r : Deliv) : State :=
  let k := r.region
  let a := r.gwAddr / 4 * 4
  let len := 4 * ((r.gwAddr + r.loadSize - a + 3) / 4)
  s.gwAdd { num := 0, k := k, psn := 0, msgid := 0, isWrite := false, src := r.src, dst := r.gwTarget, tc := r.pkt.tc.toNat, addr := a, len := len,
            data := List.replicate len 0, got := 0, accs := [r], sentAt := none, resends := 0, done := false, nacked := false }

/-- MEM_LOAD (R348). -/
def execMemLoad (pos : Nat) (s : State) : Host.Outcome State Fault Refusal := settle s (s.gwAdmit pos 0x0A State.gwLoad)

/-- L of R349. -/
def gwLimit (tc : Nat) : Nat := if tc = 7 then 2012 else 4096

/-- Flush a buffer that is full, at a 4 KiB boundary, or at once where COAL_NS is 0 (Table 13.1 row 5, GW_CFG). -/
def State.gwSettle (s : State) (num : Nat) : State :=
  s.gwFlushIf (fun b => b.num == num && (decide (gwLimit b.tc ≤ b.data.length) || (b.addr + b.data.length) % 4096 == 0 || s.gwCoalNs == 0))

/-- Open a buffer with a store, the oldest of the region being flushed where none is free (Table 13.1 rows 3 and 4). -/
def State.gwOpen (s : State) (r : Deliv) : State :=
  let k := r.region
  let s := if s.gwBuffers k < 256 then s else (match s.gw.bufs.find? (fun b => b.k == k) with | some b => s.gwFlush b | none => s)
  let num := s.gw.nextBuf
  let b : GwBuf := ⟨k, num, r.src, r.gwTarget, r.pkt.tc.toNat, r.gwAddr, r.pkt.payload, [r], s.now⟩
  (s.onGw (fun g => { g with bufs := g.bufs ++ [b], nextBuf := num + 1 })).gwSettle num

/-- Place a store (Table 13.1). -/
def State.gwStore (s : State) (r : Deliv) : State :=
  let k := r.region
  let mine := fun (b : GwBuf) => b.k == k && b.src == r.src && b.dst == r.gwTarget
  let fits := fun (b : GwBuf) => b.tc == r.pkt.tc.toNat && b.addr + b.data.length == r.gwAddr
  if s.gw.bufs.any (fun b => mine b && !fits b) then (s.gwFlushIf (fun b => mine b && !fits b)).gwOpen r
  else match s.gw.bufs.find? (fun b => mine b && fits b && decide (b.data.length + r.pkt.payload.length ≤ gwLimit b.tc) &&
      decide (r.gwAddr / 4096 = b.addr / 4096)) with
    | some b =>
      let b' := { b with data := b.data ++ r.pkt.payload, accs := b.accs ++ [r] }
      (s.onGw (fun g => { g with bufs := g.bufs.map (fun x => if x.num = b.num then b' else x) })).gwSettle b.num
    | none => s.gwOpen r

/-- MEM_STORE (R349). -/
def execMemStore (pos : Nat) (s : State) : Host.Outcome State Fault Refusal := settle s (s.gwAdmit pos 0x0B State.gwStore)

/-- COAL_NS after it opened, a buffer is flushed (R349). -/
def doGwCoalesceExpiry (k : Fin 8) (buf : Nat) (s : State) : State :=
  match s.gw.bufs.find? (fun b => b.k == k.val && b.num == buf) with
  | some b => if s.reached ((b.opened + s.gwCoalNs) % 2 ^ 32) then s.gwFlush b else s
  | none => s

/-- GW_COALESCE_EXPIRY (R349). -/
def execGwCoalesceExpiry (k : Fin 8) (buf : Nat) (s : State) : Host.Outcome State Fault Refusal := settle s (doGwCoalesceExpiry k buf s)

/-- A request whose answer is complete sends a MEM_RESP for every access it carried, in order (R351). -/
def doGwRequestComplete (k : Fin 8) (psn : BitVec 24) (s : State) : State :=
  match s.gwFind k.val psn.toNat with
  | some r => if r.done then (r.accs.foldl (fun s a => s.gwAnswer r a) s).gwDrop r else s
  | none => s

/-- GW_REQUEST_COMPLETE (R351). -/
def execGwRequestComplete (k : Fin 8) (psn : BitVec 24) (s : State) : Host.Outcome State Fault Refusal :=
  settle s (doGwRequestComplete k psn s)

/-- A NACK makes the engine resend with the same PSN, up to RETRIES times (R352). -/
def doGwNack (k : Fin 8) (psn : BitVec 24) (s : State) : State :=
  match s.gwFind k.val psn.toNat with
  | some r =>
    if r.nacked then
      if r.resends < s.rd .gwCfg_retries 0 then
        let q := { r with nacked := false, resends := r.resends + 1 }
        let s := s.onGw (fun g => { g with reqs := g.reqs.map (fun x => if x.num = r.num then q else x) })
        (s.bumpGw k.val .gwResend).originate k.val (s.gwPacket q)
      else s.onGw (fun g => { g with reqs := g.reqs.map (fun x => if x.num = r.num then { r with nacked := false } else x) })
    else s
  | none => s

/-- GW_NACK (R352). -/
def execGwNack (k : Fin 8) (psn : BitVec 24) (s : State) : Host.Outcome State Fault Refusal := settle s (doGwNack k psn s)

/-- A request not complete when TIMEOUT_US has passed since it was first sent is abandoned, and its target's score falls (R352,
R356). -/
def doGwTimeout (k : Fin 8) (psn : BitVec 24) (s : State) : State :=
  match s.gwFind k.val psn.toNat with
  | some r =>
    if !r.done && s.reached ((r.sentAt.getD 0 + s.gwTimeoutNs) % 2 ^ 32) then (s.gwAbandon r).requestLost r.dst else s
  | none => s

/-- GW_TIMEOUT (R352). -/
def execGwTimeout (k : Fin 8) (psn : BitVec 24) (s : State) : Host.Outcome State Fault Refusal := settle s (doGwTimeout k psn s)

/-- The device states in which a gateway mode is allowed (Table 15.7). -/
def gwStateOk (mode st : Nat) : Bool :=
  if mode = 0 then true
  else if mode = 1 then st == 3 || st == 4
  else if mode = 2 then st == 3 || st == 4 || st == 5
  else st == 4 || st == 5

/-- The mode changes: MODE_EVENT, a fault record, and open buffers flushed when it becomes NORMAL (R344, R349, R354). -/
def State.setGwMode (s : State) (mode : Nat) : State :=
  let old := s.rd .gwMode_mode 0
  if old = mode then s
  else
    let s := (s.wr .gwMode_mode 0 mode).event .gwMode .gwMode_modeEvent 0
    let s := s.fault 0x0042 0 [old, mode]
    s.when (mode == 0) (fun s => s.gwFlushIf (fun _ => true))

/-- A gateway mode is permitted by the image (R344). -/
def State.gwPermitted (s : State) (mode : Nat) : Bool :=
  if mode = 0 then true
  else if mode = 1 then s.flag .gwPermit_startup 0
  else if mode = 2 then s.flag .gwPermit_test 0
  else s.flag .gwPermit_recovery 0

/-- A write of GW_MODE from the lease owner (R344, R395): the W1C bits and the mode, or a refusal in full. -/
def doGwModeWrite (src : Src) (val : BitVec 32) (s : State) : State :=
  s.onWrite src .gwMode 0 (fun s =>
    if src = .image then s
    else
      let v := val.toNat
      let mode := v % 4
      if s.gwPermitted mode && gwStateOk mode (s.rd .cfgState_state 0) then
        let s := s.when (bitAt v 31) (fun s => s.wr .gwMode_refused 0 0)
        (s.when (bitAt v 30) (fun s => s.wr .gwMode_modeEvent 0 0)).setGwMode mode
      else s.wr .gwMode_refused 0 1)

/-- GW_MODE_WRITE (R344). -/
def execGwModeWrite (src : Src) (val : BitVec 32) (s : State) : Host.Outcome State Fault Refusal := settle s (doGwModeWrite src val s)

end Sys2Proof.Machine
end

