-- ==== Sys2Proof/Machine/Optical.lean ====
section
/-! DEFINITION. The optical bypass: links to modules, rings, calibration, the circuit plan and fading light (chapter 8). -/

namespace Sys2Proof.Machine

/-- A port waiting for its rings begins its attempt once they allow it. -/
def State.ringsChanged (s : State) (n : Nat) : State :=
  if s.portState n = 1 ∧ (s.pst n).at_ = .rings ∧ s.ringsReady n then s.beginAttempt n else s

/-! From DRAINING to CAL. -/

/-- Put a lane under test (R98). -/
def State.beginLane (s : State) (l : Nat) : State :=
  (s.wr .coreLaneStatus_underTest l 1).onPorts (fun w =>
    { w with test := w.test.map (fun t => { t with lane := some l, todo := t.todo.filter (· != l) }) })

/-- What begins as a port enters CAL for a reason. -/
def State.calBegins (s : State) (n : Nat) (w : CalWait) : State :=
  match w with
  | .cal =>
    let s := s.onOpt (fun o => { o with cal := some n })
    [2 * n, 2 * n + 1].foldl (fun s k =>
      (s.onRing k (fun r => { r with held := r.table, heldCode := s.rd .optRingStatus_heater k })).beginSweep k) s
  | .laser =>
    ((s.wr .optSlotCtrl_spareUsed (n / 8) 1).wr .optSlotCtrl_spareChan (n / 8) (n % 8)).sendOcl (n / 8) 6
      (sparePay (n % 8) (s.rd .optChanCfg_txLine n))
  | .test =>
    match s.ports.test.bind (fun t => t.todo.head?) with
    | some l => s.beginLane l
    | none => s
  | .plan => s

/-- A DRAINING port whose drain is complete enters CAL when something is waiting and no packet is in transmission (R86, R216,
R476). -/
def State.tryCal (s : State) (n : Nat) : State :=
  let x := s.pst n
  if s.portState n = 4 ∧ !x.draining ∧ s.txIdle n ∧ x.waiting then
    match x.waits.find? (fun w => PortSt.waiting { x with waits := [w] }) with
    | some w => ((s.setPst n (fun x => { x with waits := w :: x.waits.filter (· != w) })).setPort n 5).calBegins n w
    | none => s
  else s

/-- A drain is complete (R88). -/
def State.drained (s : State) (n : Nat) : State :=
  ((s.setPst n (fun x => { x with draining := false })).wr .corePortStatus_drained n 1).tryCal n

/-- The egress queues of a draining port are empty (R88). -/
def doDrainComplete (n : Fin 512) (s : State) : State :=
  if s.portState n.val = 4 ∧ (s.pst n.val).draining ∧ s.queuesEmpty n.val then s.drained n.val else s

/-- DRAIN_COMPLETE (R88). -/
def execDrainComplete (n : Fin 512) (s : State) : Host.Outcome State Fault Refusal := settle s (doDrainComplete n s)

/-- 100 µs after a drain began, what is still queued is dropped (R88). -/
def doDrainTimeout (n : Fin 512) (s : State) : State :=
  if s.portState n.val = 4 ∧ (s.pst n.val).draining then (s.flushPort n.val .drainDrop).drained n.val else s

/-- DRAIN_TIMEOUT (R88). -/
def execDrainTimeout (n : Fin 512) (s : State) : Host.Outcome State Fault Refusal := settle s (doDrainTimeout n s)

/-- PACKET_TX_END (R168); a port whose last packet has ended may enter CAL (R476). -/
def execPacketTxEnd (e : TxEnd) (s : State) : Host.Outcome State Fault Refusal :=
  settle s ((doPacketTxEnd e.port e.last s).tryCal e.port.val)

/-- UNDERRUN (R153). -/
def execUnderrun (port : Fin 512) (s : State) : Host.Outcome State Fault Refusal := settle s ((doUnderrun port s).tryCal port.val)

/-- OPT_CFG.CAL_HOLD and PEER_WAIT in ns; 0 is used as 1. -/
def State.calHold (s : State) : Nat := 10000 * max 1 (s.rd .optCfg_calHold 0)
def State.peerWait (s : State) : Nat := 1000000 * max 1 (s.rd .optCfg_peerWait 0)

/-- CAL_HOLD has passed since the port entered DRAINING (R216). -/
def doCalHoldExpiry (n : Fin 512) (s : State) : State :=
  if s.portState n.val = 4 ∧ s.passed (s.pst n.val).drainAt s.calHold then (s.setPst n.val (fun x => { x with holdDone := true })).tryCal n.val else s

/-- CAL_HOLD_EXPIRY (R216). -/
def execCalHoldExpiry (n : Fin 512) (s : State) : Host.Outcome State Fault Refusal := settle s (doCalHoldExpiry n s)

/-! The Optical Control Link (R209, R210). -/

/-- A calibration fails, in CAL or before it (R221). The tables and codes are restored at once, or when the slot's link is in sync
again (R228). -/
def State.calFails (s : State) (n : Nat) : State :=
  let s := if s.opt.cal ≠ some n then s
    else if s.flag .oclStatus_sync (n / 8) then s.restoreRings n
    else s.onOpt (fun o => { o with restore := o.restore ++ [n] })
  let s := s.bumpOpt n .calFail
  let f := sget 0 s.opt.fails n + 1
  let s := s.onOpt (fun o => { o with fails := sset 0 o.fails n f })
  let s := s.when (f == 3) (fun s => (s.wr .optChanStatus_ringFailed n 1).fault 0x0031 1 [n])
  if s.portState n = 5 then s.calOver.leaveCal n
  else (s.calOver.setPst n (fun x => { x with waits := x.waits.filter (· != .cal) })).reDrain n

/-- A slot's link loses sync: the event, the module access in progress, and the calibration of the slot, draining or in CAL (R210,
R228). -/
def State.oclLost (s : State) (slot : Nat) : State :=
  let s := (s.wr .oclStatus_sync slot 0).event .oclStatus .oclStatus_oclEvent slot
  let s := s.when (s.flag .optModAcc_start 0 && s.rd .optModAcc_slot 0 == slot) (fun s =>
    (s.wr .optModAcc_status 0 4).wr .optModAcc_start 0 0)
  let n := s.rd .optCalStatus_lane 0
  if s.flag .optCalStatus_active 0 ∧ n / 8 = slot then s.calFails n else s

/-- A slot's link is in sync again: tables that a calibration left unrestored are restored (R228). -/
def State.oclBack (s : State) (slot : Nat) : State :=
  let mine := s.opt.restore.filter (fun n => n / 8 == slot)
  let s := s.onOpt (fun o => { o with restore := o.restore.filter (fun n => n / 8 != slot) })
  mine.foldl (fun s n => (s.restoreRings n).ringsChanged n) s

/-- The module answers a byte access, or the page and bank writes that precede it (R102). -/
def State.modAccDone (s : State) (ack : Bool) (data : Nat) : State :=
  let s := s.wr .optModAcc_status 0 (if ack then 0 else 2)
  let s := s.when (ack && !s.flag .optModAcc_write 0) (fun s => s.wr .optModAcc_data 0 data)
  (s.wr .optModAcc_start 0 0).onOpt (fun o => { o with twi := 0 })

/-- A module interrupt arrives over the link (R101). -/
def State.modInterrupt (s : State) (t : Nat) : State :=
  if s.off || !s.flag .optModStatus_present t then s else s.event .optModStatus .optModStatus_modEvent t

/-- The upstream code of a good frame: TWI_DATA, TWI_ACK and TWI_NAK answer a module access, MOD_INT is the module's interrupt
(Table 8.3). -/
def State.oclUpstream (s : State) (t utype aux : Nat) : State :=
  let mine := s.flag .optModAcc_start 0 && s.rd .optModAcc_slot 0 == t
  if utype = 4 then s.modInterrupt t
  else if !mine then s
  else if utype = 3 then s.modAccDone false 0
  else if utype = 1 ∨ utype = 2 then
    if s.opt.twi ≠ 0 then s.onOpt (fun o => { o with twi := o.twi - 1 }) else s.modAccDone true aux
  else s

/-- A 1 µs frame (R209, R210): its samples are taken when it is good, and the link's sync follows. -/
def doOclFrame (slot : Fin 64) (up : OclUp) (s : State) : State :=
  if s.off then s else
  let t := slot.val
  let (good, bad) := (kget s.opt.ocl t).getD (0, 0)
  if oclGood up then
    let back := decide (8 ≤ good + 1) && !s.flag .oclStatus_sync t
    let s := s.onOpt (fun o => { o with ocl := kput o.ocl t (min 8 (good + 1), 0),
                                        tap := kput o.tap t (pushSample ((kget o.tap t).getD []) up.tap.toNat) })
    let s := (List.range 16).foldl (fun s r =>
      match up.rings[r]? with
      | some v => s.onRing (slotRing t r) (fun x => x.sample (s.rd .optLoopCfg_lpf 0) (s.ringDither (slotRing t r)) v.toNat)
      | none => s) s
    let s := s.when back (fun s => (s.wr .oclStatus_sync t 1).oclBack t)
    s.oclUpstream t up.utype.toNat up.aux.toNat
  else
    let s := s.when up.answered (fun s => s.bumpOpt (8 * t) .oclCrcErr)
    let s := s.onOpt (fun o => { o with ocl := kput o.ocl t (0, min 4 (bad + 1)) })
    if 4 ≤ bad + 1 ∧ s.flag .oclStatus_sync t then s.oclLost t else s

/-- OCL_FRAME (R209). -/
def execOclFrame (slot : Fin 64) (up : OclUp) (s : State) : Host.Outcome State Fault Refusal := settle s (doOclFrame slot up s)

/-! The loop of a ring (R211 to R214). -/

/-- The key of a ring named by a command. -/
def ringKey (lane : Fin 512) (rx : Bool) : Nat := 2 * lane.val + b2n rx

/-- A code clamped to 0 to 4,095. -/
def clampCode (v : Int) : Nat := min 4095 v.toNat

/-- One heater update (R211, R212). A transmit ring whose line is dark does not lock (R207). -/
def doRingLoopUpdate (lane : Fin 512) (rx : Bool) (s : State) : State :=
  let n := lane.val
  let key := ringKey lane rx
  if s.off || !s.flag .oclStatus_sync (n / 8) || s.flag .optRingStatus_sweep key || s.portState n == 5 then s
  else
    let r := s.ringSt key
    let y := r.acc / 2 ^ 16
    let code := clampCode (s.rd .optRingStatus_heater key + (s.rd .optLoopCfg_kp 0 : Int) * (y - r.y) / 256 +
      (s.rd .optLoopCfg_ki 0 : Int) * y / 256)
    let near := decide (y.natAbs ≤ s.rd .optLoopCfg_lockThr 0) && r.lit && !s.ringDark key
    let up := if near then min 8 (r.up + 1) else 0
    let down := if r.faint then min 4 (r.down + 1) else 0
    let s := s.onRing key (fun x => { x with y := y, up := up, down := down })
    let s := (s.wr .optRingStatus_err key (y % 65536).toNat).heat key code
    let s := s.when (up == 8) (fun s => s.setLock key true)
    let s := s.when (down == 4) (fun s => s.setLock key false)
    s.ringsChanged n

/-- RING_LOOP_UPDATE (R211). -/
def execRingLoopUpdate (lane : Fin 512) (rx : Bool) (s : State) : Host.Outcome State Fault Refusal := settle s (doRingLoopUpdate lane rx s)

/-- The index of the largest of a list, the first of equals. -/
def argMax (l : List Nat) : Nat := (l.zipIdx.foldl (fun (b : Nat × Nat) x => if b.1 < x.1 then x else b) (l.headD 0, 0)).2

/-- The expected bin is the largest by at least M dB, bins being powers (R213). -/
def pilotPasses (bins : List Nat) (line m : Nat) : Bool :=
  bins.zipIdx.all (fun x => x.2 == line || decide (10 ^ m * x.1 ^ 10 ≤ (nthD bins line 0) ^ 10))

/-- The powers of bins 32 to 63 of the last 256 monitor samples of a ring (R213). -/
def State.ringBins (s : State) (key : Nat) : List Nat := pilotBins (s.ringSt key).win

/-- The pilot window of a ring passes (R213). -/
def State.windowPasses (s : State) (key : Nat) : Bool := pilotPasses (s.ringBins key) (s.ringLine key) (s.rd .optCfg_idMargin 0)

/-- One pilot window of a locked ring (R213). -/
def doPilotWindow (lane : Fin 512) (rx : Bool) (s : State) : State :=
  let n := lane.val
  let key := ringKey lane rx
  let r := s.ringSt key
  if s.off || !s.flag .optRingStatus_lock key || s.portState n == 5 || r.faint then s
  else
    let line := s.ringLine key
    let bins := s.ringBins key
    let passes := s.windowPasses key
    let s := s.wr .optRingStatus_idLine key (argMax bins)
    if passes then s.onRing key (fun x => { x with bad := 0 })
    else if r.bad = 0 then s.onRing key (fun x => { x with bad := 1 })
    else
      let s := s.onRing key (fun x => { x with bad := 0, sweeps := 0 })
      let s := (s.event .optChanStatus .optChanStatus_wrongLine n).bumpOpt n .wrongLine
      let s := s.fault 0x0030 1 [n, b2n rx, line, argMax bins]
      let park := (nthD r.table line 0 + nthD r.table ((line + 1) % 32) 0) / 2
      (s.heat key park).beginSweep key

/-- PILOT_WINDOW (R213). -/
def execPilotWindow (slot : Fin 64) (chan : Fin 8) (rx : Bool) (s : State) : Host.Outcome State Fault Refusal :=
  settle s (doPilotWindow (laneOf slot chan) rx s)

/-- A sweep outside calibration ends (R213, R214). The code at which a ring without a table finds its line is free. A transmit ring
whose line is dark finds nothing (R207). -/
def doRingSweepComplete (lane : Fin 512) (rx : Bool) (found : Bool) (s : State) : State :=
  let n := lane.val
  let key := ringKey lane rx
  if s.off || !s.flag .optRingStatus_sweep key || s.opt.cal == some n then s
  else if found && !s.ringDark key then
    let r := s.ringSt key
    let (code, s) := if r.table.isEmpty then s.free 11 4096 else (nthD r.table (s.ringLine key) 0, s)
    let s := (s.onRing key (fun x => { x with sweeps := 0, up := 0, down := 0 })).wr .optRingStatus_sweep key 0
    let s := ((s.heat key code).setLock key true).wr .optChanStatus_ringFailed n 0
    s.ringsChanged n
  else
    let f := (s.ringSt key).sweeps + 1
    let s := s.onRing key (fun x => { x with sweeps := f })
    if f = 3 then
      let s := (s.wr .optRingStatus_sweep key 0).wr .optChanStatus_ringFailed n 1
      (s.fault 0x0031 1 [n]).ringsChanged n
    else s

/-- RING_SWEEP_COMPLETE (R214). -/
def execRingSweepComplete (lane : Fin 512) (rx : Bool) (found : Bool) (s : State) : Host.Outcome State Fault Refusal :=
  settle s (doRingSweepComplete lane rx found s)

/-! Channel configuration (R208). -/

/-- The other lanes of a lane's slot. -/
def slotMates (n : Nat) : List Nat := ((List.range 8).map (fun j => 8 * (n / 8) + j)).filter (· != n)

/-- R208: a write of OPT_CHAN_CFG is refused. -/
def State.chanRefused (s : State) (n tx rx td rd : Nat) : Bool :=
  (s.portState n != 0 && (tx != s.rd .optChanCfg_txLine n || rx != s.rd .optChanCfg_rxLine n)) ||
    (slotMates n).any (fun m => s.rd .optChanCfg_txLine m == tx || s.rd .optChanCfg_rxLine m == rx) ||
    decide (td < 80 ∨ 320 < td ∨ rd < 80 ∨ 320 < rd) || td == rd ||
    (slotMates n).any (fun m => s.rd .optChanCfg_txDither m == td || s.rd .optChanCfg_rxDither m == td ||
      s.rd .optChanCfg_txDither m == rd || s.rd .optChanCfg_rxDither m == rd)

/-- A write of OPT_CHAN_CFGn is applied or refused in full; a change of dither is sent to the module, with PHASE_SYNC (R208,
R209). -/
def doChanCfgWrite (src : Src) (n : Fin 512) (val : BitVec 32) (s : State) : State :=
  s.onWrite src .optChanCfg n.val (fun s =>
    let v := val.toNat
    let i := n.val
    let tx := bits v 23 5
    let rx := bits v 18 5
    let td := bits v 9 9
    let rd := bits v 0 9
    if s.chanRefused i tx rx td rd then s.wr .optChanStatus_cfgRefused i 1
    else
      let dt := td != s.rd .optChanCfg_txDither i
      let dr := rd != s.rd .optChanCfg_rxDither i
      let s := (((s.wr .optChanCfg_txLine i tx).wr .optChanCfg_rxLine i rx).wr .optChanCfg_txDither i td).wr .optChanCfg_rxDither i rd
      let s := (s.showTable (2 * i)).showTable (2 * i + 1)
      let s := s.when dt (fun s => (s.sendOcl (i / 8) 4 (ditherPay (i % 8) td)).phaseSync (i / 8))
      s.when dr (fun s => (s.sendOcl (i / 8) 4 (ditherPay (8 + i % 8) rd)).phaseSync (i / 8)))

/-- CHAN_CFG_WRITE (R208). -/
def execChanCfgWrite (src : Src) (n : Fin 512) (val : BitVec 32) (s : State) : Host.Outcome State Fault Refusal :=
  settle s (doChanCfgWrite src n val s)

/-! The calibration rotation (R219 to R221). -/

/-- The rotation may take a port now: a bypass port in UP, not the only member in UP of a group, not held, its link in sync and no
ring of it under a sweep (R219, R228). -/
def State.calTakes (s : State) (n : Nat) : Bool :=
  s.flag .corePortCfg_en n && s.isBypass n && s.portState n == 3 && !s.soleMember n && !s.flag .optChanStatus_fadeHold n &&
    s.flag .oclStatus_sync (n / 8) && !s.flag .optRingStatus_sweep (2 * n) && !s.flag .optRingStatus_sweep (2 * n + 1)

/-- The port that the rotation takes now: one with a sweep due first, ahead of its turn, and otherwise the next in ascending order that
has not had its turn in this round (R212, R219). -/
def State.calNext (s : State) : Option Nat :=
  let free := fun n => s.calTakes n && !s.opt.early.contains n
  match (List.range 512).find? (fun n => free n && (s.flag .optRingStatus_sweepDue (2 * n) || s.flag .optRingStatus_sweepDue (2 * n + 1))) with
  | some n => some n
  | none => (List.range 512).find? (fun n => decide (s.opt.next ≤ n) && free n)

/-- The rotation takes one port: it enters DRAINING (R220 step 1). One taken ahead of its turn does not move the round on. -/
def State.takeCal (s : State) (n : Nat) : State :=
  let due := s.flag .optRingStatus_sweepDue (2 * n) || s.flag .optRingStatus_sweepDue (2 * n + 1)
  let s := s.onOpt (fun o => { o with next := if due then o.next else max o.next (n + 1), last := some s.tb.mono,
                                      early := if due then n :: o.early else o.early })
  ((s.wr .optCalStatus_active 0 1).wr .optCalStatus_lane 0 n).request n .cal

/-- CAL_PERIOD in ns, from 1,000 to 30,000 ms. -/
def State.calPeriod (s : State) : Nat := 1000000 * min 30000 (max 1000 (s.rd .optCfg_calPeriod 0))
/-- The spacing of starts within the round: CAL_PERIOD over the ports counted at its start, and at least 5 ms (R219). -/
def State.calSpacing (s : State) : Nat := max 5000000 (s.calPeriod / max 1 s.opt.ports)

/-- A new round of the rotation: its ports are counted (R219). -/
def State.newRound (s : State) : State :=
  let n := ((List.range 512).filter (fun n => s.flag .corePortCfg_en n && s.isBypass n && s.portState n == 3)).length
  s.onOpt (fun o => { o with next := 0, early := [], ports := n, start := s.tb.mono })

/-- A start of the rotation: the next port of the round, or the end of the round and the first port of the next (R219). -/
def doCalibrationStart (s : State) : State :=
  let testing := match s.ports.test with | some t => t.deferred && (match t.port with | some n => s.portState n == 5 | none => false) | none => false
  let early := match s.opt.last with | some t => decide (s.tb.mono < t + s.calSpacing) | none => false
  if s.off || !s.flag .optCfg_calEn 0 || s.flag .optCalStatus_active 0 || testing || early then s
  else
    let first := s.opt.next == 0 && s.opt.early.isEmpty
    let s := if first then s.newRound else s
    match s.calNext with
    | some n => s.takeCal n
    | none =>
      if first then s
      else
        let ms := (s.tb.mono - s.opt.start) / 1000000
        let s := (s.wr .optCalStatus_roundTime 0 (min ms (2 ^ 18 - 1))).event .optCalStatus .optCalStatus_roundEvent 0
        let s := s.newRound
        match s.calNext with
        | some n => s.takeCal n
        | none => s

/-- CALIBRATION_START (R219). -/
def execCalibrationStart (s : State) : Host.Outcome State Fault Refusal := settle s (doCalibrationStart s)

/-- The table of a transmit ring from its sweep: the codes of its 32 resonances in the order of the sweep, with the places at which the
pilots of its own line and of the line 16 away were found. The rest are numbered by their order, rising with the line (R220; log
entry 22). None when its own line is not identified. -/
def txTable (line : Nat) (codes : List (BitVec 12)) (own far : Option (Fin 32)) : Option (List Nat) :=
  match own, far with
  | some a, some b =>
    if codes.length = 32 ∧ b.val = (a.val + 16) % 32 then
      some ((List.range 32).map (fun k => (nthD codes ((a.val + k + 32 - line) % 32) 0).toNat))
    else none
  | _, _ => none

/-- The table of a receive ring: the lines it identified, and the others placed from its own line by the spacing measured on the
channel's transmit ring (R220; log entry 22). None when its own line is not among them. -/
def rxTable (line : Nat) (tx : List Nat) (seen : List (Fin 32 × BitVec 12)) : Option (List Nat) :=
  match seen.find? (fun x => x.1.val == line) with
  | some own => some ((List.range 32).map (fun k =>
      match seen.find? (fun x => x.1.val == k) with
      | some x => x.2.toNat
      | none => clampCode ((own.2.toNat : Int) + nthD tx k 0 - nthD tx line 0)))
  | none => none

/-- A ring takes a rebuilt table, its heater is set to its line, and its loop goes on (R220 step 6). -/
def State.takeTable (s : State) (key : Nat) (table : List Nat) : State :=
  let s := s.onRing key (fun r => { r with table := table, cal := r.mon, up := 0, down := 0, bad := 0, sweeps := 0 })
  let s := ((s.wr .optRingStatus_sweep key 0).wr .optRingStatus_sweepDue key 0).showTable key
  (s.heat key (s.rd .optRingStatus_tableCode key)).setLock key true

/-- A calibration succeeds (R221, R225). -/
def State.calSucceeds (s : State) (n : Nat) : State :=
  let s := ((s.bumpOpt n .calDone).wr .optChanStatus_calAge n 0).wr .optChanStatus_ringFailed n 0
  let s := s.onOpt (fun o => { o with fails := sset 0 o.fails n 0 })
  let s := s.when (!s.flag .optSlotCtrl_refValid (n / 8) && sget 0 s.opt.capN (n / 8) == 0)
    (fun s => s.onOpt (fun o => { o with capN := sset 0 o.capN (n / 8) 16 }))
  s.calOver.leaveCal n

/-- A calibration in CAL ends: the tables are rebuilt from what the sweeps found, and the pilot window of each ring is judged; where a
ring's own line was not identified or a window fails, all is restored. The port leaves CAL for a fast retrain (R220, R221, R225). -/
def doCalibrationEnd (codes : List (BitVec 12)) (own far : Option (Fin 32)) (seen : List (Fin 32 × BitVec 12)) (s : State) : State :=
  match s.opt.cal with
  | none => s
  | some n =>
    if s.portState n ≠ 5 then s
    else
      let tx := txTable (s.rd .optChanCfg_txLine n) codes own far
      match tx, tx.bind (fun t => rxTable (s.rd .optChanCfg_rxLine n) t seen) with
      | some t, some r =>
        if s.windowPasses (2 * n) ∧ s.windowPasses (2 * n + 1) then ((s.takeTable (2 * n) t).takeTable (2 * n + 1) r).calSucceeds n
        else s.calFails n
      | _, _ => s.calFails n

/-- CALIBRATION_END (R221). -/
def execCalibrationEnd (codes : List (BitVec 12)) (tx : TxSeen) (seen : List (Fin 32 × BitVec 12)) (s : State) :
    Host.Outcome State Fault Refusal := settle s (doCalibrationEnd codes tx.own tx.far seen s)

/-! Waiting for the neighbour, and the fast retrain (R97, R217). -/

/-- PEER_WAIT has passed with no signal: full attempts follow (R217). -/
def doPeerWaitExpiry (n : Fin 512) (s : State) : State :=
  if s.portState n.val = 1 ∧ (s.pst n.val).at_ = .peer ∧ s.passed (s.pst n.val).peerAt s.peerWait then
    (s.setPst n.val (fun x => { x with fast := false })).beginAttempt n.val
  else s

/-- PEER_WAIT_EXPIRY (R217). -/
def execPeerWaitExpiry (n : Fin 512) (s : State) : Host.Outcome State Fault Refusal := settle s (doPeerWaitExpiry n s)

/-- The neighbour's codeword signal arrives: the fast retrain begins (R217). -/
def doPeerSignalArrival (n : Fin 512) (s : State) : State :=
  if s.portState n.val = 1 ∧ (s.pst n.val).at_ = .peer then s.beginAttempt n.val else s

/-- PEER_SIGNAL_ARRIVAL (R217). -/
def execPeerSignalArrival (n : Fin 512) (s : State) : Host.Outcome State Fault Refusal := settle s (doPeerSignalArrival n s)

/-- The optical control asks that a bypass port make its next attempt as a fast retrain, after its neighbour's signal (R97, R217). In
TRAINING with no attempt under way that is at once; otherwise the wish waits for the next attempt. -/
def State.askFast (s : State) (n : Nat) : State :=
  if !s.isBypass n then s
  else if s.portState n = 1 ∧ (s.pst n).at_ ≠ .attempt ∧ (s.pst n).at_ ≠ .powerup then s.setPst n (fun x => { x with fast := true, at_ := .peer, peerAt := s.tb.mono })
  else s.setPst n (fun x => { x with nextFast := true })

/-- FAST_RETRAIN (R97). -/
def execFastRetrain (n : Fin 512) (s : State) : Host.Outcome State Fault Refusal := settle s (s.askFast n.val)

/-! The circuit plan (R222, R223). -/

/-- Lines of a lane after the plan: (transmit, receive). -/
def State.planLines (s : State) (n : Nat) : Nat × Nat :=
  if s.flag .optPlanNext_pending n then (s.rd .optPlanNext_nextTx n, s.rd .optPlanNext_nextRx n)
  else (s.rd .optChanCfg_txLine n, s.rd .optChanCfg_rxLine n)

/-- Lanes whose port is to move. -/
def State.pendingLanes (s : State) : List Nat := (List.range 512).filter (fun n => s.flag .optPlanNext_pending n)

/-- The lower lane of a pair that would share a line after the plan, on any steered module, or on a slot with a port that is to move
(R222; log entry 22). -/
def State.planConflict (s : State) : Option Nat :=
  let slots := (List.range 64).filter (fun t => s.flag .optModStatus_s8 t || s.flag .optModStatus_trefy t ||
    (List.range 8).any (fun j => s.flag .optPlanNext_pending (8 * t + j)))
  (slots.flatMap (fun t => (List.range 8).map (fun j => 8 * t + j))).find? (fun n =>
    (slotMates n).any (fun m => decide (n < m) &&
      ((s.planLines n).1 == (s.planLines m).1 || (s.planLines n).2 == (s.planLines m).2)))

/-- A write of OPT_PLAN_CTRL.ARM (R222). -/
def doPlanArm (src : Src) (s : State) : State :=
  s.onWrite src .optPlanCtrl 0 (fun s =>
    let a := s.rd .optPlanTime_act 0
    let ahead := span32 s.now a
    if ahead = 0 ∨ 2 ^ 31 ≤ ahead then s.wr .optPlanCtrl_planLate 0 1
    else match s.planConflict with
      | some n => (s.wr .optPlanCtrl_planConflict 0 1).wr .optPlanCtrl_conflictLane 0 n
      | none => (s.wr .optPlanCtrl_arm 0 1).onOpt (fun o => { o with plan := some a, led := false, skip := [] }))

/-- PLAN_ARM (R222). -/
def execPlanArm (src : Src) (s : State) : Host.Outcome State Fault Refusal := settle s (doPlanArm src s)

/-- DRAIN_LEAD in ns. -/
def State.drainLead (s : State) : Nat := 10000 * max 10 (s.rd .optPlanCtrl_drainLead 0)

/-- DRAIN_LEAD before the plan time every pending port in UP enters DRAINING (R223). -/
def doPlanDrainLead (s : State) : State :=
  match s.opt.plan with
  | some a =>
    if !s.opt.led && s.reached ((a + 2 ^ 32 - s.drainLead) % 2 ^ 32) then
      let s := s.onOpt (fun o => { o with led := true })
      (s.pendingLanes.filter (fun n => s.portState n == 3)).foldl (fun s n => s.request n .plan) s
    else s
  | none => s

/-- PLAN_DRAIN_LEAD (R223). -/
def execPlanDrainLead (s : State) : Host.Outcome State Fault Refusal := settle s (doPlanDrainLead s)

/-- A ring takes its new line: its table code there plus its present offset from its table (R223). -/
def State.moveRing (s : State) (key line : Nat) : State :=
  let r := s.ringSt key
  let old := nthD r.table (s.ringLine key) 0
  let new := nthD r.table line 0
  let code := clampCode ((new : Int) + s.rd .optRingStatus_heater key - old)
  let s := s.wr (if key % 2 = 0 then .optChanCfg_txLine else .optChanCfg_rxLine) (key / 2) line
  (s.heat key code).showTable key

/-- What one pending port does at the plan time (R223, R228). -/
def State.retune (s : State) (n : Nat) : State :=
  let tx := s.rd .optPlanNext_nextTx n
  let rx := s.rd .optPlanNext_nextRx n
  -- a calibration in progress is abandoned, not counted as failed
  let inCal := s.opt.cal == some n && s.portState n == 5
  let s := s.when inCal (fun s => ((s.restoreRings n).calOver).setPst n (fun x => { x with waits := .plan :: x.waits.drop 1 }))
  let s := s.wr .coreNbrExpect_valid n (s.rd .optPlanNext_peerValid n)
  let s := s.wr .coreNbrExpect_peerGid n (s.rd .optPlanNext_nextPeerGid n)
  let s := s.wr .coreNbrExpect_peerPort n (s.rd .optPlanNext_nextPeerPort n)
  let s := s.setPst n (fun x => { x with seen := none })
  let s := (s.moveRing (2 * n) tx).moveRing (2 * n + 1) rx
  let s := (s.wr .optPlanNext_pending n 0).bumpOpt n .retune
  if s.portState n = 3 ∨ s.portState n = 4 then ((s.request n .plan).setPst n (fun x => { x with planDue := true })).tryCal n
  else if inCal then s
  else (s.setPst n (fun x => { x with waits := x.waits.filter (· != .plan) })).askFast n

/-- The plan is activated (R223). -/
def State.activatePlan (s : State) : State :=
  let kept := s.opt.skip
  let s := (s.onOpt (fun o => { o with plan := none, led := false, skip := [] })).wr .optPlanCtrl_arm 0 0
  (s.pendingLanes.filter (fun n => !kept.contains n)).foldl State.retune s

/-- The plan time is reached (R223). -/
def doPlanActivate (s : State) : State :=
  match s.opt.plan with
  | some a => if s.reached a then s.activatePlan else s
  | none => s

/-- PLAN_ACTIVATE (R223). -/
def execPlanActivate (s : State) : Host.Outcome State Fault Refusal := settle s (doPlanActivate s)

/-- What a port in CAL is there for. -/
def State.inCalFor (s : State) (n : Nat) (w : CalWait) : Bool := s.portState n == 5 && (s.pst n).waits.head? == some w

/-- A retuned port's rings have settled (R223). -/
def doRetuneSettled (n : Fin 512) (s : State) : State := if s.inCalFor n.val .plan then s.leaveCal n.val else s

/-- RETUNE_SETTLED (R223). -/
def execRetuneSettled (n : Fin 512) (s : State) : Host.Outcome State Fault Refusal := settle s (doRetuneSettled n s)

/-! Fading light (R225 to R227). -/

/-- A line at a slot. -/
def State.lineSt (s : State) (i : Nat) : LineSt := (kget s.opt.line i).getD ⟨none, 0, 0, 0⟩

/-- Hold a port whose line has faded to DRAIN (R226). -/
def State.fadeHold (s : State) (n line : Nat) : State :=
  let s := s.onOpt (fun o => { o with hold := kput o.hold n line })
  (((s.wr .corePortCfg_drain n 1).wr .optChanStatus_fadeHold n 1).bumpOpt n .fadeDrain).reDrain n

/-- Give up the hold of a port (R226). -/
def State.fadeFree (s : State) (n : Nat) : State := (s.onOpt (fun o => { o with hold := kdel o.hold n })).wr .optChanStatus_fadeHold n 0

/-- The bypass ports of a slot that send on a line. -/
def State.onLine (s : State) (slot line : Nat) : List Nat :=
  ((List.range 8).map (fun j => 8 * slot + j)).filter (fun n =>
    s.flag .corePortCfg_en n && s.isBypass n && s.rd .optChanCfg_txLine n == line)

/-- The spare laser of a Trefy module is free: it is not engaged, and no port of the module is on its way to it (R227). -/
def State.spareFree (s : State) (slot : Nat) : Bool :=
  !s.flag .optSlotCtrl_spareUsed slot && !(List.range 8).any (fun j => (s.pst (8 * slot + j)).waits.contains .laser)

/-- A line reaches DRAIN: its ports are held, or one changes to the spare laser of a Trefy module (R226, R227). -/
def State.fadeDrain (s : State) (slot line : Nat) : State :=
  (s.onLine slot line).foldl (fun s n =>
    if s.flag .optModStatus_trefy slot && s.spareFree slot then (s.request n .laser).tryCal n else s.fadeHold n line) s

/-- Raise the host event and fault record of a level (R226). -/
def State.fadeEvent (s : State) (slot line level rel : Nat) : State :=
  (s.hostEvent (Reg.optLinePwr.offset (32 * slot + line)) (31 - level)).fault 0x0032 1 [slot, line, level, rel]

/-- The two's complement of a relative power in 16 bits, kept within range. -/
def rel16 (v : Int) : Nat := ((max (-32768) (min 32767 v)) % 65536).toNat

/-- The power p of a window lies at least r hundredths of a dB from its reference, the sum of 16 windows. -/
def relLeast (p ref : Nat) (r : Int) : Bool :=
  if 0 ≤ r then decide (10 ^ r.toNat * ref ^ 1000 ≤ (16 * p) ^ 1000) else decide (ref ^ 1000 ≤ (16 * p) ^ 1000 * 10 ^ (-r).toNat)

/-- The power relative to the reference in whole hundredths of a dB, rounded down, within 16 bits. -/
def relFloor (p ref : Nat) : Int :=
  [32768, 16384, 8192, 4096, 2048, 1024, 512, 256, 128, 64, 32, 16, 8, 4, 2, 1].foldl (fun (lo : Int) (d : Nat) =>
    if relLeast p ref (lo + d) then lo + d else lo) (-32768)

/-- The power lies at or below the level `units` · 0.05 dB under the reference (R226). -/
def atOrBelow (p ref units : Nat) : Bool := decide ((16 * p) ^ 200 * 10 ^ units ≤ ref ^ 200)
/-- The power lies at or above −1.0 dB (R226). -/
def lineBack (p ref : Nat) : Bool := decide (ref ^ 10 ≤ (16 * p) ^ 10 * 10)

/-- The lines of a window that are lit, those that show less than 1% of the mean of the other lit lines falling out until none does
(R207; log entry 22). -/
def litLines (bins : List Nat) : Nat → List Nat → List Nat
  | 0, lit => lit
  | fuel + 1, lit =>
    litLines bins fuel (lit.filter (fun k =>
      let others := lit.filter (· != k)
      decide (0 < nthD bins k 0) && decide ((others.map (fun j => nthD bins j 0)).sum ≤ 100 * nthD bins k 0 * others.length)))

/-- The lines of a window that are dark to the part (R207). -/
def darkLines (bins : List Nat) : List Nat := (List.range 32).filter (fun k => !(litLines bins 32 (List.range 32)).contains k)

/-- One window of one monitored line (R226). The rounding of REL to hundredths of a dB is free. -/
def State.lineWindow (s : State) (slot line ref p : Nat) : State :=
  let i := 32 * slot + line
  let (up, s) := s.free 35 2
  let rel := rel16 (relFloor p ref + up)
  let x := s.lineSt i
  let warn := if atOrBelow p ref (s.rd .optCfg_warnDb 0) then min 4 (x.warn + 1) else 0
  let drain := if atOrBelow p ref (s.rd .optCfg_drainDb 0) then min 2 (x.drain + 1) else 0
  let clear := if lineBack p ref then min 391 (x.clear + 1) else 0
  let s := s.onOpt (fun o => { o with line := kput o.line i ⟨some ref, warn, drain, clear⟩ })
  let s := s.wr .optLinePwr_rel i rel
  let s := s.when (warn == 4 && !s.flag .optLinePwr_warn i) (fun s =>
    let s := (s.wr .optLinePwr_warn i 1).fadeEvent slot line 0 rel
    (s.onLine slot line).foldl (fun s n => s.wr .optChanStatus_fadeWarn n 1) s)
  let s := s.when (drain == 2 && !s.flag .optLinePwr_drain i) (fun s =>
    ((s.wr .optLinePwr_drain i 1).fadeEvent slot line 1 rel).fadeDrain slot line)
  s.when (clear == 391 && (s.flag .optLinePwr_warn i || s.flag .optLinePwr_drain i)) (fun s =>
    let s := (s.wr .optLinePwr_warn i 0).wr .optLinePwr_drain i 0
    let s := (s.onLine slot line).foldl (fun s n => s.wr .optChanStatus_fadeWarn n 0) s
    let held := ((List.range 8).map (fun j => 8 * slot + j)).filter (fun n => kget s.opt.hold n == some line)
    held.foldl (fun s n => ((s.fadeFree n).wr .corePortCfg_drain n 0).reDrain n) s)

/-- One window of a capture in progress on a slot; the sixteenth fixes the references. A line dark in one of them has none (R225). -/
def State.captureWindow (s : State) (slot : Nat) (bins dark : List Nat) : State :=
  let left := sget 0 s.opt.capN slot
  if left = 0 then s
  else
    let s := (List.range 32).foldl (fun s k =>
      let i := 32 * slot + k
      let sum : Option Nat := if left = 16 then some 0 else (kget s.opt.capSum i).getD none
      let v : Option Nat := if dark.contains k then none else sum.map (· + nthD bins k 0)
      s.onOpt (fun o => { o with capSum := kput o.capSum i v })) s
    let s := s.onOpt (fun o => { o with capN := sset 0 o.capN slot (left - 1) })
    if left = 1 then
      let s := (List.range 32).foldl (fun s k =>
        let i := 32 * slot + k
        let ref := (kget s.opt.capSum i).getD none
        let s := s.onOpt (fun o => { o with line := kput o.line i ⟨ref, 0, 0, 0⟩, capSum := kdel o.capSum i })
        s.wr .optLinePwr_refValid i (b2n ref.isSome)) s
      (s.wr .optSlotCtrl_refValid slot 1).wr .optSlotCtrl_recapture slot 0
    else s

/-- Every 256 µs the power of each comb line is measured at a module's tap, from the pilot bins of its last 256 samples (R207, R225,
R226). -/
def doLinePowerWindow (slot : Fin 64) (s : State) : State :=
  let t := slot.val
  if s.off || !(s.flag .optModStatus_s8 t || s.flag .optModStatus_trefy t) then s
  else
    let bins := pilotBins ((kget s.opt.tap t).getD [])
    let dark := darkLines bins
    let s := s.onOpt (fun o => { o with dark := o.dark.filter (fun i => i / 32 != t) ++ dark.map (fun k => 32 * t + k) })
    let s := (List.range 32).foldl (fun s k =>
      match (s.lineSt (32 * t + k)).ref with
      | some ref => s.lineWindow t k ref (nthD bins k 0)
      | none => s) s
    s.captureWindow t bins dark

/-- LINE_POWER_WINDOW (R225). -/
def execLinePowerWindow (region n : Fin 8) (s : State) : Host.Outcome State Fault Refusal :=
  settle s (doLinePowerWindow (slotOf region n) s)

/-- A slot's references are captured over its next 16 windows (R225). -/
def State.doRecapture (s : State) (t : Nat) : State :=
  (s.wr .optSlotCtrl_recapture t 1).onOpt (fun o => { o with capN := sset 0 o.capN t 16 })

/-- RECAPTURE. -/
def execRecapture (src : Src) (slot : Fin 64) (s : State) : Host.Outcome State Fault Refusal :=
  settle s (s.onWrite src .optSlotCtrl slot.val (fun s => s.doRecapture slot.val))

/-- The spare laser has settled and the ring has relocked, or has not (R227). -/
def doSpareSettled (n : Fin 512) (ok : Bool) (s : State) : State :=
  if s.inCalFor n.val .laser then
    let s := if ok then ((s.bumpOpt n.val .spareSwap).wr .optChanStatus_spare n.val 1).setLock (2 * n.val) true
      else s.setLock (2 * n.val) false
    s.leaveCal n.val
  else s

/-- SPARE_SETTLED (R227). -/
def execSpareSettled (n : Fin 512) (ok : Bool) (s : State) : Host.Outcome State Fault Refusal := settle s (doSpareSettled n ok s)

end Sys2Proof.Machine
end

