-- ==== Sys2Proof/Machine/Ports.lean ====
section
/-! DEFINITION. The commands of ports, lanes and modules (chapter 3). -/

namespace Sys2Proof.Machine

/-! Lane tests (R98 to R100). -/

/-- The test in progress, changed. -/
def State.onTest (s : State) (g : LaneTest → LaneTest) : State := s.onPorts (fun w => { w with test := w.test.map g })

/-- Give lanes TEST_RESULT SKIPPED and take them out of the test. -/
def State.skipLanes (s : State) (ls : List Nat) : State :=
  (ls.foldl (fun s l => s.wr .coreLaneStatus_testResult l 3) s).onTest (fun t => { t with todo := t.todo.filter (fun l => !ls.contains l) })

/-- Take the next lane of the test: a lane of no enabled port, or of a port in DOWN, at once; an enabled port first goes through
DRAINING into CAL under ACCEPTED_DEFERRED (R100). A port that goes DOWN, still enabled, before it reaches CAL leaves the test waiting
with START at 1 (the model's choice, log entry 21). `fuel` bounds the ports that are skipped. -/
def State.nextTest (s : State) : Nat → State
  | 0 => s
  | fuel + 1 =>
    match s.ports.test with
    | none => s
    | some t =>
      match t.todo with
      | [] => (s.onPorts (fun w => { w with test := none })).wr .coreLaneTest_start 0 0
      | l :: _ =>
        match (if t.deferred then s.portOfLane l else none) with
        | none => s.beginLane l
        | some n =>
          if s.portState n = 0 then s.beginLane l
          else
            let mine := t.todo.filter (fun x => (s.lanesOf n).contains x)
            if s.soleMember n || s.inCalFor n .cal then (s.skipLanes mine).nextTest fuel
            else ((s.onTest (fun t => { t with port := some n })).request n .test).tryCal n

/-- A write of CORE_LANE_TEST (R99). -/
def doLaneTestStart (src : Src) (val : BitVec 32) (s : State) : State :=
  s.onWrite src .coreLaneTest 0 (fun s =>
    let v := val.toNat
    let s := s.writeFields .coreLaneTest 0 v (2 ^ 32 - 1)
    if !bitAt v 31 then s
    else
      let lanes := if s.flag .coreLaneTest_all 0 then List.range 512 else [s.rd .coreLaneTest_lane 0]
      let owned := lanes.any (fun l => (s.portOfLane l).isSome)
      if s.flag .coreLaneTest_external 0 && owned then s.wr .coreLaneTest_accept 0 3
      else
        let deferred := owned && s.rd .gwMode_mode 0 != 2
        let s := (s.wr .coreLaneTest_accept 0 (if deferred then 2 else 1)).wr .coreLaneTest_start 0 1
        (s.onPorts (fun w => { w with test := some ⟨lanes, none, deferred, none⟩ })).nextTest 513)

/-- LANE_TEST_START (R99). -/
def execLaneTestStart (src : Src) (val : BitVec 32) (s : State) : Host.Outcome State Fault Refusal := settle s (doLaneTestStart src val s)

/-- A lane is declared failed: the mark and the fault record (R91). -/
def State.failLane (s : State) (l cause : Nat) : State := (s.wr .coreLaneStatus_failed l 1).fault 0x0020 1 [l, cause]

/-- A lane of an enabled port has been declared failed: a port that uses it re-forms or goes DOWN, and one in DOWN may train on what is
left (R86, R90). A lane outside a reduced run is not one the port uses. -/
def State.laneLost (s : State) (l n : Nat) : State :=
  let a := n + (s.pst n).runAt
  if s.portState n = 0 then s.leaveDown n
  else if a ≤ l ∧ l < a + 2 ^ s.rd .corePortStatus_widthNow n then s.reform n else s

/-- The tests of a port's lanes are over: it leaves CAL, and the test goes on (R100). -/
def State.testPortDone (s : State) (n : Nat) : State :=
  ((s.onTest (fun t => { t with port := none })).leaveCal n).nextTest 513

/-- A 2 ms test of the lane under test ends (R91, R98). A port in DOWN whose lanes are no longer under test may train (R86). -/
def doLaneTestComplete (pass : Bool) (s : State) : State :=
  match s.ports.test with
  | none => s
  | some t =>
    match t.lane with
    | none => s
    | some l =>
      let s := (s.wr .coreLaneStatus_underTest l 0).wr .coreLaneStatus_testResult l (if pass then 1 else 2)
      let s := s.onTest (fun t => { t with lane := none })
      let s := if pass then s.wr .coreLaneStatus_failed l 0 else s.failLane l 0
      match t.port with
      | some n =>
        match t.todo with
        | m :: _ => if (s.lanesOf n).contains m && s.inCalFor n .test then s.beginLane m else s.testPortDone n
        | [] => s.testPortDone n
      | none =>
        let s := s.nextTest 513
        match s.portOfLane l with
        | some n => if pass then s.leaveDown n else s.laneLost l n
        | none => s

/-- LANE_TEST_COMPLETE (R98). -/
def execLaneTestComplete (pass : Bool) (s : State) : Host.Outcome State Fault Refusal := settle s (doLaneTestComplete pass s)

/-- Any test on the lanes of a port whose EN is written 0 ends as SKIPPED (R86). -/
def State.endTests (s : State) (n : Nat) : State :=
  match s.ports.test with
  | none => s
  | some t =>
    let mine := (s.lanesOf n).filter (fun l => t.todo.contains l && t.port == some n || t.lane == some l)
    if mine.isEmpty then s
    else
      let s := (s.skipLanes mine).onTest (fun t => { t with
        lane := (match t.lane with | some l => if mine.contains l then none else some l | none => none), port := none })
      let s := mine.foldl (fun s l => s.wr .coreLaneStatus_underTest l 0) s
      let s := s.setPst n (fun x => { x with waits := x.waits.filter (· != .test) })
      s.nextTest 513

/-! Port configuration (R72, R86, R226). -/

/-- R72: a write of CORE_PORT_CFGn is refused. -/
def State.portRefused (s : State) (n : Nat) (en : Bool) (w mode : Nat) (byp : Bool) : Bool :=
  n % 2 ^ w != 0 || mode == 3 || (byp && (mode != 0 || w != 0)) ||
    (en && ((List.range (2 ^ w)).any (fun j => match s.portOfLane (n + j) with | some p => p != n | none => false) ||
      (s.enabledPorts.any (fun p => p != n && decide (n ≤ p) && decide (p < n + 2 ^ w))))) ||
    (s.portState n != 0 && (w != s.rd .corePortCfg_width n || mode != s.rd .corePortCfg_mode n || byp != s.isBypass n))

/-- What follows an accepted write of CORE_PORT_CFGn: `was` is EN before it. -/
def State.portFollows (s : State) (n : Nat) (was : Bool) : State :=
  if !s.flag .corePortCfg_en n then
    (if was ∨ s.portState n ≠ 0 then ((s.goDown n none).endTests n).setPst n (fun x => { x with powered := false }) else s)
  else if !was then (s.setPst n (fun x => { x with powered := false })).leaveDown n
  else if s.portState n = 0 then s.leaveDown n
  else s.reDrain n

/-- A write of CORE_PORT_CFGn is applied or refused in full (R72). -/
def doPortCfgWrite (src : Src) (n : Fin 512) (val : BitVec 32) (s : State) : State :=
  s.onWrite src .corePortCfg n.val (fun s =>
    let v := val.toNat
    let i := n.val
    if s.portRefused i (bitAt v 31) (bits v 26 2) (bits v 24 2) (bitAt v 22) then s.wr .corePortStatus_cfgRefused i 1
    else
      let was := s.flag .corePortCfg_en i
      -- a packet cut off by EN written 0 is counted while EN is still 1 (R476); the buckets keep what they gained at the old rate (R164)
      let s := (s.when (was && !bitAt v 31) (fun s => s.abortIfLinked i)).fixBuckets i
      ((s.writeFields .corePortCfg i v (2 ^ 32 - 1)).fadeFree i).portFollows i was)

/-- PORT_CFG_WRITE (R72). -/
def execPortCfgWrite (src : Src) (n : Fin 512) (val : BitVec 32) (s : State) : Host.Outcome State Fault Refusal :=
  settle s (doPortCfgWrite src n val s)

/-! Training (R86, R87, R417). -/

/-- The 1 ms power-on wait of an enabled port's lanes ends (R417). -/
def doLanePowerupWaitExpiry (n : Fin 512) (s : State) : State :=
  let i := n.val
  if s.flag .corePortCfg_en i ∧ !(s.pst i).powered ∧ s.lanesAllowed then
    let s := s.setPst i (fun x => { x with powered := true })
    if s.portState i = 1 ∧ (s.pst i).at_ = .powerup then s.nextAttempt i else s
  else s

/-- LANE_POWERUP_WAIT_EXPIRY (R417). -/
def execLanePowerupWaitExpiry (n : Fin 512) (s : State) : Host.Outcome State Fault Refusal := settle s (doLanePowerupWaitExpiry n s)

/-- The backoff after a failed attempt ends (R87). -/
def doTrainingBackoffExpiry (n : Fin 512) (s : State) : State :=
  if s.portState n.val = 1 ∧ (s.pst n.val).at_ = .backoff then s.nextAttempt n.val else s

/-- TRAINING_BACKOFF_EXPIRY (R87). -/
def execTrainingBackoffExpiry (n : Fin 512) (s : State) : Host.Outcome State Fault Refusal := settle s (doTrainingBackoffExpiry n s)

/-- FAIL_REASON of a phase that runs out (Table 3.6). An Ethernet-mode attempt fails for want of signal, in link training, for want of
lock or alignment, or in its negotiation, which is AN_FAILED where a native port's is VERSION (R81; log entry 21). -/
def phaseReason (native : Bool) (phase : Nat) (deskew : Bool) : Nat :=
  if phase = 0 then 1 else if phase = 1 then 2 else if phase = 2 then (if deskew then 5 else 4) else (if native then 3 else 11)

/-- An attempt fails: the port backs off, or goes DOWN when TRAIN_RETRIES attempts have been made (R86, R87). -/
def State.attemptFails (s : State) (n reason : Nat) : State :=
  let s := s.setPst n (fun x => { x with ended := true, fast := false })
  let lim := s.rd .corePortCfg_trainRetries n
  if lim ≠ 0 ∧ lim ≤ (s.pst n).tries then s.goDown n (some reason)
  else (s.setPst n (fun x => { x with at_ := .backoff })).failReason n (some reason)

/-- A training phase runs out, on an Ethernet-mode port at its limit of IEEE 802.3; a fast retrain has phases 3 and 4 only (R87,
R97). -/
def doTrainingPhaseTimeout (n : Fin 512) (phase : Fin 4) (deskew : Bool) (s : State) : State :=
  let i := n.val
  if s.portState i = 1 ∧ (s.pst i).at_ = .attempt ∧ !((s.pst i).fast && decide (phase.val < 2)) then
    s.attemptFails i (phaseReason (s.isNative i) phase.val deskew)
  else s

/-- TRAINING_PHASE_TIMEOUT (R87). -/
def execTrainingPhaseTimeout (n : Fin 512) (phase : Fin 4) (deskew : Bool) (s : State) : Host.Outcome State Fault Refusal :=
  settle s (doTrainingPhaseTimeout n phase deskew s)

/-- The lanes of the run in use have signal, clock and codeword lock, with the polarity found (R73). -/
def State.lanesLocked (s : State) (n : Nat) (pol : Nat) : State :=
  (List.range (2 ^ s.rd .corePortStatus_widthNow n)).foldl (fun s j =>
    let l := n + (s.pst n).runAt + j
    (((s.wr .coreLaneStatus_sigDet l 1).wr .coreLaneStatus_cdrLock l 1).wr .coreLaneStatus_fecLock l 1).wr .coreLaneStatus_rxPolInv l
      (b2n (bitAt pol ((s.pst n).runAt + j)))) s

/-- A lane in use is one that the far end has declared failed. -/
def State.farHit (s : State) (n : Nat) : Bool :=
  (List.range (2 ^ s.rd .corePortStatus_widthNow n)).any (fun j => bitAt (s.pst n).far ((s.pst n).runAt + j))

/-- An attempt succeeds: a native port enters HELLO and sends one at once; an Ethernet port enters UP or DRAINING (R86, R92, R97).
`farBad` is the set of lanes that the far end of a native port declares failed in phase 4: where the run in use holds one, the ends
agree on a smaller run and the port re-forms on it, or goes DOWN (R87, R90; log entry 21). -/
def doTrainingSuccess (n : Fin 512) (polInv : BitVec 8) (lrx : BitVec 16) (farBad : BitVec 8) (s : State) : State :=
  let i := n.val
  if s.portState i = 1 ∧ (s.pst i).at_ = .attempt then
    let fast := (s.pst i).fast
    let s := s.when (s.isNative i) (fun s => s.setPst i (fun x => { x with far := farBad.toNat }))
    if s.farHit i then s.reform i else
    let s := s.lanesLocked i polInv.toNat
    let s := s.setPst i (fun x => { x with at_ := .idle, fast := false, ended := true, good := 0 })
    if s.isNative i then (s.setPort i 2).sendHello i fast
    else (s.setPst i (fun x => { x with lrx := lrx.toNat })).toUp i
  else s

/-- TRAINING_SUCCESS (R86). -/
def execTrainingSuccess (n : Fin 512) (lanes : TrainLanes) (lrx : BitVec 16) (s : State) :
    Host.Outcome State Fault Refusal := settle s (doTrainingSuccess n lanes.polInv lrx lanes.farBad s)

/-! Loss of link and failed lanes (R89 to R91). -/

/-- The FAIL_REASON that the specification gives a cause of loss, where it gives one (R94, R95, R467). -/
def LossCause.reason : LossCause → Option Nat
  | .helloTimeout => some 6 | .wrongPeer => some 7 | .noSignal _ _ => none | .codewords => none | .alignment => none

/-- A cause applies to a port of its mode (R89). -/
def lossFits (cause : LossCause) (native : Bool) : Bool :=
  match cause with | .alignment => !native | .noSignal _ _ => native | .codewords => native | .helloTimeout => native | .wrongPeer => native

/-- SIG_DET and CDR_LOCK of the lanes that have lost signal or clock recovery. -/
def State.lanesDark (s : State) (n : Nat) : LossCause → State
  | .noSignal sig cdr => (s.lanesOf n).foldl (fun s l =>
      let s := s.when (bitAt sig.toNat (l - n)) (fun s => s.wr .coreLaneStatus_sigDet l 0)
      s.when (bitAt (sig ||| cdr).toNat (l - n)) (fun s => s.wr .coreLaneStatus_cdrLock l 0)) s
  | _ => s

/-- A port loses its link (R89). -/
def doLossOfLink (n : Fin 512) (cause : LossCause) (s : State) : State :=
  if lossFits cause (s.isNative n.val) && s.linked n.val then (s.lanesDark n.val cause).loseLink n.val (LossCause.reason cause) else s

/-- LOSS_OF_LINK (R89). -/
def execLossOfLink (n : Fin 512) (cause : LossCause) (s : State) : Host.Outcome State Fault Refusal := settle s (doLossOfLink n cause s)

/-- A lane is declared failed, and its port re-forms or goes DOWN (R90, R91). -/
def doLaneFailed (lane : Fin 512) (cause : Fin 3) (s : State) : State :=
  let l := lane.val
  if s.off || s.flag .coreLaneStatus_failed l then s
  else
    let s := s.failLane l cause.val
    match s.portOfLane l with
    | some n => if s.portState n = 0 then s else s.laneLost l n
    | none => s

/-- LANE_FAILED (R91). -/
def execLaneFailed (lane : Fin 512) (cause : Fin 3) (s : State) : Host.Outcome State Fault Refusal := settle s (doLaneFailed lane cause s)

/-! HELLO (R92 to R97, R218). -/

/-- Every 1 ms (R92). -/
def doHelloTxTimer (n : Fin 512) (s : State) : State :=
  if s.linked n.val ∧ s.isNative n.val ∧ !s.off then s.sendHello n.val false else s

/-- HELLO_TX_TIMER (R92). -/
def execHelloTxTimer (n : Fin 512) (s : State) : Host.Outcome State Fault Refusal := settle s (doHelloTxTimer n s)

/-- The sender of a valid HELLO is recorded; a change of neighbour raises STATE_EVENT while none is expected (R96). The sender's
identity is what CORE_NBR holds of it, its GID, port, TYPE and NO_GID, and not its DEVICE_ID (the model's choice, log entry 21). -/
def State.recordNbr (s : State) (n gid port ty : Nat) (draining noGid : Bool) : State :=
  let changed := s.flag .coreNbr_valid n && (s.rd .coreNbr_peerGid n != gid || s.rd .coreNbr_peerPort n != port ||
    s.rd .coreNbr_peerType n != ty % 16 || s.flag .coreNbr_noGid n != noGid) && !s.flag .coreNbrExpect_valid n
  let s := ((s.wr .coreNbr_valid n 1).wr .coreNbr_draining n (b2n draining)).wr .coreNbr_noGid n (b2n noGid)
  let s := ((s.wr .coreNbr_peerType n ty).wr .coreNbr_peerGid n gid).wr .coreNbr_peerPort n port
  let s := (s.wr .coreNbr_age n 0).setPst n (fun x => { x with heard := some s.tb.mono })
  (s.when changed (fun s => s.portEvent n)).syncFence n

/-- A HELLO fails the identity checks (R94, R356). -/
def State.wrongPeer (s : State) (n fabric gid port : Nat) : State :=
  let first := !s.flag .corePortStatus_wrongPeer n
  let s := (s.wr .corePortStatus_wrongPeer n 1).failReason n (some 7)
  let s := s.setPst n (fun x => { x with good := 0 })
  let s := s.when first (fun s => (s.fault 0x0021 1 [n, fabric, gid, port]).lowerPort n (s.rd .fenWeight_wLoss 0))
  if s.portState n = 3 ∨ s.portState n = 4 then s.loseLink n (some 7) else s

/-- A link-local HELLO received on a port (R93 to R97, R218, Table 3.7). The answer of R97 is made in TRAINING and HELLO, valid or not,
once the HELLO is recorded as heard. A HELLO whose RVER is not 1 is not tested further, so it cannot set WRONG_PEER (the model's choice,
log entry 21). -/
def State.hello (s : State) (n : Nat) (q : Packet) : State :=
  let b := q.payload
  let f := fun a w => beNat (slice b a w)
  let flags := f 5 1
  let fabric := f 8 4
  let port := f 2 2
  let gid := q.sgid.toNat % 2 ^ 18
  let fast := bitAt flags 5
  let st := s.portState n
  let answer := fun (s : State) => s.when (fast && (st == 1 || st == 2)) (fun s => s.sendHello n true)
  if f 0 1 ≠ 1 then answer (s.setPst n (fun x => { x with good := 0 }))
  else if fabric ≠ s.rd .coreHelloCfg_fabricId 0 ∨ (s.flag .coreNbrExpect_valid n ∧
      (q.sgid.toNat ≠ s.rd .coreNbrExpect_peerGid n ∨ port ≠ s.rd .coreNbrExpect_peerPort n)) then
    (answer s).wrongPeer n fabric q.sgid.toNat port
  else
    let s := answer (s.setPst n (fun x => { x with seen := some (gid, port) }))
    if st = 1 then s else
    let seen := f 24 4
    let ok := bitAt seen 31 && f 28 2 == n && (match s.gid? with | some g => seen % 2 ^ 18 == g | none => true)
    if !ok then s.setPst n (fun x => { x with good := 0 })
    else
      let s := (s.wr .corePortStatus_wrongPeer n 0).setPst n (fun x => { x with good := x.good + 1 })
      let s := s.recordNbr n gid port (f 1 1) (bitAt flags 7) (bitAt flags 6)
      if s.portState n = 2 ∧ (2 ≤ (s.pst n).good ∨ fast) then s.toUp n else s

/-- A link-local HELLO (R93). -/
def doHelloReceived (pos : Nat) (s : State) : State :=
  match s.takeLocal pos (fun r => r.pkt.kind == 0x30 && isLinkLocal r.pkt.dgid) with
  | none => s
  | some (r, s) =>
    match r.inPort with
    | some n => s.hello n r.pkt
    | none => s

/-- HELLO_RECEIVED (R93). -/
def execHelloReceived (pos : Nat) (s : State) : Host.Outcome State Fault Refusal := settle s (doHelloReceived pos s)

/-- No HELLO for 3 ms (R95). -/
def doHelloTimeout (n : Fin 512) (s : State) : State := if s.isNative n.val then s.loseLink n.val (some 6) else s

/-- HELLO_TIMEOUT (R95). -/
def execHelloTimeout (n : Fin 512) (s : State) : Host.Outcome State Fault Refusal := settle s (doHelloTimeout n s)

/-! Modules (R74, R101, R102, R206). -/

/-- The lanes of a slot. -/
def slotLanes (t : Nat) : List Nat := (List.range 8).map (fun j => 8 * t + j)

/-- The references, levels and windows of a slot's lines are those of the module that was there: a new one starts without (R225). -/
def State.forgetLines (s : State) (t : Nat) : State :=
  let s := s.onOpt (fun o => { o with capN := sset 0 o.capN t 0, tap := kdel o.tap t, dark := o.dark.filter (fun i => i / 32 != t) })
  let s := s.wr .optSlotCtrl_recapture t 0
  (List.range 32).foldl (fun s k =>
    let i := 32 * t + k
    let s := s.onOpt (fun o => { o with line := kdel o.line i, capSum := kdel o.capSum i })
    (((s.wr .optLinePwr_refValid i 0).wr .optLinePwr_warn i 0).wr .optLinePwr_drain i 0).wr .optLinePwr_rel i 0) s

/-- A module is inserted (R101). Its references and spare laser start afresh (R225, R227), and its dither oscillators are set in
phase (R209). -/
def doModuleInserted (slot : Fin 64) (kind : ModuleKind) (rev : BitVec 8) (power : BitVec 4) (s : State) : State :=
  let t := slot.val
  if s.off || s.flag .optModStatus_present t then s
  else
    let s := ((s.wr .optModStatus_present t 1).wr .optModStatus_s8 t (b2n (kind == .s8))).wr .optModStatus_trefy t (b2n (kind == .trefy))
    let s := ((s.wr .optModStatus_ready t 0).wr .optModStatus_cmisRev t rev.toNat).wr .optModStatus_powerClass t power.toNat
    let s := s.onPorts (fun w => { w with
      waitReady := t :: w.waitReady.filter (· != t), slots := if w.slots.contains t then w.slots else t :: w.slots, apps := kdel w.apps t })
    let s := ((s.wr .optSlotCtrl_refValid t 0).wr .optSlotCtrl_spareUsed t 0).wr .optSlotCtrl_spareChan t 0
    let s := s.forgetLines t
    let s := (slotLanes t).foldl (fun s n => s.wr .optChanStatus_spare n 0) s
    let s := s.when (kind != .pluggable) (fun s => (s.sendOcl t 5 (s.rd .optLoopCfg_ditherAmp 0)).phaseSync t)
    s.event .optModStatus .optModStatus_modEvent t

/-- MODULE_INSERTED (R101). -/
def execModuleInserted (slot : Fin 64) (kind : ModuleKind) (rev : BitVec 8) (power : BitVec 4) (s : State) :
    Host.Outcome State Fault Refusal := settle s (doModuleInserted slot kind rev power s)

/-- A module is ready: data paths of matching ports are activated, and those ports may leave DOWN; the others stay there with
MODULE_MISMATCH (R101, R206). -/
def doModuleReady (slot : Fin 64) (apps : List ModApp) (s : State) : State :=
  let t := slot.val
  if s.off || !s.ports.waitReady.contains t then s
  else
    let s := (s.wr .optModStatus_ready t 1).onPorts (fun w => { w with waitReady := w.waitReady.filter (· != t), apps := kput w.apps t apps })
    let ports := (slotLanes t).filter (fun n => s.flag .corePortCfg_en n)
    let s := s.wr .optModStatus_dpActive t 0
    ports.foldl (fun s n => if s.appMatch n then s.leaveDown n else s.goDown n (some 10)) s

/-- MODULE_READY (R101). -/
def execModuleReady (slot : Fin 64) (apps : List ModApp) (s : State) : Host.Outcome State Fault Refusal := settle s (doModuleReady slot apps s)

/-- The 2 s in which the part waits for ModuleReady have passed (R101). -/
def doModuleReadyTimeout (slot : Fin 64) (s : State) : State := s.onPorts (fun w => { w with waitReady := w.waitReady.filter (· != slot.val) })

/-- MODULE_READY_TIMEOUT (R101). -/
def execModuleReadyTimeout (slot : Fin 64) (s : State) : Host.Outcome State Fault Refusal := settle s (doModuleReadyTimeout slot s)

/-- A module is removed: every port on its lanes goes DOWN; a calibration there is over; the plan's entries stay (R74, R228). -/
def doModuleRemoved (slot : Fin 64) (s : State) : State :=
  let t := slot.val
  if s.off || !s.flag .optModStatus_present t then s
  else
    let s := ((s.wr .optModStatus_present t 0).wr .optModStatus_s8 t 0).wr .optModStatus_trefy t 0
    let s := ((s.wr .optModStatus_ready t 0).wr .optModStatus_cmisRev t 0).wr .optModStatus_powerClass t 0
    let s := s.wr .optModStatus_dpActive t 0
    let s := s.onPorts (fun w => { w with waitReady := w.waitReady.filter (· != t), apps := kdel w.apps t, monitors := kdel w.monitors t })
    let s := s.onOpt (fun o => { o with
      cal := (match o.cal with | some n => if n / 8 = t then none else some n | none => none),
      restore := o.restore.filter (fun n => n / 8 != t),
      skip := if o.led then o.skip ++ (slotLanes t).filter (fun n => s.flag .optPlanNext_pending n) else o.skip })
    let s := s.when (s.flag .optCalStatus_active 0 && s.rd .optCalStatus_lane 0 / 8 == t) State.calOver
    let s := (slotLanes t).foldl (fun s n => [2 * n, 2 * n + 1].foldl (fun s k => (s.wr .optRingStatus_sweep k 0).setLock k false) s) s
    let s := ((slotLanes t).filter (fun n => s.flag .corePortCfg_en n)).foldl (fun s n => s.goDown n (some 9)) s
    s.event .optModStatus .optModStatus_modEvent t

/-- MODULE_REMOVED (R74). -/
def execModuleRemoved (slot : Fin 64) (s : State) : Host.Outcome State Fault Refusal := settle s (doModuleRemoved slot s)

/-- The part polls a module's monitors and flags (R101). -/
def doModulePoll (slot : Fin 64) (monitors : List Byte) (flags : BitVec 8) (s : State) : State :=
  if s.off || !s.flag .optModStatus_present slot.val then s
  else s.onPorts (fun w => { w with monitors := kput w.monitors slot.val (monitors ++ [flags]) })

/-- MODULE_POLL (R101). -/
def execModulePoll (slot : Fin 64) (monitors : List Byte) (flags : BitVec 8) (s : State) : Host.Outcome State Fault Refusal :=
  settle s (doModulePoll slot monitors flags s)

/-- A module interrupt arrives over the OCL (R101). -/
def doModuleInterrupt (slot : Fin 64) (_flags : BitVec 8) (s : State) : State := s.modInterrupt slot.val

/-- MODULE_INTERRUPT (R101). -/
def execModuleInterrupt (slot : Fin 64) (flags : BitVec 8) (s : State) : Host.Outcome State Fault Refusal :=
  settle s (doModuleInterrupt slot flags s)

/-- The bytes of module memory that hosts may not write: Page 10h, and the module global controls of the lower page, which CMIS
places at bytes 26 to 30 (R102; log entry 14). -/
def protectedByte (page byte : Nat) : Bool := (page == 0x10 && decide (128 ≤ byte)) || (decide (26 ≤ byte) && decide (byte ≤ 30))

/-- A write of OPT_MOD_ACC (R102, R210). -/
def doModuleAccess (src : Src) (val : BitVec 64) (s : State) : State :=
  s.onWrite src .optModAcc 0 (fun s =>
    let v := val.toNat
    let s := s.writeFields .optModAcc 0 v (2 ^ 64 - 1)
    if !bitAt v 63 then s
    else
      let t := s.rd .optModAcc_slot 0
      let byte := s.rd .optModAcc_byte 0
      let w := s.flag .optModAcc_write 0
      if !s.flag .optModStatus_present t then s.wr .optModAcc_status 0 1
      else if w && protectedByte (s.rd .optModAcc_page 0) byte then s.wr .optModAcc_status 0 3
      else if !s.flag .oclStatus_sync t then s.wr .optModAcc_status 0 4
      else
        -- the bank and page of a byte above the lower memory are selected first (CMIS; log entry 14)
        let upper := decide (128 ≤ byte)
        let s := (s.wr .optModAcc_start 0 1).onOpt (fun o => { o with twi := if upper then 2 else 0 })
        let s := s.when upper (fun s =>
          (s.sendOcl t 2 (twiPay 126 (s.rd .optModAcc_bank 0))).sendOcl t 2 (twiPay 127 (s.rd .optModAcc_page 0)))
        if w then s.sendOcl t 2 (twiPay byte (s.rd .optModAcc_data 0)) else s.sendOcl t 3 (twiPay byte 0))

/-- MODULE_ACCESS (R102). -/
def execModuleAccess (src : Src) (val : BitVec 64) (s : State) : Host.Outcome State Fault Refusal := settle s (doModuleAccess src val s)

/-- The module answers (R102). -/
def doModuleAccessComplete (ack : Bool) (data : BitVec 8) (s : State) : State :=
  if s.flag .optModAcc_start 0 then s.modAccDone ack data.toNat else s

/-- MODULE_ACCESS_COMPLETE (R102). -/
def execModuleAccessComplete (ack : Bool) (data : BitVec 8) (s : State) : Host.Outcome State Fault Refusal :=
  settle s (doModuleAccessComplete ack data s)

/-- No answer within 10 ms (R102). -/
def doModuleAccessTimeout (s : State) : State :=
  if s.flag .optModAcc_start 0 then (s.wr .optModAcc_status 0 4).wr .optModAcc_start 0 0 else s

/-- MODULE_ACCESS_TIMEOUT (R102). -/
def execModuleAccessTimeout (s : State) : Host.Outcome State Fault Refusal := settle s (doModuleAccessTimeout s)

/-! The SerDes reference (R467). -/

/-- Ports of a region, by first lane, that are enabled. -/
def State.regionPorts (s : State) (k : Nat) : List Nat := s.enabledPorts.filter (fun n => n / 64 == k)

/-- A region's SerDes reference is lost: every port of the region that is not DOWN goes to TRAINING with NO_SIGNAL. -/
def doSrefLost (k : Fin 8) (s : State) : State :=
  if s.off || s.ports.sref.contains k.val then s
  else
    let s := s.onPorts (fun w => { w with sref := k.val :: w.sref })
    ((s.regionPorts k.val).filter (fun n => s.portState n != 0)).foldl (fun s n =>
      let run := ((s.pst n).runAt, s.rd .corePortStatus_widthNow n)
      let lost := s.linked n
      let s := match s.opt.cal with | some m => if m = n then (s.restoreRings n).calOver else s | none => s
      (s.toTraining n run .idle false (some 1)).when lost (fun s => s.lowerPort n (s.rd .fenWeight_wLoss 0))) s

/-- SREF_LOST (R467). -/
def execSrefLost (k : Fin 8) (s : State) : Host.Outcome State Fault Refusal := settle s (doSrefLost k s)

/-- The reference has been present for 1 ms, and the region's ports retrain (R87, R467). -/
def doSrefRestored (k : Fin 8) (s : State) : State :=
  if s.off || !s.ports.sref.contains k.val then s
  else
    let s := s.onPorts (fun w => { w with sref := w.sref.filter (· != k.val) })
    (s.regionPorts k.val).foldl (fun s n =>
      if s.portState n = 1 ∧ (s.pst n).at_ = .idle then s.nextAttempt n else if s.portState n = 0 then s.leaveDown n else s) s

/-- SREF_RESTORED (R467). -/
def execSrefRestored (k : Fin 8) (s : State) : Host.Outcome State Fault Refusal := settle s (doSrefRestored k s)

end Sys2Proof.Machine
end

