-- ==== Sys2Proof/Machine/Gates.lean ====
section
/-! DEFINITION. The Figure: the cycle timer, gate lists, SYNC_IN and SYNC_OUT, and the count of time (R184 to R194, R202,
R203). -/

namespace Sys2Proof.Machine

/-- Replace the cycle timer. -/
def State.onGate (s : State) (g : Gate → Gate) : State := { s with gate := g s.gate }

/-- The timer runs. -/
def State.gateRuns (s : State) : Bool := s.flag .gateCycleCtrl_running 0

/-- Show the entry and the gate state in force at a port now (R184, R185). -/
def State.gateShow (s : State) (n : Nat) : State :=
  let w : Nat × Nat :=
    if s.follows n then
      let o := span32 s.gate.last s.now
      match (s.gateSpans n).reverse.find? (fun w => decide (w.2.1 ≤ o)) with
      | some w => (w.1, w.2.2.2 ||| 0x80)
      | none => (0, 0xFF)
    else (0, 0xFF)
  (s.wr .gatePortStatus_curEntry n w.1).wr .gatePortStatus_curState n w.2

/-- Show the entry of every port whose list is enabled. -/
def State.gateShowAll (s : State) : State :=
  (List.range 512).foldl (fun s n => if s.flag .gatePortCtrl_en n then s.gateShow n else s) s

/-- OUT_DIV as used. -/
def State.outDiv (s : State) : Nat := max 1 (s.rd .gateSyncCfg_outDiv 0)

/-- SYNC_OUT may pulse: RUN or DEGRADED, and SYNC_OUT_EN set (R203). -/
def State.mayPulse (s : State) : Bool :=
  (s.rd .cfgState_state 0 == 4 || s.rd .cfgState_state 0 == 5) && s.flag .gateSyncCfg_syncOutEn 0

/-- SYNC_OUT goes low. -/
def State.syncLow (s : State) : State :=
  if s.gate.pulse.isSome then (s.onGate (fun g => { g with pulse := none })).pin "SYNC_OUT" false else s

/-- Pulse SYNC_OUT at a boundary whose count is 0 (R190, R203). -/
def State.syncPulse (s : State) : State :=
  if s.gate.count = 0 ∧ s.mayPulse then
    (s.onGate (fun g => { g with pulse := some s.tb.mono })).pin "SYNC_OUT" true
  else s

/-- The pending commits apply (R188). -/
def State.gateCommits (s : State) : State :=
  (List.range 512).foldl (fun s n =>
    if s.flag .gatePortCtrl_commit n then
      (s.wr .gatePortCtrl_active n (1 - s.rd .gatePortCtrl_active n)).wr .gatePortCtrl_commit n 0
    else s) s

/-- A boundary at instant t: commits apply, the count moves, entry 0 of each active bank starts (R187 to R190). -/
def State.boundaryAt (s : State) (t : Nat) (fresh stepped : Bool) : State :=
  let s := s.gateCommits
  let c := if fresh then 0 else (s.gate.count + 1) % s.outDiv
  let s := s.onGate (fun g => { g with last := t, next := (t + g.cycle) % 2 ^ 32, lastStepped := stepped, nextStepped := false, count := c })
  s.syncPulse.gateShowAll

/-- The start boundary of R187 at instant t. -/
def State.startCycle (s : State) (t : Nat) (stepped : Bool) : State :=
  match s.gate.armed with
  | none => s
  | some a =>
    let s := s.onGate (fun g => { g with armed := none, cycle := a.2.1, limit := a.2.2 })
    let s := (s.wr .gateCycleCtrl_arm 0 0).wr .gateCycleCtrl_running 0 1
    s.boundaryAt t true stepped

/-- The boundary that is due, if one is: the armed start before the running timer's own boundary (R187). -/
def State.boundaryDue (s : State) : State :=
  let run := s.gateRuns && s.reached s.gate.next
  match s.gate.armed with
  | some a =>
    if s.reached a.1 && (!s.gateRuns || decide (span32 s.gate.last a.1 ≤ span32 s.gate.last s.gate.next)) then s.startCycle a.1 false
    else if run then s.boundaryAt s.gate.next false false else s
  | none => if run then s.boundaryAt s.gate.next false false else s

/-- The cycle and step limit that ARM captures. -/
def State.cycleTime (s : State) : Nat := min 16000000 (max 1000 (s.rd .gateCycleCfg_cycleTime 0))
def State.stepLimit (s : State) : Nat := min (s.rd .gateCycleCfg_stepLimit 0) (s.cycleTime / 16)

/-- How far a start lies ahead of now, in 1 to 2^31 − 1 or moved by the least number of cycles; and whether it was moved. -/
def startAhead (start now cyc : Nat) : Nat × Bool :=
  let d := span32 now start
  if 1 ≤ d ∧ d < 2 ^ 31 then (start, false)
  else
    -- late by b = now − S
    let b := span32 start now
    ((start + (b / cyc + 1) * cyc) % 2 ^ 32, true)

/-- GATE_CYCLE_ARM (R187). -/
def State.doArm (s : State) : State :=
  if s.flag .gateCycleCfg_en 0 then
    let a := startAhead (s.rd .gateNextCycleStart_start 0) s.now s.cycleTime
    let s := s.when a.2 (fun s => s.wr .gateCycleCtrl_startLate 0 1)
    (s.onGate (fun g => { g with armed := some (a.1, s.cycleTime, s.stepLimit) })).wr .gateCycleCtrl_arm 0 1
  else s

/-- GATE_CYCLE_ARM: a write of GATE_CYCLE_CTRL with ARM 1. -/
def execGateCycleArm (src : Src) (s : State) : Host.Outcome State Fault Refusal :=
  settle s (s.onWrite src .gateCycleCtrl 0 State.doArm)

/-- The timer stops: a pending ARM is cancelled, every gate opens and SYNC_OUT is low (R184, R187, R203). -/
def State.gateStop (s : State) : State :=
  let s := s.onGate (fun g => { g with armed := none })
  let s := (s.wr .gateCycleCtrl_arm 0 0).wr .gateCycleCtrl_running 0 0
  s.syncLow.gateShowAll

/-- A write of GATE_CYCLE_CFG (R187). -/
def State.writeCycleCfg (s : State) (val mask : Nat) : State :=
  let s := s.writeFields .gateCycleCfg 0 val mask
  if s.flag .gateCycleCfg_en 0 then s else s.gateStop

/-- GATE_CYCLE_STOP: a write of GATE_CYCLE_CFG; EN 0 stops the timer at once. -/
def execGateCycleStop (src : Src) (val : BitVec 64) (s : State) : Host.Outcome State Fault Refusal :=
  settle s (s.onWrite src .gateCycleCfg 0 (fun s => s.writeCycleCfg val.toNat (2 ^ 64 - 1)))

/-- GATE_CYCLE_BOUNDARY (R187 to R190). -/
def execGateCycleBoundary (s : State) : Host.Outcome State Fault Refusal := settle s s.boundaryDue

/-- SYNC_OUT_PULSE_END (R203). -/
def execSyncOutPulseEnd (s : State) : Host.Outcome State Fault Refusal :=
  settle s (match s.gate.pulse with
    | some t => if t + 1000 ≤ s.tb.mono then s.syncLow else s
    | none => s)

/-- GATE_ENTRY_CHANGE (R185): the entry in force at this instant is shown and opens and closes the gates. -/
def execGateEntryChange (port : Fin 512) (s : State) : Host.Outcome State Fault Refusal := settle s (s.gateShow port)

/-- A GATE_PORT_CTRL write that R10 does not ignore: an active LEN field that would change is kept while the port follows its
list (R188). -/
def State.writePortCtrl (s : State) (n val mask : Nat) : State :=
  let act := if s.rd .gatePortCtrl_active n = 1 then Fld.gatePortCtrl_len1 else Fld.gatePortCtrl_len0
  let lo := Reg.gatePortCtrl.bitOf act
  let old := s.rd act n
  let guarded := s.follows n && accessValue .rw old (bits val lo 7) (bits mask lo 7) != old
  let t := s.writeFields .gatePortCtrl n val mask
  let t := t.when guarded (fun t => (t.wr act n old).wr .gatePortStatus_activeWrite n 1)
  let t := t.when (bitAt val 30 && bitAt mask 30) (fun t => t.wr .gatePortCtrl_commit n 1)
  t.when (t.flag .gatePortCtrl_en n != s.flag .gatePortCtrl_en n) (fun t => t.gateShow n)

/-- A write of GATE_PORT_CTRL; while COMMIT reads 1 it is ignored in full, with ACTIVE_WRITE while the port follows its list
(R188, R10). -/
def State.portCtrlWrite (s : State) (src : Src) (n val mask : Nat) : State :=
  if s.flag .gatePortCtrl_commit n && s.accepts src .gatePortStatus n then
    s.when (s.follows n) (fun s => s.wr .gatePortStatus_activeWrite n 1)
  else s.onWrite src .gatePortCtrl n (fun s => s.writePortCtrl n val mask)

/-- GATE_COMMIT: a write of GATE_PORT_CTRL. -/
def execGateCommit (src : Src) (port : Fin 512) (val : BitVec 32) (s : State) : Host.Outcome State Fault Refusal :=
  settle s (s.portCtrlWrite src port val.toNat (2 ^ 32 - 1))

/-- A GATE_LIST write is ignored: to the active bank, or to either while COMMIT reads 1, while the port follows its list. -/
def State.listGuarded (s : State) (n b : Nat) : Bool :=
  s.follows n && (s.rd .gatePortCtrl_active n == b || s.flag .gatePortCtrl_commit n)

/-- A write of a gate list entry (R188). -/
def State.writeGateList (s : State) (i val mask : Nat) : State :=
  if s.listGuarded (i / 128) (i / 64 % 2) then s.wr .gatePortStatus_activeWrite (i / 128) 1
  else s.writeFields .gateList i val mask

/-- GATE_LIST_WRITE. -/
def execGateListWrite (src : Src) (port : Fin 512) (bank : Fin 2) (entry : Fin 64) (val : BitVec 32) (s : State) :
    Host.Outcome State Fault Refusal :=
  settle s (s.onWrite src .gateList (gateIdx port bank entry) (fun s => s.writeGateList (gateIdx port bank entry) val.toNat (2 ^ 32 - 1)))

/-- LAST_OFFSET: ns, two's complement, saturating at ±8,388,607. -/
def offset24 (d : Int) : Nat := ((max (-8388607) (min 8388607 d)) % 2 ^ 24).toNat

/-- A matched edge (R189). `late` when it is matched to the boundary that has occurred; `off` is te less that boundary. -/
def State.edgeMatched (s : State) (te : Nat) (late pend : Bool) (off : Nat) : State :=
  let s := s.wr .gateSyncStatus_lastOffset 0 (offset24 (if late then (off : Int) else -(off : Int)))
  if s.gate.limit < off then (s.bumpChip .syncOutside).event .gateSyncStatus .gateSyncStatus_outsideEvent 0
  else if late && s.gate.lastStepped then s.bumpChip .syncExtra
  else
    let s := if late then
        s.onGate (fun g => { g with next := (te + g.cycle) % 2 ^ 32, lastStepped := true, count := 0 })
      else if pend then s.startCycle te true
      else s.boundaryAt te true true
    s.event .gateSyncStatus .gateSyncStatus_stepEvent 0

/-- An edge that R202 accepts, with SYNC_IN enabled and the timer running: it is matched to the nearer boundary (R189). -/
def State.edgeMatch (s : State) (te : Nat) : State :=
  let s := s.boundaryDue
  let e := s.gateEnd
  let pend := decide (e < span32 s.gate.last s.gate.next)
  let o := span32 s.gate.last te
  let late := decide (o ≤ e - o)
  s.edgeMatched te late pend (if late then o else e - o)

/-- SYNC_IN_EDGE (R189, R202). -/
def execSyncInEdge (s : State) : Host.Outcome State Fault Refusal :=
  settle s (
    if s.off || s.landsHeld then s
    else if s.gate.edge.any (fun t => decide (s.tb.mono < t + 100)) then
      s.when (s.flag .gateSyncCfg_syncInEn 0) (fun s => s.bumpChip .syncExtra)
    else
      let s := (s.onGate (fun g => { g with edge := some s.tb.mono })).wr .gateSyncEdge_te 0 s.now
      if s.flag .gateSyncCfg_syncInEn 0 && s.gateRuns then s.edgeMatch s.now else s)

/-- Q of R191. -/
def timeQ : Nat := 65536000000000

/-- The fraction after one TIME_CLK cycle, before its whole part is taken: F + Q + RATE (R191, R192). -/
def State.fracSum (s : State) : Nat := ((s.tb.frac + timeQ : Nat) + signed 32 (s.rd .timeRate_rate 0)).toNat

/-- Whether one cycle carries TIME_NS past 0xFFFF_FFFF (R194). -/
def State.tickWraps (s : State) : Bool := decide (2 ^ 32 ≤ s.now + s.fracSum / timeQ)

/-- The time base after one cycle. -/
def State.ticked (s : State) : TimeBase :=
  let a := s.fracSum / timeQ
  { s.tb with ns := BitVec.ofNat 32 (s.now + a), frac := s.fracSum % timeQ, mono := s.tb.mono + a }

/-- TIME_NS wraps by counting: WRAP and the epoch (R194, R435). -/
def State.wrapped (s : State) : State :=
  ({ s with tel := { s.tel with epoch := s.tel.epoch + 1 } }).event .timeStatus .timeStatus_wrap 0

/-- TIME_CLK_TICK (R191, R194). -/
def execTimeClkTick (s : State) : Host.Outcome State Fault Refusal :=
  if s.tb.counting && !s.off then
    let t := if s.tickWraps then s.wrapped else s
    .next { t with pending := s.pending, tb := s.ticked, i3c := s.i3c, jtag := s.jtag }
  else .next s

end Sys2Proof.Machine
end

