-- ==== Sys2Proof/Machine/SvcOps.lean ====
section
/-! DEFINITION. Service entries, requests and the answers that the part makes to them (R289 to R299). -/

namespace Sys2Proof
open Machine

/-! Fields of an SVC_REQ (Tables 2.4 and 11.2). -/
def Packet.svc (p : Packet) : Nat := bits p.w2.toNat 58 6
def Packet.sarg (p : Packet) : Nat := bits p.w2.toNat 0 58
def Packet.npkt (p : Packet) : Nat := bits p.sarg 50 8
def Packet.idx (p : Packet) : Nat := bits p.sarg 42 8
def Packet.op (p : Packet) : Nat := bits p.sarg 38 4
def Packet.parm (p : Packet) : Nat := bits p.sarg 32 6

end Sys2Proof

namespace Sys2Proof.Machine

/-- Replace the services. -/
def State.onSvc (s : State) (g : Svc → Svc) : State := { s with svc := g s.svc }
/-- Replace the engines. -/
def State.onEng (s : State) (g : Eng → Eng) : State := { s with eng := g s.eng }

/-! Fields of a service entry (Table 11.1). -/
def seValid (e : Nat) : Bool := bitAt e 511
def seSession (e : Nat) : Bool := bitAt e 510
def seMulti (e : Nat) : Bool := bitAt e 509
def seKind (e : Nat) : Nat := bits e 506 3
def seClass (e : Nat) : Nat := if bitAt e 505 then bits e 502 3 else 4
def seRegion (e : Nat) : Nat := bits e 499 3
def seGids (e : Nat) : Nat := bits e 483 16
def seLstride (e : Nat) : Nat := bits e 467 16
def seJoinNs (e : Nat) : Nat := min 2000 (bits e 456 11)
def seJoinMax (e : Nat) : Nat := let j := bits e 449 7; if j = 0 then 1 else min 64 j
def seAdmEn (e : Nat) : Bool := bitAt e 448
def seAdmRate (e : Nat) : Nat := bits e 428 20
def seAdmBurst (e : Nat) : Nat := max 1 (bits e 412 16)
def seLatTol (e : Nat) : Nat := bits e 396 16
def seRetry (e : Nat) : Nat := bits e 385 11
def seMaxResp (e : Nat) : Nat := min 1048576 (bits e 364 21)
def seRunLimit (e : Nat) : Nat := bits e 344 20
def seMode (e : Nat) : Nat := bits e 336 8
def seSlotSize (e : Nat) : Nat := 2 ^ (8 + min 12 (bits e 332 4))
def seSlots (e : Nat) : Nat := bits e 320 12
def seInbox (e : Nat) : Nat := bits e 280 40 / 64 * 64
def seHead (e : Nat) : Nat := bits e 240 40
def seParam (e : Nat) : Nat := bits e 200 40
def seTelGrant (e : Nat) : Nat := bits e 168 32

/-- An entry in use: VALID with a KIND that is not reserved (R288, R289). -/
def seLive (e : Nat) : Bool := seValid e && decide (seKind e < 4)

/-- The service entry of a number. -/
def State.svcEntry (s : State) (sv : Nat) : Nat := sget 0 s.tab.svc sv

/-- NPKT and IDX as the entry reads them: 0 while MULTI is 0. -/
def reqNpkt (e : Nat) (p : Packet) : Nat := if seMulti e then p.npkt else 0
def reqIdx (e : Nat) (p : Packet) : Nat := if seMulti e then p.idx else 0

/-- SVC_RESP of STATUS ERROR with the payload of Table 11.4. -/
def State.svcError (s : State) (r : Deliv) (reason detail : Nat) : State :=
  s.respond r 0x19 (2 * 256) r.pkt.w2 (beBytes 4 (reason * 2 ^ 24 + detail % 256))

/-- SVC_RESP of STATUS OK. -/
def State.svcOk (s : State) (r : Deliv) (body : List Byte) : State := s.respond r 0x19 0 r.pkt.w2 body

/-- A delivered packet whose table entry cannot be trusted goes to the exception path (R36). -/
def State.puntEcc (s : State) (r : Deliv) (index : Nat) : State :=
  (s.bumpTab .tableEcc).injectAt (s.answerRegion r) (.porxel r.pkt) r.pkt.tc.toNat (.go (.punt 7 0 index)) (r.inPort.getD 0xFFFE) r.itime

/-- A group by its number. -/
def State.grp? (s : State) (n : Nat) : Option SvcGrp := s.svc.grps.find? (fun g => g.num == n)

/-- Replace a group. -/
def State.setGrp (s : State) (g : SvcGrp) : State :=
  s.onSvc (fun w => { w with grps := w.grps.map (fun x => if x.num = g.num then g else x) })

/-- Mark a request of a group answered. -/
def State.markAnswered (s : State) (n slot : Nat) : State :=
  match s.grp? n with
  | some g => s.setGrp { g with reqs := g.reqs.map (fun q => if q.slot = slot then { q with answered := true } else q) }
  | none => s

/-- Answer a request by the part itself, once (R299). -/
def State.answerReq (s : State) (n : Nat) (q : SvcReq) (reason detail : Nat) : State :=
  if q.answered then s else (s.svcError q.first reason detail).markAnswered n q.slot

/-- Free a group's slots. -/
def State.freeGrp (s : State) (n : Nat) : State :=
  s.onSvc (fun w => { w with grps := w.grps.filter (fun x => x.num != n), gates := w.gates.filter (fun x => x.grp != n) })

/-- A service instance has ended: the requests it left unanswered are answered, and the group's slots are freed (R299). -/
def State.svcEnded (s : State) (n reason detail : Nat) : State :=
  match s.grp? n with
  | some g => (g.reqs.foldl (fun s q => s.answerReq n q reason detail) s).freeGrp n
  | none => s

/-- The group has started its instance. -/
def SvcGrp.started (g : SvcGrp) : Bool := g.inst.isSome

/-- Every request of the group is complete. -/
def SvcGrp.allWhole (g : SvcGrp) : Bool := !g.reqs.isEmpty && g.reqs.all (fun q => q.whole)

/-- LIVE and WAITING of a service (SVC_STATUS). -/
def State.svcLive (s : State) (sv : Nat) : Nat := (s.svc.grps.filter (fun g => g.sv == sv && g.started)).length
def State.svcWaiting (s : State) (sv : Nat) : Nat := (s.svc.grps.filter (fun g => g.sv == sv && g.waits && !g.started)).length

end Sys2Proof.Machine
end

