-- ==== Sys2Proof/Machine/EngOps.lean ====
section
/-! DEFINITION. The engines' shared operations: the address map, instance contexts, descriptors, faults, tiles and queues
(R260 to R286). -/

namespace Sys2Proof

/-- The engine's number among all engines. -/
def EngId.num : EngId → Nat
  | .mxe i => i | .vxe i => 512 + i | .cve i => 640 + i | .tke i => 704 + i | .sme i => 720 + i | .gte i => 736 + i
  | .xfe i => 752 + i | .ate i => 760 + i

/-- The queue an engine serves. -/
def EngId.queue : EngId → Nat
  | .mxe i => i / 8 | .vxe i => 64 + i / 2 | .cve i => 128 + i | .tke i => 192 + i / 2 | .sme i => 200 + i / 2
  | .gte i => 208 + i / 2 | .xfe i => 216 + i | .ate i => 224 + i

/-- The compute block an engine lies in, for those that lie in one (R16). -/
def EngId.block? : EngId → Option Nat
  | .mxe i => some (i / 8) | .vxe i => some (i / 2) | .cve i => some i | _ => none

/-- The region an engine lies in. -/
def EngId.region : EngId → Nat
  | .mxe i => i / 64 | .vxe i => i / 16 | .cve i => i / 8 | .tke i => i / 2 | .sme i => i / 2 | .gte i => i / 2 | .xfe i => i | .ate i => i

end Sys2Proof

namespace Sys2Proof.Machine

/-! The address map (R262 to R265). -/

/-- First address of HBM stack j. -/
def hbmBase (j : Nat) : Nat := 0x8000000000 + 0x2000000000 * j

/-- PROM_CFG.SIZE as used, in GiB (R336). -/
def State.promGiB (s : State) : Nat := min 192 (s.rd .promCfg_size 0) / 4 * 4

/-- VOQ_SPILL_CFG.SIZE as used, in GiB. -/
def State.spillGiB (s : State) : Nat := min 96 (s.rd .voqSpillCfg_size 0)

/-- GEN_TOP of stack j: the first address above its general part (R264). -/
def State.genTop (s : State) (j : Nat) : Nat :=
  hbmBase j + 72 * 2 ^ 30 - s.spillGiB * 2 ^ 30 / 4 - s.promGiB * 2 ^ 30 / 4

/-- The region whose Scratch holds an address. -/
def scratchRegion? (a : Nat) : Option Nat := if a < 0x40000000 then some (a / 0x8000000) else none

/-- The stack that an address lies in. -/
def stackOf? (a : Nat) : Option Nat := if 0x8000000000 ≤ a then some ((a - 0x8000000000) / 0x2000000000) else none

/-- A range of n bytes is mapped and outside the carve-outs (R262, R264). -/
def State.mapped (s : State) (a n : Nat) : Bool :=
  match stackOf? a with
  | some j => decide (j < 4) && decide (a + n ≤ s.genTop j)
  | none => decide (a + n ≤ 0x40000000)

/-- Regions and stacks that a range touches. -/
def rangeRegions (a n : Nat) : List Nat :=
  if a < 0x40000000 then (List.range 8).filter (fun k => decide (0x8000000 * k < a + n) && decide (a < 0x8000000 * (k + 1))) else []

/-- Why bytes may not be accessed: FAULT ADDR, REGION_FAIL or HBM_FAIL (R262, R286); 0 when they may. -/
def State.accessFault (s : State) (a n : Nat) : Nat :=
  if !s.mapped a n then 3
  else if (rangeRegions a n).any s.regionDead then 8
  else match stackOf? a with | some j => if s.stackDead j then 9 else 0 | none => 0

/-- The same of a range that a descriptor names, which must begin at a multiple of 64 (R265). -/
def State.rangeFault (s : State) (a n : Nat) : Nat := if a % 64 ≠ 0 then 3 else s.accessFault a n

/-- The first fault of a list of accesses; 0 for none. -/
def State.firstFault (s : State) (rs : List (Nat × Nat)) : Nat := rs.foldl (fun f r => if f = 0 then s.accessFault r.1 r.2 else f) 0

/-- Write bytes of engine memory. -/
def State.memPut (s : State) (a : Nat) (bs : List Byte) : State := s.onEng (fun w => { w with mem := putBytes 0 w.mem a bs })

/-- Read bytes of engine memory. -/
def State.memGet (s : State) (a n : Nat) : List Byte := bytesAt 0 s.eng.mem a n

/-- An access ends a stack's self-refresh (R417). -/
def State.stackUsed (s : State) (j : Nat) : State :=
  { s with pwr := { s.pwr with refresh := s.pwr.refresh.filter (· != j), used := sset 0 s.pwr.used j s.tb.mono } }
/-- An access to an engine address ends the self-refresh of the stack it lies in. -/
def State.hbmAccess (s : State) (a : Nat) : State := match stackOf? a with | some j => s.stackUsed j | none => s

/-! Instances (R266). -/

/-- A context that has never started. -/
def Inst.init : Inst :=
  { state := 0, region := 0, next := 0, mode := 0, flags := 0, ctr := List.replicate 16 0, fault := 0, fdesc := 0, ended := false,
    jobs := [], starts := 0, t0 := 0, grp := none }

/-- The context of an instance. -/
def State.inst (s : State) (i : Nat) : Inst := (kget s.eng.inst i).getD Inst.init
/-- Change a context. -/
def State.setInst (s : State) (i : Nat) (g : Inst → Inst) : State := s.onEng (fun w => { w with inst := kput w.inst i (g (s.inst i)) })
/-- RUNNING. -/
def State.running (s : State) (i : Nat) : Bool := (s.inst i).state == 1

/-- First of the instances reserved for the lease owner (R267). -/
def State.hostFirst (s : State) : Nat := 4096 - s.rd .engHostCfg_hostInst 0

/-- Set flags of an instance: once set, a flag stays (R243). -/
def State.setFlags (s : State) (i fl : Nat) : State := s.when (fl != 0) (fun s => s.setInst i (fun c => { c with flags := c.flags ||| fl }))

/-- Add 1 to a counter of an instance, modulo 2^16 (R276). -/
def State.signal (s : State) (i c : Nat) : State :=
  if s.running i then s.setInst i (fun x => { x with ctr := x.ctr.set c ((nthD x.ctr c 0 + 1) % 2 ^ 16) }) else s

/-- The group of requests an instance serves. -/
def State.instGrp (s : State) (i : Nat) : Option SvcGrp := (s.inst i).grp.bind s.grp?

/-- The entry a service instance runs under. -/
def State.instEntry (s : State) (i : Nat) : Option Nat := (s.instGrp i).map (fun g => g.entry)

/-! Engines and queues. A queue number: MXE queues of blocks 0 to 63, VXE queues 64 to 127, CVE 128 to 191, then TKE, SME, GTE,
XFE and ATE of each region. -/

/-- The kind of a descriptor, 0 to 7, as a queue class. -/
def queueOf (kind home tile stream : Nat) : Nat :=
  match kind with
  | 0 => 8 * home + tile % 8
  | 1 => 64 + 8 * home + tile % 8
  | 2 => 128 + stream / 4
  | k => 192 + 8 * (k - 3) + home

/-- Engine number n lies in region k. -/
def engInRegion (n k : Nat) : Bool :=
  (decide (n < 512) && n / 64 == k) || (decide (512 ≤ n) && decide (n < 640) && (n - 512) / 16 == k) ||
  (decide (640 ≤ n) && decide (n < 704) && (n - 640) / 8 == k) || (decide (704 ≤ n) && decide (n < 752) && (n - 704) % 16 / 2 == k) ||
  n == 752 + k || n == 760 + k

/-- Replace a tile queue. -/
def State.setTq (s : State) (q : Nat) (l : List Tile) : State :=
  s.onEng (fun w => { w with q := if l.isEmpty then kdel w.q q else kput w.q q l })

/-- The compute block of a queue, for those of a block. -/
def queueBlock? (q : Nat) : Option Nat := if q < 64 then some q else if q < 128 then some (q - 64) else if q < 192 then some (q - 128) else none
/-- The region of a queue. -/
def queueRegion (q : Nat) : Nat := match queueBlock? q with | some c => c / 8 | none => q % 8

/-- A block of its home region that is in service, from the rotation's choice upward. -/
def State.liveBlock (s : State) (home t : Nat) : Nat :=
  (((List.range 8).map (fun j => (t + j) % 8)).find? (fun b => !s.computeDead (8 * home + b))).getD (t % 8)

/-- The region starts to wake when it is in C3 or C4 (R414). -/
def State.wakeRegion (s : State) (k : Nat) : State :=
  if s.rd .pwrRegionStatus_state k ≠ 0 ∧ !s.pwr.waking.contains k then { s with pwr := { s.pwr with waking := s.pwr.waking ++ [k] } } else s

/-! Descriptors (R268). -/

/-- The eight words of a descriptor. -/
def descWords (m : SMap) (a : Nat) : List Nat := (List.range 8).map (fun i => memLe m (a + 8 * i) 8)

/-- A word of a descriptor. -/
def dw (w : List Nat) (i : Nat) : Nat := nthD w i 0
def dRepl (w : List Nat) : Nat := bits (dw w 0) 56 8
def dStream (w : List Nat) : Nat := bits (dw w 0) 48 8
def dSigEn (w : List Nat) : Bool := bitAt (dw w 0) 44
def dSigCtr (w : List Nat) : Nat := bits (dw w 0) 40 4
def dWaitVal (w : List Nat) : Nat := bits (dw w 0) 24 16
def dWaitEn (w : List Nat) : Bool := bitAt (dw w 0) 20
def dWaitCtr (w : List Nat) : Nat := bits (dw w 0) 16 4
def dHomeOnly (w : List Nat) : Bool := bitAt (dw w 0) 15
def dStepEnd (w : List Nat) : Bool := bitAt (dw w 0) 14
def dAcc (w : List Nat) : Bool := bitAt (dw w 0) 13
def dEnd (w : List Nat) : Bool := bitAt (dw w 0) 12
def dKind (w : List Nat) : Nat := bits (dw w 0) 8 4
def dOp (w : List Nat) : Nat := bits (dw w 0) 0 8
def dLda (w : List Nat) : Nat := bits (dw w 1) 40 24
def dA (w : List Nat) : Nat := bits (dw w 1) 0 40
def dLdb (w : List Nat) : Nat := bits (dw w 2) 40 24
def dB (w : List Nat) : Nat := bits (dw w 2) 0 40
def dLdc (w : List Nat) : Nat := bits (dw w 3) 40 24
def dC (w : List Nat) : Nat := bits (dw w 3) 0 40
def dFmtC (w : List Nat) : Nat := bits (dw w 4) 52 6
def dFmtB (w : List Nat) : Nat := bits (dw w 4) 46 6
def dFmtA (w : List Nat) : Nat := bits (dw w 4) 40 6
def dScaleA (w : List Nat) : Nat := bits (dw w 4) 0 40
def dArg2 (w : List Nat) : Nat := bits (dw w 5) 40 24
def dScaleB (w : List Nat) : Nat := bits (dw w 5) 0 40
def dArg (w : List Nat) : Nat := bits (dw w 6) 48 16
def dK (w : List Nat) : Nat := bits (dw w 6) 32 16
def dN (w : List Nat) : Nat := bits (dw w 6) 16 16
def dM (w : List Nat) : Nat := bits (dw w 6) 0 16
def dNext (w : List Nat) : Nat := bits (dw w 7) 0 40 / 64 * 64
/-- L, the row length of a long row (Table 10.5). -/
def dL (w : List Nat) : Nat := dN w + 65536 * dK w
/-! The XFE's use of words 2, 4 and 6 (Table 10.8). -/
def xRaddr (w : List Nat) : Nat := dw w 2
def xKey (w : List Nat) : Nat := bits (dw w 4) 48 16
def xCtx (w : List Nat) : Nat := bits (dw w 4) 16 32
def xStatus (w : List Nat) : Nat := bits (dw w 6) 56 3
def xTc (w : List Nat) : Nat := bits (dw w 6) 52 3
def xDgid (w : List Nat) : Nat := bits (dw w 6) 32 18
def xLen (w : List Nat) : Nat := bits (dw w 6) 0 32

/-- A WAIT is met (R276). -/
def waitMet (c : Inst) (w : List Nat) : Bool := !dWaitEn w || decide ((nthD c.ctr (dWaitCtr w) 0 + 2 ^ 16 - dWaitVal w) % 2 ^ 16 < 2 ^ 15)

/-! Formats (R229, Table 10.5). -/

/-- A vector format: FP32, BF16, FP16, or unscaled FP8. -/
def vecFmt (c : Nat) : Bool := c ∈ [0x00, 0x01, 0x02, 0x04, 0x05]
/-- An output vector format. -/
def outFmt (c : Nat) : Bool := c ∈ [0x00, 0x01, 0x02]
/-- A format code with ESC 0. -/
def plainFmt (c : Nat) : Bool := match Fmt.ofCode c with | some f => !f.esc | none => false
/-- The output format of a conversion. -/
def cvtFmt (c : Nat) : Bool := match Fmt.ofCode c with | some f => !f.esc && f.el.output | none => false
/-- A format code taken apart, FP32 where it is invalid. -/
def fmtOf (c : Nat) : Fmt := (Fmt.ofCode c).getD ⟨.fp32, false, false⟩
/-- The pair of a MATMUL is accepted (R236). -/
def matPair (a b : Nat) : Bool :=
  match Fmt.ofCode a, Fmt.ofCode b with
  | some x, some y => pairOk x.el y.el
  | _, _ => false

/-- The opcodes of Table 10.5. -/
def opKnown (op : Nat) : Bool :=
  op ∈ [0x01, 0x10, 0x11, 0x12, 0x13, 0x20, 0x30, 0x31, 0x40, 0x41, 0x50, 0x60, 0x61, 0x62, 0x63, 0x70, 0xF0, 0xF1, 0xF2, 0xF3]

/-- A reserved ARG code or a shape out of the opcode's range (R269, R430). -/
def argBad (w : List Nat) : Bool :=
  let longRow := decide (dL w = 0) || decide (1048576 < dL w)
  match dOp w with
  | 0x10 => decide (4 < dArg w % 16)
  | 0x11 => decide (8 < dArg w % 16)
  | 0x12 => decide (1 < dArg w % 16)
  | 0x13 => decide (1 < dArg w % 16)
  | 0x30 => longRow || decide (dArg w = 0) || decide (1024 < dArg w) || decide (dL w < dArg w)
  | 0x31 => decide (dL w = 0) || decide (65536 < dL w)
  | 0x40 => longRow
  | 0x41 => longRow
  | 0x61 => decide (xLen w % 4 ≠ 0)
  | 0x62 => decide (4096 < xLen w)
  | 0x63 => decide (1048576 < xLen w)
  | 0x70 => decide (4 < dArg w % 16)
  | 0xF3 => decide (31 < dArg w) || decide (dM w = 0) || decide (56 < dM w)
  | _ => false

/-- A format code that R229, R236 or Table 10.5 forbids. -/
def fmtBad (w : List Nat) : Bool :=
  match dOp w with
  | 0x01 => !(matPair (dFmtA w) (dFmtB w) && outFmt (dFmtC w))
  | 0x10 => !(vecFmt (dFmtA w) && vecFmt (dFmtB w) && vecFmt (dFmtC w))
  | 0x11 => !(vecFmt (dFmtA w) && vecFmt (dFmtC w))
  | 0x12 => !(vecFmt (dFmtA w) && vecFmt (dFmtB w) && vecFmt (dFmtC w))
  | 0x13 => !(vecFmt (dFmtA w) && vecFmt (dFmtC w))
  | 0x20 => !(plainFmt (dFmtA w) && cvtFmt (dFmtC w))
  | 0x30 => !(vecFmt (dFmtA w) && vecFmt (dFmtC w))
  | 0x31 => !(vecFmt (dFmtA w) && vecFmt (dFmtC w))
  | 0x40 => !(vecFmt (dFmtA w) && vecFmt (dFmtC w))
  | 0x41 => !vecFmt (dFmtA w)
  | 0x50 => !(plainFmt (dFmtA w) && dFmtA w == dFmtC w)
  | _ => false

/-- The shape makes the descriptor do nothing (R269). -/
def shapeZero (w : List Nat) : Bool :=
  match dOp w with
  | 0x01 => dM w == 0 || dN w == 0 || dK w == 0
  | 0x10 => dM w == 0 || dN w == 0
  | 0x11 => dM w == 0 || dN w == 0
  | 0x12 => dM w == 0 || dN w == 0
  | 0x13 => dM w == 0 || dN w == 0
  | 0x20 => dM w == 0 || dN w == 0
  | 0x30 => dM w == 0
  | 0x31 => dM w == 0
  | 0x40 => dM w == 0
  | 0x41 => dM w == 0
  | 0x50 => dM w == 0 || dN w == 0 || dK w == 0
  | 0x70 => dM w == 0
  | _ => false

/-! Operands as matrices (Table 10.5). -/

/-- Columns of A. -/
def aCols (w : List Nat) : Nat :=
  match dOp w with
  | 0x01 => dK w
  | 0x30 => dL w | 0x31 => dL w | 0x40 => dL w | 0x41 => dL w
  | _ => dN w
/-- Operand A. -/
def opA (w : List Nat) : Opnd := ⟨fmtOf (dFmtA w), dA w, dLda w, dScaleA w, if dOp w = 0x50 then dK w else dM w, aCols w, dA w⟩
/-- Operand B of MATMUL, BINARY and NORM. -/
def opB (w : List Nat) : Opnd :=
  ⟨fmtOf (dFmtB w), dB w, dLdb w, dScaleB w, if dOp w = 0x01 then dN w else if dOp w = 0x10 ∧ bitAt (dArg w) 8 = false then dM w else 1,
    if dOp w = 0x01 then dK w else dN w, dB w⟩
/-- The address in the Scratch of region r at the same region offset (REPL, Table 10.4). -/
def replicaAt (r a : Nat) : Nat := if (scratchRegion? a).isSome then 0x8000000 * r + a % 0x8000000 else a

/-- Operand B of a MATMUL as an engine of region r reads it: from the replica there, when the tile was taken by cut-in and REPL names
the region (R283). -/
def opBAt (w : List Nat) (cut : Bool) (r : Nat) : Opnd :=
  let b := opB w
  if cut && bitAt (dRepl w) r then { b with addr := replicaAt r b.addr, scale := replicaAt r b.scale } else b

/-- Columns of C. -/
def cCols (w : List Nat) : Nat :=
  match dOp w with
  | 0x13 => 1
  | 0x30 => dArg w
  | 0x31 => dL w | 0x40 => dL w
  | _ => dN w
/-- Result C. For CONVERT and GATHER its scales lie at SCALE_B. -/
def opC (w : List Nat) : Opnd := ⟨fmtOf (dFmtC w), dC w, dLdc w, dScaleB w, dM w, cCols w, dC w⟩
/-- A matrix of 32-bit indices of r rows of n at operand B. -/
def idxRow (w : List Nat) (n r : Nat) : Nat := dB w + r * (if dLdb w = 0 then 4 * n else 64 * dLdb w)

/-- Bytes from an operand's address to the end of its last row. -/
def Opnd.span (o : Opnd) : Nat := if o.rows = 0 then 0 else (o.rows - 1) * o.stride + o.fmt.el.rowBytes o.cols
/-- The ranges a matrix and its scales, with the bitmap of an escaped operand, take. -/
def Opnd.ranges (o : Opnd) : List (Nat × Nat) :=
  (o.addr, o.span) :: (if o.fmt.scaled then [(o.scale, if o.fmt.esc then (o.blocks + 7) / 8 * 8 + (o.blocks + 7) / 8 else o.blocks)] else [])
/-- The range of the indices at operand B. -/
def idxRange (w : List Nat) (n : Nat) : Nat × Nat := (dB w, idxRow w n (dM w - 1) - dB w + 4 * n)

/-- Bytes of one operand and one prior value of an ATOMIC (R274). -/
def atomIn (aop : Nat) : Nat := if aop = 1 then 16 else if aop = 4 then 4 else 8
def atomOut (aop : Nat) : Nat := if aop = 4 then 4 else 8

/-- Every range of engine memory that a descriptor names. -/
def descRanges (w : List Nat) : List (Nat × Nat) :=
  match dOp w with
  | 0x01 => (opA w).ranges ++ (opB w).ranges ++ (opC w).ranges
  | 0x10 => (opA w).ranges ++ (opB w).ranges ++ (opC w).ranges
  | 0x11 => (opA w).ranges ++ (opC w).ranges
  | 0x12 => (opA w).ranges ++ (opB w).ranges ++ (opC w).ranges
  | 0x13 => (opA w).ranges ++ (opC w).ranges
  | 0x20 => (opA w).ranges ++ (opC w).ranges
  | 0x30 => (opA w).ranges ++ (opC w).ranges ++ [idxRange w (dArg w)]
  | 0x31 => (opA w).ranges ++ (opC w).ranges ++ [idxRange w (dL w)]
  | 0x40 => (opA w).ranges ++ (opC w).ranges
  | 0x41 => (opA w).ranges ++ [(dB w, 16), (dC w, 4 * dM w)]
  | 0x50 => (opA w).ranges ++ (opC w).ranges ++ [(dB w, 4 * dM w)]
  | 0x60 => [(dA w, xLen w)]
  | 0x61 => [(dC w, xLen w)]
  | 0x62 => [(dA w, xLen w)]
  | 0x63 => [(dA w, xLen w)]
  | 0x70 => [(dB w, dM w * atomIn (dArg w % 16)), (dC w, dM w * atomOut (dArg w % 16))]
  | 0xF2 => [(dC w, 4)]
  | 0xF3 => [(dC w, 64 + 8 * dM w)]
  | _ => []

/-- Every range of engine memory that an issued descriptor names; a router's logits are not written to memory. -/
def Job.ranges (b : Job) : List (Nat × Nat) :=
  if b.router.isSome then (opA b.words).ranges ++ (opB b.words).ranges else descRanges b.words

/-- The Commons range of an ATOMIC: in one region, aligned (R274, Table 2.5). -/
def atomBad (w : List Nat) : Bool :=
  let n := atomOut (dArg w % 16)
  let off := bits (dw w 1) 0 24
  decide (off % n ≠ 0) || decide (off / 0x200000 ≠ (off + dM w * n - 1) / 0x200000)

/-- The region whose Commons an ATOMIC acts on (R274). -/
def atomRegion (w : List Nat) : Nat := bits (dw w 1) 21 3

/-- The first fault of a descriptor at issue; 0 for none (R262, R265, R269, R274, R298, R430). -/
def State.descFault (s : State) (i : Nat) (w : List Nat) : Nat :=
  if dKind w ≠ dOp w / 16 ∨ !opKnown (dOp w) ∨ argBad w then 1
  else if fmtBad w then 2
  else if shapeZero w then 0
  else if dOp w == 0xF3 && (match s.instEntry i with | some e => !bitAt (seTelGrant e) (dArg w % 32) | none => false) then 6
  else if dOp w == 0x63 && (match s.instEntry i with | some e => decide (seMaxResp e < xLen w) | none => false) then 1
  else if dOp w = 0x70 ∧ atomBad w then 3
  else if dOp w = 0x70 ∧ s.regionDead (atomRegion w) then 8
  else (descRanges w).foldl (fun f r => if f = 0 then s.rangeFault r.1 r.2 else f) 0

/-! Faults and ends (R278, R285, R299). -/

/-- Jobs of an instance that have a running tile. -/
def State.runningJobs (s : State) (i : Nat) : List Nat := (s.inst i).jobs.filter (fun j => s.eng.run.any (fun r => r.2.tile.job == j))

/-- Stop an instance's issue and queued tiles; running tiles go on (R285). -/
def State.stopInst (s : State) (i : Nat) : State :=
  let js := (s.inst i).jobs
  let keep := s.runningJobs i
  let s := s.onEng (fun w => { w with
    q := (w.q.map (fun (e : Nat × List Tile) => (e.1, e.2.filter (fun t => !js.contains t.job)))).filter (fun e => !e.2.isEmpty),
    jobs := (w.jobs.filter (fun e => !js.contains e.1 || keep.contains e.1)).map (fun (e : Nat × Job) =>
      if js.contains e.1 then (e.1, { e.2 with wait := [] }) else e),
    xfe := w.xfe.filter (fun x => !js.contains x.job || keep.contains x.job) })
  let s := s.onSvc (fun w => { w with logits := w.logits.filter (fun l => l.1 != i) })
  (s.setInst i (fun c => { c with jobs := keep })).idleAll (List.range 64)

/-- The service number of an instance as INST_FAULT gives it (Table 17.4). -/
def State.instSvc (s : State) (i : Nat) : Nat := match s.instGrp i with | some g => g.sv | none => 0xFFFFFFFF

/-- The end of a service instance: its requests are answered (R299). -/
def State.instAnswers (s : State) (i reason detail : Nat) : State :=
  match (s.inst i).grp with
  | some g => s.svcEnded g reason detail
  | none => s

/-- An instance faults (R285, R299). -/
def State.instFault (s : State) (i code desc : Nat) : State :=
  if s.running i then
    let sv := s.instSvc i
    let s := s.stopInst i
    let s := s.setInst i (fun c => { c with state := 3, fault := code, fdesc := desc })
    let s := s.fault 0x0040 1 [i, code, desc % 2 ^ 32, desc / 2 ^ 32, sv]
    s.instAnswers i 4 code
  else s

/-- An instance is aborted; `reason` is what its unanswered requests are told (R285, R299, R300). -/
def State.instAbort (s : State) (i reason : Nat) : State :=
  if s.running i then
    let s := s.stopInst i
    (s.setInst i (fun c => { c with state := 4 })).instAnswers i reason 0
  else s

/-- An instance ends DONE when its END descriptor and all before it have completed (R278). -/
def State.instDone? (s : State) (i : Nat) : State :=
  let c := s.inst i
  if c.state = 1 ∧ c.ended ∧ c.jobs.isEmpty then (s.setInst i (fun c => { c with state := 2 })).instAnswers i 5 0 else s

/-- Request the end of a stream's step (R250). -/
def State.askStep (s : State) (st : Nat) : State := s.onEng (fun w => { w with steps := if w.steps.contains st then w.steps else w.steps ++ [st] })

/-- A descriptor completes: its signal, its step end, and perhaps its instance's end (R276, R278). -/
def State.jobDone (s : State) (j : Nat) : State :=
  match kget s.eng.jobs j with
  | none => s
  | some b =>
    let live := (s.inst b.inst).jobs.contains j
    let s := s.onEng (fun w => { w with jobs := kdel w.jobs j, xfe := w.xfe.filter (fun x => x.job != j) })
    let s := s.when (dOp b.words == 0x20 && dStepEnd b.words) (fun s => s.askStep (dStream b.words))
    if live then
      let s := s.setInst b.inst (fun c => { c with jobs := c.jobs.filter (· != j) })
      let s := s.when (dSigEn b.words) (fun s => s.signal b.inst (dSigCtr b.words))
      s.instDone? b.inst
    else s

/-! Cutting and queueing (R279, R280). -/

/-- Tiles of a MATMUL, and the parts along K of each. -/
def matTiles (w : List Nat) : Nat := ((dM w + 127) / 128) * ((dN w + 127) / 128)
def matParts (w : List Nat) : Nat :=
  let t := matTiles w
  if t < 64 ∧ 2048 ≤ dK w then max 1 (min (64 / t) (dK w / 1024)) else 1
/-- Depth in groups of 32 of every part but the last (log entry 41). -/
def partGroups (w : List Nat) : Nat := dK w / (32 * matParts w)

/-- Tiles of a descriptor as (number, part). -/
def tilesOf (w : List Nat) : List (Nat × Nat) :=
  match dOp w with
  | 0x01 => (List.range (matTiles w)).flatMap (fun t => (List.range (matParts w)).map (fun p => (t, p)))
  | 0x10 => (List.range ((dM w + 7) / 8)).map (fun t => (t, 0))
  | 0x11 => (List.range ((dM w + 7) / 8)).map (fun t => (t, 0))
  | 0x12 => (List.range ((dM w + 7) / 8)).map (fun t => (t, 0))
  | 0x13 => (List.range ((dM w + 7) / 8)).map (fun t => (t, 0))
  | 0x50 => (List.range ((dM w + 63) / 64)).map (fun t => (t, 0))
  | _ => [(0, 0)]

/-- The opcode has an operand B in engine memory. -/
def usesB (op : Nat) : Bool := op ∈ [0x01, 0x10, 0x12, 0x30, 0x31, 0x41, 0x50, 0x70]
/-- The opcode has an operand A in engine memory. -/
def usesA (op : Nat) : Bool := op ∈ [0x01, 0x10, 0x11, 0x12, 0x13, 0x20, 0x30, 0x31, 0x40, 0x41, 0x50, 0x60, 0x62, 0x63]

/-- The home region of a descriptor's tiles (R280). An XFE transfer goes to the XFE of the instance's region, an ATOMIC to the
ATE of the region that holds its offset (R273, R274). -/
def homeRegion (region : Nat) (w : List Nat) : Nat :=
  if dKind w = 6 then region
  else if dKind w = 7 then atomRegion w
  else match (if usesB (dOp w) then scratchRegion? (dB w) else none), (if usesA (dOp w) then scratchRegion? (dA w) else none) with
    | some k, _ => k
    | none, some k => k
    | none, none => region

/-- The queue of a tile of a descriptor. -/
def State.tileQueue (s : State) (w : List Nat) (t : Tile) : Nat :=
  if dKind w < 2 then queueOf (dKind w) t.home (s.liveBlock t.home t.num) 0 else queueOf (dKind w) t.home t.num (dStream w)

/-- A queue of a compute block holds at most 256 tiles (R280). -/
def State.queueFull (s : State) (q : Nat) : Bool := decide (q < 128) && decide (256 ≤ (s.tq q).length)

/-- Queue the waiting tiles of a job while their queues have room; a queued tile wakes its region (R280, R414). -/
def State.pumpJob (s : State) (j : Nat) : State :=
  match kget s.eng.jobs j with
  | none => s
  | some b =>
    let r := b.wait.foldl (fun (acc : State × List Tile) t =>
      let q := acc.1.tileQueue b.words t
      if acc.2.isEmpty && !acc.1.queueFull q then ((acc.1.setTq q (acc.1.tq q ++ [t])).wakeRegion (queueRegion q), [])
      else (acc.1, acc.2 ++ [t])) (s, [])
    r.1.onEng (fun w => { w with jobs := kput w.jobs j { b with wait := r.2 } })

/-- Queue what waits, of every job in order of issue. -/
def State.pump (s : State) : State := (s.eng.jobs.filter (fun e => !e.2.wait.isEmpty)).foldl (fun s e => s.pumpJob e.1) s

end Sys2Proof.Machine
end

