-- ==== Sys2Proof/Machine/Commons.lean ====
section
/-! DEFINITION. The Commons: batches, atomics, replay and clearing (R327 to R335). -/

namespace Sys2Proof.Machine

/-- Replace the Commons. -/
def State.onCmn (s : State) (g : Cmn → Cmn) : State := { s with cmn := g s.cmn }

/-- An answer with no payload in TC6: ACK (R45, R67). -/
def State.ack (s : State) (r : Deliv) : State :=
  let q := r.pkt
  let p := s.newPacket 0x08 6 q.sgid.toNat
  s.originate (s.answerRegion r) { p with sgid := q.dgid, psn := q.psn, msgid := q.msgid, key := q.key, ctx := q.ctx, echo := q.cm == 3 }

/-- The Commons region of an offset. -/
def cmnRegion (off : Nat) : Nat := off / 0x200000 % 8

/-- The region of a line of 64 bytes. -/
def lineRegion (line : Nat) : Nat := cmnRegion (64 * line)

/-- Bytes of the Commons, in wire order. -/
def State.cmnGet (s : State) (off n : Nat) : List Byte := bytesAt 0 s.cmn.mem off n
/-- Write bytes of the Commons. -/
def State.cmnPut (s : State) (off : Nat) (bs : List Byte) : State := s.onCmn (fun w => { w with mem := putBytes 0 w.mem off bs })

/-- A line is poisoned (R334). -/
def State.poisoned (s : State) (line : Nat) : Bool := s.cmn.poison.contains line

/-- The value an atomic leaves (Table 12.4). -/
def atomNew (aop v : Nat) (ops : List Nat) : Nat :=
  let x := nthD ops 0 0
  match aop with
  | 0 => (v + x) % 2 ^ 64
  | 1 => if v = x then nthD ops 1 0 else v
  | 2 => x
  | 3 => if signedBits 64 v < signedBits 64 x then x else v
  | _ => f32Add v x

/-- The operands an ATOMIC_REQ carries (Table 2.5). -/
def atomOps (aop : Nat) (bs : List Byte) : List Nat :=
  if aop = 1 then [beNat (bs.take 8), beNat ((bs.drop 8).take 8)] else [beNat bs]

/-! Completion of requests. -/

/-- Answer a packet whose parts have all been applied (R328). -/
def State.cmnAnswer (s : State) (o : CmnOp) : State :=
  let p := o.req.pkt
  if p.kind = 0x01 then (if bitAt p.w1k.toNat 10 then s.ack o.req else s)
  else if p.kind = 0x02 then s.respond o.req 0x03 (if o.error then 2 * 256 else 0) p.w2 o.data
  else s.respond o.req 0x06 (if o.error then 2 * 256 else 0) p.w2 o.data

/-- One part of a packet has been applied: its bytes take their places, and the last part sends the answer. -/
def State.cmnPart (s : State) (id at_ : Nat) (bs : List Byte) (err : Bool) : State :=
  match kget s.cmn.ops id with
  | none => s
  | some o =>
    let base := bits o.req.pkt.w2.toNat 0 24
    let o := { o with left := o.left - 1, data := patch o.data (at_ - base) bs, error := o.error || err }
    if o.left = 0 then (s.onCmn (fun w => { w with ops := kdel w.ops id })).cmnAnswer o
    else s.onCmn (fun w => { w with ops := kput w.ops id o })

/-- The key of a replay slot. -/
def replayKey (k g : Nat) : Nat := Nat.pair k g

/-- An applied atomic is recorded; one that found its line poisoned leaves no record (R332, R334; log entry 42). -/
def State.replayDone (s : State) (k g psn prior : Nat) (err : Bool) : State :=
  match kget s.cmn.replay (replayKey k g) with
  | none => s
  | some sl =>
    let recs := if err then sl.recs.filter (fun r => r.psn != psn)
      else sl.recs.map (fun r => if r.psn = psn then { r with prior := prior, time := some s.tb.mono } else r)
    s.onCmn (fun w => { w with replay := kput w.replay (replayKey k g) { sl with recs := recs } })

/-- The prior value of operand i of an ATOMIC descriptor is written (R274, R327). -/
def State.atomPrior (s : State) (j i n prior : Nat) : State :=
  match kget s.eng.jobs j with
  | none => s
  | some b =>
    let s := s.memPut (dC b.words + n * i) (leBytes n prior)
    s.onEng (fun w => { w with jobs := kput w.jobs j { b with todo := b.todo - 1 } })

/-- One request of a batch takes effect (R328 to R330, R334). -/
def State.cmnApply (s : State) (q : CmnReq) : State :=
  let line := q.off / 64
  let bad := s.poisoned line
  match q.act with
  | .write bs =>
    let s := s.cmnPut q.off bs
    let s := s.when (bad && bs.length == 64) (fun s => s.onCmn (fun w => { w with poison := w.poison.filter (· != line) }))
    (match q.byy with | .packet id => s.cmnPart id q.off [] false | .engine _ _ => s)
  | .read n =>
    let bs := if bad then List.replicate n 0xFF else s.cmnGet q.off n
    (match q.byy with | .packet id => s.cmnPart id q.off bs bad | .engine _ _ => s)
  | .atomic aop ops =>
    let n := atomOut aop
    let v := beNat (s.cmnGet q.off n)
    let prior := if bad then 2 ^ (8 * n) - 1 else v
    let s := s.when (!bad) (fun s => s.cmnPut q.off (beBytes n (atomNew aop v ops)))
    match q.byy with
    | .packet id =>
      let s := match kget s.cmn.ops id with
        | some o => s.replayDone (cmnRegion q.off) (o.req.pkt.sgid.toNat) (o.req.pkt.psn.toNat) prior bad
        | none => s
      s.cmnPart id q.off (beBytes n prior) bad
    | .engine j i => s.atomPrior j i n prior

/-- Apply and close a line's batch (R330). -/
def State.batchApply (s : State) (line : Nat) : State :=
  match kget s.cmn.batch line with
  | none => s
  | some b => b.2.foldl State.cmnApply (s.onCmn (fun w => { w with batch := kdel w.batch line }))

/-- A request joins its line's batch, opening one where none is open; a batch of 1,024 is applied first (R330). -/
def State.batchAdd (s : State) (q : CmnReq) : State :=
  let line := q.off / 64
  let s := match kget s.cmn.batch line with
    | some b => if 1024 ≤ b.2.length then s.batchApply line else s
    | none => s
  let b := (kget s.cmn.batch line).getD (s.now, [])
  s.onCmn (fun w => { w with batch := kput w.batch line (b.1, b.2 ++ [q]) })

/-- WINDOW of CMN_CFG in ns. -/
def State.cmnWindow (s : State) : Nat := min 256 (s.rd .cmnCfg_window 0)

/-- Requests in the queue of a region's ATE (R331). -/
def State.ateLoad (s : State) (k : Nat) : Nat := ((s.cmn.batch.filter (fun b => lineRegion b.1 == k)).map (fun b => b.2.2.length)).sum

/-- `n` requests to a region's Commons can be taken: no clear runs, the ATE has a credit for each, the region is in service (R331,
R335). -/
def State.ateTakes (s : State) (k n : Nat) : Bool := !bitAt s.cmn.clearing k && decide (s.ateLoad k + n ≤ 4096) && !s.regionDead k

/-- The operand i of an ATOMIC descriptor, as a request (R274, R327). -/
def State.atomOperand (s : State) (j i : Nat) (w : List Nat) : CmnReq :=
  let aop := dArg w % 16
  let a := dB w + i * atomIn aop
  let ops := if aop = 1 then [memLe s.eng.mem a 8, memLe s.eng.mem (a + 8) 8] else [memLe s.eng.mem a (atomIn aop)]
  CmnReq.mk (.engine j i) (bits (dw w 1) 0 24 + i * atomOut aop) (.atomic aop ops)

/-- The operands of an ATOMIC go to the ATE in order, each against a credit (R274, R327, R331). -/
def State.ateFeed (s : State) (j : Nat) : Nat → State
  | 0 => s
  | fuel + 1 =>
    match kget s.eng.jobs j with
    | none => s
    | some b =>
      let q := s.atomOperand j b.sent b.words
      if b.sent < dM b.words ∧ s.ateTakes (cmnRegion q.off) 1 then
        ((s.onEng (fun w => { w with jobs := kput w.jobs j { b with sent := b.sent + 1 } })).batchAdd q).ateFeed j fuel
      else s

/-- Hand over the operands of an ATOMIC that find a credit. -/
def State.ateStart (s : State) (j : Nat) : State :=
  match kget s.eng.jobs j with
  | some b => s.ateFeed j (dM b.words)
  | none => s

/-- Operands that waited for a credit go on, region by region. -/
def State.ateFeedAll (s : State) : State :=
  (List.finRange 8).foldl (fun s k =>
    match kget s.eng.run (EngId.ate k).num with
    | some r => s.ateStart r.tile.job
    | none => s) s

/-- The parts of a range by lines: (offset, length) (R329). -/
def lineParts : Nat → Nat → Nat → List (Nat × Nat)
  | 0, _, _ => []
  | fuel + 1, off, n =>
    if n = 0 then []
    else
      let m := min n (64 - off % 64)
      (off, m) :: lineParts fuel (off + m) (n - m)

/-- A range of the Commons lies in one region (R63). -/
def cmnRange (off n : Nat) : Bool := decide (off + n ≤ 0x1000000) && (n == 0 || off / 0x200000 == (off + n - 1) / 0x200000)

/-- The Commons offset of a packet. -/
def Deliv.cmnOff (r : Deliv) : Nat := bits r.pkt.w2.toNat 0 24

/-- The packet addresses the Commons: a kind of Table 2.9 to the part's own GID. -/
def isCommons (kind : Nat) (r : Deliv) : Bool := r.fn == .own && r.pkt.kind.toNat == kind

/-- A packet waits for the ATE of region k: a Commons request of the part's own GID. -/
def Deliv.forAte (r : Deliv) (k : Nat) : Bool :=
  (isCommons 0x01 r || isCommons 0x02 r || isCommons 0x05 r) && decide (r.pkt.w2.toNat < 0x1000000) && cmnRegion r.cmnOff == k

/-- The service block passes the request at `pos` to the ATE of region k: it has the credits, and no earlier request to that region
waits in the Reel (R329, R331). -/
def State.atePasses (s : State) (pos k n : Nat) : Bool :=
  s.ateTakes k n && !(s.sw.localQ.take pos).any (fun r => r.forAte k)

/-- Start the parts of a packet (R329). -/
def State.cmnStart (s : State) (r : Deliv) (acts : List (Nat × CmnAct)) (data : List Byte) : State :=
  if acts.isEmpty then s.cmnAnswer (CmnOp.mk r 0 data false)
  else
    let id := s.cmn.nextOp
    let s := s.onCmn (fun w => { w with nextOp := id + 1, ops := kput w.ops id (CmnOp.mk r acts.length data false) })
    acts.foldl (fun s (a : Nat × CmnAct) => s.batchAdd (CmnReq.mk (.packet id) a.1 a.2)) s

/-- COMMONS_WRITE (R63, R329). -/
def doCommonsWrite (pos : Nat) (s : State) : State :=
  match s.takeLocal pos (isCommons 0x01) with
  | none => s
  | some (r, t) =>
    let off := r.cmnOff
    let bs := r.pkt.payload
    if 0x1000000 ≤ r.pkt.w2.toNat ∨ !cmnRange off bs.length then t.nack r 5
    else
      let parts := lineParts 65 off bs.length
      if !s.atePasses pos (cmnRegion off) parts.length then s
      else t.cmnStart r (parts.map (fun (x : Nat × Nat) => (x.1, CmnAct.write (slice bs (x.1 - off) x.2)))) []

def execCommonsWrite (pos : Nat) (s : State) : Host.Outcome State Fault Refusal := settle s (doCommonsWrite pos s)

/-- COMMONS_READ (R63, R68, R329). Reads of the telemetry window are another command. -/
def doCommonsRead (pos : Nat) (s : State) : State :=
  match s.takeLocal pos (fun r => isCommons 0x02 r && decide (r.pkt.w2.toNat < 0x100000000)) with
  | none => s
  | some (r, t) =>
    let off := r.cmnOff
    let n := 4 * r.pkt.w1k.toNat
    if 0x1000000 ≤ r.pkt.w2.toNat ∨ !cmnRange off n ∨ n = 0 ∨ 4096 < n ∨ (r.pkt.tc = 7 ∧ 2012 < n) then t.nack r 5
    else
      let parts := lineParts 66 off n
      if !s.atePasses pos (cmnRegion off) parts.length then s
      else t.cmnStart r (parts.map (fun (x : Nat × Nat) => (x.1, CmnAct.read x.2))) (List.replicate n 0)

def execCommonsRead (pos : Nat) (s : State) : Host.Outcome State Fault Refusal := settle s (doCommonsRead pos s)

/-- A replay slot is idle: its newest record was applied 10 ms ago or more (R332). Times of records are counted in ns from reset by
the clock that TIME_NS counts with, without the steps of TIME_NS: with a step, the times measured on TIME_NS move with it. -/
def State.slotIdle (s : State) (sl : Slot) : Bool :=
  sl.recs.all (fun r => match r.time with | some t => decide (t + 10000000 ≤ s.tb.mono) | none => false)

/-- Replay slots of a region that are not idle. -/
def State.slotsUsed (s : State) (k : Nat) : Nat :=
  (s.cmn.replay.filter (fun e => (unpair e.1).1 == k && !s.slotIdle e.2)).length

/-- Make room for a source in a region's replay store: 2,048 slots, an idle one being taken (Table 12.5 rows 1 and 2). -/
def State.replayRoom (s : State) (k : Nat) : Option State :=
  let mine := s.cmn.replay.filter (fun e => (unpair e.1).1 == k)
  if mine.length < 2048 then some s
  else (mine.find? (fun e => s.slotIdle e.2)).map (fun e => s.onCmn (fun w => { w with replay := kdel w.replay e.1 }))

/-- Apply an atomic: a pending record is made and the request joins its batch. -/
def State.atomTake (s : State) (r : Deliv) (k g psn aop off : Nat) (sl : Slot) : State :=
  let d := (sl.hi + 2 ^ 24 - psn) % 2 ^ 24
  let hi := if d < 2 ^ 23 then sl.hi else psn
  let recs := (sl.recs ++ [Rec.mk psn aop off 0 none]).filter (fun (r : Rec) => decide ((hi + 2 ^ 24 - r.psn) % 2 ^ 24 < 64))
  let s := s.onCmn (fun w => { w with replay := kput w.replay (replayKey k g) (Slot.mk hi recs) })
  s.cmnStart r [(off, .atomic aop (atomOps aop r.pkt.payload))] (List.replicate (atomOut aop) 0)

/-- An atomic from a source that has a slot (Table 12.5 rows 3 to 8). -/
def State.atomReplay (s : State) (r : Deliv) (k g psn aop off : Nat) (sl : Slot) : State :=
  let d := (sl.hi + 2 ^ 24 - psn) % 2 ^ 24
  match (if d < 64 then sl.recs.find? (fun x => x.psn == psn) else none) with
  | some x =>
    (match x.time with
     | none => s.bumpCmn k .cmnRetryPending
     | some t =>
       if x.aop ≠ aop ∨ x.off ≠ off then s.nack r 5
       else if t + 2000000 ≤ s.tb.mono then (s.bumpCmn k .cmnStale).nack r 4
       else (s.bumpCmn k .cmnReplayHit).respond r 0x06 0 r.pkt.w2 (beBytes (atomOut aop) x.prior))
  | none =>
    if 64 ≤ d ∧ d < 2 ^ 23 then (s.bumpCmn k .cmnStale).nack r 4 else s.atomTake r k g psn aop off sl

/-- COMMONS_ATOMIC (R47, R63, R332). -/
def doCommonsAtomic (pos : Nat) (s : State) : State :=
  match s.takeLocal pos (isCommons 0x05) with
  | none => s
  | some (r, t) =>
    let off := r.cmnOff
    let aop := bits r.pkt.w1k.toNat 7 4
    let n := atomOut aop
    let k := cmnRegion off
    if 0x1000000 ≤ r.pkt.w2.toNat ∨ 4 < aop ∨ off % n ≠ 0 ∨ r.pkt.payload.length ≠ atomIn aop then t.nack r 5
    else if !s.atePasses pos k 1 then s
    else
      let g := r.pkt.sgid.toNat
      let psn := r.pkt.psn.toNat
      match kget t.cmn.replay (replayKey k g) with
      | some sl => t.atomReplay r k g psn aop off sl
      | none =>
        match t.replayRoom k with
        | none => t.bumpCmn k .cmnReplayFull
        | some t => t.atomTake r k g psn aop off ⟨psn, []⟩

def execCommonsAtomic (pos : Nat) (s : State) : Host.Outcome State Fault Refusal := settle s (doCommonsAtomic pos s)

/-- COMMONS_BATCH_APPLY (R330): the window has passed, or the batch holds 1,024 requests. -/
def execCommonsBatchApply (line : BitVec 18) (s : State) : Host.Outcome State Fault Refusal :=
  settle s (match kget s.cmn.batch line.toNat with
    | some b => if (s.cmnWindow ≤ span32 b.1 s.now ∨ 1024 ≤ b.2.length) ∧ bitAt s.cmn.clearing (lineRegion line.toNat) = false then (s.batchApply line.toNat).ateFeedAll else s
    | none => s)

/-- CMN_CLEAR (R335): a write of CMN_CTRL with CLEAR 1. -/
def State.doCmnClear (s : State) (regions : Nat) : State :=
  let s := (s.wr .cmnCtrl_regions 0 regions).wr .cmnCtrl_clear 0 1
  s.onCmn (fun w => { w with clearing := regions % 256 })

def execCmnClear (src : Src) (regions : BitVec 8) (s : State) : Host.Outcome State Fault Refusal :=
  settle s (s.onWrite src .cmnCtrl 0 (fun s => s.doCmnClear regions.toNat))

/-- Everything the Commons holds of the regions named is emptied: bytes, poison and replay stores. -/
def State.cmnWipe (s : State) (regions : Nat) : State :=
  s.onCmn (fun w => { w with
    mem := w.mem.filter (fun e => !bitAt regions (cmnRegion e.1)),
    poison := w.poison.filter (fun l => !bitAt regions (lineRegion l)),
    replay := w.replay.filter (fun e => !bitAt regions (unpair e.1).1) })

/-- CMN_CLEAR_COMPLETE (R335). -/
def execCmnClearComplete (s : State) : Host.Outcome State Fault Refusal :=
  settle s (if s.flag .cmnCtrl_clear 0 then
    ((((s.cmnWipe s.cmn.clearing).onCmn (fun w => { w with clearing := 0 })).wr .cmnCtrl_clear 0 0)).ateFeedAll else s)

/-- An uncorrectable codeword poisons a line (R334, Table 17.2). -/
def State.poisonLine (s : State) (line : Nat) : State :=
  (if s.poisoned line then s else s.onCmn (fun w => { w with poison := w.poison ++ [line] })).bumpCmn (lineRegion line) .cmnPoison

end Sys2Proof.Machine
end

