-- ==== Sys2Proof/Machine/Compute.lean ====
section
/-! DEFINITION. What a tile computes and writes, opcode by opcode (R236 to R257, R269 to R272, R279). -/

namespace Sys2Proof.Machine

/-! Writing results. -/

/-- The bytes of a run of element encodings, element 0 lowest (Table 9.3). -/
def packBytes (el : Elem) (codes : List Nat) : List Byte :=
  let w := match el with
    | .fp32 => 32 | .bf16 => 16 | .fp16 => 16 | .e4m3 => 8 | .e5m2 => 8 | .int8 => 8 | .e3m2 => 6 | .e2m3 => 6 | .e2m1 => 4
    | .int4 => 4 | .trn2 => 2 | .trn5 => 8
  leBytes (el.rowBytes codes.length) (codes.zipIdx.foldl (fun a c => a + c.1 * 2 ^ (w * c.2)) 0)

/-- The results of an engine that holds no stream: written, their flags set, their clamps counted (R243, R245). -/
def State.putResults (s : State) (e : EngId) (i : Nat) (a : Nat) (el : Elem) (cs : List Conv) : State :=
  let s := (s.memPut a (packBytes el (cs.map (fun c => c.code)))).setFlags i (convFlags cs)
  let n := convSats cs
  match e with
  | .mxe x => if n = 0 then s else s.bumpN 8 (64 + x) n
  | .vxe x => if n = 0 then s else s.bumpN 8 (576 + x) n
  | _ => s

/-- A row of results from column j0 on. -/
def State.putRow (s : State) (e : EngId) (i mode : Nat) (o : Opnd) (r j0 : Nat) (vs : List Flagged) : State :=
  (s.setFlags i (flagsOf vs)).putResults e i (o.row r + j0 * o.fmt.el.size) o.fmt.el (vs.map (fun v => convOut o.fmt.el mode .rne v.1))

/-! MATMUL. -/

/-- Row and column ranges of an output tile: first row, rows, first column, columns (R279). -/
def tileBox (w : List Nat) (num : Nat) : Nat × Nat × Nat × Nat :=
  let nt := (dN w + 127) / 128
  let r := 128 * (num / nt)
  let c := 128 * (num % nt)
  (r, min 128 (dM w - r), c, min 128 (dN w - c))

/-- Groups of a part: the first, and how many. -/
def partRange (w : List Nat) (part : Nat) : Nat × Nat :=
  let g := part * partGroups w
  (g, if part + 1 = matParts w then (dK w + 31) / 32 - g else partGroups w)

/-- The accumulators of a part of a tile, row-major (R236 to R241); `ob` is B as the engine reads it. An existing C enters part 0. -/
def matPart (m : SMap) (ar : EscMap) (mode : Nat) (w : List Nat) (ob : Opnd) (num part : Nat) : List Flagged :=
  let b := tileBox w num
  let g := partRange w part
  (List.range b.2.1).flatMap (fun i => (List.range b.2.2.2).map (fun j =>
    let init := if dAcc w ∧ part = 0 then (opC w).value m mode (b.1 + i) (b.2.2.1 + j) else (Num.zero, 0)
    dotRun m ar mode (opA w) ob (b.1 + i) (b.2.2.1 + j) g.1 g.2 init))

/-- The escape records that a part of a tile reads (R254). -/
def matRecords (m : SMap) (ar : EscMap) (w : List Nat) (ob : Opnd) (num part : Nat) : List (Nat × Nat) :=
  let b := tileBox w num
  let g := partRange w part
  (opA w).records m ar b.1 b.2.1 g.1 g.2 ++ ob.records m ar b.2.2.1 b.2.2.2 g.1 g.2

/-- Add the accumulators of two parts (R279). -/
def addParts (a b : List Flagged) : List Flagged :=
  (a.zip b).map (fun (p : Flagged × Flagged) => let v := p.1.1.acc p.2.1; (v, p.1.2 ||| p.2.2 ||| flagIf v.isNan flNan))

/-- Write a whole output tile. -/
def State.matWrite (s : State) (e : EngId) (i mode : Nat) (w : List Nat) (num : Nat) (vs : List Flagged) : State :=
  let b := tileBox w num
  (List.range b.2.1).foldl (fun s r => s.putRow e i mode (opC w) (b.1 + r) b.2.2.1 ((vs.drop (r * b.2.2.2)).take b.2.2.2)) s

/-! The VXE (R248, R270). -/

/-- FP32 encodings of a row. -/
def codes32 (vs : List Flagged) : List Nat := vs.map (fun v => f32 v.1)

/-- MAX and MIN of two FP32 numbers; of NaN, and of zeros of both signs, the result is not stated. -/
def vxeMax (mx : Bool) (x y : Num) : Num :=
  if x.isNan || y.isNan || (x.isZero && y.isZero && x.isNeg != y.isNeg) then freeF32 (if mx then 0x103 else 0x104) [f32 x, f32 y]
  else if x.lt y then (if mx then y else x) else (if mx then x else y)

/-- BINARY (Table 10.6). -/
def vxeBinary (op : Nat) (x y : Num) : Num :=
  match op with
  | 0 => n32 (f32 (x.add y))
  | 1 => n32 (f32 (x.add y.neg))
  | 2 => n32 (f32 (x.mul y))
  | 3 => vxeMax true x y
  | _ => vxeMax false x y

/-- UNARY (Table 10.6, Table 10.7). -/
def vxeUnary (op : Nat) (x : Num) : Num :=
  match op with
  | 0 => x
  | 1 => if x.isNan || (x.isZero && x.isNeg) then freeF32 0x111 [f32 x] else if x.isNeg then Num.zero else x
  | n => boundedUnary n x

/-- The sum of a row (R270). -/
def rowSum (xs : List Num) : Num := n32 (rowSum32 (xs.map f32))

/-- NORM's result at a value x of its row, in fixed point, given what stands under the root: x · g / √v (Table 10.6). -/
def normAt (fn i : Nat) (args : List Nat) (x g v : Num) : Num :=
  match x, g, v with
  | .fin _ _ _, .fin _ _ _, .fin false m _ =>
    if m = 0 then freeF32 fn (i :: args) else boundedF32 fn (i :: args) 4 (fxMul (fxMul x.fx g.fx) (fxRsqrt v.fx))
  | _, _, _ => freeF32 fn (i :: args)

/-- The mean of a row's FP32 sum. -/
def mean32 (xs : List Nat) : Nat := f32Div (rowSum32 xs) (f32 (.fin false xs.length 0))

/-- A row of NORM: RMS divides by the root of the mean square, LAYER subtracts the mean and divides by the root of the variance, ε
added under the root. Each element is within 4 units in the last place of the exact result from the row's FP32 sums (Table 10.7). -/
def normRow (op eps : Nat) (xs gs : List Num) : List Num :=
  let cs := xs.map f32
  let ds := if op = 0 then cs else cs.map (fun c => f32Sub c (mean32 cs))
  let v := (n32 (mean32 (ds.map (fun d => f32Mul d d)))).add (Elem.bf16.decode eps)
  let args := eps :: (cs ++ gs.map f32)
  (ds.zip gs).zipIdx.map (fun (x : (Nat × Num) × Nat) => normAt (0x120 + op) x.2 args (n32 x.1.1) x.1.2 v)

/-- One row of a VXE descriptor. -/
def vxeRow (m : SMap) (mode : Nat) (w : List Nat) (r : Nat) : List Flagged :=
  let a := (opA w).rowValues m mode r
  let op := dArg w % 16
  match dOp w with
  | 0x10 =>
    let b := (opB w).rowValues m mode (if bitAt (dArg w) 8 then 0 else r)
    (a.zip b).map (fun (p : Flagged × Flagged) => (vxeBinary op p.1.1 p.2.1, p.1.2 ||| p.2.2))
  | 0x11 => a.map (fun x => (vxeUnary op x.1, x.2))
  | 0x12 =>
    let b := (opB w).rowValues m mode 0
    let ys := normRow op (bits (dArg2 w) 0 16) (a.map (fun x => x.1)) (b.map (fun x => x.1))
    (a.zip ys).map (fun (x : Flagged × Num) => (x.2, x.1.2 ||| flagsOf b))
  | _ => [((if op = 0 then rowSum (a.map (fun x => x.1)) else rowMax (a.map (fun x => x.1))), flagsOf a)]

/-! TOPK, SORT, SOFTMAX, SAMPLE (R271). -/

/-- A row of TOPK or SORT: the first n values and their indices. -/
def State.sortRow (s : State) (e : EngId) (i mode : Nat) (w : List Nat) (n r : Nat) : State :=
  let a := (opA w).rowValues s.eng.mem mode r
  let o := (sortDesc (a.map (fun x => x.1))).take n
  let s := (s.setFlags i (flagsOf a)).putRow e i mode (opC w) r 0 (o.map (fun x => (x.1, 0)))
  s.memPut (idxRow w n r) (o.flatMap (fun x => leBytes 4 x.2))

/-- A row of SOFTMAX (R271). -/
def State.softRow (s : State) (e : EngId) (i mode : Nat) (w : List Nat) (r : Nat) : State :=
  let a := (opA w).rowValues s.eng.mem mode r
  s.putRow e i mode (opC w) r 0 ((a.zip (softmax32 (codes32 a))).map (fun (x : Flagged × Nat) => (n32 x.2, x.1.2)))

/-- What SAMPLE returns for a row: the index of the largest at temperature 0, and otherwise the first of the kept prefix whose
running sum exceeds u, with its probability within the prefix (R271, R309). Where no running sum exceeds u, as when a logit is NaN,
the index is free; at temperature 0 the specification gives no probability, and it is free (log entry 4). -/
def State.sampleIdx (s : State) (t topp topk : Nat) (xs : List Num) : (Nat × Nat) × State :=
  let o := sortDesc xs
  if (n32 t).isZero then (match o with | x :: _ => ((x.2, f32 (freeF32 0x160 (xs.map f32))), s) | [] => ((0, 0), s))
  else
    let pre := samplePrefix t topp topk xs
    let d := s.free 21 (2 ^ 32)
    let total := (pre.map (fun x => x.2)).getLastD 0
    let prob := fun (i : Nat) => match pre.find? (fun x => x.1.2 == i) with | some x => f32Div (f32 x.1.1) total | none => 0
    match samplePick d.1 pre with
    | some i => ((i, prob i), d.2)
    | none =>
      let f := d.2.free 21 pre.length
      let i := (nthD pre f.1 ((Num.zero, 0), 0)).1.2
      ((i, prob i), f.2)

/-- A row of SAMPLE. -/
def State.sampleRow (s : State) (i mode : Nat) (w : List Nat) (r : Nat) : State :=
  let a := (opA w).rowValues s.eng.mem mode r
  let p := fun (k : Nat) => memLe s.eng.mem (dB w + k) 4
  let x := s.sampleIdx (p 0) (p 4) (p 8) (a.map (fun x => x.1))
  (x.2.setFlags i (flagsOf a)).memPut (dC w + 4 * r) (leBytes 4 x.1.1)

/-! GATHER (R272). -/

/-- Rows of a gather tile in order; the first index out of range ends it and is answered true. -/
def State.gatherRows (s : State) (w : List Nat) : List Nat → State × Bool
  | [] => (s, false)
  | r :: rest =>
    let x := memLe s.eng.mem (dB w + 4 * r) 4
    if dK w ≤ x then (s, true)
    else
      let a := opA w
      let s := s.memPut ((opC w).row r) (s.memGet (a.row x) (a.fmt.el.rowBytes a.cols))
      let s := if a.fmt.scaled then s.memPut (dScaleB w + r * a.nb) (s.memGet (a.scale + x * a.nb) a.nb) else s
      s.gatherRows w rest

/-! CONVERT (R244, R250 to R256). -/

/-- Fields of a CVT_SCFG word. -/
def scOwnerValid (c : Nat) : Bool := bitAt c 63
def scOwner (c : Nat) : Nat := bits c 48 12
def scMode (c : Nat) : Nat := bits c 46 2
def scRound (c : Nat) : Bool := bitAt c 45
def scEsc (c : Nat) : Bool := bitAt c 44
def scSample (c : Nat) : Bool := bitAt c 43
def scSampleLog2 (c : Nat) : Nat := bits c 39 4
def scMargin (c : Nat) : Nat := bits c 36 3
def scQevt (c : Nat) : Nat := bits c 32 4
def scFixed (c : Nat) : Nat := bits c 24 8
def scQthr (c : Nat) : Nat := bits c 0 16

/-- Every value a conversion reads raises AMAX (R250). -/
def State.raiseAmax (s : State) (st : Nat) (vs : List Num) : State :=
  let m := vs.foldl (fun a v => match magF32 v with | some x => max a x | none => a) (s.rd .cvtAmax_amax st)
  if m = s.rd .cvtAmax_amax st then s else s.wr .cvtAmax_amax st m

/-- The scale rule of a conversion as it begins, and whether FROM_PREV fell back (R249 to R252). A NaN in AMAX_PREV gives an
exponent that is not stated. -/
def State.scaleRule (s : State) (st cfg : Nat) (el : Elem) : ScaleRule × Bool :=
  match scMode cfg with
  | 1 =>
    match n32 (s.rd .cvtAmax_amaxPrev st % 2 ^ 31) with
    | .fin _ m e => if m = 0 then (.fromBlock, true) else (.exponent (log2Of m e + scMargin cfg - el.emax), false)
    | .inf _ => (.fromBlock, true)
    | .nan => (.exponent (((Config.f32Fn 0x150 [s.rd .cvtAmax_amaxPrev st]).toNat % 256 : Nat) - 127), false)
  | 2 => (.fixed (scFixed cfg), false)
  | _ => (.fromBlock, false)

/-- How element j of a block is rounded (R246): to nearest even, or with a fresh 16-bit value. -/
def State.rndOf (s : State) (cfg : Nat) : Nat → Rnd := fun j => if scRound cfg then .sr (Config.freeNat 20 (s.freeCtr + j) % 65536) else .rne

/-- The relative error of a written block: Σ(q − x)² / Σx², every step in FP32 with round-to-nearest-even, the terms of each sum
taken in the order that `k` picks (R257; log entry 4). -/
def checkError (k : Nat → Nat) (xs qs : List Num) : Nat :=
  let ds := (xs.zip qs).map (fun (p : Num × Num) => f32 (p.2.add p.1.neg))
  f32Div (f32Tree k ds.length (ds.map (fun d => f32Mul d d))) (f32Tree k xs.length (xs.map (fun x => f32Mul (f32 x) (f32 x))))

/-- Offer a converted block to the region's checker when its turn has come. A block that holds NaN or infinity, or is written as NaN,
and a block of zeros are passed over (R256). While the checker holds a block that ACCURACY_CHECK has not ended, a free value says
whether the 16 ns of the last one are over (log entry 4). -/
def State.sampleBlock (s : State) (st cfg : Nat) (xs qs : List Num) : State :=
  if scSample cfg then
    let n := sget 0 s.eng.sampled st + 1
    if 2 ^ scSampleLog2 cfg ≤ n && !blockSpecial xs && !qs.any Num.isNan && !xs.all Num.isZero then
      let s := s.onEng (fun w => { w with sampled := sset 0 w.sampled st 0 })
      let held := (kget s.eng.chk (st / 32)).getD []
      let (busy, s) := if held.isEmpty then (0, s) else s.free 37 2
      if busy = 1 then s.bumpCvt st .qskipCnt
      else
        let e := checkError (fun i => Config.freeNat 39 (s.freeCtr + i)) xs qs
        { s.onEng (fun w => { w with chk := kput w.chk (st / 32) (held ++ [(st, cfg, e)]) }) with freeCtr := s.freeCtr + 64 }
    else s.onEng (fun w => { w with sampled := sset 0 w.sampled st n })
  else s

/-- Set or clear bit b of an escape bitmap, for the descriptor at d; a byte that may not be accessed faults the instance (R262). -/
def State.putBit (s : State) (i d a b : Nat) (v : Bool) : State :=
  let f := s.accessFault (a + b / 8) 1
  if f ≠ 0 then s.instFault i f d
  else
    let x := memLe s.eng.mem (a + b / 8) 1
    s.memPut (a + b / 8) (leBytes 1 (if v then setBit x (b % 8) else clearMask x (2 ^ (b % 8))))

/-- The index that a conversion's next escaped block takes: NEXT, or, once NEXT has been written since it began, the index of the
sequence it began with (R255, R259). -/
def State.escIndex (s : State) (c : CvtRun) : Nat :=
  if sget 0 s.eng.escSeq c.st = c.seq then s.rd .cvtEscNext_next c.st else sget 0 s.eng.escOld (Nat.pair c.st c.seq)
/-- The index of the next record is set. -/
def State.setEscIndex (s : State) (c : CvtRun) (v : Nat) : State :=
  if sget 0 s.eng.escSeq c.st = c.seq then s.wr .cvtEscNext_next c.st v
  else s.onEng (fun w => { w with escOld := sset 0 w.escOld (Nat.pair c.st c.seq) v })

/-- The values that a scaled block's encodings stand for; NaN under scale 0xFF (R235). -/
def blockValues (el : Elem) (sb : Nat) (codes : List Nat) : List Num :=
  codes.map (fun c => if sb = 0xFF then .nan else (el.decode c).scale ((sb : Int) - 127))

/-- Write an escape block: its FP8 record, its index in its place, its scale (R253). A record that may not be written faults the
instance at the descriptor d (R262, R286). -/
def State.putEscape (s : State) (i d : Nat) (c : CvtRun) (mode : Nat) (o : Opnd) (r g : Nat) (xs : List Num) : State × List Num :=
  let ix := s.escIndex c
  let b := scaledBlock .e4m3 .fromBlock (modeFlushOut mode) (s.rndOf c.cfg) xs
  let a := c.base / 64 * 64 + 32 * ix
  let f := s.accessFault a 32
  let s := if f = 0 then s.memPut a (slice (packBytes .e4m3 b.codes) 0 32) else s.instFault i f d
  let s := s.memPut (o.place r g) (slice (leBytes 4 ix) 0 (o.fmt.el.rowBytes xs.length))
  let s := s.onEng (fun w => { w with areas := kput w.areas (o.place r g) (ix, c.base) })
  let s := s.memPut (o.scale + r * o.nb + g) (leBytes 1 b.scale)
  let s := (s.setEscIndex c (ix + 1)).bumpCvt c.st .escCnt
  let s := (s.setFlags i b.flags).when (b.sats != 0) (fun s => s.bumpCvt c.st .satCnt b.sats)
  (s, blockValues .e4m3 b.scale b.codes)

/-- Write a block in the output format; answers the values written. -/
def State.putBlock (s : State) (i : Nat) (c : CvtRun) (mode : Nat) (o : Opnd) (r g : Nat) (xs : List Num) : State × List Num :=
  let el := o.fmt.el
  if o.fmt.scaled then
    let b := scaledBlock el c.rule (modeFlushOut mode) (s.rndOf c.cfg) xs
    let s := (s.memPut (o.place r g) (packBytes el b.codes)).memPut (o.scale + r * o.nb + g) (leBytes 1 b.scale)
    let s := (s.setFlags i b.flags).when (b.sats != 0) (fun s => s.bumpCvt c.st .satCnt b.sats)
    (s, blockValues el b.scale b.codes)
  else
    let rnd := s.rndOf c.cfg
    let cs := xs.zipIdx.map (fun (x : Num × Nat) => convOut el mode (rnd x.2) x.1)
    let s := (s.memPut (o.place r g) (packBytes el (cs.map (fun x => x.code)))).setFlags i (convFlags cs)
    let s := s.when (convSats cs != 0) (fun s => s.bumpCvt c.st .satCnt (convSats cs))
    (s, cs.map (fun x => el.decode x.code))

/-- One block of a conversion of the descriptor at d (R244). -/
def State.cvtBlock (s : State) (i d : Nat) (c : CvtRun) (mode : Nat) (w : List Nat) (r g : Nat) : State :=
  let a := opA w
  let o := opC w
  let n := min 32 (a.cols - 32 * g)
  let fs := (List.range n).map (fun j => a.value s.eng.mem mode r (32 * g + j))
  let xs := fs.map (fun x => x.1)
  let s := (s.setFlags i (flagsOf fs)).raiseAmax c.st xs
  let esc := scEsc c.cfg && o.fmt.scaled && o.fmt.el.escapable
  let meets := esc && escapes o.fmt.el c.rule xs
  let room := decide (s.escIndex c < c.cap)
  let s := s.when (meets && !room) (fun s => (s.bumpCvt c.st .escFullCnt).wr .cvtSstatus_escFull c.st 1)
  let p := if meets && room then s.putEscape i d c mode o r g xs else s.putBlock i c mode o r g xs
  let s := p.1.when esc (fun s => s.putBit i d o.bitmap (r * o.nb + g) (meets && room))
  let s := s.when (scRound c.cfg) (fun s => { s with freeCtr := s.freeCtr + 32 })
  s.sampleBlock c.st c.cfg xs p.2

/-- A whole conversion, row by row. -/
def State.cvtAll (s : State) (i d : Nat) (c : CvtRun) (mode : Nat) (w : List Nat) : State :=
  (List.range (dM w)).foldl (fun s r => (List.range (opA w).nb).foldl (fun s g => s.cvtBlock i d c mode w r g) s) s

/-- What a conversion that escapes accesses beyond what its descriptor names: its bitmap, and the records of its escape area that
it may write (R253). -/
def State.cvtRanges (s : State) (c : CvtRun) (w : List Nat) : List (Nat × Nat) :=
  let o := opC w
  if scEsc c.cfg && o.fmt.scaled && o.fmt.el.escapable then
    [(o.bitmap, (o.blocks + 7) / 8), (c.base / 64 * 64 + 32 * s.escIndex c, 32 * min o.blocks (c.cap - s.escIndex c))]
  else []

end Sys2Proof.Machine
end

