-- ==== Sys2Proof/Machine/Engines.lean ====
section
/-! DEFINITION. The engines' commands: instances, issue, tiles, conversion streams and utilisation (R250 to R286). -/

namespace Sys2Proof.Machine

/-! ENG_INST_CMD (R243, R266, R267, R276, R285). -/

/-- Take an ENG_INST_CMD: the fields written, then the operation's result. -/
def State.instCmd (s : State) (op i : Nat) (g : State → State × Nat) : State :=
  let s := (s.wr .engInstCmd_op 0 op).wr .engInstCmd_inst 0 i
  let r := g s
  r.1.wr .engInstCmd_result 0 r.2

/-- START of a host-reserved instance (R266, R267). -/
def State.doInstStart (s : State) (i : Nat) : State × Nat :=
  if i < s.hostFirst then (s, 2)
  else if s.running i then (s, 1)
  else
    let k := s.rd .engInstHead_region 0
    let head := s.rd .engInstHead_head 0 / 64 * 64
    let mode := s.rd .engInstHead_mode 0
    let s := s.setInst i (fun c => { Inst.init with state := 1, region := k, next := head, mode := mode, starts := c.starts + 1, t0 := s.now })
    (s.wakeRegion k, 0)

/-- Writes of a function among the first n BAR2 accesses still wait for a region to wake. -/
def State.bar2Waits (s : State) (f n : Nat) : Bool := s.pwr.bar2.any (fun b => b.fn == f && b.data.isSome && decide (b.num < n))

/-- The function that a source's accesses are of; a command ring is its function's. -/
def srcFn : Src → Option Nat
  | .fn0 => some 0 | .fn1 => some 1 | .ring0 => some 0 | .ring1 => some 1
  | .image => none | .ctl0 => none | .ctl1 => none

/-- INST_START. It waits until the BAR2 writes that the function issued before it have taken effect (R267). -/
def State.startCmd (s : State) (src : Src) (i : Nat) : State :=
  match srcFn src with
  | none => s.instCmd 0 i (fun s => s.doInstStart i)
  | some f =>
    if s.bar2Waits f s.pwr.nextBar2 then
      (((s.wr .engInstCmd_op 0 0).wr .engInstCmd_inst 0 i).wr .engInstCmd_start 0 1).onEng (fun w => { w with startReq := some (f, s.pwr.nextBar2) })
    else s.instCmd 0 i (fun s => s.doInstStart i)

def execInstStart (src : Src) (inst : BitVec 12) (s : State) : Host.Outcome State Fault Refusal :=
  settle s (s.onWrite src .engInstCmd 0 (fun s => s.startCmd src inst.toNat))

/-- A START that waited is performed once none of the writes it waits for is left. -/
def State.startWaiting (s : State) : State :=
  match s.eng.startReq with
  | none => s
  | some q =>
    if s.bar2Waits q.1 q.2 then s
    else
      let i := s.rd .engInstCmd_inst 0
      ((s.onEng (fun w => { w with startReq := none })).wr .engInstCmd_start 0 0).instCmd 0 i (fun s => s.doInstStart i)

/-- ABORT (R285). -/
def State.doInstAbort (s : State) (i : Nat) : State × Nat := if s.running i then (s.instAbort i 7, 0) else (s, 3)

def execInstAbort (src : Src) (inst : BitVec 12) (s : State) : Host.Outcome State Fault Refusal :=
  settle s (s.onWrite src .engInstCmd 0 (fun s => s.instCmd 1 inst.toNat (fun s => s.doInstAbort inst.toNat)))

/-- READ: fill ENG_INST_STATUS and ENG_INST_EVT (R266). -/
def State.doInstRead (s : State) (i : Nat) : State × Nat :=
  let c := s.inst i
  let s := ((s.wr .engInstStatus_state 0 c.state).wr .engInstStatus_fault 0 c.fault).wr .engInstStatus_flags 0 c.flags
  let s := s.wr .engInstStatus_desc 0 (if c.state = 3 then c.fdesc else c.next)
  ((List.range 8).foldl (fun s j => (s.wr .engInstEvt_even j (nthD c.ctr (2 * j) 0)).wr .engInstEvt_odd j (nthD c.ctr (2 * j + 1) 0)) s, 0)

def execInstRead (src : Src) (inst : BitVec 12) (s : State) : Host.Outcome State Fault Refusal :=
  settle s (s.onWrite src .engInstCmd 0 (fun s => s.instCmd 2 inst.toNat (fun s => s.doInstRead inst.toNat)))

/-- CLEAR_FLAGS (R243). -/
def State.doClearFlags (s : State) (i : Nat) : State × Nat := (s.setInst i (fun c => { c with flags := 0 }), 0)

def execInstClearFlags (src : Src) (inst : BitVec 12) (s : State) : Host.Outcome State Fault Refusal :=
  settle s (s.onWrite src .engInstCmd 0 (fun s => s.instCmd 3 inst.toNat (fun s => s.doClearFlags inst.toNat)))

/-- SIGNAL (R276). -/
def State.doInstSignal (s : State) (i c : Nat) : State × Nat := if s.running i then (s.signal i c, 0) else (s, 3)

def execInstSignal (src : Src) (inst : BitVec 12) (ctr : BitVec 4) (s : State) : Host.Outcome State Fault Refusal :=
  settle s (s.onWrite src .engInstCmd 0 (fun s =>
    (s.wr .engInstCmd_ctr 0 ctr.toNat).instCmd 4 inst.toNat (fun s => s.doInstSignal inst.toNat ctr.toNat)))

/-! Issue (R269, R275 to R280). -/

/-- The dispatcher may take an instance's next descriptor: RUNNING, its END not issued, fewer than 64 incomplete, nothing of it
waiting for a queue (R275, R280). -/
def State.mayIssue (s : State) (i : Nat) : Bool :=
  let c := s.inst i
  c.state == 1 && !c.ended && decide (c.jobs.length < 64) &&
    !c.jobs.any (fun j => match kget s.eng.jobs j with | some b => !b.wait.isEmpty | none => false)

/-- The next descriptor cannot be fetched (R262, R286). -/
def State.fetchFault (s : State) (i : Nat) : Nat :=
  let c := s.inst i
  if s.regionDead c.region then 8 else s.rangeFault c.next 64

/-- The list goes on, or ends (R268). -/
def State.advance (s : State) (i : Nat) (w : List Nat) : State :=
  s.setInst i (fun c => if dEnd w then { c with ended := true } else { c with next := dNext w })

/-- The 64-byte snapshot header, in little-endian order (R429, R430). -/
def State.snapHeader (s : State) : List Byte :=
  leBytes 4 (s.rd .telSnapStatus_seq 0) ++ leBytes 4 (s.rd .telSnapStatus_time 0) ++ leBytes 4 (s.rd .telExpose_groups 0) ++
    List.replicate 52 0

/-- A shadow of the last snapshot. -/
def State.shadowAt (s : State) (g i : Nat) : Nat := sget 0 s.tel.shadow (Nat.pair g i)

/-- What a descriptor that completes at issue does: NOP, SET_MODE, FLAGS, TEL_READ, and those whose shape is empty. -/
def State.ctlEffect (s : State) (i : Nat) (w : List Nat) : State :=
  match dOp w with
  | 0xF1 => s.setInst i (fun c => { c with mode := bits (dArg2 w) 0 8 })
  | 0xF2 =>
    let s := s.memPut (dC w) (leBytes 4 (s.inst i).flags)
    s.when (bitAt (dArg w) 0) (fun s => s.setInst i (fun c => { c with flags := 0 }))
  | 0xF3 =>
    s.memPut (dC w) (s.snapHeader ++ (List.range (dM w)).flatMap (fun j => leBytes 8 (s.shadowAt (dArg w % 32) (dK w + j))))
  | _ => s

/-- A descriptor issues: it completes at once, or is cut into tiles that are queued (R279, R280). -/
def State.issue (s : State) (i : Nat) (w : List Nat) : State :=
  if dKind w = 0xF ∨ shapeZero w then
    let s := (s.ctlEffect i w).advance i w
    let s := s.when (dSigEn w) (fun s => s.signal i (dSigCtr w))
    let s := s.when (dOp w == 0x20 && dStepEnd w) (fun s => s.askStep (dStream w))
    s.instDone? i
  else
    let c := s.inst i
    let home := homeRegion c.region w
    let id := s.eng.nextJob
    let ts := tilesOf w
    let job : Job := { inst := i, addr := c.next, words := w, mode := c.mode, left := ts,
                       wait := ts.map (fun (t : Nat × Nat) => Tile.mk id t.1 t.2 home), accs := [], todo := dM w, sent := 0, router := none }
    let s := s.onEng (fun e => { e with jobs := kput e.jobs id job, nextJob := id + 1 })
    ((s.setInst i (fun c => { c with jobs := c.jobs ++ [id] })).advance i w).pumpJob id

/-- The dispatcher takes an instance's next descriptor: it waits, faults or issues. -/
def State.issueNext (s : State) (i : Nat) : State :=
  let c := s.inst i
  let f := s.fetchFault i
  if f ≠ 0 then s.instFault i f c.next
  else if (rangeRegions c.next 64).any (fun k => s.rd .pwrRegionStatus_state k != 0) then (rangeRegions c.next 64).foldl State.wakeRegion s
  else
    let w := descWords s.eng.mem c.next
    let s := s.hbmAccess c.next
    if !waitMet c w then s
    else
      let d := s.descFault i w
      if d ≠ 0 then s.instFault i d c.next else s.issue i w

/-! XFE transfers (R273, R298). -/

/-- The request that a REPLY answers: the one whose slot contains ADDR_A, else the batch's first (R298). -/
def replyTarget (g : SvcGrp) (a : Nat) : Option SvcReq :=
  let size := seSlotSize g.entry
  match g.reqs.find? (fun q => decide (seInbox g.entry + q.slot * size ≤ a) && decide (a < seInbox g.entry + (q.slot + 1) * size)) with
  | some q => some q
  | none => g.reqs.head?

/-- The pieces of a transfer: (offset, length). An empty SEND or REPLY is one packet. -/
def xfePieces (op len seg : Nat) : List (Nat × Nat) :=
  if len = 0 then (if op = 0x62 ∨ op = 0x63 then [(0, 0)] else [])
  else (List.range ((len + seg - 1) / seg)).map (fun j => (seg * j, min seg (len - seg * j)))

/-- PSN and MSGID counters of a region's XFE. -/
def State.xfePsn (s : State) (k : Nat) : Nat := sget 0 s.eng.xctr (2 * k) % 2 ^ 24
def State.xfeMsg (s : State) (k : Nat) : Nat := sget 0 s.eng.xctr (2 * k + 1) % 2 ^ 16

/-- The response packets of a REPLY: STATUS and payload (R67, R273, R298). Of a request of several packets the first to arrive decides
ECHO (the model's choice, log entry 27). -/
def State.sendReply (s : State) (k : Nat) (q : SvcReq) (status : Nat) (bs : List Byte) : State :=
  let p0 := q.hdr0.getD q.first.pkt
  let tc := p0.tc.toNat
  let ps := xfePieces 0x63 bs.length (if tc = 7 then 2012 else 4096)
  let mid := s.xfeMsg k
  let s := s.onEng (fun e => { e with xctr := sset 0 e.xctr (2 * k + 1) (mid + 1) })
  ps.foldl (fun s (x : Nat × Nat) =>
    let psn := s.xfePsn k
    let p := (s.newPacket 0x19 tc p0.sgid.toNat).withPayload ((bs.drop x.1).take x.2)
    let p := { p with sgid := p0.dgid, key := p0.key, ctx := p0.ctx, w2 := p0.w2, psn := BitVec.ofNat 24 psn, msgid := BitVec.ofNat 16 mid,
                      w1k := BitVec.ofNat 11 (status * 256), echo := q.first.pkt.cm == 3,
                      last := decide (1 < ps.length) && x.1 + x.2 == bs.length }
    (s.onEng (fun e => { e with xctr := sset 0 e.xctr (2 * k) (psn + 1) })).originate k p) s

/-- A REPLY begins (R298). -/
def State.replyStart (s : State) (k i : Nat) (w : List Nat) : State :=
  match s.instGrp i with
  | none => s
  | some g =>
    match replyTarget g (dA w) with
    | none => s
    | some q => if q.answered then s.bumpSvc g.sv .replyExtra else (s.sendReply k q (xStatus w) (s.memGet (dA w) (xLen w))).markAnswered g.num q.slot

/-- A WRITE, READ or SEND begins: its packets are sent and await their answers (R273). -/
def State.xfeStart (s : State) (k j i : Nat) (w : List Nat) : State :=
  let op := dOp w
  let tc := match s.instEntry i with | some e => seClass e | none => xTc w
  let ps := xfePieces op (xLen w) (if tc = 7 then 2012 else 4096)
  let mid := s.xfeMsg k
  let s := s.onEng (fun e => { e with xctr := sset 0 e.xctr (2 * k + 1) (mid + 1) })
  ps.foldl (fun s (x : Nat × Nat) =>
    let psn := s.xfePsn k
    let p := s.newPacket (if op = 0x60 then 0x01 else if op = 0x61 then 0x02 else 0x04) tc (xDgid w)
    let p := if op = 0x61 then p else p.withPayload (s.memGet (dA w + x.1) x.2)
    let p := { p with key := BitVec.ofNat 16 (xKey w), ctx := BitVec.ofNat 32 (xCtx w), psn := BitVec.ofNat 24 psn,
                      msgid := BitVec.ofNat 16 mid, w2 := BitVec.ofNat 64 (if op = 0x62 then xRaddr w else xRaddr w + x.1),
                      w1k := BitVec.ofNat 11 (if op = 0x60 then 2 ^ 10 else if op = 0x61 then x.2 / 4 else 0) }
    let r : XReq := { k := k, psn := psn, msgid := mid, job := j, pkt := p, off := x.1, len := x.2, got := 0, resends := 0, sentAt := s.tb.mono }
    (s.onEng (fun e => { e with xctr := sset 0 e.xctr (2 * k) (psn + 1), xfe := e.xfe ++ [r] })).originate k p) s

/-- A packet of the XFE is resent with the HOPS_INIT in force (R69), or its instance faults after RETRIES resends and the target's score falls (R273, Table 14.1). -/
def State.xfeRetry (s : State) (x : XReq) : State :=
  match kget s.eng.jobs x.job with
  | none => s
  | some b =>
    if s.rd .engXfeCfg_retries 0 ≤ x.resends then
      let s := (s.onEng (fun e => { e with xfe := e.xfe.filter (fun y => y.job != x.job) })).instFault b.inst 7 b.addr
      s.when (decide (x.pkt.dgid.toNat < 2 ^ 18)) (fun s => s.requestLost x.pkt.dgid.toNat)
    else
      let p := { x.pkt with hops := BitVec.ofNat 6 s.hopsInit }
      let y := { x with pkt := p, resends := x.resends + 1, got := 0, sentAt := s.tb.mono }
      (s.onEng (fun e => { e with xfe := e.xfe.map (fun z => if z = x then y else z) })).originate x.k p

/-- ENG_XFE_CFG.RETRY_US in ns; 0 is used as 1 (R273). -/
def State.xfeRetryNs (s : State) : Nat := 1000 * max 1 (s.rd .engXfeCfg_retryUs 0)

/-- XFE_RETRY_TIMEOUT (R273): it acts once RETRY_US has passed since the packet was last sent. -/
def execXfeRetryTimeout (k : Fin 8) (psn : BitVec 24) (s : State) : Host.Outcome State Fault Refusal :=
  settle s (match s.eng.xfe.find? (fun x => x.k == k.val && x.psn == psn.toNat) with
    | some x => s.when (decide (x.sentAt + s.xfeRetryNs ≤ s.tb.mono)) (fun s => s.xfeRetry x)
    | none => s)

/-! Starting tiles (R281 to R283, R409). -/

/-- B of a MATMUL as a running tile reads it. -/
def Run.opB (r : Run) (e : EngId) (w : List Nat) : Opnd := opBAt w r.cut e.region

/-- Every range of engine memory that a running tile accesses: those its descriptor names, the replica of B, and what escape blocks
bring in (R253, R254, R283). -/
def State.tileRanges (s : State) (e : EngId) (r : Run) (b : Job) : List (Nat × Nat) :=
  let w := b.words
  b.ranges ++ (if dOp w = 0x01 then (r.opB e w).ranges ++ matRecords s.eng.mem s.eng.areas w (r.opB e w) r.tile.num r.tile.part else []) ++
    (match r.cvt with | some c => s.cvtRanges c w | none => [])

/-- Regions asleep among those a running tile's accesses lie in. -/
def State.asleep (s : State) (e : EngId) (r : Run) (b : Job) : List Nat :=
  (s.tileRanges e r b).flatMap (fun (x : Nat × Nat) => (rangeRegions x.1 x.2).filter (fun k => s.rd .pwrRegionStatus_state k != 0))

/-- A tile starts on an engine. -/
def State.startTile (s : State) (e : EngId) (t : Tile) (cut : Bool) : State :=
  match kget s.eng.jobs t.job with
  | none => s
  | some b =>
    let w := b.words
    let st := dStream w
    let cfg := s.storedReg .cvtScfg st
    let rule := s.scaleRule st cfg (opC w).fmt.el
    let cvt := match e with
      | .cve _ => some (CvtRun.mk st cfg rule.1 (s.rd .cvtEscCfg_base st) (s.rd .cvtEscCfg_cap st) (sget 0 s.eng.escSeq st))
      | _ => none
    let run : Run := ⟨t, cut, cvt⟩
    let s := (s.asleep e run b).foldl State.wakeRegion s
    let s := (s.tileRanges e run b).foldl (fun s r => s.hbmAccess r.1) s
    let s := s.onEng (fun x => { x with run := kput x.run e.num run })
    let s := s.when cvt.isSome (fun s =>
      (s.wr .cvtSstatus_busy st 1).when (rule.2 && (opC w).fmt.scaled) (fun s => s.wr .cvtSstatus_amaxFallback st 1))
    let s := match e with
      | .xfe k => if dOp w = 0x63 then s.replyStart k b.inst w else s.xfeStart k t.job b.inst w
      | .ate _ => s.ateStart t.job
      | _ => s
    s.pump

/-- The first tile of a list that may begin: a conversion whose stream awaits its AMAX exchange may not (R250). -/
def State.mayBegin (s : State) (e : EngId) (t : Tile) : Bool :=
  match e, kget s.eng.jobs t.job with
  | .cve _, some b => !s.eng.steps.contains (dStream b.words)
  | _, _ => true

/-- Start the head of an engine's own queue. -/
def State.startHead (s : State) (e : EngId) : State :=
  match s.tq e.queue with
  | t :: rest => if s.mayBegin e t then (s.setTq e.queue rest).startTile e t false else s
  | [] => s

/-- Insert by falling key, behind equal keys. -/
def insFall (x : Nat × Nat) : List (Nat × Nat) → List (Nat × Nat)
  | [] => [x]
  | y :: l => if y.2 < x.2 then x :: y :: l else y :: insFall x l

/-- Numbers in order of falling length, lower number first between equals. -/
def byLength (xs : List (Nat × Nat)) : List Nat := (xs.foldl (fun l x => insFall x l) []).map (fun x => x.1)

/-- The eight queues of a kind in a region: kind 0 MXE, 1 VXE. -/
def kindQueues (x r : Nat) : List Nat := (List.range 8).map (fun j => 64 * x + 8 * r + j)

/-- The tile queue that a sibling steals from: the longest of the other blocks of the region, lowest number on a tie (R281). -/
def State.victim (s : State) (x r b : Nat) : Option Nat :=
  (byLength (((kindQueues x r).filter (fun q => q != 64 * x + b)).map (fun q => (q, (s.tq q).length)))).head?

/-- Utilisation that R282 compares, in 1/256: the Scratch banks of the home region, or the stack that holds B, which is at least that
of the two regions it serves and whose use by everything else is a free value of the window (log entry 43). -/
def State.utilOf (s : State) (h : Nat) (w : List Nat) : Nat :=
  match (if usesB (dOp w) then stackOf? (dB w) else none) with
  | some j => min 255 (s.rd .engUtil_hbm (2 * j) + s.rd .engUtil_hbm (2 * j + 1) + sget 0 s.eng.stackMore j)
  | none => s.rd .engUtil_region h

/-- A tile may be taken by region r (R281). -/
def State.mayCut (s : State) (r : Nat) (t : Tile) : Bool :=
  match kget s.eng.jobs t.job with
  | none => false
  | some b => !dHomeOnly b.words && (decide (s.utilOf t.home b.words < 2 * s.rd .engStealCfg_portThr 0) || bitAt (dRepl b.words) r)

/-- The tile that cut-in takes, and its queue: other regions by tiles queued, each queue by length and from its tail (R281). -/
def State.cutFind (s : State) (x r : Nat) : Option (Nat × Tile) :=
  let hs := byLength (((List.range 8).filter (· != r)).map (fun h => (h, ((kindQueues x h).map (fun q => (s.tq q).length)).sum)))
  hs.findSome? (fun h =>
    (byLength ((kindQueues x h).map (fun q => (q, (s.tq q).length)))).findSome? (fun q =>
      ((s.tq q).reverse.find? (fun t => s.mayCut r t)).map (fun t => (q, t))))

/-- An idle MXE or VXE of block b whose own queue is empty steals or cuts in (R281). -/
def State.steal (s : State) (e : EngId) (x b : Nat) : State :=
  let r := b / 8
  let leave := fun (s : State) => s.wr .pwrRegionStatus_c1 r (clearMask (s.rd .pwrRegionStatus_c1 r) (2 ^ (b % 8)))
  let v := if s.flag .engStealCfg_sibEn 0 then s.victim x r b else none
  match v.bind (fun q => if (s.tq q).isEmpty then none else some q) with
  | some q =>
    let l := s.tq q
    let n := (l.length + 1) / 2
    (leave ((s.setTq q (l.take (l.length - n))).setTq (64 * x + b) (l.drop (l.length - n)))).startHead e
  | none =>
    if s.flag .engStealCfg_cutEn 0 then
      (match s.cutFind x r with
       | some (q, t) => ((leave s).setTq q ((s.tq q).filter (· != t))).startTile e t true
       | none => s)
    else s

/-- The block's power state lets its own queue run: awake, with a grant (R409, R414). -/
def State.blockReady (s : State) (c : Nat) : Bool :=
  !bitAt (s.rd .pwrRegionStatus_c1 (c / 8)) (c % 8) && !bitAt (s.rd .pwrRegionStatus_c2 (c / 8)) (c % 8) &&
    s.rd .pwrCbGrant_grant c != 0

/-- The engine is there, idle, and its region awake. -/
def State.engineFree (s : State) (e : EngId) : Bool :=
  !s.off && (kget s.eng.run e.num).isNone && !s.regionDead e.region && (s.rd .pwrRegionStatus_state e.region == 0) &&
    (match e.block? with | some c => !s.computeDead c | none => true)

/-- What an idle engine does (R281). -/
def State.seek (s : State) (e : EngId) : State :=
  if !s.engineFree e then s
  else match e.block? with
    | none => s.startHead e
    | some c =>
      if !(s.tq e.queue).isEmpty then (if s.blockReady c then s.startHead e else s)
      else if bitAt (s.rd .pwrRegionStatus_c2 (c / 8)) (c % 8) || s.rd .pwrCbGrant_grant c == 0 then s
      else match e with
        | .mxe _ => s.steal e 0 c
        | .vxe _ => s.steal e 1 c
        | _ => s

/-- ENGINE_SEEK_WORK (R281). -/
def execEngineSeekWork (eng : EngId) (s : State) : Host.Outcome State Fault Refusal := settle s (s.seek eng)

/-! Ending tiles (R276, R279). -/

/-- A part of a tile ends: the last to end writes C, or leaves a router's logits (R279, R311). -/
def State.matSum (s : State) (e : EngId) (j : Nat) (b : Job) (t : Tile) (ob : Opnd) : State :=
  let acc := matPart s.eng.mem s.eng.areas b.mode b.words ob t.num t.part
  let s := s.setFlags b.inst (flagsOf acc)
  let mine := b.accs.filter (fun a => a.1 == t.num)
  let left := b.left.filter (fun x => x != (t.num, t.part))
  if left.any (fun x => x.1 == t.num) then
    s.onEng (fun w => { w with jobs := kput w.jobs j { b with left := left, accs := b.accs ++ [(t.num, acc)] } })
  else
    let all := (mine.map (fun a => a.2)) ++ [acc]
    let sum := match all with | [] => acc | a :: rest => rest.foldl addParts a
    let s := match b.router with
      | some slot => s.onSvc (fun w => { w with logits := w.logits ++ [(b.inst, slot, t.num, sum)] })
      | none => s.matWrite e b.inst b.mode b.words t.num sum
    s.onEng (fun w => { w with jobs := kput w.jobs j { b with left := left, accs := b.accs.filter (fun a => a.1 != t.num) } })

/-- Take a tile off a job. -/
def State.tileLeft (s : State) (j : Nat) (t : Tile) : State :=
  match kget s.eng.jobs j with
  | some b => s.onEng (fun w => { w with jobs := kput w.jobs j { b with left := b.left.filter (fun x => x != (t.num, t.part)) } })
  | none => s

/-- A part of a MATMUL tile ends; an escape record that may not be read faults the instance (R254, R262, R286). -/
def State.matEnd (s : State) (e : EngId) (r : Run) (b : Job) : State :=
  let t := r.tile
  let ob := r.opB e b.words
  let f := s.firstFault (matRecords s.eng.mem s.eng.areas b.words ob t.num t.part)
  if f ≠ 0 then (s.tileLeft t.job t).instFault b.inst f b.addr else s.matSum e t.job b t ob

/-- Rows of an 8-row or 64-row tile. -/
def tileRows (w : List Nat) (t : Tile) : List Nat :=
  let n := if dOp w = 0x50 then 64 else 8
  (List.range (min n (dM w - n * t.num))).map (fun i => n * t.num + i)

/-- The work of a tile takes effect. -/
def State.tileWork (s : State) (e : EngId) (r : Run) (b : Job) : State :=
  let w := b.words
  let i := b.inst
  let t := r.tile
  match dOp w with
  | 0x01 => s.matEnd e r b
  | 0x10 | 0x11 | 0x12 | 0x13 =>
    ((tileRows w t).foldl (fun s x => s.putRow e i b.mode (opC w) x 0 (vxeRow s.eng.mem b.mode w x)) s).tileLeft t.job t
  | 0x20 => (match r.cvt with | some c => s.cvtAll i b.addr c b.mode w | none => s).tileLeft t.job t
  | 0x30 => ((List.range (dM w)).foldl (fun s x => s.sortRow e i b.mode w (dArg w) x) s).tileLeft t.job t
  | 0x31 => ((List.range (dM w)).foldl (fun s x => s.sortRow e i b.mode w (dL w) x) s).tileLeft t.job t
  | 0x40 => ((List.range (dM w)).foldl (fun s x => s.softRow e i b.mode w x) s).tileLeft t.job t
  | 0x41 => ((List.range (dM w)).foldl (fun s x => s.sampleRow i b.mode w x) s).tileLeft t.job t
  | 0x50 =>
    let g := s.gatherRows w (tileRows w t)
    let s := g.1.tileLeft t.job t
    if g.2 then s.instFault i 5 b.addr else s
  | _ => s.tileLeft t.job t

/-- The engine is free again; a conversion's stream is no longer busy, and an idle block enters C1. -/
def State.engineEnds (s : State) (e : EngId) (r : Run) : State :=
  let s := s.onEng (fun x => { x with run := kdel x.run e.num })
  let s := match r.cvt with | some c => s.wr .cvtSstatus_busy c.st 0 | none => s
  match e.block? with | some c => s.idleC1 c | none => s

/-- A tile can end now: an XFE transfer has every answer, an ATOMIC every prior value, and no operand lies in a region that is
still waking. -/
def State.tileEnds (s : State) (e : EngId) (r : Run) (b : Job) : Bool :=
  (s.asleep e r b).isEmpty &&
    (match e with
     | .xfe _ => !s.eng.xfe.any (fun x => x.job == r.tile.job)
     | .ate _ => b.todo == 0
     | _ => true)

/-- A descriptor none of whose tiles is left completes. -/
def State.jobDone? (s : State) (j : Nat) : State :=
  match kget s.eng.jobs j with
  | some b => if b.left.isEmpty || (!(s.inst b.inst).jobs.contains j && !s.eng.run.any (fun r => r.2.tile.job == j)) then s.jobDone j else s
  | none => s

/-- TILE_COMPLETE (R276). -/
def State.tileDone (s : State) (e : EngId) : State :=
  match kget s.eng.run e.num with
  | none => s
  | some r =>
    match kget s.eng.jobs r.tile.job with
    | none => s.engineEnds e r
    | some b =>
      if s.tileEnds e r b then ((s.engineEnds e r).tileWork e r b).jobDone? r.tile.job else s

def execTileComplete (eng : EngId) (s : State) : Host.Outcome State Fault Refusal := settle s (s.tileDone eng)

/-! Streams (R250, R257). -/

/-- CVT_STEP: a write of CVT_SCTRL.STEP. -/
def State.doCvtStep (s : State) (st : Nat) : State := (s.wr .cvtSctrl_step st 1).askStep st

def execCvtStep (src : Src) (st : Fin 256) (s : State) : Host.Outcome State Fault Refusal :=
  settle s (s.onWrite src .cvtSctrl st (fun s => s.doCvtStep st))

/-- AMAX_EXCHANGE (R250): once the conversions begun before the request have ended. -/
def State.doAmaxExchange (s : State) (st : Nat) : State :=
  if s.eng.steps.contains st && !s.converting st then
    let s := s.onEng (fun w => { w with steps := w.steps.filter (· != st) })
    ((s.wr .cvtAmax_amaxPrev st (s.rd .cvtAmax_amax st)).wr .cvtAmax_amax st 0).wr .cvtSctrl_step st 0
  else s

def execAmaxExchange (st : Fin 256) (s : State) : Host.Outcome State Fault Refusal := settle s (s.doAmaxExchange st)

/-- CVT_QCLR (R257). -/
def State.doQclr (s : State) (st : Nat) : State := (s.wr .cvtSstatus_qerr st 0).wr .cvtSstatus_qerrHigh st 0

def execCvtQclr (src : Src) (st : Fin 256) (s : State) : Host.Outcome State Fault Refusal :=
  settle s (s.onWrite src .cvtSctrl st (fun s => s.doQclr st))

/-- QERR after a checked block: QERR + (e − QERR)/16 in FP32 (R257). -/
def qerrNext (q e : Nat) : Nat := f32Add q (f32Mul (f32Sub e q) 0x3D800000)

/-- A block has been checked under the settings of its conversion (R256, R257, R259). -/
def State.checked (s : State) (st cfg e : Nat) : State :=
  let old := s.rd .cvtSstatus_qerr st
  let q := qerrNext old e
  let thr := Elem.bf16.decode (scQthr cfg)
  let s := (s.bumpCvt st .qsampleCnt).wr .cvtSstatus_qerr st q
  if thr.lt (n32 q) && !thr.lt (n32 old) && !s.flag .cvtSstatus_qerrHigh st then
    let s := (s.event .cvtSstatus .cvtSstatus_qerrEvent st).wr .cvtSstatus_qerrHigh st 1
    s.when (scOwnerValid cfg) (fun s => s.signal (scOwner cfg) (scQevt cfg))
  else if s.flag .cvtSstatus_qerrHigh st && !(thr.scale (-1)).lt (n32 q) then s.wr .cvtSstatus_qerrHigh st 0
  else s

/-- ACCURACY_CHECK (R257): the oldest block in the checker. -/
def execAccuracyCheck (k : Fin 8) (s : State) : Host.Outcome State Fault Refusal :=
  settle s (match (kget s.eng.chk k).getD [] with
    | c :: rest => (s.onEng (fun w => { w with chk := if rest.isEmpty then kdel w.chk k else kput w.chk k rest })).checked c.1 c.2.1 c.2.2
    | [] => s)

/-! UTIL_WINDOW (R284). -/

/-- A window counts at level l: at SAT_THR there, below half of it elsewhere, an engine having waited for operands. -/
def saturated (us : List Nat) (thr l : Nat) (waited : Bool) : Bool :=
  waited && decide (2 * thr ≤ nthD us l 0) && ((List.range 4).filter (· != l)).all (fun j => decide (nthD us j 0 < thr))

def State.doUtilWindow (s : State) (k : Nat) (us : List Nat) (waited : Bool) : State :=
  let s := (((s.wr .engUtil_block k (nthD us 0 0)).wr .engUtil_region k (nthD us 1 0)).wr .engUtil_net k (nthD us 2 0)).wr .engUtil_hbm k (nthD us 3 0)
  let (more, s) := s.free 38 256
  let s := s.onEng (fun w => { w with stackMore := sset 0 w.stackMore (k / 2) more })
  (List.range 4).foldl (fun s l =>
    if saturated us (s.rd .engStealCfg_satThr 0) l waited then
      (s.bumpN 8 (4 * k + l) 1).wr .engSat_count (4 * k + l) (min (s.rd .engSat_count (4 * k + l) + 1) 0xFFFFFFFF)
    else s) s

def execUtilWindow (k : Fin 8) (block region net hbm : BitVec 8) (waited : Bool) (s : State) : Host.Outcome State Fault Refusal :=
  settle s (s.doUtilWindow k [block.toNat, region.toNat, net.toNat, hbm.toNat] waited)

end Sys2Proof.Machine
end

