-- ==== Sys2Proof/Machine/Services.lean ====
section
/-! DEFINITION. Resident services: service GIDs, requests, groups, STEER, SAMPLE, GATE and loading (R287 to R315). -/

namespace Sys2Proof.Machine

/-! Service GIDs (R287, R288). -/

/-- A DT entry changes in every regional copy; a rewritten entry is readable again (R123, R129). -/
def State.setDt (s : State) (g e : Nat) : State :=
  { s with tab := { s.tab with dt := sset 0 s.tab.dt g e } }

/-- What an entry held before a table command changed it at this instant (R130). -/
def State.changedNow (s : State) (t i : Nat) : Option Nat :=
  if s.tab.chgAt = s.tb.mono then (s.tab.chg.find? (fun x => x.1 == t && x.2.1 == i)).map (fun x => x.2.2) else none

/-- Two happenings of one nanosecond fall in one CORE_CLK cycle or in two: a free value says which (R130, R474; log entry 50). -/
def State.sameCycle (s : State) : Bool × State := let (v, s) := s.free 36 2; (v == 1, s)

/-- The LOCAL entry of a GID of the part: VALID, STATIC, TYPE LOCAL, with SVC and its number for a service GID (Table 4.2). -/
def localEntry (svc : Option Nat) : Nat := 2 ^ 63 + 2 ^ 62 + 3 * 2 ^ 59 + (match svc with | some g => 16 + g | none => 0)

/-- The GID may not be given to number g: it is the part's own, or another valid number's (R287). -/
def State.svcGidTaken (s : State) (g gid : Nat) : Bool :=
  s.gid? == some gid || (List.range 16).any (fun h => h != g && s.flag .svcGid_valid h && s.rd .svcGid_gid h == gid)

/-- A write of SVC_GIDg (R287). -/
def State.doSvcGidWrite (s : State) (g val : Nat) : State :=
  let gid := bits val 0 18
  if bitAt val 31 && s.svcGidTaken g gid then s.wr .svcGid_refused g 1
  else
    let old := s.rd .svcGid_gid g
    let was := s.flag .svcGid_valid g
    let s := s.when (bitAt val 30) (fun s => s.wr .svcGid_refused g 0)
    let s := s.when (was && (!bitAt val 31 || old != gid)) (fun s => s.setDt old 0)
    let s := (s.wr .svcGid_gid g gid).wr .svcGid_valid g (b2n (bitAt val 31))
    s.when (bitAt val 31) (fun s => s.setDt gid (localEntry (some g)))

def execSvcGidWrite (src : Src) (g : Fin 16) (val : BitVec 32) (s : State) : Host.Outcome State Fault Refusal :=
  settle s (s.onWrite src .svcGid g (fun s => s.doSvcGidWrite g val.toNat))

/-- The copy of the service entry that the ingress region reads cannot be trusted (R36). -/
def State.svcBad (s : State) (r : Deliv) : Bool := s.tab.bad.contains (7, r.pkt.svc, r.region)

/-- The entry that an SVC_REQ at service GID number g names, when the service is bound there (R288). -/
def State.bound? (s : State) (r : Deliv) : Option (Nat × Nat) :=
  match r.fn with
  | .svcGid g =>
    let sv := r.pkt.svc
    let e := s.svcEntry sv
    if seLive e && bitAt (seGids e) g && !s.svcBad r then some (sv, e) else none
  | .own => none

/-- An SVC_REQ delivered to a service GID. -/
def isSvcReq (r : Deliv) : Bool := (match r.fn with | .svcGid _ => true | .own => false) && r.pkt.kind == 0x18

/-! Tests of a request (R293, R295). -/

/-- The reserved operations and formats of a built-in service's request (Table 11.2, R309). -/
def reqOpBad (e : Nat) (p : Packet) : Bool :=
  match seKind e with
  | 1 => decide (1 < p.op)
  | 2 => p.op != 0 || !vecFmt p.parm
  | 3 => decide (1 < p.op)
  | _ => false

/-- The bytes of a slot that a request's packets may fill. -/
def slotLimit (e : Nat) : Nat := if seKind e = 3 then seSlotSize e / 2 else seSlotSize e

/-- The checks of R293 on one packet, given the NPKT of its request's first packet. -/
def reqBad (e : Nat) (p : Packet) (npkt : Nat) : Bool :=
  let i := reqIdx e p
  let n := reqNpkt e p
  decide (n < i) || (decide (i < n) && p.payload.length != 4096) || decide (slotLimit e < 64 + 4096 * i + p.payload.length) ||
    reqOpBad e p || n != npkt

/-- Depth of an admission bucket, in millionths of a token. -/
def admDepth (e : Nat) : Int := ((seAdmBurst e * 1000000 : Nat) : Int)

/-- Tokens of a service's admission bucket now; one that is not listed is full (R177, R295). -/
def State.admTokens (s : State) (sv e : Nat) : Int :=
  match kget s.svc.adm sv with
  | some b => min (admDepth e) (b.tok + ((seAdmRate e * (s.tb.mono - b.at_) : Nat) : Int))
  | none => admDepth e

/-- An admitted request takes one token. -/
def State.admTake (s : State) (sv e : Nat) : State :=
  if seAdmEn e then
    let b : Bucket := ⟨s.admTokens sv e - 1000000, s.tb.mono⟩
    s.onSvc (fun w => { w with adm := kput w.adm sv b })
  else s

/-- ASM_TIMEOUT in ns (SVC_CFG). -/
def State.asmNs (s : State) : Nat := 1000 * (let a := s.rd .svcCfg_asmTimeout 0; if a = 0 then 1 else a)

/-- The request a packet belongs to, as a refusal record names it. -/
def Deliv.reqKey (r : Deliv) : Nat × Nat := (r.pkt.sgid.toNat, r.pkt.msgid.toNat)

/-- A refusal record stands for this request (R295). -/
def State.isRefused (s : State) (sv : Nat) (r : Deliv) : Bool :=
  s.svc.refused.any (fun x => x.1 == sv && x.2.1 == r.reqKey.1 && x.2.2.1 == r.reqKey.2)

/-- Keep a refusal record of a request that fails its tests; the part holds 1,024 (R295). -/
def State.refuseReq (s : State) (sv : Nat) (r : Deliv) : State :=
  if s.svc.refused.length < 1024 then
    s.onSvc (fun w => { w with refused := w.refused ++ [(sv, r.reqKey.1, r.reqKey.2, s.now)] })
  else s

/-- SVC_BUSY (R55, R67, R295). -/
def State.svcBusy (s : State) (sv e : Nat) (r : Deliv) : State := (s.bumpSvc sv .svcBusyTx).respond r 0x1A (seRetry e) r.pkt.w2 []

/-- Tests 2 to 4 of R295: the state after the answer of the first that fails, or none when all pass. -/
def State.admTests (s : State) (sv e : Nat) (r : Deliv) : Option State :=
  if r.pkt.tc = 7 ∧ 2012 < seMaxResp e then some (s.svcError r 1 0)
  else if !s.flag .svcStatus_ready sv then
    some (if s.flag .svcStatus_building sv then s.svcBusy sv e r else s.svcError r 8 0)
  else if seAdmEn e && decide (s.admTokens sv e < 1000000) then some (s.svcBusy sv e r)
  else none

/-! Slots and groups (R296). -/

/-- Slots of a group that no request holds, lowest first. -/
def SvcGrp.spare (g : SvcGrp) : List Nat :=
  ((List.range (seJoinMax g.entry)).map (fun j => g.slot0 + j)).filter (fun i => !g.reqs.any (fun q => q.slot == i))

/-- First slots of the whole groups of an entry. -/
def grpSlots (e : Nat) : List Nat := (List.range (seSlots e / seJoinMax e)).map (fun j => j * seJoinMax e)

/-- The lowest free group of slots of a service. -/
def State.freeGroup (s : State) (sv e : Nat) : Option Nat :=
  (grpSlots e).find? (fun a => !s.svc.grps.any (fun g => g.sv == sv && decide (g.slot0 < a + seJoinMax e) && decide (a < g.slot0 + seJoinMax g.entry)))

/-- A request takes a group of its own (R296). -/
def ownGroup (e : Nat) (p : Packet) : Bool := bitAt p.w1k.toNat 10 || p.tc == 7 || seJoinNs e == 0

/-- The open group of a service. -/
def State.openGroup (s : State) (sv : Nat) : Option SvcGrp := s.svc.grps.find? (fun g => g.sv == sv && !g.closed)

/-- Close a group. -/
def State.closeGrp (s : State) (n : Nat) : State :=
  match s.grp? n with
  | some g => s.setGrp { g with closed := true }
  | none => s

/-- Open a group on free slots: its number and first slot. -/
def State.newGroup (s : State) (sv e : Nat) (alone : Bool) : Option (State × Nat × Nat) :=
  (s.freeGroup sv e).map (fun a =>
    let n := s.svc.nextGrp
    let g : SvcGrp := { num := n, sv := sv, slot0 := a, entry := e, reqs := [], closed := alone, alone := alone, ready := none,
                        waits := false, inst := none }
    (s.onSvc (fun w => { w with grps := w.grps ++ [g], nextGrp := n + 1 }), n, a))

/-- The place of a new request: the state, its group and its slot; none when no slot is free (R296). An open group that runs
under another entry lacks the slot, and closes. -/
def State.placeReq (s : State) (sv e : Nat) (p : Packet) : Option (State × Nat × Nat) :=
  if ownGroup e p then s.newGroup sv e true
  else match s.openGroup sv with
    | none => s.newGroup sv e false
    | some g =>
      match (if g.entry = e then g.spare else []) with
      | i :: _ => some (s, g.num, i)
      | [] => (s.closeGrp g.num).newGroup sv e false

/-- Take a request out of its group, which goes with its last request. -/
def State.dropReq (s : State) (n slot : Nat) : State :=
  match s.grp? n with
  | none => s
  | some g =>
    let l := g.reqs.filter (fun (q : SvcReq) => q.slot != slot)
    if l.isEmpty then s.freeGrp n else s.setGrp { g with reqs := l }

/-! Packets into slots (R293, R294, R308). -/

/-- Address of a slot. -/
def slotAddr (e i : Nat) : Nat := seInbox e + i * seSlotSize e

/-- Write into a slot, where it is mapped. -/
def State.slotPut (s : State) (a : Nat) (bs : List Byte) : State := if bs.isEmpty || !s.mapped a bs.length then s else s.memPut a bs

/-- Word 3 of a header: KEY, CTX and HCRC. -/
def word3 (p : Packet) : Nat := p.key.toNat * 2 ^ 48 + p.ctx.toNat * 2 ^ 16 + p.hcrc.toNat

/-- Header word 6: SES_VALID and the GID of the session slot named by KEY, for a USER service with SESSION 1 (Table 11.3, R308). -/
def State.sesWord (s : State) (e : Nat) (p : Packet) : Nat :=
  let x := sget 0 s.tab.ses p.key.toNat
  if seSession e && seKind e == 0 then (if bitAt x 63 then 2 ^ 63 else 0) + bits x 39 18 else 0

/-- LENGTH of a whole request. -/
def SvcReq.length (q : SvcReq) : Nat := 4096 * q.npkt + q.lastLen

/-- The header of a whole request's slot (Table 11.3). BATCH is written when the group starts. -/
def reqHeader (g : SvcGrp) (q : SvcReq) : List Byte :=
  let p := q.hdr0.getD q.first.pkt
  [q.first.itime * 2 ^ 32 + q.length, p.word0.toNat, p.word1.toNat, p.w2.toNat, word3 p, (q.slot - g.slot0) * 2 ^ 48, q.ses, 0].flatMap (leBytes 8)

/-! The GATE parameter block (Table 11.7). -/

structure GateParam where
  wAddr : Nat
  wScale : Nat
  expAddr : Nat
  h : Nat
  e : Nat
  k : Nat
  inFmt : Nat
  wFmt : Nat
  outFmt : Nat
  norm : Bool
  part : Bool
  us : Nat
  deriving DecidableEq, Repr

/-- The parameter block at an address. -/
def gateParam (m : SMap) (a : Nat) : GateParam :=
  let w := memLe m (a + 24) 8
  { wAddr := bits (memLe m a 8) 0 40, wScale := bits (memLe m (a + 8) 8) 0 40, expAddr := bits (memLe m (a + 16) 8) 0 40,
    h := bits w 48 16, e := bits w 32 16, k := bits w 28 4, inFmt := bits w 22 6, wFmt := bits w 16 6, outFmt := bits w 10 6,
    norm := bitAt w 9, part := bitAt w 8, us := bits (memLe m (a + 32) 8) 48 16 }

/-- The router weights as an operand. -/
def GateParam.weights (g : GateParam) : Opnd := ⟨fmtOf g.wFmt, g.wAddr, 0, g.wScale, g.e, g.h, g.wAddr⟩
/-- Bytes of a row of the request, and of a row of an answer. -/
def GateParam.inRow (g : GateParam) : Nat := (fmtOf g.inFmt).el.rowBytes g.h
def GateParam.outRow (g : GateParam) : Nat := (fmtOf g.outFmt).el.rowBytes g.h
/-- The rows of a request as an operand. -/
def GateParam.rows (g : GateParam) (a t : Nat) : Opnd := ⟨fmtOf g.inFmt, a, 0, 0, t, g.h, a⟩
/-- An entry of the expert table. -/
def GateParam.expert (g : GateParam) (m : SMap) (x : Nat) : Nat := memLe m (g.expAddr + 4 * x) 4

/-- PARAM is sound (R310). -/
def State.paramSound (s : State) (a : Nat) : Bool :=
  let g := gateParam s.eng.mem a
  let ok := fun (r : Nat × Nat) => r.1 % 64 == 0 && s.mapped r.1 r.2
  (scratchRegion? a).isSome && ok (a, 64) && decide (2 ≤ g.e) && decide (g.e ≤ 1024) && decide (1 ≤ g.k) && decide (g.k ≤ 8) &&
    decide (g.k ≤ g.e) && g.h != 0 && vecFmt g.inFmt && vecFmt g.outFmt && matPair g.inFmt g.wFmt &&
    g.weights.ranges.all ok && ok (g.expAddr, 4 * g.e)

/-- A whole request's LENGTH is one its built-in service does not take (R309, R311). -/
def State.lengthBad (s : State) (g : SvcGrp) (q : SvcReq) : Bool :=
  let n := q.length
  match seKind g.entry with
  | 2 =>
    let w := (fmtOf (q.hdr0.getD q.first.pkt).parm).el.size
    decide (n < 16 + w) || decide ((n - 16) % w ≠ 0) || decide (1048576 < (n - 16) / w)
  | 3 =>
    let p := gateParam s.eng.mem (seParam g.entry)
    let t := n / p.inRow
    p.inRow == 0 || decide (n % p.inRow ≠ 0) || decide (t = 0) || decide (64 < t) || decide (seSlotSize g.entry / 2 < t * p.k * p.outRow)
  | _ => false

/-- A request of a group is whole: its header is written, or its length is refused (R294, R309, R311). -/
def State.wholeReq (s : State) (g : SvcGrp) (q : SvcReq) : State :=
  if s.lengthBad g q then (s.svcError q.first 14 0).dropReq g.num q.slot
  else
    let s := s.slotPut (slotAddr g.entry q.slot) (reqHeader g q)
    s.setGrp { g with reqs := g.reqs.map (fun x => if x.slot = q.slot then { q with whole := true } else x),
                      ready := some (g.ready.getD s.now) }

/-- A packet takes its place in its request; a closed or full group follows (R293, R296). -/
def State.takePacket (s : State) (n : Nat) (q : SvcReq) (p : Packet) : State :=
  match s.grp? n with
  | none => s
  | some g =>
    let i := reqIdx g.entry p
    let s := s.slotPut (slotAddr g.entry q.slot + 64 + 4096 * i) p.payload
    let q := { q with seen := q.seen ++ [i], hdr0 := if i = 0 then some p else q.hdr0,
                      lastLen := if i = q.npkt then p.payload.length else q.lastLen }
    let g := { g with reqs := if g.reqs.any (fun (x : SvcReq) => x.slot == q.slot) then g.reqs.map (fun (x : SvcReq) => if x.slot = q.slot then q else x)
                              else g.reqs ++ [q] }
    let g := { g with closed := g.closed || decide (seJoinMax g.entry ≤ g.reqs.length) }
    let s := s.setGrp g
    if q.seen.length = q.npkt + 1 then s.wholeReq g q else s

/-- The first packet of a request (R295). -/
def State.admitReq (s : State) (sv e : Nat) (r : Deliv) : State :=
  let p := r.pkt
  let n := reqNpkt e p
  if reqBad e p n then (s.refuseReq sv r).nack r 5
  else match s.admTests sv e r with
    | some t => t.refuseReq sv r
    | none =>
      match s.placeReq sv e p with
      | none => (s.refuseReq sv r).svcBusy sv e r
      | some (t, g, slot) =>
        let q : SvcReq := { sv := sv, slot := slot, first := r, hdr0 := none, npkt := n, seen := [], lastLen := 0, t0 := s.now,
                            ses := s.sesWord e p, whole := false, answered := false }
        (t.admTake sv e).takePacket g q p

/-- The request in assembly that a packet belongs to, with its group. -/
def State.assembling (s : State) (sv : Nat) (r : Deliv) : Option (SvcGrp × SvcReq) :=
  s.svc.grps.findSome? (fun g =>
    if g.sv = sv then
      (g.reqs.find? (fun q => !q.whole && q.first.pkt.sgid == r.pkt.sgid && q.first.pkt.msgid == r.pkt.msgid)).map (fun q => (g, q))
    else none)

/-- A later packet of a request in assembly, under the entry its request was admitted by (R291, R293). -/
def State.laterPacket (s : State) (g : SvcGrp) (q : SvcReq) (r : Deliv) : State :=
  if reqBad g.entry r.pkt q.npkt then ((s.refuseReq g.sv r).dropReq g.num q.slot).nack r 5
  else if q.seen.contains (reqIdx g.entry r.pkt) then s.bumpSvc g.sv .svcDupPkt
  else s.takePacket g.num q r.pkt

/-- The SVC_REQs that other commands take: STEER, CLAIM and a GATE ANSWER. -/
def State.otherSvc (s : State) (r : Deliv) : Bool :=
  match s.bound? r with
  | some (_, e) => (seKind e == 1 && decide (r.pkt.op < 2)) || (seKind e == 3 && r.pkt.op == 1)
  | none => false

/-- SVC_REQ_RECEIVED (R288, R293, R295). -/
def doSvcReqReceived (pos : Nat) (s : State) : State :=
  match s.takeLocal pos (fun r => isSvcReq r && !s.otherSvc r) with
  | none => s
  | some (r, s) =>
    let sv := r.pkt.svc
    match s.bound? r with
    | none => if s.svcBad r then s.puntEcc r sv else s.nack r 6
    | some (_, e) =>
      match s.assembling sv r with
      | some (g, q) => s.laterPacket g q r
      | none =>
        if seMulti e && s.isRefused sv r then s.bumpSvc sv .svcRefusedPkt
        else if seKind e = 1 then s.nack r 5
        else s.admitReq sv e r

def execSvcReqReceived (pos : Nat) (s : State) : Host.Outcome State Fault Refusal := settle s (doSvcReqReceived pos s)

/-- ASSEMBLY_TIMEOUT (R293). -/
def execAssemblyTimeout (sv : Fin 64) (sgid : BitVec 18) (msgid : BitVec 16) (s : State) : Host.Outcome State Fault Refusal :=
  settle s (match s.svc.grps.findSome? (fun g =>
      if g.sv = sv.val then
        (g.reqs.find? (fun q => !q.whole && q.first.pkt.sgid.toNat == sgid.toNat && q.first.pkt.msgid == msgid)).map (fun q => (g.num, q))
      else none) with
    | some (n, q) => if s.asmNs ≤ span32 q.t0 s.now then (s.svcError q.first 2 0).dropReq n q.slot else s
    | none => s)

/-- REFUSAL_RECORD_EXPIRY (R295). -/
def execRefusalRecordExpiry (sv : Fin 64) (sgid : BitVec 18) (msgid : BitVec 16) (s : State) : Host.Outcome State Fault Refusal :=
  settle s (s.onSvc (fun w => { w with refused := w.refused.filter (fun x =>
    !(x.1 == sv.val && x.2.1 == sgid.toNat && x.2.2.1 == msgid.toNat && decide (s.asmNs ≤ span32 x.2.2.2 s.now))) }))

/-- JOIN_WINDOW_EXPIRY (R296). -/
def execJoinWindowExpiry (sv : Fin 64) (s : State) : Host.Outcome State Fault Refusal :=
  settle s (match s.openGroup sv with
    | some g => (match g.ready with
      | some t => if seJoinNs g.entry ≤ span32 t s.now then s.closeGrp g.num else s
      | none => s)
    | none => s)

/-! Starting a group (R297, R300). -/

/-- A group is ready to start. -/
def SvcGrp.startable (g : SvcGrp) : Bool := g.closed && g.allWhole && !g.started

/-- The lowest instance context that is free to services. -/
def State.freeCtx (s : State) : Option Nat := (List.range s.hostFirst).find? (fun i => !s.running i)

/-- The group's instance starts: BATCH in its first slot, the context set, its region woken (R294, R297, R414). -/
def State.startGrp (s : State) (g : SvcGrp) (i : Nat) : State :=
  let e := g.entry
  let b := slotAddr e g.slot0
  let s := s.slotPut (b + 47) (leBytes 1 g.reqs.length)
  let head := (seHead e + g.slot0 * seLstride e * 64) / 64 * 64
  let k := seRegion e
  let s := s.setInst i (fun c => { Inst.init with state := 1, region := k, next := head, mode := seMode e, starts := c.starts + 1,
                                                  t0 := s.now, grp := some g.num })
  (s.setGrp { g with inst := some i, waits := false }).wakeRegion k

/-- A group that finds no free context waits, counted once (R297). -/
def State.ctxWait (s : State) (g : SvcGrp) : State :=
  if g.waits then s else (s.setGrp { g with waits := true }).bumpSvc g.sv .svcCtxWait

/-- GROUP_START (R297): the service's first group that is ready, behind any group that waits for a context already. -/
def doGroupStart (sv : Nat) (s : State) : State :=
  match s.svc.grps.find? (fun g => g.sv == sv && g.startable) with
  | none => s
  | some g =>
    let behind := match s.svc.grps.find? (fun x => x.startable && x.waits) with | some x => x.num != g.num | none => false
    match (if behind then none else s.freeCtx) with
    | none => s.ctxWait g
    | some i => s.startGrp g i

def execGroupStart (sv : Fin 64) (s : State) : Host.Outcome State Fault Refusal := settle s (doGroupStart sv s)

/-- RUN_LIMIT_EXPIRY (R300). -/
def execRunLimitExpiry (inst : BitVec 12) (s : State) : Host.Outcome State Fault Refusal :=
  settle s (match s.instEntry inst.toNat with
    | some e => if seRunLimit e ≠ 0 ∧ 1000 * seRunLimit e ≤ span32 (s.inst inst.toNat).t0 s.now then s.instAbort inst.toNat 6 else s
    | none => s)

/-! Loading and building (R303, R304). -/

/-- Every chunk of an object is held. -/
def Obj.whole (o : Obj) : Bool := o.chunks.length == o.total

/-- The bytes of a promenade object, chunk by chunk. -/
def Obj.bytes (o : Obj) : List Byte := o.chunks.flatMap (fun c => c.2.data)

/-- A range that SVC_LOAD may use: aligned, mapped outside the carve-outs, in service. -/
def State.loadRange (s : State) (a n : Nat) : Bool := s.rangeFault a n == 0

/-- A write of SVC_LOAD_CMD with START 1 (R303). -/
def State.doSvcLoad (s : State) (size : Nat) : State :=
  let s := s.wr .svcLoadCmd_size 0 size
  let dst := s.rd .svcLoadDst_addr 0
  let a := s.rd .svcLoadSrc_addr 0
  let fin := fun (r : Nat) => (s.wr .svcLoadCmd_start 0 0).wr .svcLoadCmd_result 0 r
  let go := fun (src : Option Nat) (n : Nat) =>
    ((rangeRegions dst n).foldl State.wakeRegion (s.wr .svcLoadCmd_start 0 1)).onSvc (fun w => { w with load := some (Load.mk dst a src n 0) })
  if s.flag .svcLoadSrc_prom 0 then
    let j := s.rd .svcLoadSrc_object 0
    match kget s.prom.objs j with
    | none => fin 1
    | some o => if !o.whole then fin 1 else if !s.loadRange dst o.bytes.length then fin 2 else go (some j) o.bytes.length
  else
    let n := 4096 * size
    if !s.loadRange a n || !s.loadRange dst n || decide (a < 0x8000000000) then fin 2 else go none n

def execSvcLoad (src : Src) (size : BitVec 20) (s : State) : Host.Outcome State Fault Refusal :=
  settle s (s.onWrite src .svcLoadCmd 0 (fun s => s.doSvcLoad size.toNat))

/-- SVC_LOAD_COMPLETE (R303, Table 12.6): an object that is no longer whole is MISSING. The copy waits for a destination region that
sleeps to wake (R414); a range that has failed meanwhile ends it with ADDR (log entry 28). -/
def State.doLoadComplete (s : State) : State :=
  match s.svc.load with
  | none => s
  | some l =>
    if (rangeRegions l.dst l.size).any (fun k => !s.regionDead k && s.rd .pwrRegionStatus_state k != 0) then s else
    let bs := match l.prom with
      | some j => ((kget s.prom.objs j).bind (fun o => if o.whole then some o.bytes else none))
      | none => some (s.memGet l.src l.size)
    let s := (s.onSvc (fun w => { w with load := none })).wr .svcLoadCmd_start 0 0
    let s := (s.hbmAccess l.dst).hbmAccess l.src
    match bs with
    | none => s.wr .svcLoadCmd_result 0 1
    | some b =>
      if l.result ≠ 0 then s.wr .svcLoadCmd_result 0 l.result
      else if !s.loadRange l.dst b.length then s.wr .svcLoadCmd_result 0 2
      else (s.memPut l.dst b).wr .svcLoadCmd_result 0 0

def execSvcLoadComplete (s : State) : Host.Outcome State Fault Refusal := settle s s.doLoadComplete

/-- The lists of a built-in service: 1 KiB for each slot, whose content the specification leaves to the firmware (log entry 4). -/
def State.writeLists (s : State) (e : Nat) : State :=
  (List.range (seSlots e)).foldl (fun s j =>
    let a := seHead e / 64 * 64 + j * seLstride e * 64
    let bs := (List.range 1024).map (fun i => BitVec.ofNat 8 (Config.freeNat 22 (s.freeCtr + i)))
    let s := { s with freeCtr := s.freeCtr + 1024 }
    if s.mapped a 1024 then s.memPut a bs else s) s

/-- SERVICE_BUILD_COMPLETE (R304, R310). A stride below 16 leaves no room for the lists, and the service is not made ready. -/
def State.doBuildComplete (s : State) (sv : Nat) : State :=
  let e := s.svcEntry sv
  if s.flag .svcStatus_building sv && seLive e && (seKind e == 2 || seKind e == 3) && s.rd .pwrRegionStatus_state (seRegion e) == 0 then
    let s := s.wr .svcStatus_building sv 0
    let bad := seKind e == 3 && !s.paramSound (seParam e)
    if decide (seLstride e < 16) || s.regionDead (seRegion e) then s
    else if bad then (s.writeLists e).wr .svcStatus_paramBad sv 1
    else (s.writeLists e).wr .svcStatus_ready sv 1
  else s

def execServiceBuildComplete (sv : Fin 64) (s : State) : Host.Outcome State Fault Refusal := settle s (s.doBuildComplete sv)

/-! STEER and CLAIM (R305 to R307). -/

/-- A session entry. -/
def State.sesAt (s : State) (slot : Nat) : Nat := sget 0 s.tab.ses slot
/-- Replace a session entry in every regional copy. -/
def State.setSes (s : State) (slot e : Nat) : State :=
  { s with tab := { s.tab with ses := sset 0 s.tab.ses slot e } }

/-- A request to STEER: the service and its entry. -/
def State.steerReq (s : State) (op : Nat) (r : Deliv) : Bool :=
  isSvcReq r && r.pkt.op == op && (match s.bound? r with | some (_, e) => seKind e == 1 | none => false)

/-- The packet is sent on to the holder of the session (R51, R306). -/
def State.steerOn (s : State) (sv k : Nat) (r : Deliv) (gid : Nat) : State :=
  let p := r.pkt
  let q := { p with dgid := BitVec.ofNat 20 gid, hops := p.hops - 1 }.sealed
  let port := r.inPort.getD 0xFFFE
  match s.lookup k (64 + k) none q with
  | (_, .go (.loc _)) => s.bumpSvc sv .steerLoop
  | (t, .go (.punt a b c)) => t.injectAt k (.porxel p) p.tc.toNat (.go (.punt a b c)) port r.itime
  | (t, .drop) => t
  | (t, .go d) =>
    if p.hops = 0 then
      let t := t.bumpIn r.inPort .hopsExpired
      if t.flag .corePktCtrl_puntExpired 0 then t.injectAt k (.porxel p) p.tc.toNat (.go (.punt 5 0 0xFFFFFFFF)) port r.itime else t
    else (t.bumpSvc sv .steerFwd).injectAt k (.porxel q) p.tc.toNat (.go d) port r.itime

/-- STEER (R306). -/
def doSteer (pos : Nat) (s : State) : State :=
  match s.takeLocal pos (s.steerReq 0) with
  | none => s
  | some (r, s) =>
    match s.bound? r with
    | none => s
    | some (sv, e) =>
      let p := r.pkt
      if seSlotSize e < 64 + p.payload.length then s.nack r 5
      else match s.admTests sv e r with
        | some t => t
        | none =>
          let s := s.admTake sv e
          let k := seRegion e
          let slot := p.key.toNat
          let x := s.sesAt slot
          if s.tab.bad.contains (6, slot, k) then s.puntEcc r slot
          else if !bitAt x 63 then s.svcError r 9 0
          else if s.inSitOut (bits x 39 18) then (s.bumpSvc sv .steerFenced).svcError r 10 0
          else s.steerOn sv k r (bits x 39 18)

def execSteer (pos : Nat) (s : State) : Host.Outcome State Fault Refusal := settle s (doSteer pos s)

/-- A session entry as a CLAIM writes it: its MOVES and GID. -/
def sesMoved (x moves gid : Nat) : Nat := x - bits x 57 4 * 2 ^ 57 - bits x 39 18 * 2 ^ 39 + moves * 2 ^ 57 + gid * 2 ^ 39

/-- Table 11.6: the claim of GID c on a slot, and its answer; 0 for OK, else the reason. -/
def State.claimSlot (s : State) (sv slot c : Nat) : State × Nat :=
  let x := s.sesAt slot
  if !bitAt x 63 then
    if s.flag .svcCfg_steerCreate 0 then ((s.setSes slot (2 ^ 63 + 2 ^ 57 + c * 2 ^ 39)).bumpSvc sv .claimMove, 0) else (s, 9)
  else if bitAt x 62 then (s, 11)
  else if bits x 39 18 = c then (s, 0)
  else if bitAt x 61 then (s, 12)
  else if 8 ≤ bits x 57 4 then
    let s := ((s.setSes slot (setBit x 61)).wr .svcSteerStatus_lastFrozen 0 slot).event .svcSteerStatus .svcSteerStatus_frozenEvent 0
    ((s.fault 0x0023 0 [slot, bits x 39 18]).bumpSvc sv .claimFrozen, 12)
  else ((s.setSes slot (sesMoved x (bits x 57 4 + 1) c)).bumpSvc sv .claimMove, 0)

/-- A claim of the same CORE_CLK cycle as a command's change of the slot is discarded, and so has no effect: OK (R130, R307; log
entry 50). -/
def State.claimOrDiscard (s : State) (sv slot c : Nat) : State × Nat :=
  match s.changedNow 6 slot with
  | none => s.claimSlot sv slot c
  | some old =>
    if ((s.setSes slot old).claimSlot sv slot c).1.sesAt slot = old then s.claimSlot sv slot c
    else
      let (same, s) := s.sameCycle
      if same then (s.bumpTab .learnDiscard, 0) else s.claimSlot sv slot c

/-- CLAIM (R307). -/
def doClaim (pos : Nat) (s : State) : State :=
  match s.takeLocal pos (s.steerReq 1) with
  | none => s
  | some (r, s) =>
    match s.bound? r with
    | none => s
    | some (sv, e) =>
      if !s.flag .svcCfg_steerLearn 0 || decide (seSlotSize e < 64 + r.pkt.payload.length) then s.nack r 5
      else match s.admTests sv e r with
        | some t => t
        | none =>
          match (s.admTake sv e).claimOrDiscard sv r.pkt.key.toNat (r.pkt.sgid.toNat % 2 ^ 18) with
          | (t, 0) => t.svcOk r []
          | (t, reason) => t.svcError r reason 0

def execClaim (pos : Nat) (s : State) : Host.Outcome State Fault Refusal := settle s (doClaim pos s)

/-! SAMPLE (R309). -/

/-- Send a built-in service's answer to a request: a response above MAX_RESP faults the instance (R298). -/
def State.builtinReply (s : State) (i : Nat) (g : SvcGrp) (q : SvcReq) (bs : List Byte) : State :=
  if seMaxResp g.entry < bs.length then s.instFault i 1 (s.inst i).next
  else (s.sendReply (seRegion g.entry) q 0 bs).markAnswered g.num q.slot

/-- One request is sampled: the index, and its probability within the kept prefix (R271, R309). -/
def State.sampleReq (s : State) (i : Nat) (g : SvcGrp) (q : SvcReq) : State :=
  if !s.running i then s else
  let p := q.hdr0.getD q.first.pkt
  let a := slotAddr g.entry q.slot + 64
  let f := fmtOf p.parm
  let row : Opnd := ⟨f, a + 16, 0, 0, 1, (q.length - 16) / f.el.size, a + 16⟩
  let vs := row.rowValues s.eng.mem (s.inst i).mode 0
  let par := fun (k : Nat) => memLe s.eng.mem (a + k) 4
  let x := s.sampleIdx (par 0) (par 4) (par 8) (vs.map (fun v => v.1))
  (x.2.setFlags i (flagsOf vs)).builtinReply i g q (leBytes 4 x.1.1 ++ leBytes 4 x.1.2)

/-- The instance of a built-in service has run its list to the end. -/
def State.builtinDone (s : State) (i : Nat) : State :=
  if s.running i then (s.setInst i (fun c => { c with state := 2, ended := true })).instAnswers i 5 0 else s

/-! GATE (R310 to R314). -/

/-- The handle of a dispatch (R312). -/
def gateHandle (i starts ord : Nat) : Nat := i * 2 ^ 20 + starts % 256 * 2 ^ 12 + ord % 2 ^ 12

/-- The router MATMUL of T rows at an address: rows by weights, in the layout of a descriptor (R311). -/
def routerWords (p : GateParam) (a t : Nat) : List Nat :=
  [0x01, a, p.wAddr, a, p.wFmt * 2 ^ 46 + p.inFmt * 2 ^ 40, p.wScale, p.h * 2 ^ 32 + p.e * 2 ^ 16 + t, 0]

/-- The router MATMUL of one request is queued on MXE like that of a descriptor (R280, R311). -/
def State.routeStart (s : State) (i : Nat) (g : SvcGrp) (p : GateParam) (q : SvcReq) : State :=
  let w := routerWords p (slotAddr g.entry q.slot + 64) (q.length / p.inRow)
  let c := s.inst i
  let id := s.eng.nextJob
  let ts := tilesOf w
  let job : Job := { inst := i, addr := c.next, words := w, mode := c.mode, left := ts,
                     wait := ts.map (fun (t : Nat × Nat) => Tile.mk id t.1 t.2 (homeRegion c.region w)), accs := [], todo := 0, sent := 0,
                     router := some q.slot }
  match s.firstFault job.ranges with
  | 0 =>
    let s := s.onEng (fun e => { e with jobs := kput e.jobs id job, nextJob := id + 1 })
    (s.setInst i (fun c => { c with jobs := c.jobs ++ [id] })).pumpJob id
  | f => s.instFault i f c.next

/-- The logit of expert x for token t of a request (R311). -/
def State.logit (s : State) (i slot : Nat) (p : GateParam) (t x : Nat) : Num :=
  match s.svc.logits.find? (fun l => l.1 == i && l.2.1 == slot && l.2.2.1 == x / 128) with
  | some l => (nthD l.2.2.2 (t * min 128 (p.e - 128 * (x / 128)) + x % 128) (Num.zero, 0)).1
  | none => .nan

/-- The experts and weights of one token: eligible experts by falling logit, the K best, with the softmax that NORM asks for, over the
chosen logits or over all eligible ones (R311). -/
def State.gateToken (s : State) (i slot : Nat) (p : GateParam) (t : Nat) : List (Nat × Nat) :=
  let ok := fun (x : Nat) => let e := p.expert s.eng.mem x; bitAt e 31 && !s.inSitOut (bits e 0 18)
  let logits := (List.range p.e).map (fun x => if ok x then s.logit i slot p t x else Num.nan)
  let all := (sortDesc logits).filter (fun x => !x.1.isNan)
  let best := all.take p.k
  let among := if p.norm then all else best
  (best.zip (softmax32 (among.map (fun x => f32 x.1)))).map (fun (x : (Num × Nat) × Nat) => (x.1.2, x.2))

/-- Distinct experts in order of their first appearance (R312). -/
def expertsOf (ts : List (List (Nat × Nat))) : List Nat :=
  ts.flatten.foldl (fun l x => if l.contains x.1 then l else l ++ [x.1]) []

/-- Tokens of an expert, with their weights. -/
def tokensOf (ts : List (List (Nat × Nat))) (x : Nat) : List (Nat × Nat) :=
  ts.zipIdx.filterMap (fun (t : List (Nat × Nat) × Nat) => (t.1.find? (fun y => y.1 == x)).map (fun y => (t.2, y.2)))

/-- Send one dispatch (R312). -/
def State.gateSend (s : State) (i : Nat) (g : SvcGrp) (q : SvcReq) (e ord : Nat) (bs : List Byte) (te : Nat) : State :=
  let k := seRegion g.entry
  let p0 := q.hdr0.getD q.first.pkt
  let tc := seClass g.entry
  let ps := xfePieces 0x62 bs.length (if tc = 7 then 2012 else 4096)
  let mid := s.xfeMsg k
  let h := gateHandle i (s.inst i).starts ord
  let s := s.onEng (fun e => { e with xctr := sset 0 e.xctr (2 * k + 1) (mid + 1) })
  ps.zipIdx.foldl (fun s (x : (Nat × Nat) × Nat) =>
    let psn := s.xfePsn k
    let w2 := bits e 18 6 * 2 ^ 58 + (ps.length - 1) * 2 ^ 50 + x.2 * 2 ^ 42 + (te - 1) * 2 ^ 32
    let p := (s.newPacket 0x18 tc (bits e 0 18)).withPayload ((bs.drop x.1.1).take x.1.2)
    let p := { p with sgid := p0.dgid, key := p0.key, ctx := BitVec.ofNat 32 h, w2 := BitVec.ofNat 64 w2, psn := BitVec.ofNat 24 psn,
                      msgid := BitVec.ofNat 16 mid }
    (s.onEng (fun e => { e with xctr := sset 0 e.xctr (2 * k) (psn + 1) })).originate k p) s

/-- One request of a GATE batch is routed: its dispatches leave and join the run, or it fails with EXPERT_MISSING (R311, R312). -/
def State.gateRoute (s : State) (i : Nat) (g : SvcGrp) (p : GateParam) (run : List GateOrd) (q : SvcReq) : State × List GateOrd :=
  let a := slotAddr g.entry q.slot + 64
  let n := q.length / p.inRow
  let rows := p.rows a n
  let ts := (List.range n).map (s.gateToken i q.slot p)
  if ts.any (fun l => l.isEmpty) then (s.answerReq g.num q 13 0, run)
  else
    (expertsOf ts).foldl (fun (acc : State × List GateOrd) x =>
      let e := p.expert acc.1.eng.mem x
      let tk := tokensOf ts x
      let bs := tk.flatMap (fun t => acc.1.memGet (rows.row t.1) p.inRow)
      let o : GateOrd := { slot := q.slot, gid := bits e 0 18, toks := tk, npkt := 0, seen := [], bytes := 0, done := false, missing := false }
      (acc.1.gateSend i g q e acc.2.length bs tk.length, acc.2 ++ [o])) (s, run)

/-- Replace the run of an instance. -/
def State.setGate (s : State) (r : GateRun) : State :=
  s.onSvc (fun w => { w with gates := w.gates.map (fun x => if x.inst = r.inst then r else x) })

/-- A row that an expert answered: row j of ORD o of a request. -/
def State.answerRow (s : State) (g : SvcGrp) (p : GateParam) (run : GateRun) (mode ord j : Nat) : List Flagged :=
  let o := nthD run.ords ord (GateOrd.mk 0 0 [] 0 [] 0 false false)
  let before := (((run.ords.take ord).filter (fun x => x.slot == o.slot)).map (fun x => x.toks.length)).sum
  let a := slotAddr g.entry o.slot + seSlotSize g.entry / 2 + p.outRow * (before + j)
  (Opnd.mk (fmtOf p.outFmt) a 0 0 1 p.h a).rowValues s.eng.mem mode 0

/-- The contributions to a token of a request, in order of arrival: ORD, row and weight. -/
def contribs (run : GateRun) (slot t : Nat) : List (Nat × Nat × Nat) :=
  run.order.filterMap (fun ord =>
    let o := nthD run.ords ord (GateOrd.mk 0 0 [] 0 [] 0 false false)
    if o.slot = slot ∧ o.done ∧ !o.missing then
      (o.toks.zipIdx.find? (fun x => x.1.1 == t)).map (fun x => (ord, x.2, x.1.2))
    else none)

/-- One token combined: Σ w·a in FP32, divided under PARTIAL by the sum of those weights, in OUT_FMT; the bytes, and the flags that
reading and writing set (R243, R314). -/
def State.combineToken (s : State) (g : SvcGrp) (p : GateParam) (run : GateRun) (mode slot t : Nat) : List Byte × Nat :=
  let cs := contribs run slot t
  let ws := match cs with | [] => 0 | c :: rest => rest.foldl (fun a x => f32Add a x.2.2) c.2.2
  let el := (fmtOf p.outFmt).el
  let rows := cs.map (fun c => (c.2.2, s.answerRow g p run mode c.1 c.2.1))
  let ys := (List.range p.h).map (fun j =>
    let ps := rows.map (fun c => f32Mul c.1 (f32 (nthD c.2 j (Num.zero, 0)).1))
    let y := match ps with | [] => 0 | x :: rest => rest.foldl f32Add x
    if p.part && !cs.isEmpty then f32Div y ws else y)
  let os := ys.map (fun y => convOut el mode .rne (n32 y))
  (packBytes el (os.map (fun o => o.code)), rows.foldl (fun a c => a ||| flagsOf c.2) 0 ||| convFlags os)

/-- The reply to one request of a GATE batch (R314). -/
def State.gateReply (s : State) (i : Nat) (g : SvcGrp) (p : GateParam) (run : GateRun) (q : SvcReq) : State :=
  if q.answered || !s.running i then s
  else
    let lost := run.ords.filter (fun o => o.slot == q.slot && (o.missing || !o.done))
    if !lost.isEmpty && !p.part then s.answerReq g.num q 13 0
    else
      let s := s.when (!lost.isEmpty) (fun s => s.bumpN 9 (16 * g.sv + SvcEv.gatePartial.ctorIdx) lost.length)
      let n := q.length / p.inRow
      let ts := List.range n
      let os := ts.map (fun t => s.combineToken g p run (s.inst i).mode q.slot t)
      let bs := os.flatMap (fun o => o.1) ++ ts.map (fun t => BitVec.ofNat 8 (contribs run q.slot t).length)
      (s.setFlags i (os.foldl (fun a o => a ||| o.2) 0)).builtinReply i g q bs

/-- A GATE run is over: its requests are answered and its instance ends (R314). -/
def State.gateFinish (s : State) (run : GateRun) : State :=
  let i := run.inst
  match s.grp? run.grp with
  | none => s.onSvc (fun w => { w with gates := w.gates.filter (fun x => x.inst != i) })
  | some g =>
    let p := gateParam s.eng.mem (seParam g.entry)
    let s := g.reqs.foldl (fun s q => s.gateReply i g p run q) s
    (s.onSvc (fun w => { w with gates := w.gates.filter (fun x => x.inst != i) })).builtinDone i

/-- Every ORD of a run is complete. -/
def GateRun.allDone (r : GateRun) : Bool := r.ords.all (fun o => o.done)

/-- A GATE instance, its logits computed, chooses experts and sends its dispatches (R311, R312). -/
def State.gateDispatch (s : State) (i : Nat) (g : SvcGrp) : State :=
  let p := gateParam s.eng.mem (seParam g.entry)
  let r := g.reqs.foldl (fun (acc : State × List GateOrd) q => acc.1.gateRoute i g p acc.2 q) (s, [])
  let run : GateRun := { inst := i, grp := g.num, ords := r.2, order := [], t0 := s.now }
  let s := r.1.onSvc (fun w => { w with gates := w.gates ++ [run], logits := w.logits.filter (fun l => l.1 != i) })
  if run.allDone then s.gateFinish run else s

/-- The ORD a handle names, of a running GATE instance of a service. -/
def State.gateFind (s : State) (sv h : Nat) : Option (GateRun × Nat × GateOrd) :=
  let i := bits h 20 12
  let ord := bits h 0 12
  match s.svc.gates.find? (fun r => r.inst == i) with
  | none => none
  | some r =>
    if s.running i && (s.inst i).starts % 256 == bits h 12 8 && (match s.grp? r.grp with | some g => g.sv == sv | none => false) then
      (r.ords[ord]?).map (fun o => (r, ord, o))
    else none

/-- A packet of an ANSWER takes its place; the last one completes its ORD, and the last ORD its run (R313, R314). -/
def State.takeAnswer (s : State) (r : Deliv) (run : GateRun) (ord : Nat) (o : GateOrd) : State :=
  match s.grp? run.grp with
  | none => s
  | some g =>
    let p := gateParam s.eng.mem (seParam g.entry)
    let q := r.pkt
    let i := reqIdx g.entry q
    let n := reqNpkt g.entry q
    let want := o.toks.length * p.outRow
    let before := (((run.ords.take ord).filter (fun x => x.slot == o.slot)).map (fun x => x.toks.length)).sum
    let a := slotAddr g.entry o.slot + seSlotSize g.entry / 2 + p.outRow * before + 4096 * i
    let s := s.when (decide (4096 * i + q.payload.length ≤ want)) (fun s => s.slotPut a q.payload)
    let err := bitAt q.sarg 31
    let seen := o.seen ++ [i]
    let bytes := o.bytes + q.payload.length
    let done := err || seen.length == n + 1
    let o := { o with npkt := n, seen := seen, bytes := bytes, done := done, missing := done && (err || bytes != want) }
    let run := { run with ords := run.ords.set ord o, order := if done then run.order ++ [ord] else run.order }
    let s := s.setGate run
    if run.allDone then s.gateFinish run else s

/-- GATE_ANSWER (R313). -/
def doGateAnswer (pos : Nat) (s : State) : State :=
  match s.takeLocal pos (fun r => isSvcReq r && r.pkt.op == 1 && (match s.bound? r with | some (_, e) => seKind e == 3 | none => false)) with
  | none => s
  | some (r, s) =>
    match s.bound? r with
    | none => s
    | some (sv, e) =>
      let q := r.pkt
      let i := reqIdx e q
      let n := reqNpkt e q
      if n < i ∨ (i < n ∧ q.payload.length ≠ 4096) ∨ seSlotSize e / 2 < 4096 * i + q.payload.length then s.nack r 5
      else match s.gateFind sv q.ctx.toNat with
        | none => s.bumpSvc sv .gateLate
        | some (run, ord, o) =>
          if o.done then s.bumpSvc sv .gateLate
          else if q.sgid.toNat ≠ o.gid then s.bumpSvc sv .gateStray
          else if !o.seen.isEmpty && o.npkt != n then s.nack r 5
          else if o.seen.contains i then s.bumpSvc sv .svcDupPkt
          else s.takeAnswer r run ord o

def execGateAnswer (pos : Nat) (s : State) : Host.Outcome State Fault Refusal := settle s (doGateAnswer pos s)

/-- GATE_TIMEOUT (R314, R356). -/
def doGateTimeout (i : Nat) (s : State) : State :=
  match s.svc.gates.find? (fun r => r.inst == i) with
  | none => s
  | some run =>
    match s.grp? run.grp with
    | none => s
    | some g =>
      let us := max 1 (gateParam s.eng.mem (seParam g.entry)).us
      if 1000 * us ≤ span32 run.t0 s.now then
        let s := (run.ords.filter (fun o => !o.done)).foldl (fun s o => s.requestLost o.gid) s
        s.gateFinish run
      else s

def execGateTimeout (inst : BitVec 12) (s : State) : Host.Outcome State Fault Refusal := settle s (doGateTimeout inst.toNat s)

/-! DESCRIPTOR_ISSUE (R275). -/

/-- The built-in work of an instance that serves SAMPLE or GATE. GATE queues its router MATMULs, whose tiles wait for a power grant
like any other (R315, R409), and goes on once they have ended. -/
def State.builtin (s : State) (i : Nat) (g : SvcGrp) : State :=
  if (rangeRegions (s.inst i).next 64).any (fun k => s.rd .pwrRegionStatus_state k != 0) then s.wakeRegion (seRegion g.entry)
  else if seKind g.entry = 2 then (g.reqs.foldl (fun s q => s.sampleReq i g q) s).builtinDone i
  else if s.svc.gates.any (fun r => r.inst == i) || !(s.inst i).jobs.isEmpty then s
  else if s.svc.logits.any (fun l => l.1 == i) then s.gateDispatch i g
  else g.reqs.foldl (fun s q => if s.running i then s.routeStart i g (gateParam s.eng.mem (seParam g.entry)) q else s) s

/-- The dispatcher takes the next descriptor of an instance (R275). Nothing issues while the instance's region sleeps (R414). -/
def doDescriptorIssue (i : Nat) (s : State) : State :=
  let k := (s.inst i).region
  if s.off || !s.mayIssue i then s
  else if !s.regionDead k && s.rd .pwrRegionStatus_state k != 0 then s.wakeRegion k
  else match s.instGrp i with
    | some g =>
      if (seKind g.entry = 2 ∨ seKind g.entry = 3) then
        (if s.fetchFault i ≠ 0 then s.instFault i (s.fetchFault i) (s.inst i).next else s.builtin i g)
      else s.issueNext i
    | none => s.issueNext i

def execDescriptorIssue (inst : BitVec 12) (s : State) : Host.Outcome State Fault Refusal := settle s (doDescriptorIssue inst.toNat s)

end Sys2Proof.Machine
end

