-- ==== Sys2Proof/Machine/Collectives.lean ====
section
/-! DEFINITION. In-network reduction: collective groups, homes, and the life of a chunk (R316 to R326). -/

namespace Sys2Proof
open Machine

/-! The collective layout of Word 2 (Table 2.4). -/
def Packet.redGroup (p : Packet) : Nat := bits p.w2.toNat 50 14
def Packet.redChunk (p : Packet) : Nat := bits p.w2.toNat 26 24
def Packet.redMember (p : Packet) : Nat := bits p.w2.toNat 16 10

end Sys2Proof

namespace Sys2Proof.Machine

/-- Replace the reductions. -/
def State.onRed (s : State) (g : Red → Red) : State := { s with red := g s.red }

/-! Fields of a group entry (Tables 12.1 and 12.2). -/
def ceValid (e : Nat) : Bool := bitAt e 511
def ceOp (e : Nat) : Nat := bits e 508 3
def cePartial (e : Nat) : Bool := bitAt e 507
def ceDegraded (e : Nat) : Bool := bitAt e 506
def ceIn (e : Nat) : Elem := (fmtOf (bits e 500 6)).el
def ceOut (e : Nat) : Elem := (fmtOf (bits e 494 6)).el
def ceLen (e : Nat) : Nat := bits e 481 13
def ceMcg (e : Nat) : Nat := bits e 467 14
def ceTimeout (e : Nat) : Nat := max 1 (bits e 451 16)
def ceNmem (e : Nat) : Nat := bits e 440 11
def ceGrace (e : Nat) : Nat := bits e 424 16
def ceMlist (e : Nat) : Nat := bits e 384 40
def ceRec (e r : Nat) : Nat := bits e (32 * r) 32
def recValid (x : Nat) : Bool := bitAt x 31
def recAny (x : Nat) : Bool := bitAt x 30
def recPort (x : Nat) : Nat := bits x 21 9
def recFirst (x : Nat) : Nat := bits x 11 10
def recCount (x : Nat) : Nat := bits x 0 11

/-- AND, OR and XOR act on bytes. -/
def ceBitwise (e : Nat) : Bool := decide (3 ≤ ceOp e)
/-- Elements of a chunk. -/
def ceElems (e : Nat) : Nat := if ceBitwise e then ceLen e else ceLen e / (ceIn e).size
/-- Bytes of the result. -/
def ceResult (e : Nat) : Nat := if ceBitwise e then ceLen e else ceElems e * (ceOut e).size

/-- The record that holds a member. -/
def ceMember (e m : Nat) : Option Nat :=
  ((List.range 12).map (ceRec e)).find? (fun x => recValid x && decide (recFirst x ≤ m) && decide (m < recFirst x + recCount x))

/-- Step 3 of R319: the member may arrive so, with this length. -/
def redOk (e m len : Nat) (port : Option Nat) : Bool :=
  decide (m < ceNmem e) && len == ceLen e &&
    (match ceMember e m with | some x => recAny x || port == some (recPort x) | none => false)

/-! Units of reduction SRAM (R320, R323). -/

/-- Data units of an accumulator. -/
def dataUnits (e : Nat) : Nat := if ceBitwise e then (ceLen e + 255) / 256 else (4 * ceElems e + 255) / 256

/-- Units that a chunk takes: while open or sending its accumulator, then its record with the result it keeps. -/
def Chunk.units (c : Chunk) : Nat :=
  match c.st with
  | .open_ | .sending => 1 + dataUnits c.entry
  | .done => 1 + (c.result.length + 255) / 256
  | .aborted => 1

/-- The key of a chunk. -/
def chunkKey (lb group chunk : Nat) : Nat := Nat.pair lb (Nat.pair group chunk)

/-- A chunk, if the home block holds it. -/
def State.chunk? (s : State) (key : Nat) : Option Chunk := kget s.red.chunks key
/-- Replace or free a chunk. -/
def State.setChunk (s : State) (key : Nat) (c : Option Chunk) : State := s.onRed (fun w => { w with chunks := kset w.chunks key c })

/-- The chunks of a line block. -/
def State.lbChunks (s : State) (lb : Nat) : List Chunk :=
  (s.red.chunks.filter (fun c => (unpair c.1).1 == lb)).map (fun c => c.2)

/-- Units of a line block in use (RED_LB_STATUS.USED). -/
def State.redUsed (s : State) (lb : Nat) : Nat := ((s.lbChunks lb).map Chunk.units).sum
/-- Units free: of 16,384 those neither in use nor retired. -/
def State.redRoom (s : State) (lb : Nat) : Nat := 16384 - s.redUsed lb - sget 0 s.red.retired lb

/-! Arithmetic (R321, R322). -/

/-- The elements of a contribution: binary32 encodings, or the bytes themselves. An element wider than a byte is a
multi-byte field of the packet, so it is big-endian (R4; DEDUCED). -/
def redElems (e : Nat) (bs : List Byte) : List Nat :=
  if ceBitwise e then bs.map (fun b => b.toNat)
  else
    let n := (ceIn e).size
    (List.range (ceElems e)).map (fun j => f32 ((ceIn e).decode (beNat (slice bs (n * j) n))))

/-- Combine one element. -/
def redCombine (op a b : Nat) : Nat :=
  match op with
  | 0 => f32Add a b
  | 1 => if (n32 a).isNan || (n32 b).isNan then f32 .nan else if (n32 a).ltZ (n32 b) then b else a
  | 2 => if (n32 a).isNan || (n32 b).isNan then f32 .nan else if (n32 b).ltZ (n32 a) then b else a
  | 3 => a &&& b
  | 4 => a ||| b
  | _ => a ^^^ b

/-- The converted elements of a sum. -/
def redConv (e : Nat) (acc : List Nat) : List Conv := acc.map (fun a => convert (ceOut e) .satfinite false .rne (n32 a))

/-- The result's bytes (R322, R324). -/
def redResult (e : Nat) (acc : List Nat) : List Byte :=
  if ceBitwise e then acc.map (fun b => BitVec.ofNat 8 b) 
  else (redConv e acc).flatMap (fun c => beBytes (ceOut e).size c.code)

/-! Packets (R324). -/

/-- Word 2 of a result or abort. -/
def redWord (group chunk member : Nat) : Nat := group * 2 ^ 50 + chunk * 2 ^ 26 + member * 2 ^ 16

/-- Originate a RED_RESULT or RED_ABORT at the home block. Its PSN and MSGID, which no rule fixes, are free. It carries ECHO 0, also where it
answers one marked contribution alone (the model's choice, log entry 28). -/
def State.sendRed (s : State) (lb kind dgid w1k w2 : Nat) (body : List Byte) : State :=
  let (psn, s) := s.free 1 (2 ^ 24)
  let (mid, s) := s.free 2 (2 ^ 16)
  let p := (s.newPacket kind 5 dgid).withPayload body
  s.originate (regionOfBlock lb) { p with w1k := BitVec.ofNat 11 w1k, w2 := BitVec.ofNat 64 w2, psn := BitVec.ofNat 24 psn,
                                          msgid := BitVec.ofNat 16 mid }

/-- RED_ABORT with an ACODE. -/
def State.redAbort (s : State) (lb group chunk dgid acode : Nat) : State := s.sendRed lb 0x12 dgid (acode * 64) (redWord group chunk 0) []

/-- RED_RESULT of a chunk. -/
def State.redSend (s : State) (lb group chunk dgid : Nat) (c : Chunk) (again : Bool) : State :=
  s.sendRed lb 0x11 dgid (b2n (decide (c.members.length < ceNmem c.entry)) * 2 ^ 10 + b2n again * 2 ^ 9)
    (redWord group chunk (c.members.length - 1)) c.result

/-- DGID of the result group. -/
def Chunk.mcast (c : Chunk) : Nat := 0x40000 + ceMcg c.entry

/-! The life of a chunk (Table 12.3). -/

/-- The chunk's result is made and leaves: SENDING. -/
def State.redFinish (s : State) (lb group chunk : Nat) (c : Chunk) : State :=
  let c := { c with st := .sending, result := redResult c.entry c.acc }
  let sats := if ceBitwise c.entry then 0 else ((redConv c.entry c.acc).filter (fun x => x.sat)).length
  let nans := if ceBitwise c.entry then 0 else (c.acc.filter (fun a => (n32 a).isNan)).length
  let s := (s.when (sats != 0) (fun s => s.bumpRed lb .redSat sats)).when (nans != 0) (fun s => s.bumpRed lb .redNan nans)
  (s.setChunk (chunkKey lb group chunk) (some c)).redSend lb group chunk c.mcast c false

/-- The chunk is aborted toward its result group; its record lasts GRACE_US. -/
def State.redAborted (s : State) (lb group chunk : Nat) (c : Chunk) (acode : Nat) : State :=
  let s := s.redAbort lb group chunk c.mcast acode
  s.setChunk (chunkKey lb group chunk)
    (if ceGrace c.entry = 0 then none else some { c with st := .aborted, acc := [], acode := acode, tEnd := s.now })

/-- A contribution to a chunk that is OPEN. -/
def State.redJoin (s : State) (lb group chunk m : Nat) (c : Chunk) (bs : List Byte) : State :=
  if c.members.contains m then s.bumpRed lb .redDup
  else
    let c := { c with members := c.members ++ [m], acc := (c.acc.zip (redElems c.entry bs)).map (fun p => redCombine (ceOp c.entry) p.1 p.2) }
    if c.members.length = ceNmem c.entry then s.redFinish lb group chunk c
    else s.setChunk (chunkKey lb group chunk) (some c)

/-- The count of a contribution that is not summed. -/
def State.redOld (s : State) (lb m : Nat) (c : Chunk) : State := s.bumpRed lb (if c.members.contains m then .redDup else .redLate)

/-- A contribution whose length, member or port is not valid (R319). -/
def State.redBad (s : State) (lb : Nat) (p : Packet) : State :=
  (s.redAbort lb p.redGroup p.redChunk p.sgid.toNat 4).bumpRed lb .redBad

/-- A contribution to a chunk that the home block holds. -/
def State.redHeld (s : State) (lb : Nat) (r : Deliv) (c : Chunk) : State :=
  let p := r.pkt
  let m := p.redMember
  let ok := redOk c.entry m p.payload.length r.inPort
  match c.st with
  | .open_ => if ok then s.redJoin lb p.redGroup p.redChunk m c p.payload else s.redBad lb p
  | .sending => if ok then s.redOld lb m c else s.redBad lb p
  | .done => (((s.redSend lb p.redGroup p.redChunk p.sgid.toNat c true).bumpRed lb .redRepeat)).redOld lb m c
  | .aborted => (s.redAbort lb p.redGroup p.redChunk p.sgid.toNat c.acode).bumpRed lb .redLate

/-- The first contribution of a chunk (R319 to R321). -/
def State.redFirst (s : State) (lb : Nat) (r : Deliv) : State :=
  let p := r.pkt
  let e := sget 0 s.tab.cgt p.redGroup
  if s.tab.bad.contains (5, p.redGroup, regionOfBlock lb) then s.puntEcc r p.redGroup
  else if !ceValid e then s.bumpRed lb .redNoGroup
  else if !redOk e p.redMember p.payload.length r.inPort then s.redBad lb p
  else if ceDegraded e then s.redAbort lb p.redGroup p.redChunk p.sgid.toNat 2
  else if s.redRoom lb < 1 + dataUnits e then s.bumpRed lb .redNoRoom
  else
    let c : Chunk := { st := .open_, entry := e, members := [p.redMember], acc := redElems e p.payload, result := [], acode := 0,
                       t0 := s.now, tEnd := 0 }
    if ceNmem e = 1 then s.redFinish lb p.redGroup p.redChunk c
    else s.setChunk (chunkKey lb p.redGroup p.redChunk) (some c)

/-- RED_CONTRIB_AT_HOME (R319, Table 12.3). -/
def doRedContrib (pos : Nat) (s : State) : State :=
  match s.takeLocal pos (fun r => r.fn == .own && r.pkt.kind == 0x10) with
  | none => s
  | some (r, s) =>
    let p := r.pkt
    let lb := if r.blk < 64 then r.blk else s.homeLb p.redGroup p.redChunk
    match s.chunk? (chunkKey lb p.redGroup p.redChunk) with
    | some c => s.redHeld lb r c
    | none => s.redFirst lb r

def execRedContribAtHome (pos : Nat) (s : State) : Host.Outcome State Fault Refusal := settle s (doRedContrib pos s)

/-- RED_TIMEOUT (R323). -/
def doRedTimeout (lb group chunk : Nat) (s : State) : State :=
  match s.chunk? (chunkKey lb group chunk) with
  | none => s
  | some c =>
    if c.st = .open_ ∧ 1000 * ceTimeout c.entry ≤ span32 c.t0 s.now then
      if cePartial c.entry then (s.bumpRed lb .redPartial).redFinish lb group chunk c
      else (s.bumpRed lb .redTimeout).redAborted lb group chunk c 1
    else s

def execRedTimeout (lb : Fin 64) (group : BitVec 14) (chunk : BitVec 24) (s : State) : Host.Outcome State Fault Refusal :=
  settle s (doRedTimeout lb group.toNat chunk.toNat s)

/-- RED_RESULT_LEFT (R323). -/
def doRedResultLeft (lb group chunk : Nat) (s : State) : State :=
  match s.chunk? (chunkKey lb group chunk) with
  | none => s
  | some c =>
    if c.st = .sending then
      s.setChunk (chunkKey lb group chunk) (if ceGrace c.entry = 0 then none else some { c with st := .done, acc := [], tEnd := s.now })
    else s

def execRedResultLeft (lb : Fin 64) (group : BitVec 14) (chunk : BitVec 24) (s : State) : Host.Outcome State Fault Refusal :=
  settle s (doRedResultLeft lb group.toNat chunk.toNat s)

/-- RED_GRACE_EXPIRY (R323). -/
def doRedGraceExpiry (lb group chunk : Nat) (s : State) : State :=
  match s.chunk? (chunkKey lb group chunk) with
  | none => s
  | some c =>
    if (c.st = .done ∨ c.st = .aborted) ∧ 1000 * ceGrace c.entry ≤ span32 c.tEnd s.now then s.setChunk (chunkKey lb group chunk) none
    else s

def execRedGraceExpiry (lb : Fin 64) (group : BitVec 14) (chunk : BitVec 24) (s : State) : Host.Outcome State Fault Refusal :=
  settle s (doRedGraceExpiry lb group.toNat chunk.toNat s)

/-! The fence scan (R325). -/

/-- A member list names a GID. -/
def listNames (m : SMap) (a n gid : Nat) : Bool :=
  (List.range n).any (fun j => let w := memLe m (a + 4 * j) 4; bitAt w 31 && bits w 0 18 == gid)

/-- Line block, group and chunk of a key. -/
def keyParts (key : Nat) : Nat × Nat × Nat := let p := unpair key; (p.1, (unpair p.2).1, (unpair p.2).2)

/-- Groups with an OPEN chunk whose member list, as its chunk copied it, names a GID. -/
def State.scanGroups (s : State) (gid : Nat) : List Nat :=
  s.red.chunks.foldl (fun l x =>
    let g := (keyParts x.1).2.1
    if x.2.st == .open_ && ceMlist x.2.entry != 0 && !l.contains g && listNames s.eng.mem (ceMlist x.2.entry) (ceNmem x.2.entry) gid then l ++ [g]
    else l) []

/-- Replace a group's entry in every regional copy. -/
def State.setCgt (s : State) (g e : Nat) : State :=
  { s with tab := { s.tab with cgt := sset 0 s.tab.cgt g e } }

/-- A group is set DEGRADED and its OPEN chunks are aborted. -/
def State.degradeGroup (s : State) (g : Nat) : State :=
  let e := sget 0 s.tab.cgt g
  let s := s.when (ceValid e) (fun s => { s with tab := { s.tab with cgt := sset 0 s.tab.cgt g (setBit e 506) } })
  let s := (s.event .redFenceStatus .redFenceStatus_degradeEvent 0).bumpRed 0 .redFenced
  (s.red.chunks.filter (fun x => (keyParts x.1).2.1 == g && x.2.st == .open_)).foldl
    (fun s x => let k := keyParts x.1; s.redAborted k.1 k.2.1 k.2.2 x.2 2) s

/-- RED_FENCE_SCAN (R325): the scan for the oldest sit-out that waits for one. -/
def doRedFenceScan (s : State) : State :=
  match s.fen.scan with
  | [] => s
  | gid :: rest =>
    let s := (s.scanGroups gid).foldl State.degradeGroup s
    let s := { s with fen := { s.fen with scan := rest } }
    (s.wr .redFenceStatus_lastGid 0 gid).wr .redFenceStatus_scanning 0 (b2n (!rest.isEmpty))

def execRedFenceScan (s : State) : Host.Outcome State Fault Refusal := settle s (doRedFenceScan s)

end Sys2Proof.Machine
end

