-- ==== Sys2Proof/Machine/Promenade.lean ====
section
/-! DEFINITION. The promenade cache: chunks, relay, repairs and fetches (R336 to R342). -/

namespace Sys2Proof
open Machine

/-! The promenade layout of Word 2 (Table 2.4). -/
def Packet.promObj (p : Packet) : Nat := bits p.w2.toNat 48 16
def Packet.promChunk (p : Packet) : Nat := bits p.w2.toNat 16 32
def Packet.promCount (p : Packet) : Nat := bits p.w2.toNat 0 16

end Sys2Proof

namespace Sys2Proof.Machine

/-- Replace the promenade cache. -/
def State.onProm (s : State) (g : Prom → Prom) : State := { s with prom := g s.prom }

/-- Spines of the promenade: S (R336). -/
def State.promS (s : State) : Nat := s.rd .promCfg_spinesM1 0 + 1

/-- The stack that chunk c lies on (R336). -/
def State.promStack (s : State) (c : Nat) : Nat := c / s.promS % 4

/-- Chunks that one stack's share holds: 63/64 of it, in chunks of 4 KiB (R336). -/
def State.promShare (s : State) : Nat := s.promGiB * 2 ^ 30 / 4 / 64 * 63 / 4096

/-- Chunks held on a stack, and in all. -/
def State.promOn (s : State) (j : Nat) : Nat :=
  (s.prom.objs.map (fun o => (o.2.chunks.filter (fun c => s.promStack c.1 == j)).length)).sum
def State.promUsed (s : State) : Nat := (s.prom.objs.map (fun o => o.2.chunks.length)).sum

/-- There is room for chunk c: its stack is in service and its share is not full. -/
def State.promRoom (s : State) (c : Nat) : Bool :=
  !s.stackDead (s.promStack c) && decide (s.promOn (s.promStack c) < s.promShare)

/-- The record of an object. -/
def State.obj? (s : State) (j : Nat) : Option Obj := kget s.prom.objs j
/-- Replace a record. -/
def State.setObj (s : State) (j : Nat) (o : Obj) : State := s.onProm (fun w => { w with objs := kput w.objs j o })

/-! Chunks (R337, R338). -/

/-- A PROM_CHUNK that R337 drops, given the TOTAL of its object. -/
def chunkBad (p : Packet) (total : Nat) : Bool :=
  let n := p.payload.length
  p.ctx == 0 || p.ctx.toNat != total || decide (total ≤ p.promChunk) || n == 0 || (decide (p.promChunk + 1 < total) && n != 4096)

/-- Cache a chunk. -/
def State.promStore (s : State) (p : Packet) (o : Obj) : State :=
  let c := p.promChunk
  if (kget o.chunks c).isSome then (s.setObj p.promObj o).bumpProm .promDup
  else if !s.promRoom c then (s.setObj p.promObj o).bumpProm .promNotCached
  else
    let x : PChunk := ⟨p.psn.toNat, p.msgid.toNat, p.key.toNat, p.ctx.toNat, p.payload⟩
    (s.stackUsed (s.promStack c)).setObj p.promObj { o with chunks := kput o.chunks c x }

/-- Relay a chunk to multicast group KEY (R65, R338). DESIGN CHOICE: the reserved bits [10:0] of Word 1, which the fields that R65
keeps do not name, stay as they arrived (log entry 30). -/
def State.promRelay (s : State) (r : Deliv) : State :=
  let p := r.pkt
  if p.key.toNat < 16384 then
    s.originate (s.answerRegion r) { p with dgid := BitVec.ofNat 20 (0x40000 + p.key.toNat), hops := BitVec.ofNat 6 s.hopsInit }
  else s

/-- PROM_CHUNK_RECEIVED (R337, R338). -/
def doPromChunk (pos : Nat) (s : State) : State :=
  match s.takeLocal pos (fun r => r.fn == .own && r.pkt.kind == 0x20) with
  | none => s
  | some (r, s) =>
    let p := r.pkt
    let o := (s.obj? p.promObj).getD ⟨p.ctx.toNat, p.sgid.toNat, []⟩
    if chunkBad p o.total then s.bumpProm .promBad else (s.promStore p o).promRelay r

def execPromChunkReceived (pos : Nat) (s : State) : Host.Outcome State Fault Refusal := settle s (doPromChunk pos s)

/-! Repairs (R339). -/

/-- Requested chunks that are held, in ascending order. A chunk too long for a TC7 packet is not served in that class (R68). -/
def heldOf (o : Obj) (a n tc : Nat) : List (Nat × PChunk) :=
  o.chunks.filter (fun c => decide (a ≤ c.1) && decide (c.1 < a + n) && !(tc == 7 && decide (2012 < c.2.data.length)))

/-- Send a held chunk to the repair's source. DESIGN CHOICE: it carries ECHO 0 whatever the CM of the repair, since R67's list of
responses leaves PROM_CHUNK out (log entry 30). -/
def State.promSend (s : State) (r : Deliv) (total c : Nat) (x : PChunk) (last : Bool) : State :=
  let q := r.pkt
  let s := s.stackUsed (s.promStack c)
  let p := (s.newPacket 0x20 q.tc.toNat q.sgid.toNat).withPayload x.data
  s.originate (s.answerRegion r) { p with w2 := BitVec.ofNat 64 (q.promObj * 2 ^ 48 + c * 2 ^ 16), key := 0xFFFF, ctx := BitVec.ofNat 32 total,
                                          psn := BitVec.ofNat 24 x.psn, msgid := BitVec.ofNat 16 x.msgid, last := last }

/-- End a repair: NACK NOT_CACHED when a chunk asked for was not sent. -/
def State.promEnd (s : State) (x : PRep) : State × PRep :=
  (if x.sent < x.req.pkt.promCount then s.nack x.req 7 else s, { x with at_ := x.req.pkt.promCount, ended := true })

/-- Serve a repair on until `n` of its chunks have been dealt with, and to its end when `n` is more than it asks for: the chunks held
in ascending order, LAST on the last of them, then the NACK (R339). DESIGN CHOICE: LAST is set also where one chunk alone is served,
as R339 words it (log entry 30). -/
def State.promServe (s : State) (x : PRep) (n : Nat) : State × PRep :=
  let p := x.req.pkt
  let o := (s.obj? p.promObj).getD ⟨0, 0, []⟩
  let hs := heldOf o (p.promChunk + x.at_) (p.promCount - x.at_) p.tc.toNat
  let now := hs.filter (fun c => decide (c.1 < p.promChunk + n))
  let s := now.zipIdx.foldl (fun s (c : (Nat × PChunk) × Nat) => s.promSend x.req o.total c.1.1 c.1.2 (c.2 + 1 == hs.length)) s
  let all := !now.isEmpty && now.length == hs.length
  let x := { x with at_ := if all then p.promCount else max x.at_ (min n p.promCount), sent := x.sent + now.length }
  if p.promCount < n ∧ !x.ended then s.promEnd x else (s, x)

/-- A repair enters service: how much of it has been sent before the next happening of promenade is a free value (R342). -/
def State.promAccept (s : State) (r : Deliv) : State :=
  let (n, s) := s.free 40 (r.pkt.promCount + 2)
  let y := s.promServe ⟨r, 0, 0, false⟩ n
  y.1.onProm (fun w => { w with reps := w.reps ++ [y.2] })

/-- PROM_REPAIR_RECEIVED (R339). DESIGN CHOICE: the reserved COUNT 0 is answered NACK BAD_REQ (log entry 30). -/
def doPromRepair (pos : Nat) (s : State) : State :=
  match s.takeLocal pos (fun r => r.fn == .own && r.pkt.kind == 0x21) with
  | none => s
  | some (r, s) =>
    if r.pkt.promCount = 0 then s.nack r 5
    else if 256 ≤ s.prom.reps.length then s.bumpProm .promRepairDrop
    else s.promAccept r

def execPromRepairReceived (pos : Nat) (s : State) : Host.Outcome State Fault Refusal := settle s (doPromRepair pos s)

/-- PROM_REPAIR_COMPLETE (R339): the earliest repair in service has been served to its end, and leaves its place. -/
def doPromRepairComplete (s : State) : State :=
  match s.prom.reps with
  | [] => s
  | x :: rest => (s.promServe x (x.req.pkt.promCount + 1)).1.onProm (fun w => { w with reps := rest })

def execPromRepairComplete (s : State) : Host.Outcome State Fault Refusal := settle s (doPromRepairComplete s)

/-! PROM_CMD (R340, R341). -/

/-- Take a PROM_CMD: the fields written, then the operation's result; none while it runs on. -/
def State.promCmd (s : State) (op obj : Nat) (g : State → State × Option Nat) : State :=
  let s := (s.wr .promCmd_op 0 op).wr .promCmd_object 0 obj
  match g s with
  | (t, some r) => t.wr .promCmd_result 0 r
  | (t, none) => t.wr .promCmd_start 0 1

/-- QUERY. -/
def State.doPromQuery (s : State) (j : Nat) : State × Option Nat :=
  match s.obj? j with
  | none =>
    let s := (s.wr .promObjStatus_total 0 0).wr .promObjStatus_held 0 0
    let s := (s.wr .promObjInfo_known 0 0).wr .promObjInfo_complete 0 0
    ((s.wr .promObjInfo_lastLen 0 0).wr .promObjInfo_source 0 0, some 0)
  | some o =>
    let s := (s.wr .promObjStatus_total 0 o.total).wr .promObjStatus_held 0 o.chunks.length
    let s := (s.wr .promObjInfo_known 0 1).wr .promObjInfo_complete 0 (b2n o.whole)
    let n := match kget o.chunks (o.total - 1) with | some c => c.data.length | none => 0
    ((s.wr .promObjInfo_lastLen 0 n).wr .promObjInfo_source 0 o.source, some 0)

def execPromQuery (src : Src) (obj : BitVec 16) (s : State) : Host.Outcome State Fault Refusal :=
  settle s (s.onWrite src .promCmd 0 (fun s => s.promCmd 0 obj.toNat (fun s => s.doPromQuery obj.toNat)))

/-- Chunks of an object that are not held. -/
def Obj.missing (o : Obj) : List Nat := (List.range o.total).filter (fun c => (kget o.chunks c).isNone)

/-- The spans of a target's repairs: first chunk and count, each at most 65,535 (R340). -/
def repairSpans (a b : Nat) : List (Nat × Nat) :=
  (List.range ((b - a) / 65535 + 1)).map (fun i => (a + 65535 * i, min 65535 (b + 1 - (a + 65535 * i))))

/-- Where the chunks of a residue are asked for, by the INDEX of the fetch (R336, R340). -/
def State.promTarget (s : State) (o : Obj) (index r : Nat) : Nat := if r = index then o.source else s.rd .promSpine_gid r

/-- Send the repairs for the chunks still missing (R340). -/
def State.promAsk (s : State) (j : Nat) (o : Obj) (index : Nat) : State :=
  let miss := o.missing
  (List.range s.promS).foldl (fun s r =>
    match miss.filter (fun c => c % s.promS == r) with
    | [] => s
    | a :: rest =>
      (repairSpans a (rest.getLastD a)).foldl (fun s x =>
        let (psn, s) := s.free 1 (2 ^ 24)
        let (mid, s) := s.free 2 (2 ^ 16)
        let p := s.newPacket 0x21 (s.rd .promCfg_tc 0) (s.promTarget o index r)
        let s := s.onProm (fun w => { w with asked := w.asked ++ [(psn, mid, s.promTarget o index r)] })
        s.originateChip { p with w2 := BitVec.ofNat 64 (j * 2 ^ 48 + x.1 * 2 ^ 16 + x.2), psn := BitVec.ofNat 24 psn, msgid := BitVec.ofNat 16 mid }) s) s

/-- The registers a fetch of this object needs are not as it needs them. -/
def State.promCfgBad (s : State) (o : Obj) : Bool :=
  decide (s.promS ≤ s.rd .promCfg_index 0) ||
    o.missing.any (fun c => let r := c % s.promS; r != s.rd .promCfg_index 0 && !s.flag .promSpine_valid r)

/-- FETCH. -/
def State.doPromFetch (s : State) (j : Nat) : State × Option Nat :=
  match s.obj? j with
  | none => (s, some 1)
  | some o =>
    if s.promCfgBad o then (s, some 3)
    else if o.whole then (s, some 0)
    else
      let i := s.rd .promCfg_index 0
      ((s.promAsk j o i).onProm (fun w => { w with fetch := some ⟨j, i, s.tb.mono, s.tb.mono⟩ }), none)

def execPromFetch (src : Src) (obj : BitVec 16) (s : State) : Host.Outcome State Fault Refusal :=
  settle s (s.onWrite src .promCmd 0 (fun s => s.promCmd 1 obj.toNat (fun s => s.doPromFetch obj.toNat)))

/-- The asks are repeated every 1 ms (R340). -/
def State.doFetchRepeat (s : State) : State :=
  match s.prom.fetch with
  | none => s
  | some f =>
    match s.obj? f.obj with
    | none => s
    | some o =>
      if f.last + 1000000 ≤ s.tb.mono then
        (s.promAsk f.obj o f.index).onProm (fun w => { w with fetch := some { f with last := s.tb.mono } })
      else s

/-- PROM_FETCH_REPEAT (R340). -/
def execPromFetchRepeat (s : State) : Host.Outcome State Fault Refusal := settle s s.doFetchRepeat

/-- FETCH_MS in ns; 0 is used as 1 (PROM_CFG). -/
def State.fetchNs (s : State) : Nat := 1000000 * max 1 (s.rd .promCfg_fetchMs 0)

/-- The RESULT with which a fetch ends now: OK when every chunk is held, UNKNOWN when the object is gone, INCOMPLETE once FETCH_MS
have passed; none while it goes on (R340, Table 12.6). -/
def State.fetchResult (s : State) (f : PFetch) : Option Nat :=
  match s.obj? f.obj with
  | none => some 1
  | some o => if o.whole then some 0 else if f.start + s.fetchNs ≤ s.tb.mono then some 2 else none

/-- The fetch ends with a RESULT. -/
def State.fetchEnds (s : State) (r : Nat) : State :=
  ((s.onProm (fun w => { w with fetch := none, asked := [] })).wr .promCmd_start 0 0).wr .promCmd_result 0 r

/-- PROM_FETCH_DONE (R340). -/
def State.doFetchDone (s : State) : State :=
  match s.prom.fetch with
  | none => s
  | some f =>
    match s.fetchResult f with
    | some r => s.fetchEnds r
    | none => s

def execPromFetchDone (s : State) : Host.Outcome State Fault Refusal := settle s s.doFetchDone

/-- A write of PROM_CMD that drops the object being fetched is taken, though START reads 1: Table 12.6 gives its outcome. -/
def State.takesDrop (s : State) (src : Src) (val : Nat) : Bool :=
  bitAt val 31 && bits val 28 3 == 2 && (s.prom.fetch.map (fun f => f.obj)) == some (bits val 0 16) &&
    (s.wr .promCmd_start 0 0).accepts src .promCmd 0

/-- A write of PROM_CMD: as any write, and the drop of the object being fetched. -/
def State.onPromWrite (s : State) (src : Src) (val : Nat) (g : State → State) : State :=
  if s.takesDrop src val then g (s.flush src (regBlock (Reg.promCmd.offset 0))) else s.onWrite src .promCmd 0 g

/-- DROP: a fetch of the object ends with RESULT UNKNOWN (Table 12.6). -/
def State.doPromDrop (s : State) (j : Nat) : State × Option Nat :=
  let t := s.onProm (fun w => { w with objs := kdel w.objs j })
  if (s.prom.fetch.map (fun f => f.obj)) = some j then (t.fetchEnds 1, some 1) else (t, some 0)

/-- The word that commands DROP. -/
def dropWord (j : Nat) : Nat := 2 ^ 31 + 2 * 2 ^ 28 + j

def execPromDrop (src : Src) (obj : BitVec 16) (s : State) : Host.Outcome State Fault Refusal :=
  settle s (s.onPromWrite src (dropWord obj.toNat) (fun s => s.promCmd 2 obj.toNat (fun s => s.doPromDrop obj.toNat)))

/-- DROP_ALL. -/
def State.doPromDropAll (s : State) : State × Option Nat := (s.onProm (fun w => { w with objs := [] }), some 0)

def execPromDropAll (src : Src) (s : State) : Host.Outcome State Fault Refusal :=
  settle s (s.onWrite src .promCmd 0 (fun s => s.promCmd 3 (s.rd .promCmd_object 0) (fun s => s.doPromDropAll)))

end Sys2Proof.Machine
end

