-- ==== Sys2Proof/Machine/Tables.lean ====
section
/-! DEFINITION. The table command interface, learning, the LPM order and scrub, and the reload of table copies (R113 to R131,
R290, R291, R304, R317, R416). -/

namespace Sys2Proof.Machine

/-- Replace the tables. -/
def State.onTab (s : State) (g : Tab → Tab) : State := { s with tab := g s.tab }

/-! The tables (Table 4.9). -/

/-- Entries of a table, and bits of an entry. -/
def tblRange (t : Nat) : Nat := nthD [262144, 8192, 32768, 32768, 16384, 16384, 65536, 64] t 0
def tblWidth (t : Nat) : Nat := nthD [64, 512, 256, 256, 512, 512, 64, 512] t 0

/-- The operations a table accepts. -/
def tblAccepts (t op : Nat) : Bool :=
  match op with
  | 0 => true | 1 => true | 2 => true
  | 3 => t == 2 | 4 => t == 2 | 5 => t == 2
  | 6 => t == 0 || t == 6
  | _ => false

/-- An entry as READ copies it. -/
def State.tblGet (s : State) (t i : Nat) : Nat :=
  match t with
  | 0 => s.dt i
  | 1 => sget 0 s.tab.lg i
  | 2 => sget 0 s.tab.tcam (32768 * s.lowRegion + i)
  | 3 => sget 0 s.tab.shadow i
  | 4 => sget 0 s.tab.mcg i
  | 5 => sget 0 s.tab.cgt i
  | 6 => s.sesAt i
  | _ => s.svcEntry i

/-- A rewritten entry is readable in every region (R123). -/
def State.goodAgain (s : State) (t i : Nat) : State :=
  s.onTab (fun w => { w with bad := w.bad.filter (fun b => !(b.1 == t && b.2.1 == i)) })

/-- A link group page changes, and the group's spray pointers return to member 0 (R109). -/
def State.setLg (s : State) (i v : Nat) : State :=
  (s.onTab (fun w => { w with lg := sset 0 w.lg i v, spray := w.spray.filter (fun x => (unpair x.1).1 != i / 2) })).goodAgain 1 i

/-! LPM slots (R120). -/

def leValid (e : Nat) : Bool := bitAt e 255
def leV6 (e : Nat) : Bool := bitAt e 254
def lePlen (e : Nat) : Nat := bits e 246 8
def leAddr (e : Nat) : Nat := bits e 0 128

/-- A shadow slot changes; an IPv6 entry takes the slot after it too. -/
def State.setShadow (s : State) (i e : Nat) : State :=
  let s := (s.onTab (fun w => { w with shadow := sset 0 w.shadow i e })).goodAgain 3 i
  if leValid e && leV6 e then (s.onTab (fun w => { w with shadow := sset 0 w.shadow (i + 1) 0 })).goodAgain 3 (i + 1) else s

/-- One TCAM slot of every region changes. -/
def State.setTcam (s : State) (i e : Nat) : State :=
  s.onTab (fun w => { w with tcam := (List.range 8).foldl (fun m k => sset 0 m (32768 * k + i) e) w.tcam })

/-- A slot of the LPM table changes: TCAM and shadow together (R126). -/
def State.setLpm (s : State) (i e : Nat) : State :=
  let s := (s.setTcam i e).setShadow i e
  if leValid e && leV6 e then s.setTcam (i + 1) 0 else s

/-- The index is the odd slot of an IPv6 entry (R127). -/
def State.oddSlot (s : State) (t i : Nat) : Bool :=
  (t == 2 || t == 3) && i % 2 == 1 && (let e := s.tblGet t (i - 1); leValid e && leV6 e)

/-! A service entry changes (R177, R291, R304, R416). -/

/-- Every request of a service still in assembly is answered UNBOUND. -/
def State.unbind (s : State) (sv : Nat) : State :=
  (s.svc.grps.filter (fun g => g.sv == sv)).foldl (fun s g =>
    (g.reqs.filter (fun q => !q.whole)).foldl (fun s q => (s.svcError q.first 3 0).dropReq g.num q.slot) s) s

/-- SVC_STATUS after a write of the entry. -/
def State.svcShow (s : State) (sv : Nat) (ready building : Bool) : State :=
  (((s.wr .svcStatus_ready sv (b2n ready)).wr .svcStatus_building sv (b2n building)).wr .svcStatus_paramBad sv 0).wr .svcStatus_scratchLost sv 0

/-- Measurement 4 is extended by an entry that becomes VALID (R401): the digest so far, followed by the digest of the entry with
the first LSTRIDE·64 bytes at its HEAD and the 64 bytes at PARAM, is digested. -/
def State.measureSvc (s : State) (e : Nat) : State :=
  let d := Config.sha384 (leBytes 64 e ++ s.memGet (seHead e) (64 * seLstride e) ++ s.memGet (seParam e) 64)
  { s with chip := { s.chip with m4 := (Config.sha384 (beBytes 48 s.chip.m4 ++ beBytes 48 d.toNat)).toNat } }

/-- A service entry is replaced in every regional copy. -/
def State.setSvcEntry (s : State) (sv e : Nat) : State :=
  let was := seLive (s.svcEntry sv)
  let s := (s.onTab (fun w => { w with svc := sset 0 w.svc sv e })).goodAgain 7 sv
  let s := s.onSvc (fun w => { w with adm := kdel w.adm sv })
  let s := s.when (seLive e) (fun s => s.measureSvc e)
  if !seLive e then (s.svcShow sv false false).when was (fun s => s.unbind sv)
  else
    let k := seRegion e
    if s.regionDead k then s.svcShow sv false false
    else if seKind e = 1 then s.svcShow sv true false
    else
      let asleep := s.rd .pwrRegionStatus_state k != 0
      let s := s.svcShow sv (!asleep && seKind e == 0) (asleep || seKind e != 0)
      s.when asleep (fun s => s.wakeRegion k)

/-! Writing an entry (R126, R127). -/

/-- Replace an entry in every regional copy, in one step (R129). -/
def State.tblPut (s : State) (t i v : Nat) : State :=
  match t with
  | 0 => s.setDt i v
  | 1 => s.setLg i v
  | 2 => s.setLpm i v
  | 3 => s.setShadow i v
  | 4 => (s.onTab (fun w => { w with mcg := sset 0 w.mcg i v })).goodAgain 4 i
  | 5 => s.setCgt i v
  | 6 => s.setSes i v
  | _ => s.setSvcEntry i v

/-- Reserved values of an LPM entry, and its limits. -/
def lpmBad (e : Nat) : Bool := decide (3 < bits e 243 3) || decide ((if leV6 e then 128 else 32) < lePlen e)

/-- A format that a collective group may use (R317). -/
def redFmt (c : Nat) : Bool :=
  match Fmt.ofCode c with
  | some f => !f.scaled && !f.esc && (f.el == .fp32 || f.el == .bf16 || f.el == .fp16 || f.el == .e4m3 || f.el == .e5m2 || f.el == .int8)
  | none => false

/-- The valid records of a group entry cover its members exactly once. -/
def redCover (e : Nat) : Bool :=
  let rs := ((List.range 12).map (ceRec e)).filter recValid
  rs.all (fun x => recCount x != 0) &&
    (List.range 2048).all (fun m =>
      (rs.filter (fun x => decide (recFirst x ≤ m) && decide (m < recFirst x + recCount x))).length == (if m < ceNmem e then 1 else 0))

/-- The cases of R317. -/
def State.cgtBad (s : State) (e : Nat) : Bool :=
  decide (5 < ceOp e) || !redFmt (bits e 500 6) || !redFmt (bits e 494 6) || (ceBitwise e && bits e 500 6 != bits e 494 6) ||
    ceLen e == 0 || decide (4096 < ceLen e) || ceLen e % (ceIn e).size != 0 || decide (4096 < ceResult e) ||
    ceNmem e == 0 || decide (1024 < ceNmem e) || !redCover e ||
    (ceMlist e != 0 && (ceMlist e % 64 != 0 || !s.mapped (ceMlist e) (4 * ceNmem e)))

/-- The data of a WRITE is invalid for its table (R127, R317). -/
def State.entryBad (s : State) (t i v : Nat) : Bool :=
  match t with
  | 0 => decide (4 < bits v 59 3)
  | 1 => i % 2 == 0 && (decide (1 < bits v 508 2) || bits v 499 2 == 3 || decide (64 < bits v 501 7) || (bits v 499 2 == 2 && bits v 487 12 == i / 2))
  | 2 => lpmBad v || (leV6 v && i % 2 == 1)
  | 3 => lpmBad v || (leV6 v && i % 2 == 1)
  | 5 => s.cgtBad v
  | _ => false

/-- The entry as a WRITE stores it: the part's own fields are 0 (R127, R307, R326). -/
def written (t v : Nat) : Nat :=
  match t with
  | 0 => clearMask v (31 * 2 ^ 53)
  | 5 => clearMask v (2 ^ 506)
  | 6 => clearMask v (31 * 2 ^ 57)
  | _ => v

/-! The reload of a copy (R36, R123). -/

/-- A region holds a copy of an entry free of an uncorrectable codeword. -/
def State.copyGood (s : State) (t i k : Nat) : Bool := !s.regionDead k && !s.tab.bad.contains (t, i, k)

/-- TABLE_ENTRY_RELOAD (R36, R123): a copy from another region, or the entry's invalidation in every region; the MEM_UE record
says which (Table 17.4). -/
def State.doReload (s : State) (t i k : Nat) : State :=
  if !s.tab.bad.contains (t, i, k) then s
  else
    let s := s.when (t == 3) (fun s => s.bumpTab .tableEcc)
    if (List.range 8).any (fun h => h != k && s.copyGood t i h) then
      (s.onTab (fun w => { w with bad := w.bad.filter (fun b => b != (t, i, k)) })).fault 0x0010 1 [4, k, i, t, 3]
    else
      let s := if t = 3 then s.tblPut 2 i 0 else s.tblPut t i 0
      (s.goodAgain t i).fault 0x0010 1 [4, k, i, t, 6]

/-- Every entry that waits for its reload is reloaded: a reload goes ahead of every queued table command (R123). -/
def State.reloadAll (s : State) : State := s.tab.bad.foldl (fun s b => s.doReload b.1 b.2.1 b.2.2) s

/-! The sorted operations (Table 4.10). -/

/-- Valid entries of a family in the shadow, in slot order. -/
def State.lpmFamily (s : State) (v6 : Bool) : List (Nat × Nat) := s.tab.shadow.filter (fun x => leValid x.2 && leV6 x.2 == v6)

/-- The entry of the same family, ADDR and PLEN; ADDR of an IPv4 entry is its low 32 bits (Table 4.8). -/
def State.lpmSame (s : State) (e : Nat) : Option Nat :=
  let w := if leV6 e then 128 else 32
  ((s.lpmFamily (leV6 e)).find? (fun x => bits x.2 0 w == bits e 0 w && lePlen x.2 == lePlen e)).map (fun x => x.1)

/-- A slot that no entry uses. -/
def State.slotFree (s : State) (i : Nat) : Bool := !leValid (sget 0 s.tab.shadow i) && !s.oddSlot 3 i

/-- The lowest free place between the longer and the shorter prefixes of the family. -/
def State.lpmGap (s : State) (e : Nat) : Option Nat :=
  let fam := s.lpmFamily (leV6 e)
  let above := (fam.filter (fun x => decide (lePlen e < lePlen x.2))).map (fun x => x.1 + 1)
  let below := (fam.filter (fun x => decide (lePlen x.2 < lePlen e))).map (fun x => x.1)
  let lo := above.foldl max 0
  let hi := below.foldl min 32768
  (List.range 32768).find? (fun i => decide (lo ≤ i) && decide (i < hi) &&
    (if leV6 e then i % 2 == 0 && s.slotFree i && s.slotFree (i + 1) else s.slotFree i))

/-- Insert behind every entry whose prefix is no shorter. -/
def insPlen (e : Nat) : List Nat → List Nat
  | [] => [e]
  | x :: l => if lePlen x < lePlen e then e :: x :: l else x :: insPlen e l

/-- Entries by falling prefix length, in their order between equals. -/
def byPlen (es : List Nat) : List Nat := es.foldl (fun l e => insPlen e l) []

/-- Lay the whole table out afresh, IPv6 entries first; the slot of the new entry (log entry 44). -/
def State.lpmRepack (s : State) (e : Nat) : Option (State × Nat) :=
  let six := byPlen ((s.lpmFamily true).map (fun x => x.2) ++ (if leV6 e then [e] else []))
  let four := byPlen ((s.lpmFamily false).map (fun x => x.2) ++ (if leV6 e then [] else [e]))
  if 32768 < 2 * six.length + four.length then none
  else
    let slots := six.zipIdx.map (fun x => (2 * x.2, x.1)) ++ four.zipIdx.map (fun x => (2 * six.length + x.2, x.1))
    let s := s.onTab (fun w => { w with tcam := [], shadow := [], bad := w.bad.filter (fun b => b.1 != 3) })
    let s := slots.foldl (fun s x => s.setLpm x.1 x.2) s
    some (s, ((slots.find? (fun x => x.2 == e)).map (fun x => x.1)).getD 0)

/-- INSERT_SORTED. -/
def State.lpmInsert (s : State) (e : Nat) : State × TblRes :=
  match s.lpmSame e with
  | some i => (s.setLpm i e, ⟨6, some i, none⟩)
  | none =>
    match s.lpmGap e with
    | some i => (s.setLpm i e, ⟨0, some i, none⟩)
    | none =>
      match s.lpmRepack e with
      | some x => (x.1, ⟨0, some x.2, none⟩)
      | none => (s, ⟨5, none, none⟩)

/-- DELETE_SORTED; RINDEX is not among its results (Table 4.10). -/
def State.lpmDelete (s : State) (e : Nat) : State × TblRes :=
  match s.lpmSame e with
  | some i => (s.setLpm i 0, ⟨0, none, none⟩)
  | none => (s, ⟨4, none, none⟩)

/-- SEARCH: a lookup as a frame would meet it. -/
def State.lpmSearch (s : State) (e : Nat) : TblRes :=
  match s.lpmFind s.lowRegion (leV6 e) (if leV6 e then leAddr e else leAddr e % 2 ^ 32) with
  | some x => ⟨0, some x.1, some x.2⟩
  | none => ⟨4, none, none⟩

/-- LEARN_FLUSH of one table: the entries cleared, and how many changed. `st` is the STATIC bit, `fm` the mask of FROZEN and
MOVES, `lo` and `w` the place of the TARGET. -/
def flushMap (m : SMap) (st fm lo w : Nat) (all : Bool) (target : Nat) : SMap × Nat :=
  let hit := fun (v : Nat) => !bitAt v st && (all || bits v lo w == target) && (v &&& fm) != 0
  ((m.map (fun (x : Nat × Nat) => if hit x.2 then (x.1, clearMask x.2 fm) else x)).filter (fun x => x.2 != 0), (m.filter (fun x => hit x.2)).length)

/-- LEARN_FLUSH (Table 4.10). -/
def State.learnFlush (s : State) (t : Nat) (all : Bool) (target : Nat) : State × TblRes :=
  if t = 0 then
    let r := flushMap s.tab.dt 62 (31 * 2 ^ 53) 0 18 all target
    (s.onTab (fun w => { w with dt := r.1 }), ⟨0, some (min r.2 262143), none⟩)
  else
    let r := flushMap s.tab.ses 62 (31 * 2 ^ 57) 27 12 all target
    (s.onTab (fun w => { w with ses := r.1 }), ⟨0, some (min r.2 262143), none⟩)

/-! A command (R125 to R128). -/

/-- The page that a source holds. -/
def State.heldPage (s : State) (key : Nat) : Option (Nat × Nat) := kget s.tab.held key
/-- Discard it. -/
def State.dropHeld (s : State) (key : Nat) : State := s.onTab (fun w => { w with held := kdel w.held key })

/-- WRITE (R127, R128). -/
def State.tblWriteEntry (s : State) (key t i data : Nat) : State × TblRes :=
  let v := data % 2 ^ tblWidth t
  if s.oddSlot t i then (s, ⟨2, none, none⟩)
  else if s.entryBad t i v then (s, ⟨3, none, none⟩)
  else if t = 1 ∧ i % 2 = 1 then (s.onTab (fun w => { w with held := kput w.held key (i / 2, v) }), ⟨7, none, none⟩)
  else if t = 1 then
    match s.heldPage key with
    | some h => (((s.dropHeld key).setLg (i + 1) h.2).setLg i v, ⟨0, none, none⟩)
    | none => (s.setLg i v, ⟨0, none, none⟩)
  else (s.tblPut t i (written t v), ⟨0, none, none⟩)

/-- The operation of a command that its table accepts. -/
def State.tblDo (s : State) (key : Nat) (c : TblCmd) : State × TblRes :=
  match c.op with
  | 0 => if s.oddSlot c.table c.index then (s, ⟨2, none, none⟩) else (s, ⟨0, none, some (s.tblGet c.table c.index)⟩)
  | 1 => s.tblWriteEntry key c.table c.index c.data
  | 2 => if s.oddSlot c.table c.index then (s, ⟨2, none, none⟩) else (s.tblPut c.table c.index 0, ⟨0, none, none⟩)
  | 3 => (s, s.lpmSearch (c.data % 2 ^ 256))
  | 4 => if lpmBad (c.data % 2 ^ 256) then (s, ⟨3, none, none⟩) else s.lpmInsert (c.data % 2 ^ 256)
  | 5 => s.lpmDelete (c.data % 2 ^ 256)
  | _ => s.learnFlush c.table c.all (c.index % 4096)

/-- Entries of the DT or the session table that a command changed, with what they held. -/
def changedEntries (c : TblCmd) (old new : SMap) : List (Nat × Nat × Nat) :=
  if c.op = 6 then (old.filter (fun x => sget 0 new x.1 != x.2)).map (fun x => (c.table, x.1, x.2))
  else if sget 0 old c.index != sget 0 new c.index then [(c.table, c.index, sget 0 old c.index)] else []

/-- Keep what a command changed in the DT or the session table, for a learning event of the same cycle (R130): `was` is the
state before it. What an earlier instant changed is forgotten. -/
def State.noteChange (s was : State) (c : TblCmd) : State :=
  let now := if s.tab.chgAt = s.tb.mono then s.tab.chg else []
  let new := if c.table = 0 then changedEntries c was.tab.dt s.tab.dt
    else if c.table = 6 then changedEntries c was.tab.ses s.tab.ses else []
  s.onTab (fun w => { w with chg := now ++ new, chgAt := s.tb.mono })

/-- The command discards the page that its source holds (R128). -/
def State.discards (s : State) (key : Nat) (c : TblCmd) : Bool :=
  c.table == 1 && decide (c.index < 8192) && (match s.heldPage key with | some h => h.1 != c.index / 2 | none => false)

/-- A command takes effect: its answer is HELD_DISCARDED where it would be OK or HELD and it discards a page (R128). -/
def State.tblAct (s0 : State) (key : Nat) (c : TblCmd) : State × TblRes :=
  let s := s0.reloadAll
  if c.op = 7 then (s, ⟨1, none, none⟩) else
  let d := s.discards key c
  let s := if d then s.dropHeld key else s
  if !tblAccepts c.table c.op then (s, ⟨1, none, none⟩)
  else if tblRange c.table ≤ c.index then (s, ⟨2, none, none⟩)
  else
    let r := s.tblDo key c
    (r.1.noteChange s c, if d ∧ (r.2.result = 0 ∨ r.2.result = 7) then { r.2 with result := 8 } else r.2)

/-- A WRITE of a service entry waits for its function's earlier BAR2 writes (R290). -/
def State.jobWaits (s : State) (j : TblJob) : Bool :=
  match j.fn with
  | some f => j.cmd.op == 1 && j.cmd.table == 7 && s.bar2Waits f j.after
  | none => false

/-- Commands take effect in order, up to the first that must wait. -/
def State.tblPump (s : State) : State :=
  let r := s.tab.jobs.foldl (fun (acc : State × List TblJob × Bool) j =>
    if acc.2.2 then (acc.1, acc.2.1 ++ [j], true)
    else if j.done.isSome then (acc.1, acc.2.1 ++ [j], false)
    else if acc.1.jobWaits j then (acc.1, acc.2.1 ++ [j], true)
    else
      let x := acc.1.tblAct j.by_ j.cmd
      (x.1, acc.2.1 ++ [{ j with done := some x.2 }], false)) (s, [], false)
  r.1.onTab (fun w => { w with jobs := r.2.1 })

/-- A command joins the queue. -/
def State.tblStart (s : State) (key : Nat) (fn : Option Nat) (c : TblCmd) (seq : Option Nat) : State :=
  (s.onTab (fun w => { w with nextJob := w.nextJob + 1, jobs := w.jobs ++ [{ num := w.nextJob, by_ := key, fn := fn, cmd := c, done := none, seq := seq, after := s.pwr.nextBar2 }] })).tblPump

/-- The instance of the interface that a source uses: 0 the TBL_ registers, 1 the private instance of the management core. -/
def tblInst : Src → Nat
  | .ctl0 => 1 | .ctl1 => 1 | _ => 0

/-- TBL_DATA of an instance. -/
def State.tblData (s : State) (inst : Nat) : Nat :=
  (List.range 16).foldl (fun a i => a + s.rd .tblData_data (16 * inst + i) * 2 ^ (32 * i)) 0

/-- A write of TBL_CMD with START 1 (R125). The reserved OP changes RESULT alone (R475). -/
def State.tblCommand (s : State) (src : Src) (op table index : Nat) (all : Bool) : State :=
  let n := tblInst src
  if op = 7 then s.wr .tblStatus_result n 1 else
  let s := ((s.wr .tblCmd_op n op).wr .tblCmd_table n table).wr .tblCmd_all n (b2n all)
  let s := (s.wr .tblCmd_index n index).wr .tblCmd_start n 1
  s.tblStart n (srcFn src) ⟨op, table, index, all, s.tblData n⟩ none

/-- A command row: accepted as a write of TBL_CMD is. -/
def State.tblRow (s : State) (src : Src) (op : Nat) (table : BitVec 3) (index : BitVec 18) (all : Bool) : State :=
  s.onWrite src .tblCmd (tblInst src) (fun s => s.tblCommand src op table.toNat index.toNat all)

def execTblRead (src : Src) (table : BitVec 3) (index : BitVec 18) (s : State) : Host.Outcome State Fault Refusal :=
  settle s (s.tblRow src 0 table index false)
def execTblWrite (src : Src) (table : BitVec 3) (index : BitVec 18) (s : State) : Host.Outcome State Fault Refusal :=
  settle s (s.tblRow src 1 table index false)
def execTblInvalidate (src : Src) (table : BitVec 3) (index : BitVec 18) (s : State) : Host.Outcome State Fault Refusal :=
  settle s (s.tblRow src 2 table index false)
def execTblSearch (src : Src) (table : BitVec 3) (index : BitVec 18) (s : State) : Host.Outcome State Fault Refusal :=
  settle s (s.tblRow src 3 table index false)
def execTblInsertSorted (src : Src) (table : BitVec 3) (index : BitVec 18) (s : State) : Host.Outcome State Fault Refusal :=
  settle s (s.tblRow src 4 table index false)
def execTblDeleteSorted (src : Src) (table : BitVec 3) (index : BitVec 18) (s : State) : Host.Outcome State Fault Refusal :=
  settle s (s.tblRow src 5 table index false)
def execTblLearnFlush (src : Src) (table : BitVec 3) (all : Bool) (index : BitVec 18) (s : State) : Host.Outcome State Fault Refusal :=
  settle s (s.tblRow src 6 table index all)

/-- Show a command's answer in an instance's registers (R129, R131). -/
def State.tblShow (s : State) (n : Nat) (r : TblRes) : State :=
  let s := (s.wr .tblStatus_result n r.result).wr .tblCmd_start n 0
  let s := match r.rindex with | some i => s.wr .tblStatus_rindex n i | none => s
  match r.data with
  | some d => (List.range 16).foldl (fun s i => s.wr .tblData_data (16 * n + i) (bits d (32 * i) 32)) s
  | none => s

/-- A COMPLETION entry for the owner's command ring (Table 18.3); none once the function no longer owns the lease (R459). -/
def State.complete (s : State) (fn seq result : Nat) : State :=
  if s.owner? = some fn then s.postEvent fn 0x0004 (leBytes 4 seq ++ [BitVec.ofNat 8 result]) [] else s

/-- A command ring has a table command in progress. -/
def State.ringBusy (s : State) (fn : Nat) : Bool := s.tab.jobs.any (fun j => j.by_ == 2 + fn)

/-- SYNC entries whose earlier entries have all taken effect complete (R449). -/
def State.syncPump (s : State) : State :=
  s.mgmt.owed.foldl (fun s q =>
    if s.ringBusy q.1 then s
    else ({ s with mgmt := { s.mgmt with owed := s.mgmt.owed.erase q } }).complete q.1 q.2 0) s

/-- TABLE_COMMAND_COMPLETE (R129): the oldest command ends. -/
def State.tblComplete (s : State) : State :=
  let s := s.tblPump
  match s.tab.jobs with
  | [] => s
  | j :: rest =>
    match j.done with
    | none => s
    | some r =>
      let s := s.onTab (fun w => { w with jobs := rest })
      if j.by_ < 2 then s.tblShow j.by_ r
      else (match j.seq with
        | some q => s.complete (j.by_ - 2) q r.result
        | none => s).syncPump

def execTableCommandComplete (s : State) : Host.Outcome State Fault Refusal := settle s s.tblComplete

/-! Learning (R113 to R118). -/

/-- Set MOVES and TARGET of a DT entry. -/
def dtMoved (e moves target : Nat) : Nat := clearMask (clearMask e (15 * 2 ^ 53)) (2 ^ 18 - 1) + moves * 2 ^ 53 + target

/-- Table 4.5. -/
def State.learnOne (s : State) (g port : Nat) : State :=
  let e := s.dt g
  let dst := s.rd .dtPortLearn_group port
  if !bitAt e 63 then
    if s.flag .dtLearnCfg_create 0 then (s.setDt g (2 ^ 63 + 2 ^ 59 + 2 ^ 53 + dst)).bumpTab .learnMove else s
  else if bitAt e 62 || bits e 59 3 != 1 then s
  else if (s.lgMembers (bits e 0 12)).any (fun m => m.2.2 == port) then s
  else if bitAt e 57 then s.bumpTab .learnFrozenHit
  else if 8 ≤ bits e 53 4 then
    let s := ((s.setDt g (setBit e 57)).wr .dtLearnStatus_lastFrozen 0 g).event .dtLearnStatus .dtLearnStatus_frozenEvent 0
    (s.fault 0x0022 0 [g, port]).bumpTab .learnFrozen
  else (s.setDt g (dtMoved e (bits e 53 4 + 1) dst)).bumpTab .learnMove

/-- LEARN_APPLY (R114): the oldest learning event is applied, or discarded where a command changed the same entry in the same
CORE_CLK cycle (R130). -/
def execLearnApply (s : State) : Host.Outcome State Fault Refusal :=
  settle s (match s.tab.learnQ with
    | [] => s
    | x :: rest =>
      let s := s.onTab (fun w => { w with learnQ := rest })
      match s.changedNow 0 x.1 with
      | none => s.learnOne x.1 x.2
      | some old =>
        if ((s.setDt x.1 old).learnOne x.1 x.2).dt x.1 = old then s.learnOne x.1 x.2
        else
          let (same, s) := s.sameCycle
          if same then s.bumpTab .learnDiscard else s.learnOne x.1 x.2)

/-- Clear a field in every entry of a table. -/
def clearAll (m : SMap) (mask : Nat) : SMap := (m.map (fun (x : Nat × Nat) => (x.1, clearMask x.2 mask))).filter (fun x => x.2 != 0)

/-- LEARN_WINDOW_BOUNDARY (R115, R307). -/
def execLearnWindowBoundary (s : State) : Host.Outcome State Fault Refusal :=
  settle s (if s.tb.counting && s.reached s.tab.window then
      s.onTab (fun w => { w with dt := clearAll w.dt (15 * 2 ^ 53), ses := clearAll w.ses (15 * 2 ^ 57), window := (w.window + 1000000000) % 2 ^ 32 })
    else s)

/-! Scrub and reload (R123). -/

/-- A table command is acting on an LPM slot (R123): it names the slot, or the even slot of an IPv6 entry that takes it too, or
it is a sorted operation, which may move any entry (log entry 44). It acts until START reads 0 (R129). -/
def State.slotActed (s : State) (i : Nat) : Bool :=
  s.tab.jobs.any (fun j => (j.cmd.table == 2 || j.cmd.table == 3) &&
    (j.cmd.op == 4 || j.cmd.op == 5 || (decide (j.cmd.op ≤ 2) && (j.cmd.index == i || (i % 2 == 1 && j.cmd.index + 1 == i)))))

/-- LPM_SCRUB_SLOT (R123). -/
def State.doLpmScrub (s : State) (k i : Nat) : State :=
  let want := sget 0 s.tab.shadow i
  if s.slotActed i || s.off || !s.flag .lpmScrubCfg_en 0 || s.regionDead k || s.tab.bad.contains (3, i, k) || sget 0 s.tab.tcam (32768 * k + i) == want then s
  else (s.onTab (fun w => { w with tcam := sset 0 w.tcam (32768 * k + i) want })).bumpTab .lpmScrubFix

def execLpmScrubSlot (k : Fin 8) (slot : BitVec 15) (s : State) : Host.Outcome State Fault Refusal := settle s (s.doLpmScrub k slot.toNat)

def execTableEntryReload (table : Fin 8) (index : BitVec 18) (k : Fin 8) (s : State) : Host.Outcome State Fault Refusal :=
  settle s (s.doReload table index.toNat k)

end Sys2Proof.Machine
end

