-- ==== Sys2Proof/Machine/Chip.lean ====
section
/-! DEFINITION. Device states, and units taken out of service: management cores, blocks, regions, stacks, fatal errors and
uncorrectable codewords (R20, R26, R36 to R41, R145, R286, R378, R395, R419, R431 to R434). -/

namespace Sys2Proof.Machine

/-- Change the chip-level state. -/
def State.onChip (s : State) (g : Chip → Chip) : State := { s with chip := g s.chip }
/-- CFG_STATE.STATE. -/
def State.devState (s : State) : Nat := s.rd .cfgState_state 0

/-! Device states (R377, R378, R394, R395). -/

/-- The device state changes: STATE_EVENT, the IBI of R456, a gateway mode that the new state does not allow, and SYNC_OUT. -/
def State.setDevState (s : State) (st : Nat) : State :=
  if s.devState = st then s
  else
    let s := ((s.wr .cfgState_state 0 st).event .cfgState .cfgState_stateEvent 0).raiseIbi 4
    let s := s.when (!gwStateOk (s.rd .gwMode_mode 0) st) (fun s => s.setGwMode 0)
    s.when (st != 4 && st != 5) (fun s => s.syncLow)

/-- A port is DOWN with its lanes powered off. -/
def State.darken (s : State) (n : Nat) : State := (s.goDown n none).setPst n (fun x => { x with powered := false })

/-- Enter SAFE: every port DOWN, every lane powered off (R394). -/
def State.enterSafe (s : State) (cause : Nat) : State :=
  let s := s.enabledPorts.foldl State.darken s
  (s.wr .cfgState_safeCause 0 cause).setDevState 6

/-- A unit has been taken out of service: DEGRADED is shown, and RUN becomes DEGRADED (R378). -/
def State.degrade (s : State) : State :=
  (s.wr .cfgFaultSummary_degraded 0 1).when (s.devState == 4) (fun s => s.setDevState 5)

/-- A unit of region k has been taken out of service. -/
def State.regionEvent (s : State) (k : Nat) : State := s.degrade.event .cfgFaultSummary .cfgFaultSummary_regionEvent 0 k

/-! Fatal errors (R36, R378, R456). -/

/-- A fatal chip error. In SAFE the state stays as it is. -/
def State.chipFatal (s : State) (cause : Nat) : State :=
  if s.off then s
  else
    let s := s.wr .cfgFaultSummary_chipFatal 0 1
    let s := s.fault 0x0005 3 [cause]
    let s := s.raiseIbi 1
    let s := s.when (cause == 0) (fun s => { s with fw := false })
    s.when (decide (2 ≤ s.devState) && decide (s.devState ≤ 5)) (fun s => s.enterSafe 3)

/-- CHIP_FATAL. -/
def execChipFatal (cause : Fin 6) (s : State) : Host.Outcome State Fault Refusal := settle s (s.chipFatal cause)

/-- A sensor reads 110 °C or more (R419). -/
def State.trip (s : State) : State :=
  if s.off ∨ s.chip.tripped then s
  else ((s.onChip (fun c => { c with tripped := true })).pin "THERMTRIP_N" false).chipFatal 5

/-- THERMTRIP. -/
def execThermtrip (_sensor : Fin 9) (s : State) : Host.Outcome State Fault Refusal := settle s s.trip

/-- A management core fails (R20): the other takes over, or the failure is fatal. -/
def State.ctlFails (s : State) (core : Nat) : State :=
  if s.off ∨ s.chip.ctlDead = some core then s
  else if s.chip.ctlDead.isSome then s.chipFatal 0
  else
    let s := (s.onChip (fun c => { c with ctlDead := some core })).wr .cfgFaultSummary_ctlOneFailed 0 1
    (s.fault 0x0003 2 [core]).degrade

/-- CTL_FAILOVER. -/
def execCtlFailover (core : Fin 2) (s : State) : Host.Outcome State Fault Refusal := settle s (s.ctlFails core)

/-! Core blocks (R40, R145). -/

/-- Drop a queued packet and count it. -/
def State.voqLost (s : State) (i c m pid : Nat) : State := (s.dropQueued pid m).bumpCore (regionOfBlock i) c .voqDrop

/-- A core block fails: the packets queued for it and in it, and what its stores and its egress hold, are lost. -/
def State.coreBlockLost (s : State) (b : Nat) : State :=
  -- the VOQs for it, and its own
  let s := (List.range 72).foldl (fun s i => (List.range 8).foldl (fun s c =>
    (s.voq i c b).foldl (fun s pid => s.voqLost i c b pid) s) s) s
  let s := (List.range 8).foldl (fun s c => (List.range 73).foldl (fun s m =>
    (s.voq b c m).foldl (fun s pid => s.voqLost b c m pid) s) s) s
  -- packets pinned to it in the first stage
  let s := (s.sw.streams.filter (fun x => x.k == b || x.i == b)).foldl (fun s x => s.dropQueued x.pid 72) s
  -- what its egress holds
  let s := ((List.range 8).map (fun j => 8 * b + j)).foldl (fun s n => if b < 64 then (List.range 8).foldl (fun s c =>
    (s.egq n c).foldl (fun s e => s.dropEgress n c e) s) s else s) s
  let s := (s.sw.gather.filter (fun e => (unpair e.1).2 == b)).foldl (fun s e => s.dropGather (unpair e.1).1 b) s
  let s := (s.sw.localQ.filter (fun r => r.blk == b)).foldl (fun s r => s.egFree b r.pkt.tc.toNat r.segs) s
  let s := (s.sw.eh.filter (fun e => (unpair e.1).2 == b)).foldl (fun s e =>
    s.egFree b (((s.pkt? (unpair e.1).1).map (·.cls)).getD 0) (e.2.1 - e.2.2)) s
  let s := s.onSw (fun w => { w with
    pkts := w.pkts.map (fun (e : Nat × Pkt) => (e.1, { e.2 with nums := e.2.nums.filter (fun x => x.1 != b) })),
    streams := w.streams.filter (fun x => x.k != b && x.i != b),
    t1 := w.t1.filter (fun x => x.k != b),
    iq := w.iq.filter (fun e => e.1 / 8 / 72 != b),
    mrec := w.mrec.filter (fun r => r.k != b),
    copies := w.copies.filter (fun x => x.k != b),
    wall := w.wall.filter (fun x => x.k != b),
    skips := w.skips.filter (fun x => x.k != b && x.d != b),
    skipT := w.skipT.filter (fun x => x.d != b),
    t2 := w.t2.filter (fun x => x.2.dst != b),
    flows := w.flows.filter (fun e => e.1 / 2 / 8 / 72 != b),
    eh := w.eh.filter (fun e => (unpair e.1).2 != b),
    rx := if b < 64 then w.rx.filter (fun e => e.1 / 16 != b) else w.rx,
    localQ := w.localQ.filter (fun d => d.blk != b) })
  (s.sw.pkts.map (fun e => e.1)).foldl State.gc s

/-- The ports of a line block go DOWN (Table 1.4). -/
def State.lanesDown (s : State) (b : Nat) : State :=
  (s.enabledPorts.filter (fun n => n / 8 == b)).foldl (fun s n =>
    let s := if s.opt.cal = some n then s.calOver else s
    (s.goDown n (some 8)).setPst n (fun x => { x with powered := false })) s

/-- What a line block's reduction memory holds is lost (R323). -/
def State.chunksLost (s : State) (b : Nat) : State :=
  s.onRed (fun w => { w with chunks := w.chunks.filter (fun e => (keyParts e.1).1 != b) })

/-! Compute blocks (R36, R286, R420). -/

/-- The tiles that lie in a compute block: those queued on it and those running on its engines. -/
def State.tilesIn (s : State) (c : Nat) : List Tile :=
  s.tq c ++ s.tq (64 + c) ++ s.tq (128 + c) ++ ((s.eng.run.filter (fun r => engInBlock r.1 c)).map (fun r => r.2.tile))

/-- A tile restarts, with every part of it when it is split, in its home region's queues (R286). -/
def State.restartTile (s : State) (t : Tile) : State :=
  match kget s.eng.jobs t.job with
  | none => s
  | some b =>
    let mine := fun (x : Tile) => x.job == t.job && x.num == t.num
    let s := s.onEng (fun w => { w with
      q := (w.q.map (fun (e : Nat × List Tile) => (e.1, e.2.filter (fun x => !mine x)))).filter (fun e => !e.2.isEmpty),
      run := w.run.filter (fun r => !mine r.2.tile) })
    let parts := (tilesOf b.words).filter (fun x => x.1 == t.num)
    let ts := parts.map (fun x => Tile.mk t.job x.1 x.2 t.home)
    let left := b.left.filter (fun x => x.1 != t.num) ++ parts
    s.onEng (fun w => { w with jobs := kput w.jobs t.job { b with
      left := left, accs := b.accs.filter (fun x => x.1 != t.num), wait := b.wait.filter (fun x => !mine x) ++ ts } })

/-- A tile of an instance that no longer runs is lost with its engine. -/
def State.loseTile (s : State) (t : Tile) : State :=
  ((s.onEng (fun w => { w with run := w.run.filter (fun r => r.2.tile != t) })).tileLeft t.job t).jobDone? t.job

/-- Restart a list of tiles, and queue them again; those of an instance that has faulted or been aborted do not come back (R285). -/
def State.restartTiles (s : State) (ts : List Tile) : State :=
  (ts.foldl (fun s t => match kget s.eng.jobs t.job with
    | some b => if s.running b.inst then s.restartTile t else s.loseTile t
    | none => s.loseTile t) s).pump

/-- Grants and requests of a block are 0 (R420). -/
def State.noGrant (s : State) (c : Nat) : State := (s.wr .pwrCbGrant_grant c 0).wr .pwrCbGrant_request c 0

/-! Regions (R36 to R41, R286, R315, R354, R420). -/

/-- An issued descriptor lies in, or has an operand in, what a test hits; `com` is a region whose Commons is hit as well. -/
def jobIn (hit : Nat → Nat → Bool) (com : Option Nat) (b : Job) : Bool :=
  hit b.addr 64 || b.ranges.any (fun r => hit r.1 r.2) || (dOp b.words == 0x70 && com == some (atomRegion b.words))

/-- The issued descriptors of an instance, oldest first. -/
def State.instJobs (s : State) (i : Nat) : List Job := (s.inst i).jobs.filterMap (fun j => kget s.eng.jobs j)

/-- An instance depends on what a test hits: its next descriptor, or an operand or descriptor of what it has issued. -/
def State.instIn (s : State) (i : Nat) (hit : Nat → Nat → Bool) (com : Option Nat) : Bool :=
  hit (s.inst i).next 64 || (s.instJobs i).any (jobIn hit com)

/-- The descriptor that meets a fault: the oldest issued one that a test picks; else the oldest issued, or the next. -/
def State.instDesc (s : State) (i : Nat) (pick : Job → Bool) : Nat :=
  match (s.instJobs i).find? pick, (s.instJobs i).head? with
  | some b, _ => b.addr
  | none, some b => b.addr
  | none, none => (s.inst i).next

/-- The oldest descriptor with a running tile and an operand that holds an address. -/
def State.reads (s : State) (a : Nat) (b : Job) : Bool :=
  b.ranges.any (fun r => decide (r.1 ≤ a) && decide (a < r.1 + r.2)) &&
    s.eng.run.any (fun r => kget s.eng.jobs r.2.tile.job == some b)

/-- Every running instance that a test picks faults with a code, at the descriptor that `at_` picks. -/
def State.faultInsts (s : State) (code : Nat) (pick : Nat → Bool) (at_ : Job → Bool) : State :=
  (((s.eng.inst.filter (fun e => e.2.state == 1)).map (fun e => e.1)).filter pick).foldl (fun s i =>
    s.instFault i code (s.instDesc i at_)) s

/-! BAR2 accesses (R262, R264, R442). -/

/-- A mapped range lies in a region or on a stack that is out of service: a read of it returns all-ones data, and a write is discarded
(R39, R26; log entry 53). -/
def State.bar2Dead (s : State) (a n : Nat) : Bool :=
  (rangeRegions a n).any s.regionDead || (match stackOf? a with | some j => s.stackDead j | none => false)

/-- Regions of a range that are in C3 or C4. -/
def State.sleeping (s : State) (a n : Nat) : List Nat := (rangeRegions a n).filter (fun k => s.rd .pwrRegionStatus_state k != 0)

/-- A BAR2 access is made: the bytes of a write, or none for a read. -/
def State.bar2Do (s : State) (fn a n : Nat) (data : Option (List Byte)) : State :=
  let s := s.hbmAccess a
  match data with
  | some bs => s.memPut a bs
  | none => s.emit (.readData fn (s.memGet a n) false)

/-- The waiting accesses proceed, those of each function in order, as far as their regions are awake. -/
def State.bar2Pump (s : State) : State :=
  let r := s.pwr.bar2.foldl (fun (acc : State × List Bar2) x =>
    if acc.2.any (fun y => y.fn == x.fn) || !(acc.1.sleeping x.addr x.len).isEmpty then (acc.1, acc.2 ++ [x])
    else (acc.1.bar2Do x.fn x.addr x.len x.data, acc.2)) (s, [])
  { r.1 with pwr := { r.1.pwr with bar2 := r.2 } }

/-- What waited for BAR2 writes goes on: table commands and a START (R267, R290). -/
def State.bar2Gone (s : State) : State := s.bar2Pump.tblPump.startWaiting

/-! What a failed region takes with it. -/

/-- The range touches the Scratch of region k. -/
def inScratch (k a n : Nat) : Bool := (rangeRegions a n).contains k

/-- A BAR2 access waiting for region k's wake completes: a read with all-ones data, a write discarded (Table 16.3). -/
def State.bar2Fails (s : State) (k : Nat) : State :=
  let mine := s.pwr.bar2.filter (fun x => inScratch k x.addr x.len)
  let s := { s with pwr := { s.pwr with bar2 := s.pwr.bar2.filter (fun x => !inScratch k x.addr x.len), waking := s.pwr.waking.filter (· != k) } }
  (mine.foldl (fun s x => match x.data with
    | none => s.emit (.readData x.fn (List.replicate x.len 0xFF) false)
    | some _ => s) s).bar2Gone

/-- The promenade chunks of a region's share are lost: which of a stack's chunks these are is left open, so a free value says it
for each (log entry 45). -/
def State.promShareLost (s : State) (k : Nat) : State :=
  s.prom.objs.foldl (fun s o => o.2.chunks.foldl (fun s c =>
    if s.promStack c.1 = k / 2 then
      let (v, s) := s.free 26 2
      if v = 0 then s else match s.obj? o.1 with
        | some x => s.setObj o.1 { x with chunks := kdel x.chunks c.1 }
        | none => s
    else s) s) s

/-- The Commons of a region is lost, with the requests it holds. -/
def State.commonsLost (s : State) (k : Nat) : State :=
  let s := s.cmnWipe (2 ^ k)
  s.onCmn (fun w => { w with batch := w.batch.filter (fun b => lineRegion b.1 != k), ops := w.ops.filter (fun o => cmnRegion o.2.req.cmnOff != k) })

/-- A region fails. `cause`: 0 chiplet, 1 service block, 2 network port. -/
def State.failRegion (s : State) (k cause : Nat) : State :=
  if s.off then s
  else
    let s := match cause with
      | 0 => s.wr .cfgRegionStatus_chipletFail k 1
      | 1 => s.wr .cfgRegionStatus_svFail k 1
      | _ => s.wr .cfgRegionStatus_netFail k 1
    if s.regionDead k then s
    else
      let s := (s.wr .cfgRegionStatus_regionFailed k 1).wr .cfgFaultSummary_regionFailed 0 (setBit (s.rd .cfgFaultSummary_regionFailed 0) k)
      let s := (s.fault 0x0002 2 [k, cause]).regionEvent k
      -- switching
      let s := ((List.range 8).map (fun j => 8 * k + j)).foldl (fun s b => ((s.lanesDown b).coreBlockLost b).chunksLost b) s
      let s := s.coreBlockLost (64 + k)
      -- register writes in flight (R39)
      let s := { s with acc := { s.acc with inflight := s.acc.inflight.filter (fun w => w.reg.region? w.idx != some k) } }
      -- gateway, Commons, promenade
      let s := s.onGw (fun g => { g with reqs := g.reqs.filter (fun r => r.k != k), bufs := g.bufs.filter (fun b => b.k != k) })
      let s := (s.commonsLost k).promShareLost k
      -- compute
      let s := s.faultInsts 8 (fun i => (s.inst i).region == k || s.instIn i (inScratch k) (some k)) (jobIn (inScratch k) (some k))
      let s := s.restartTiles (((s.eng.run.filter (fun r => engInRegion r.1 k)).map (fun r => r.2.tile)) ++
        ((s.eng.q.filter (fun e => queueRegion e.1 == k)).flatMap (fun e => e.2.filter (fun t => t.home != k))))
      let s := ((List.range 8).map (fun j => 8 * k + j)).foldl State.noGrant s
      let s := s.bar2Fails k
      -- services and tables
      let s := (List.range 64).foldl (fun s sv =>
        if seLive (s.svcEntry sv) ∧ seRegion (s.svcEntry sv) = k ∧ seKind (s.svcEntry sv) ≠ 1 then (s.wr .svcStatus_ready sv 0).wr .svcStatus_building sv 0
        else s) s
      s.onTab (fun w => { w with bad := w.bad.filter (fun b => b.2.2 != k) })

/-- REGION_FAILED. -/
def execRegionFailed (k : Fin 8) (cause : Fin 3) (s : State) : Host.Outcome State Fault Refusal := settle s (s.failRegion k cause)

/-- A block fails (R37). In a failed region only the block's bit is set (R41). -/
def State.failBlock (s : State) (kind : BlockKind) (num cause : Nat) : State :=
  if s.off then s
  else match kind with
    | .service => s.failRegion (num % 8) 1
    | .line =>
      let k := num / 8
      let was := s.blockDead num
      let s := s.wr .cfgRegionStatus_lbFail k (setBit (s.rd .cfgRegionStatus_lbFail k) (num % 8))
      if was then s
      else (((((s.fault 0x0001 2 [0, num, cause]).regionEvent k).lanesDown num).coreBlockLost num).chunksLost num)
    | .compute =>
      let k := num / 8
      let was := s.computeDead num
      let s := s.wr .cfgRegionStatus_cbFail k (setBit (s.rd .cfgRegionStatus_cbFail k) (num % 8))
      if was then s
      else
        let s := (s.fault 0x0001 2 [1, num, cause]).regionEvent k
        let ts := s.tilesIn num
        (s.noGrant num).restartTiles ts

/-- BLOCK_FAILED. A service block is numbered 0 to 7. -/
def execBlockFailed (kind : BlockKind) (num : Fin 64) (cause : Fin 3) (s : State) : Host.Outcome State Fault Refusal :=
  settle s (s.failBlock kind num cause)

/-- BLOCK_WATCHDOG_EXPIRY. -/
def execBlockWatchdogExpiry (kind : BlockKind) (num : Fin 64) (s : State) : Host.Outcome State Fault Refusal :=
  settle s (s.failBlock kind num 2)

/-! HBM stacks (R26, R138, R286, R341). -/

/-- A packet that holds spilled segments is lost and counted. -/
def State.spillLost (s : State) (pid : Nat) : State :=
  match s.pkt? pid with
  | some p => (s.dropQueued pid p.member).bumpCore (regionOfBlock p.blk) p.cls .spillDrop
  | none => s

/-- The chunks of promenade objects on stack j are lost. -/
def State.promStackLost (s : State) (j : Nat) : State :=
  s.onProm (fun w => { w with objs := w.objs.map (fun (o : Nat × Obj) =>
    (o.1, { o.2 with chunks := o.2.chunks.filter (fun c => s.promStack c.1 != j) })) })

/-- The range lies on stack j. -/
def onStack (j a n : Nat) : Bool := n != 0 && stackOf? a == some j

/-- An HBM stack fails. -/
def State.failStack (s : State) (j : Nat) : State :=
  if s.off ∨ s.stackDead j then s
  else
    let s := s.wr .cfgFaultSummary_hbmFailed 0 (setBit (s.rd .cfgFaultSummary_hbmFailed 0) j)
    let s := (s.fault 0x0004 2 [j]).degrade
    let lost := (s.sw.pkts.filter (fun e => decide (0 < e.2.hseg) && regionOfBlock e.2.blk / 2 == j)).map (fun e => e.1)
    let s := lost.foldl State.spillLost s
    let s := s.onSw (fun w => { w with spill := w.spill.filter (fun q => regionOfBlock (q / 128 / 8) / 2 != j) })
    let s := s.faultInsts 9 (fun i => s.instIn i (onStack j) none) (jobIn (onStack j) none)
    let s := s.promStackLost j
    s.onSvc (fun w => { w with load := w.load.map (fun l =>
      if onStack j l.dst 1 || (l.prom.isNone && onStack j l.src 1) then { l with result := 2 } else l) })

/-- HBM_STACK_FAILED. -/
def execHbmStackFailed (j : Fin 4) (s : State) : Host.Outcome State Fault Refusal := settle s (s.failStack j)

/-! Uncorrectable codewords (Table 1.4, Table 17.2). -/

/-- Count UE, and RETIRED where a line is retired, and write the record: memory, region or stack, address, action. -/
def State.ueRecord (s : State) (m k addr action : Nat) (retired : Bool) : State :=
  let s := (s.bumpMem k m .ue).when retired (fun s => s.bumpMem k m .retired)
  s.fault 0x0010 1 [m, k, addr % 2 ^ 32, addr / 2 ^ 32, action]

/-- A codeword's bytes are lost: what it then reads as is free. -/
def State.scramble (s : State) (a : Nat) : Nat → State
  | 0 => s
  | n + 1 => let (v, s) := s.free 24 256; (s.memPut a [BitVec.ofNat 8 v]).scramble (a + 1) n

/-- The action code that no rule states is free (log entry 46). -/
def State.ueFree (s : State) (m k addr : Nat) : State := let (v, s) := s.free 25 7; s.ueRecord m k addr v false

/-- An uncorrectable codeword is read at a site. -/
def State.ueAt (s : State) : UeSite → State
  | .packetSram k pid addr => (s.ueRecord 0 k addr 0 true).spoil pid
  | .scratch a inst =>
    let k := a.toNat / 0x8000000 % 8
    match inst with
    | some i => ((s.ueRecord 2 k a.toNat 1 true).scramble (a.toNat / 32 * 32) 32).instFault i.toNat 4 (s.instDesc i.toNat (s.reads a.toNat))
    | none => (s.ueRecord 2 k a.toNat 5 true).scramble (a.toNat / 32 * 32) 32
  | .reduction lb g c addr =>
    match s.chunk? (chunkKey lb g.toNat c.toNat) with
    | some x =>
      if x.st = .open_ then
        let n := dataUnits x.entry
        let s := s.onRed (fun w => { w with retired := sset 0 w.retired lb (sget 0 w.retired lb + n) })
        (s.ueRecord 1 (lb / 8) addr 2 true).redAborted lb g.toNat c.toNat x 3
      else s.ueRecord 1 (lb / 8) addr 5 true
    | none => s.ueRecord 1 (lb / 8) addr 5 true
  | .table t i k =>
    let s := s.bumpMem k 4 .ue
    if s.tab.bad.contains (t.val, i.toNat, k.val) then s else s.onTab (fun w => { w with bad := w.bad ++ [(t.val, i.toNat, k.val)] })
  | .commons line => (s.poisonLine line.toNat).ueRecord 3 (lineRegion line.toNat) (64 * line.toNat) 4 false
  | .hbmSpill j pid addr => (s.ueRecord 5 j addr 0 false).spillLost pid
  | .hbmProm j obj chunk addr =>
    let s := s.ueRecord 5 j addr 0 false
    match s.obj? obj.toNat with
    | some o => s.setObj obj.toNat { o with chunks := kdel o.chunks chunk.toNat }
    | none => s
  | .hbmEngine a i => (s.ueRecord 5 ((stackOf? a.toNat).getD 0) a.toNat 1 false).instFault i.toNat 4 (s.instDesc i.toNat (s.reads a.toNat))
  | .hbmLoad a =>
    (s.ueFree 5 ((stackOf? a.toNat).getD 0) a.toNat).onSvc (fun w => { w with load := w.load.map (fun l => { l with result := 2 }) })
  | .unused m k addr => if m.val = 5 then s.ueFree 5 k addr else s.ueRecord m k addr 5 true

/-- UNCORRECTABLE_CODEWORD. -/
def execUncorrectableCodeword (site : UeSite) (s : State) : Host.Outcome State Fault Refusal :=
  settle s (if s.off then s else s.ueAt site)

/-- The time of one full pass of a memory's scrub: SRAM_S seconds, or HBM_H hours for a stack; 0 is used as 1 (R433). -/
def State.passNs (s : State) (mem : Nat) : Nat :=
  if mem = 5 then 3600000000000 * max 1 (s.rd .telScrubCfg_hbmH 0) else 1000000000 * max 1 (s.rd .telScrubCfg_sramS 0)

/-- SCRUB_READ (R433). The table has no row for a correction on an ordinary read, so it is a finding of this one, which does not
ask for the scrub to be enabled (R36; log entry 51). -/
def doScrubRead (mem : Fin 6) (k : Fin 8) (found : ScrubFinding) (s : State) : State :=
  if s.off || (!s.flag .telScrubCfg_en 0 && found != .readCorrected) || (decide (mem.val < 5) && s.regionDead k) || (mem.val == 5 && decide (4 ≤ k.val)) then s
  else match found with
    | .clean => s
    | .corrected => s.bumpMem k mem .ce
    | .readCorrected => s.bumpMem k mem .ce
    | .uncorrectable site => s.ueAt site
    | .endOfPass =>
      if s.passed (sget 0 s.tel.passAt (Nat.pair mem k)) (s.passNs mem) then
        { s.bumpMem k mem .scrubPass with tel := { (s.bumpMem k mem .scrubPass).tel with
          passAt := sset 0 s.tel.passAt (Nat.pair mem k) s.tb.mono } }
      else s

def execScrubRead (mem : Fin 6) (k : Fin 8) (found : ScrubFinding) (s : State) : Host.Outcome State Fault Refusal :=
  settle s (doScrubRead mem k found s)

end Sys2Proof.Machine
end

