-- ==== Sys2Proof/Machine/Power.lean ====
section
/-! DEFINITION. Power and thermal control: the arbiter, idle states and wakes, self-refresh and the thermal limit (chapter 16;
R302). -/

namespace Sys2Proof.Machine

/-- Change the power state. -/
def State.onPwr (s : State) (g : Pwr → Pwr) : State := { s with pwr := g s.pwr }

/-! The arbiter (R404 to R411). -/

/-- RAMP_UP and RAMP_DN as used. -/
def State.rampUp (s : State) : Nat := max 1 (s.rd .pwrCfg_rampUp 0)
def State.rampDn (s : State) : Nat := max 1 (s.rd .pwrCfg_rampDn 0)

/-- The most the switching floor may be: the enabled lanes at full rate plus the switch core, in W rounded down (R405, Table
16.1; log entry 47). -/
def State.floorCap (s : State) : Nat :=
  560 * ((s.enabledPorts.map (fun n => 2 ^ s.rd .corePortCfg_width n)).sum) / 512 + 380

/-- The request of block c as the arbiter takes it (R407). -/
def State.blockReq (s : State) (req : List (BitVec 8)) (c : Nat) : Nat :=
  if s.computeDead c ∨ s.rd .pwrRegionStatus_state (c / 8) ≠ 0 then 0 else min 42 (nthD req c 0).toNat

/-- The largest level up to a bound that fits a budget (R407). -/
def levelFit (reqs : List Nat) (budget : Nat) : Nat → Nat
  | 0 => 0
  | l + 1 => if (reqs.map (fun r => min r (l + 1))).sum ≤ budget then l + 1 else levelFit reqs budget l

/-- The spare units go one each to the blocks from a place onwards that were granted less than they asked (R407). -/
def spread (reqs : List Nat) : List Nat → Nat → List Nat → List Nat
  | [], _, g => g
  | b :: bs, spare, g =>
    if 0 < spare ∧ nthD g b 0 < nthD reqs b 0 then spread reqs bs (spare - 1) (g.set b (nthD g b 0 + 1)) else spread reqs bs spare g

/-- The grants of R407, before the ramp. -/
def divide (reqs : List Nat) (budget ptr : Nat) : List Nat :=
  let l := levelFit reqs budget 42
  let g := reqs.map (fun r => min r l)
  spread reqs ((List.range 64).map (fun j => (ptr + j) % 64)) (budget - g.sum) g

/-- A grant's move toward its target in one interval (R408). -/
def State.ramp (s : State) (old target : Nat) : Nat := max (old - s.rampDn) (min (old + s.rampUp) target)

/-- ARBITER_INTERVAL (R404): the measured switching draw, the HBM draw expected, the package draw, and the requests. -/
def doArbiter (switchW : BitVec 12) (hbmW : BitVec 8) (pkgW : BitVec 12) (req : List (BitVec 8)) (s : State) : State :=
  if s.off then s
  else
    let limit := min s.pkgLimit s.thermLimit
    let s := s.when (s.pwr.floor != 0 && decide (s.pwr.floor < switchW.toNat)) (fun s => s.bumpChip .swOver)
    let floor := min (switchW.toNat + s.rd .pwrCfg_swHeadroom 0) s.floorCap
    let hbm := min 120 (max (s.rd .pwrCfg_hbmMin 0) hbmW.toNat)
    let units := 2 * (limit - floor - 40 - hbm)
    let reqs := (List.range 64).map (fun c => s.blockReq req c)
    let target := if units = 0 then List.replicate 64 0 else divide reqs units s.pwr.ptr
    let s := (List.range 64).foldl (fun s c =>
      let g := if s.computeDead c then 0 else s.ramp (s.rd .pwrCbGrant_grant c) (nthD target c 0)
      (s.wr .pwrCbGrant_grant c g).wr .pwrCbGrant_request c (nthD reqs c 0)) s
    let sum := ((List.range 64).map (fun c => s.rd .pwrCbGrant_grant c)).sum
    let s := ((s.wr .pwrStatus_floorW 0 floor).wr .pwrStatus_hbmW 0 hbm).wr .pwrStatus_computeW 0 (sum / 2)
    let s := s.onPwr (fun p => { p with ptr := (p.ptr + 1) % 64, floor := floor, nW := p.nW + 1, sumW := p.sumW + pkgW.toNat })
    if units = 0 then (s.when (!s.flag .pwrStatus_limitLow 0) (fun s => s.event .pwrStatus .pwrStatus_limitEvent 0)).wr .pwrStatus_limitLow 0 1
    else s.wr .pwrStatus_limitLow 0 0

/-- ARBITER_INTERVAL. -/
def execArbiterInterval (switchW : BitVec 12) (hbmW : BitVec 8) (pkgW : BitVec 12) (req : List (BitVec 8)) (s : State) :
    Host.Outcome State Fault Refusal := settle s (doArbiter switchW hbmW pkgW req s)

/-! Thermal control (R418). -/

/-- THROTTLE as used, in °C. -/
def State.throttleT (s : State) : Nat := min 100 (s.rd .pwrThermCfg_throttle 0)
/-- What sensor j reads: a failed one reads THROTTLE + 10. -/
def State.sensorRead (s : State) (rs : List (BitVec 8)) (j : Nat) : Nat :=
  if s.pwr.sensors.contains j then s.throttleT + 10 else (nthD rs j 0).toNat

/-- THERMAL_TICK: sensors 0 to 7 are those of the regions, 8 the chip's centre. -/
def doThermalTick (readings : List (BitVec 8)) (s : State) : State :=
  if s.off then s
  else
    let t := ((List.range 9).map (s.sensorRead readings)).foldl max 0
    let step := max 1 (s.rd .pwrThermCfg_step 0)
    let l := s.thermLimit
    let new := if s.throttleT < t then l - step else if t + 2 ≤ s.throttleT then min s.pkgLimit (l + step) else l
    let s := s.onPwr (fun p => { p with limit := if s.pkgLimit ≤ new then none else some new })
    let s := (List.range 8).foldl (fun s k => s.wr .pwrRegionStatus_temp k (s.sensorRead readings k)) (s.wr .pwrStatus_tHot 0 t)
    let s := s.when (s.pwr.nW != 0) (fun s =>
      (s.wr .pwrStatus_pkgW 0 (s.pwr.sumW / s.pwr.nW)).onPwr (fun p => { p with nW := 0, sumW := 0 }))
    let s := s.showThrottle
    s.when (s.flag .pwrStatus_throttling 0) (fun s => s.bumpChip .throttleMs)

/-- THERMAL_TICK. -/
def execThermalTick (readings : List (BitVec 8)) (s : State) : Host.Outcome State Fault Refusal := settle s (doThermalTick readings s)

/-- SENSOR_FAIL. -/
def execSensorFail (sensor : Fin 9) (s : State) : Host.Outcome State Fault Refusal :=
  settle s (if s.off ∨ s.pwr.sensors.contains sensor.val then s
    else (s.onPwr (fun p => { p with sensors := p.sensors ++ [sensor.val] })).wr .pwrStatus_sensorFail 0 1)

/-! Idle states (R302, R412, R413, R420). -/

/-- MAX_STATE as used. -/
def State.maxState (s : State) : Nat := min 4 (s.rd .pwrCfg_maxState 0)

/-- The valid entries that hold region k awake: KIND USER, SAMPLE or GATE with that REGION (R302). -/
def State.holders (s : State) (k : Nat) : List Nat :=
  ((List.range 64).map s.svcEntry).filter (fun e => seLive e && seKind e != 1 && seRegion e == k)

/-- A wake time in µs is at most a quarter of every LAT_TOL of the region (R302); 0xFFFF is no limit. -/
def State.wakeFits (s : State) (k us : Nat) : Bool :=
  (s.holders k).all (fun e => seLatTol e == 0xFFFF || decide (4 * us ≤ seLatTol e))

/-- C2_US, C3_MS and C4_S in ns (PWR_IDLE_CFG). -/
def State.c2Ns (s : State) : Nat := 1000 * s.rd .pwrIdleCfg_c2Us 0
def State.c3Ns (s : State) : Nat := 1000000 * max 1 (s.rd .pwrIdleCfg_c3Ms 0)
def State.c4Ns (s : State) : Nat := 1000000000 * max 1 (s.rd .pwrIdleCfg_c4S 0)

/-- IDLE_C2_TIMER: C2_US have passed in C1. -/
def doIdleC2 (c : Nat) (s : State) : State :=
  let k := c / 8
  if !s.off && !s.computeDead c && s.rd .pwrRegionStatus_state k == 0 && bitAt (s.rd .pwrRegionStatus_c1 k) (c % 8) &&
      (s.tilesIn c).isEmpty && decide (2 ≤ s.maxState) && s.wakeFits k 2 && s.passed (sget 0 s.pwr.c1At c) s.c2Ns then
    ((s.onPwr (fun p => { p with c2At := sset 0 p.c2At c s.tb.mono })).wr .pwrRegionStatus_c1 k (clearMask (s.rd .pwrRegionStatus_c1 k) (2 ^ (c % 8)))).wr .pwrRegionStatus_c2 k
      (setBit (s.rd .pwrRegionStatus_c2 k) (c % 8))
  else s

def execIdleC2Timer (c : Fin 64) (s : State) : Host.Outcome State Fault Refusal := settle s (doIdleC2 c s)

/-- No tile is queued on, or running in, region k. -/
def State.regionIdle (s : State) (k : Nat) : Bool :=
  !s.eng.q.any (fun e => queueRegion e.1 == k && decide (e.1 < 216)) && !s.eng.run.any (fun r => engInRegion r.1 k && decide (r.1 < 752))

/-- IDLE_C3_TIMER: every block has been in C2 for C3_MS. A block that is out of service is not waited for. -/
def doIdleC3 (k : Nat) (s : State) : State :=
  let blocks := (List.range 8).all (fun j => s.computeDead (8 * k + j) || (bitAt (s.rd .pwrRegionStatus_c2 k) j && s.passed (sget 0 s.pwr.c2At (8 * k + j)) s.c3Ns))
  let host := s.eng.inst.any (fun e => decide (s.hostFirst ≤ e.1) && e.2.state == 1 && e.2.region == k)
  if !s.off && !s.regionDead k && s.rd .pwrRegionStatus_state k == 0 && blocks && !host && s.regionIdle k && decide (3 ≤ s.maxState) &&
      s.wakeFits k 20 then (s.onPwr (fun p => { p with c3At := sset 0 p.c3At k s.tb.mono })).wr .pwrRegionStatus_state k 3
  else s

def execIdleC3Timer (k : Fin 8) (s : State) : Host.Outcome State Fault Refusal := settle s (doIdleC3 k s)

/-- IDLE_C4_TIMER: C4_S have passed in C3. A region that has begun to wake does not enter C4 (R420). -/
def doIdleC4 (k : Nat) (s : State) : State :=
  if !s.off && !s.regionDead k && s.rd .pwrRegionStatus_state k == 3 && !s.pwr.waking.contains k && decide (4 ≤ s.maxState) &&
      (s.holders k).isEmpty && s.passed (sget 0 s.pwr.c3At k) s.c4Ns then s.wr .pwrRegionStatus_state k 4
  else s

def execIdleC4Timer (k : Fin 8) (s : State) : Host.Outcome State Fault Refusal := settle s (doIdleC4 k s)

/-- HBM_SELF_REFRESH (R417): 10 µs have passed without an access to the stack, and it holds no spill space. -/
def doSelfRefresh (j : Nat) (s : State) : State :=
  if s.off || s.stackDead j || (s.flag .voqSpillCfg_en 0 && s.rd .voqSpillCfg_size 0 != 0) || s.sw.pkts.any (fun e => e.2.hseg != 0) ||
      s.pwr.refresh.contains j || !s.passed (sget 0 s.pwr.used j) 10000 then s
  else s.onPwr (fun p => { p with refresh := p.refresh ++ [j] })

def execHbmSelfRefresh (j : Fin 4) (s : State) : Host.Outcome State Fault Refusal := settle s (doSelfRefresh j s)

/-! Wakes (R409, R414 to R416). -/

/-- What a region's wake means for a service entry of the region that was BUILDING (R416). -/
def State.svcWakes (s : State) (from_ sv : Nat) : State :=
  let e := s.svcEntry sv
  if s.flag .svcStatus_building sv then
    if from_ = 4 then (s.wr .svcStatus_scratchLost sv 1).when (seKind e == 0) (fun s => s.wr .svcStatus_building sv 0)
    else s.when (seKind e == 0) (fun s => (s.wr .svcStatus_building sv 0).wr .svcStatus_ready sv 1)
  else s

/-- A region finishes waking. -/
def State.regionWakes (s : State) (k : Nat) : State :=
  let was := s.rd .pwrRegionStatus_state k
  let s := ((s.wr .pwrRegionStatus_state k 0).wr .pwrRegionStatus_c1 k 0).wr .pwrRegionStatus_c2 k 0
  let s := s.onPwr (fun p => { p with waking := p.waking.filter (· != k) })
  let s := s.when (was == 4) (fun s => s.onEng (fun w => { w with mem := w.mem.filter (fun e => scratchRegion? e.1 != some k) }))
  let blocks := (List.range 8).map (fun j => 8 * k + j)
  let s := blocks.foldl (fun s c => s.wr .pwrCbGrant_grant c 0) s
  let s := ((List.range 64).filter (fun sv => seLive (s.svcEntry sv) && seRegion (s.svcEntry sv) == k)).foldl (fun s sv => s.svcWakes was sv) s
  let s := s.idleAll blocks
  s.bar2Gone

/-- The block is in C1 or C2. -/
def State.blockDozes (s : State) (c : Nat) : Bool :=
  bitAt (s.rd .pwrRegionStatus_c1 (c / 8)) (c % 8) || bitAt (s.rd .pwrRegionStatus_c2 (c / 8)) (c % 8)

/-- WAKE_COMPLETE. A block wakes when a tile is queued on it. -/
def doWake (u : WakeUnit) (s : State) : State :=
  match u with
  | .block c =>
    let k := c.val / 8
    if !s.off && s.rd .pwrRegionStatus_state k == 0 && s.blockDozes c.val && !(s.tilesIn c.val).isEmpty then
      ((s.wr .pwrRegionStatus_c1 k (clearMask (s.rd .pwrRegionStatus_c1 k) (2 ^ (c.val % 8)))).wr .pwrRegionStatus_c2 k
        (clearMask (s.rd .pwrRegionStatus_c2 k) (2 ^ (c.val % 8)))).wr .pwrCbGrant_grant c 0
    else s
  | .region k =>
    if !s.off && s.pwr.waking.contains k.val && !s.regionDead k && s.rd .pwrRegionStatus_state k != 0 then s.regionWakes k else s

def execWakeComplete (u : WakeUnit) (s : State) : Host.Outcome State Fault Refusal := settle s (doWake u s)

end Sys2Proof.Machine
end

