-- ==== Sys2Proof/Machine/Telemetry.lean ====
section
/-! DEFINITION. Telemetry: counters of failed regions, snapshots, clearing, the fabric window and the flash log (R29, R421 to
R431, R438, R440). -/

namespace Sys2Proof.Machine

/-- Change the telemetry state. -/
def State.onTel (s : State) (g : Tel → Tel) : State := { s with tel := g s.tel }

/-- The region whose unit a counter belongs to, where it belongs to a unit inside a region (Table 17.1). -/
def counterRegion (g i : Nat) : Option Nat :=
  match g with
  | 0 => some (i / 1024)
  | 1 => some (i / 1024)
  | 2 => some (i / 4096)
  | 3 => some (i / 2048)
  | 4 => some (i / 128)
  | 6 => some (i / 512)
  | 7 => some (i / 256)
  | 8 => if i < 64 then some (i / 4) else if i < 576 then some ((i - 64) / 64) else some ((i - 576) / 16)
  | 10 => some (i / 128)
  | 11 => some (i / 8)
  | 13 => some (i / 8)
  | 15 => if i / 4 % 8 = 5 then none else some (i / 32)
  | _ => none

/-- A counter belongs to a unit in a failed region: it reads 0 (R431). -/
def State.counterDead (s : State) (g i : Nat) : Bool :=
  match counterRegion g i with
  | some k => s.regionDead k
  | none => false

/-- What a read of a live counter gives. -/
def State.liveAt (s : State) (g i : Nat) : Nat := if s.counterDead g i then 0 else s.count g i

/-- Every counter as one snapshot latches it (R29, R431). -/
def State.latched (s : State) : SMap := s.tel.cnt.filter (fun e => !s.counterDead (unpair e.1).1 (unpair e.1).2)

/-- A snapshot begins, unless one is running, which then serves for it (Table 17.5). -/
def State.snapBegin (s : State) : State :=
  if s.tel.latch.isSome then s else s.onTel (fun t => { t with latch := some (s.latched, s.now) })

/-- Who may take a snapshot or clear a group beyond what the lease test asks: no image record may set a CMD field (R390), and
only the lease owner may write CLEAR (R428). -/
def srcIsOwner : Src → Bool
  | .fn0 => true | .fn1 => true | .ring0 => true | .ring1 => true | .image => false | .ctl0 => false | .ctl1 => false

/-- TEL_CTRL.SNAP written 1 (R426). -/
def State.snapWrite (s : State) : State := (s.snapBegin).wr .telCtrl_snap 0 1

/-- TEL_SNAP (R426). -/
def execTelSnap (src : Src) (s : State) : Host.Outcome State Fault Refusal :=
  settle s (if src = .image then s else s.onWrite src .telCtrl 0 (fun s => s.snapWrite))

/-- AUTO_MS in ns. -/
def State.autoNs (s : State) : Nat := 1000000 * s.rd .telCfg_autoMs 0

/-- An automatic snapshot falls due AUTO_MS after the one before was due, or after the start of the schedule (R426). -/
def State.autoSnap (s : State) : State :=
  if s.off ∨ s.rd .telCfg_autoMs 0 = 0 ∨ !s.passed s.tel.autoAt s.autoNs then s
  else s.snapBegin.onTel (fun t => { t with autoAt := t.autoAt + s.autoNs })

/-- AUTO_SNAPSHOT (R426). -/
def execAutoSnapshot (s : State) : Host.Outcome State Fault Refusal := settle s s.autoSnap

/-- A snapshot completes: shadows, SEQ and TIME change together (R426). -/
def State.snapDone (s : State) : State :=
  match s.tel.latch with
  | none => s
  | some (m, t) =>
    let s := s.onTel (fun x => { x with shadow := m, latch := none })
    ((s.wr .telSnapStatus_seq 0 (s.rd .telSnapStatus_seq 0 + 1)).wr .telSnapStatus_time 0 t).wr .telCtrl_snap 0 0

/-- SNAPSHOT_COMPLETE. -/
def execSnapshotComplete (s : State) : Host.Outcome State Fault Refusal := settle s s.snapDone

/-- Every live counter of a group becomes 0, and the TEL_WRAP bits of its counters are cleared; the shadows stay (R428). -/
def State.clearGroup (s : State) (g : Nat) : State :=
  let s := s.onTel (fun t => { t with cnt := t.cnt.filter (fun e => (unpair e.1).1 != g) })
  let s := s.when (decide (g < 2)) (fun s =>
    { s with regs := s.regs.filter (fun e =>
        (unpair e.1).1 != Fld.telWrap_wrap.ctorIdx || (unpair e.1).2 / 256 != g) })
  s.when (g == 8) (fun s => (List.range 32).foldl (fun s i => s.wr .engSat_count i 0) s)

/-- TEL_CTRL.CLEAR written 1 with GROUP g (R428). -/
def State.clearWrite (s : State) (g : Nat) : State := (s.wr .telCtrl_group 0 g).clearGroup g

/-- TEL_CLEAR (R428). -/
def execTelClear (src : Src) (g : BitVec 5) (s : State) : Host.Outcome State Fault Refusal :=
  settle s (if srcIsOwner src then s.onWrite src .telCtrl 0 (fun s => s.clearWrite g.toNat) else s)

/-! The fabric window (R429). -/

/-- Bytes of a group's counters from offset `a` of the group: 8-byte big-endian values from one snapshot. -/
def State.windowBytes (s : State) (g a n : Nat) : List Byte :=
  let i0 := a / 8
  let slots := (List.range ((a % 8 + n + 7) / 8)).flatMap (fun j => beBytes 8 (s.shadowAt g (i0 + j)))
  slice slots (a % 8) n

/-- The answer to a window read at offset `off` of the window: none is NACK BAD_REQ, and the flag says STATUS ERROR. -/
def State.windowRead (s : State) (off n : Nat) : Option (Bool × List Byte) :=
  if 0x1000000 ≤ off then
    let header := beBytes 4 (s.rd .telSnapStatus_seq 0) ++ beBytes 4 (s.rd .telSnapStatus_time 0) ++
      beBytes 4 (s.rd .telExpose_groups 0) ++ List.replicate 52 0
    if off + n ≤ 0x1000040 then some (false, slice header (off - 0x1000000) n) else none
  else if off / 0x80000 ≠ (off + n - 1) / 0x80000 then none
  else if bitAt (s.rd .telExpose_groups 0) (off / 0x80000) then some (false, s.windowBytes (off / 0x80000) (off % 0x80000) n)
  else some (true, List.replicate n 0xFF)

/-- A READ_REQ of the telemetry window delivered to the part's own GID. -/
def isWindowRead (r : Deliv) : Bool :=
  r.fn == .own && r.pkt.kind == 0x02 && decide (0x100000000 ≤ r.pkt.w2.toNat)

/-- TELEMETRY_WINDOW_READ (R429). A read longer than one READ_RESP carries is NACK BAD_REQ (Table 2.9). -/
def doWindowRead (pos : Nat) (s : State) : State :=
  match s.takeLocal pos isWindowRead with
  | none => s
  | some (r, s) =>
    let n := 4 * r.pkt.w1k.toNat
    if n = 0 ∨ 4096 < n ∨ (r.pkt.tc = 7 ∧ 2012 < n) then s.nack r 5
    else
      match s.windowRead (r.pkt.w2.toNat - 0x100000000) n with
      | none => s.nack r 5
      | some (err, bs) => s.respond r 0x03 (if err then 0x200 else 0) r.pkt.w2 bs

/-- TELEMETRY_WINDOW_READ. -/
def execTelemetryWindowRead (pos : Nat) (s : State) : Host.Outcome State Fault Refusal := settle s (doWindowRead pos s)

/-- LOG_COMMIT (R438): the oldest pending record is programmed. A flash command in progress ends first (Table 17.5). -/
def execLogCommit (s : State) : Host.Outcome State Fault Refusal :=
  settle s (if s.off ∨ s.chip.flash.isSome then s else s.commitOne)

end Sys2Proof.Machine
end

