-- ==== Sys2Proof/Machine/Mgmt.lean ====
section
/-! DEFINITION. Management access: the owner lease, the PCI Express functions, rings and their entries, MSI-X holds, and the
window onto the engine address space (R379, R434, R441 to R452, R459, R475). -/

namespace Sys2Proof.Machine

/-- Change the host access state. -/
def State.onMgmt (s : State) (g : Mgmt → Mgmt) : State := { s with mgmt := g s.mgmt }
/-- Change register access in progress. -/
def State.onAcc (s : State) (g : Acc → Acc) : State := { s with acc := g s.acc }

/-- The sources that are a function's own. -/
def fnSrc (fn : Nat) : Src := if fn = 0 then .fn0 else .fn1
def ringSrc (fn : Nat) : Src := if fn = 0 then .ring0 else .ring1

/-! The lease (R443 to R446). -/

/-- TERM_MS within its limits. -/
def State.termMs (s : State) : Nat := min 10000 (max 10 (s.rd .cfgLeaseCfg_termMs 0))

/-- The term starts or restarts: REMAIN_MS is the whole term. -/
def State.startTerm (s : State) : State :=
  (s.onMgmt (fun m => { m with termAt := s.tb.mono })).wr .cfgLeaseStatus_remainMs 0 s.termMs

/-- A function stops being owner (R446, R459): its lower halves, held pages and completions go. -/
def State.leaseLost (s : State) (fn : Nat) : State :=
  let s := s.onAcc (fun a => { a with halves := a.halves.filter (fun h => (unpair h.1).1 != srcIdx (fnSrc fn)) })
  let s := (s.dropHeld 0).dropHeld (2 + fn)
  let s := s.onMgmt (fun m => { m with owed := m.owed.filter (fun q => q.1 != fn) })
  let s := s.onTab (fun w => { w with jobs := w.jobs.map (fun j => if j.by_ = 2 + fn then { j with seq := none } else j) })
  s.wr .cfgLeaseStatus_remainMs 0 0

/-- OWNER changes: LEASE_EVENT is set in both functions, with one host event (R444), and the punt bucket follows (R451). -/
def State.setOwner (s : State) (new : Option Nat) : State :=
  if s.owner? = new then s
  else
    let s := s.puntRefresh
    let s := match s.owner? with | some fn => s.leaseLost fn | none => s
    let s := s.wr .cfgLeaseStatus_owner 0 (match new with | some fn => fn + 1 | none => 0)
    let s := (s.wr .cfgLeaseCtrl_leaseEvent 0 1).wr .cfgLeaseCtrl_leaseEvent 1 1
    (s.hostEvent (Reg.cfgLeaseCtrl.offset 0) (Reg.cfgLeaseCtrl.bitOf .cfgLeaseCtrl_leaseEvent)).puntRefresh

/-- A lease that a function holds ends (R444). -/
def State.leaseEnds (s : State) (fn : Nat) : State := if s.owner? = some fn then s.setOwner none else s

/-- RESULT of CFG_LEASE_CTRL. -/
def State.leaseResult (s : State) (fn r : Nat) : State := s.wr .cfgLeaseCtrl_result fn r

/-- CFG_LEASE_CTRL.GO with an OP (R443, R475). -/
def State.leaseGo (s : State) (fn op : Nat) : State :=
  let s := s.when (op != 3) (fun s => s.wr .cfgLeaseCtrl_op fn op)
  match op with
  | 0 =>
    match s.owner? with
    | none =>
      let s := s.wr .cfgLeaseStatus_gen 0 (s.rd .cfgLeaseStatus_gen 0 + 1)
      ((s.setOwner (some fn)).startTerm).leaseResult fn 0
    | some o => if o = fn then s.startTerm.leaseResult fn 0 else s.leaseResult fn 1
  | 1 => if s.owner? = some fn then s.startTerm.leaseResult fn 0 else s.leaseResult fn 2
  | 2 => if s.owner? = some fn then (s.setOwner none).leaseResult fn 0 else s.leaseResult fn 2
  | _ => s.leaseResult fn 3

/-- A write of CFG_LEASE_CTRL with GO 1. -/
def State.leaseRow (s : State) (fn op : Nat) : State := s.onWrite (fnSrc fn) .cfgLeaseCtrl fn (fun s => s.leaseGo fn op)

/-- LEASE_ACQUIRE, LEASE_RENEW, LEASE_RELEASE (R443). -/
def execLeaseAcquire (fn : Fin 2) (s : State) : Host.Outcome State Fault Refusal := settle s (s.leaseRow fn 0)
def execLeaseRenew (fn : Fin 2) (s : State) : Host.Outcome State Fault Refusal := settle s (s.leaseRow fn 1)
def execLeaseRelease (fn : Fin 2) (s : State) : Host.Outcome State Fault Refusal := settle s (s.leaseRow fn 2)

/-- The term has run out without RENEW (R444). -/
def State.termEnds (s : State) : State :=
  if s.off || !s.passed s.mgmt.termAt (1000000 * s.rd .cfgLeaseStatus_remainMs 0) then s else s.setOwner none

/-- LEASE_TERM_EXPIRY (R444). -/
def execLeaseTermExpiry (s : State) : Host.Outcome State Fault Refusal := settle s s.termEnds

/-! The PCI Express functions (R379, R441, R444). -/

/-- What a reset of a function's port clears: the MSI-X table and pending bits, holds, D3hot and the stop of an earlier reset, and
its SPDM negotiation (log entry 8). -/
def State.fnReset (s : State) (fn : Nat) : State :=
  let s := s.onMgmt (fun m => { m with
    msix := m.msix.filter (fun e => (unpair e.1).1 != fn), pba := m.pba.filter (fun e => (unpair e.1).1 != fn),
    hold := m.hold.filter (fun e => (unpair e.1).1 != fn), d3 := m.d3.filter (· != fn), flr := m.flr.filter (· != fn) })
  { s with chip := { s.chip with agreed := s.chip.agreed.filter (· != fn) } }

/-- PERST_ASSERT (R379, R444). -/
def execPerstAssert (fn : Fin 2) (s : State) : Host.Outcome State Fault Refusal :=
  settle s (if s.off then s else (s.leaseEnds fn).fnReset fn)

/-- PCIE_LINK_DOWN (R444). -/
def execPcieLinkDown (fn : Fin 2) (s : State) : Host.Outcome State Fault Refusal := settle s (if s.off then s else s.leaseEnds fn)

/-- FUNCTION_LEVEL_RESET (R441, R444): the function's DMA and interrupts stop. -/
def execFunctionLevelReset (fn : Fin 2) (s : State) : Host.Outcome State Fault Refusal :=
  settle s (if s.off then s else ((s.leaseEnds fn).fnReset fn).onMgmt (fun m => { m with flr := m.flr ++ [fn.val] }))

/-- POWER_MANAGEMENT_STATE (R441; log entry 7). -/
def execPowerManagementState (fn : Fin 2) (d3hot : Bool) (s : State) : Host.Outcome State Fault Refusal :=
  settle s (if s.off then s
    else if d3hot then s.onMgmt (fun m => { m with d3 := m.d3.filter (· != fn.val) ++ [fn.val] })
    else s.onMgmt (fun m => { m with d3 := m.d3.filter (· != fn.val), flr := m.flr.filter (· != fn.val) }))

/-- The Revision ID of both functions at stepping A0 (R13). -/
def revisionId : BitVec 8 := 0x00

/-- The dwords of the PCI Express configuration header that Table 18.1 gives, the same for both functions: vendor and device ID,
class code and Revision ID (R13), the types of BAR0 and BAR2, subsystem vendor and subsystem ID. The offsets are PCI Express's own
(log entry 8); no row of the table reads the header. -/
def configHeader : Nat → BitVec 32
  | 0x00 => (0x5120 : BitVec 16) ++ Config.vendorId
  | 0x08 => (0x120000 : BitVec 24) ++ revisionId
  | 0x10 => 0x00000004
  | 0x18 => 0x0000000C
  | 0x2C => (0x5120 : BitVec 16) ++ Config.vendorId
  | _ => 0

/-- HOLD_US has passed since a vector's message (R452). -/
def doHoldExpiry (fn vec : Nat) (s : State) : State :=
  match kget s.mgmt.hold (Nat.pair fn vec) with
  | none => s
  | some (merged, t) =>
    if !s.passed t (1000 * s.rd .pcieFnCfg_holdUs fn) then s
    else
    let s := s.onMgmt (fun m => { m with hold := kdel m.hold (Nat.pair fn vec) })
    if merged && !s.fnStopped fn then s.msixSend fn vec else s

/-- MSIX_HOLD_EXPIRY. -/
def execMsixHoldExpiry (fn : Fin 2) (vec : Fin 5) (s : State) : Host.Outcome State Fault Refusal := settle s (doHoldExpiry fn vec s)

/-! Rings (R447, R450). -/

/-- EN goes from 0 to 1: the indices and the entry SEQ restart, and BASE and SIZE_LOG2 are captured. -/
def State.ringStarts (s : State) (fn r : Nat) : State :=
  let i := ringIdx fn r
  let ring : Ring := { base := s.rd .pcieRingBase_base i * 4096, log2 := min 20 (max 8 (s.rd .pcieRingCfg_sizeLog2 i)), seq := 0,
                       lost := (s.ring fn r).lost }
  let s := ((s.wr .pcieRingHostIdx_idx i 0).wr .pcieRingPartIdx_idx i 0).setRing fn r ring
  s.when (r == 1) (fun s => s.postOverflow fn)

/-- A write of PCIE_RING_CFG (R447). -/
def State.ringCfgWrite (s : State) (fn r val mask : Nat) : State :=
  let i := ringIdx fn r
  let on := s.flag .pcieRingCfg_en i
  let t := s.puntRefresh.writeFields .pcieRingCfg i val mask
  let t := t.when on (fun t => t.wr .pcieRingCfg_sizeLog2 i (s.rd .pcieRingCfg_sizeLog2 i))
  let t := t.when (!on && t.flag .pcieRingCfg_en i) (fun t => t.ringStarts fn r)
  t.puntRefresh

/-- RING_ENABLE. -/
def execRingEnable (fn : Fin 2) (r : Fin 3) (val : BitVec 32) (s : State) : Host.Outcome State Fault Refusal :=
  settle s (s.onWrite (fnSrc fn) .pcieRingCfg (ringIdx fn r) (fun s => s.ringCfgWrite fn r val.toNat (2 ^ 32 - 1)))

/-- A write of HOST_IDX: room may have returned in the event ring (R450). -/
def State.hostIdxWrite (s : State) (fn r val mask : Nat) : State :=
  (s.writeFields .pcieRingHostIdx (ringIdx fn r) val mask).when (r == 1) (fun s => s.postOverflow fn)

/-- RING_HOST_IDX_WRITE. -/
def execRingHostIdxWrite (fn : Fin 2) (r : Fin 3) (val : BitVec 32) (s : State) : Host.Outcome State Fault Refusal :=
  settle s (s.onWrite (fnSrc fn) .pcieRingHostIdx (ringIdx fn r) (fun s => s.hostIdxWrite fn r val.toNat (2 ^ 32 - 1)))

/-! Command ring entries (R446, R449). -/

/-- The part may take the next entry of a function's command ring: the function owns the lease, the ring is in use, and a whole
entry of two cells is posted. -/
def State.cmdFetch (s : State) (fn : Nat) : Bool :=
  !s.off && s.fw && s.owner? == some fn && s.flag .pcieRingCfg_en (ringIdx fn 0) && !s.fnStopped fn &&
    decide (2 ≤ span32 (s.rd .pcieRingPartIdx_idx (ringIdx fn 0)) (s.rd .pcieRingHostIdx_idx (ringIdx fn 0)))

/-- An entry is consumed: PART_IDX advances, with the ring's message. -/
def State.cmdTaken (s : State) (fn : Nat) : State :=
  (s.wr .pcieRingPartIdx_idx (ringIdx fn 0) (s.rd .pcieRingPartIdx_idx (ringIdx fn 0) + 2)).msixCause fn (ringVec 0)

/-- CMD_TABLE. It begins only after the ring's previous TABLE has completed. -/
def doCmdTable (fn : Nat) (complete : Bool) (seq cmd data : Nat) (s : State) : State :=
  if s.cmdFetch fn && !s.ringBusy fn then
    (s.cmdTaken fn).tblStart (2 + fn) (some fn) ⟨bits cmd 28 3, bits cmd 24 3, bits cmd 0 18, bitAt cmd 23, data⟩
      (if complete then some seq else none)
  else s

/-- CMD_TABLE. -/
def execCmdTable (fn : Fin 2) (complete : Bool) (seq : BitVec 32) (cmd : BitVec 32) (data : BitVec 512) (s : State) :
    Host.Outcome State Fault Refusal := settle s (doCmdTable fn complete seq.toNat cmd.toNat data.toNat s)

/-- CMD_SYNC: it completes when every earlier entry has taken effect. -/
def doCmdSync (fn : Nat) (complete : Bool) (seq : Nat) (s : State) : State :=
  if s.cmdFetch fn then
    let s := s.cmdTaken fn
    if !complete then s
    else if s.ringBusy fn then s.onMgmt (fun m => { m with owed := m.owed ++ [(fn, seq)] })
    else s.complete fn seq 0
  else s

/-- CMD_SYNC. -/
def execCmdSync (fn : Fin 2) (complete : Bool) (seq : BitVec 32) (s : State) : Host.Outcome State Fault Refusal :=
  settle s (doCmdSync fn complete seq.toNat s)

/-- CMD_UNKNOWN: an entry of a TYPE that Table 18.4 does not name has no effect and completes with RESULT 0xFF. -/
def doCmdUnknown (fn : Nat) (complete : Bool) (seq ty : Nat) (s : State) : State :=
  if s.cmdFetch fn && !(decide (0x0101 ≤ ty) && decide (ty ≤ 0x0103)) then
    (s.cmdTaken fn).when complete (fun s => s.complete fn seq 0xFF)
  else s

/-- CMD_UNKNOWN. -/
def execCmdUnknown (fn : Fin 2) (complete : Bool) (seq : BitVec 32) (type : BitVec 16) (s : State) :
    Host.Outcome State Fault Refusal := settle s (doCmdUnknown fn complete seq.toNat type.toNat s)

/-! BAR2 (R434, R442, R445, R414). -/

/-- The engine address of a BAR2 offset. -/
def State.bar2Addr (s : State) (fn off : Nat) : Nat := s.rd .pcieFnCfg_win fn * 2 ^ 34 + off

/-- A BAR2 access of a mapped range is made, or waits for its regions to wake and for the function's accesses that wait. -/
def State.bar2Take (s : State) (fn a n : Nat) (data : Option (List Byte)) : State :=
  if (s.sleeping a n).isEmpty && !s.pwr.bar2.any (fun b => b.fn == fn) then s.bar2Do fn a n data
  else ((s.sleeping a n).foldl State.wakeRegion s).onPwr (fun p => { p with
    bar2 := p.bar2 ++ [⟨p.nextBar2, fn, a, n, data⟩], nextBar2 := p.nextBar2 + 1 })

/-- BAR2_WRITE. -/
def doBar2Write (fn off : Nat) (data : List Byte) (s : State) : State :=
  if s.off ∨ data = [] then s
  else if s.owner? ≠ some fn then s.wr .cfgLeaseCtrl_writeIgnored fn 1
  else if !s.mapped (s.bar2Addr fn off) data.length then s.wr .pcieFnStatus_bar2Bad fn 1
  else if s.bar2Dead (s.bar2Addr fn off) data.length then s
  else s.bar2Take fn (s.bar2Addr fn off) data.length (some data)

/-- BAR2_WRITE. -/
def execBar2Write (fn : Fin 2) (off : BitVec 34) (data : List Byte) (s : State) : Host.Outcome State Fault Refusal :=
  settle s (doBar2Write fn off.toNat data s)

/-- An uncorrectable codeword met by a BAR2 read: poisoned all-ones data, reported by AER (R434, Table 17.2). -/
def State.bar2Ue (s : State) (fn a n : Nat) : State :=
  let s := match stackOf? a with
    | some j => s.ueFree 5 j a
    | none => s.ueFree 2 ((scratchRegion? a).getD 0) a
  (s.emit (.readData fn (List.replicate n 0xFF) true)).msixCause fn 4

/-- BAR2_READ. -/
def doBar2Read (fn off n : Nat) (ue : Bool) (s : State) : State :=
  let a := s.bar2Addr fn off
  if s.off ∨ n = 0 then s
  else if !s.mapped a n then (s.wr .pcieFnStatus_bar2Bad fn 1).emit (.readData fn (List.replicate n 0xFF) false)
  else if s.bar2Dead a n then s.emit (.readData fn (List.replicate n 0xFF) false)
  else if ue then s.bar2Ue fn a n
  else s.bar2Take fn a n none

/-- BAR2_READ. -/
def execBar2Read (fn : Fin 2) (off : BitVec 34) (len : BitVec 13) (ue : Bool) (s : State) : Host.Outcome State Fault Refusal :=
  settle s (doBar2Read fn off.toNat len.toNat ue s)

end Sys2Proof.Machine
end

