-- ==== Sys2Proof/Machine/Time.lean ====
section
/-! DEFINITION. Steps of the time base, and responses to the part's own requests (R62, R193 to R195, R222, R273, R351, R356). -/

namespace Sys2Proof.Machine

/-! TIME_STEP (R193 to R195). -/

/-- Keep the queue of commands, the sideband, JTAG, and of the time base the fraction and whether it counts: what a command that
may step TIME_NS leaves. -/
def State.settledT (s t : State) : State :=
  { t with pending := s.pending, i3c := s.i3c, jtag := s.jtag, tb := { t.tb with frac := s.tb.frac, counting := s.tb.counting } }
/-- The outcome of a command that may step TIME_NS. -/
def settleT (s t : State) : Host.Outcome State Fault Refusal := .next (s.settledT t)

/-- A TIME_NS value moved by D. -/
def movedBy (d : Int) (t : Nat) : Nat := ((t + d) % 2 ^ 32).toNat

/-- The requests of a group with their times moved. -/
def SvcGrp.moved (d : Int) (g : SvcGrp) : SvcGrp :=
  { g with reqs := g.reqs.map (fun q => { q with t0 := movedBy d q.t0 }), ready := g.ready.map (movedBy d) }

/-- The part adds D to every deadline that it has set itself from TIME_NS (R195). -/
def State.moveTimers (s : State) (d : Int) : State :=
  let m := movedBy d
  let s := s.when s.gateRuns (fun s => { s with gate := { s.gate with last := m s.gate.last, next := m s.gate.next } })
  { s with
    tab := { s.tab with window := m s.tab.window }
    gw := { s.gw with reqs := s.gw.reqs.map (fun r => { r with sentAt := r.sentAt.map m }),
                      bufs := s.gw.bufs.map (fun b => { b with opened := m b.opened }) }
    eng := { s.eng with inst := s.eng.inst.map (fun e => (e.1, { e.2 with t0 := m e.2.t0 })) }
    svc := { s.svc with grps := s.svc.grps.map (SvcGrp.moved d), refused := s.svc.refused.map (fun r => (r.1, r.2.1, r.2.2.1, m r.2.2.2)),
                        gates := s.svc.gates.map (fun g => { g with t0 := m g.t0 }) }
    red := { s.red with chunks := s.red.chunks.map (fun c => (c.1, { c.2 with t0 := m c.2.t0, tEnd := m c.2.tEnd })) }
    cmn := { s.cmn with batch := s.cmn.batch.map (fun b => (b.1, m b.2.1, b.2.2)) } }

/-- A positive step carries TIME_NS past an instant that lay ahead. -/
def stepPasses (old t : Nat) (d : Int) : Bool := decide (0 < span32 old t) && decide ((span32 old t : Int) ≤ d)

/-- A pending start that the step carries TIME_NS past begins its cycle in the cycle of the step, with START_LATE (R195). -/
def State.stepGate (s : State) (old : Nat) (d : Int) : State :=
  match s.gate.armed with
  | some a => if stepPasses old a.1 d then (s.startCycle s.now false).wr .gateCycleCtrl_startLate 0 1 else s
  | none => s

/-- A plan whose time the step carries TIME_NS past is activated in the cycle of the step, with PLAN_LATE (R222). -/
def State.stepPlan (s : State) (old : Nat) (d : Int) : State :=
  match s.opt.plan with
  | some a => if stepPasses old a d then s.activatePlan.wr .optPlanCtrl_planLate 0 1 else s
  | none => s

/-- TIME_NS steps by D (R193, R194). -/
def State.stepTime (s : State) (v : Nat) : State :=
  let d := signed 32 v
  if d = 0 then s
  else
    let old := s.now
    let s := { s with tb := { s.tb with ns := BitVec.ofNat 32 (movedBy d old), steps := s.tb.steps + 1, stepAt := some s.tb.mono } }
    let s := (s.moveTimers d).wr .timeStatus_stepped 0 1
    let s := s.when (decide ((2 ^ 32 : Int) ≤ old + d)) State.wrapped
    let s := s.when (decide ((old : Int) + d < 0)) (fun s =>
      ({ s with tel := { s.tel with epoch := s.tel.epoch - 1 } }).event .timeStatus .timeStatus_unwrap 0)
    (s.stepGate old d).stepPlan old d

/-- TIME_STEP. -/
def execTimeStep (src : Src) (d : BitVec 32) (s : State) : Host.Outcome State Fault Refusal :=
  settleT s (s.onWrite src .timeStep 0 (fun s => s.stepTime d.toNat))

/-! RESPONSE_RECEIVED (R62). -/

/-- The kinds of response that the part may receive at its own GID (Table 2.9). -/
def isResponse (r : Deliv) : Bool := r.fn == .own && [0x03, 0x06, 0x08, 0x09, 0x0C].contains r.pkt.kind.toNat

/-- NCODE of a NACK. -/
def ncodeOf (p : Packet) : Nat := bits p.w1k.toNat 6 5

/-- A NACK from a GID lowers its score, whatever its NCODE but SEQ (Table 14.1). -/
def State.nackFrom (s : State) (p : Packet) : State :=
  if ncodeOf p = 2 then s else s.lowerGid p.sgid.toNat (s.rd .fenWeight_wNack 0)

/-- A response to a gateway request (R351, R352). -/
def State.gwResponse (s : State) (r : GwReq) (p : Packet) : State :=
  let put (s : State) (q : GwReq) : State := s.onGw (fun g => { g with reqs := g.reqs.map (fun x => if x = r then q else x) })
  match p.kind.toNat with
  | 0x08 => if r.isWrite then put s { r with done := true } else s
  | 0x03 =>
    if r.isWrite then s
    else
      let got := r.got + p.payload.length
      put s { r with data := placeBytes r.data r.addr p.w2.toNat p.payload, got := got, done := decide (r.len ≤ got) }
  | 0x09 => (put s { r with nacked := true }).nackFrom p
  | _ => s

/-- A response to a packet of the XFE (R273). -/
def State.xfeResponse (s : State) (x : XReq) (p : Packet) : State :=
  let drop (s : State) : State := s.onEng (fun e => { e with xfe := e.xfe.erase x })
  match p.kind.toNat with
  | 0x08 => if x.pkt.kind = 0x02 then s else drop s
  | 0x03 =>
    match kget s.eng.jobs x.job with
    | none => s
    | some b =>
      if x.pkt.kind ≠ 0x02 then s
      else
        let at_ := (p.w2.toNat + 2 ^ 64 - x.pkt.w2.toNat) % 2 ^ 64
        let bs := p.payload.take (x.len - at_)
        let s := s.memPut (dC b.words + x.off + at_) bs
        let y := { x with got := x.got + p.payload.length }
        if x.len ≤ y.got then drop s else s.onEng (fun e => { e with xfe := e.xfe.map (fun z => if z = x then y else z) })
  | 0x09 => (s.xfeRetry x).nackFrom p
  | _ => s

/-- A response is taken by the engine whose outstanding request matches SGID, MSGID and PSN: the gateway, an XFE, or the
promenade fetch. With no match it is dropped and counted. -/
def State.response (s : State) (p : Packet) : State :=
  match s.gw.reqs.find? (fun r => r.sentAt.isSome && r.dst == p.sgid.toNat && r.psn == p.psn.toNat && r.msgid == p.msgid.toNat) with
  | some r => s.gwResponse r p
  | none =>
    match s.eng.xfe.find? (fun x => x.pkt.dgid == p.sgid && x.psn == p.psn.toNat && x.msgid == p.msgid.toNat) with
    | some x => s.xfeResponse x p
    | none =>
      let a := (p.psn.toNat, p.msgid.toNat, p.sgid.toNat)
      if p.kind = 0x09 ∧ s.prom.asked.contains a then (s.onProm (fun w => { w with asked := w.asked.erase a })).nackFrom p
      else s.bumpTab .unmatchedResp

/-- RESPONSE_RECEIVED. -/
def execResponseReceived (pos : Nat) (s : State) : Host.Outcome State Fault Refusal :=
  settle s (match s.takeLocal pos isResponse with
    | some (r, s) => s.response r.pkt
    | none => s)

end Sys2Proof.Machine
end

