-- ==== Sys2Proof/Machine/Trust.lean ====
section
/-! DEFINITION. The configuration flash, self-test, the part's GID, the owner anchor, debug authorisation and attestation (R383,
R384, R392, R396 to R403, R475). -/

namespace Sys2Proof.Machine

/-! The part's GID (R392). -/

/-- A GID is that of a valid service GID. -/
def State.isSvcGid (s : State) (g : Nat) : Bool := (List.range 16).any (fun h => s.flag .svcGid_valid h && s.rd .svcGid_gid h == g)

/-- The part takes a GID, and its DT entry becomes LOCAL. -/
def State.assignGid (s : State) (g : Nat) : State := ((s.wr .cfgGid_gid 0 g).wr .cfgGid_valid 0 1).setDt g (localEntry none)

/-- An assignment is refused: the part has a GID already, or the GID is a service GID. -/
def State.gidRefused (s : State) (g : Nat) : Bool := s.flag .cfgGid_valid 0 || s.isSvcGid g

/-- A write of CFG_GID: REFUSED is cleared first where the write says so; with VALID 0 the GID field alone is stored (R392). -/
def State.writeGid (s : State) (val : Nat) : State :=
  let g := bits val 0 18
  let s := s.when (bitAt val 30) (fun s => s.wr .cfgGid_refused 0 0)
  if s.gidRefused g then s.wr .cfgGid_refused 0 1
  else if bitAt val 31 then s.assignGid g
  else s.wr .cfgGid_gid 0 g

/-- CFG_GID_WRITE. -/
def execCfgGidWrite (src : Src) (val : BitVec 32) (s : State) : Host.Outcome State Fault Refusal :=
  settle s (s.onWrite src .cfgGid 0 (fun s => s.writeGid val.toNat))

/-! The flash (R383, R384, R475). -/

/-- A byte address lies in slot i. -/
def inSlot (i a : Nat) : Bool := decide (0x1800000 * i ≤ a) && decide (a < 0x1800000 * (i + 1))
/-- A byte address lies in the fault log. -/
def inLog (a : Nat) : Bool := decide (0x3000000 ≤ a) && decide (a < 0x3800000)

/-- A PROGRAM or ERASE of a range is refused: it touches the fault log, or the slot in use (R384). -/
def State.flashProtected (s : State) (a n : Nat) : Bool :=
  inLog a || inLog (a + n - 1) || (s.chip.chosen && (inSlot (s.rd .cfgState_slot 0) a || inSlot (s.rd .cfgState_slot 0) (a + n - 1)))

/-- A flash command ends at once with a RESULT. -/
def State.flashEnds (s : State) (r : Nat) : State := (s.wr .cfgFlashCmd_start 0 0).wr .cfgFlashCmd_result 0 r

/-- The bytes of CFG_FLASH_DATA. -/
def State.flashData (s : State) (n : Nat) : List Byte :=
  ((List.range 64).flatMap (fun i => leBytes 4 (s.rd .cfgFlashData_data i))).take n

/-- A flash command runs. -/
def State.flashRuns (s : State) (j : FlashJob) : State := (s.wr .cfgFlashCmd_start 0 1).onChip (fun c => { c with flash := some j })

/-- CFG_FLASH_CMD.START with an OP and COUNT at CFG_FLASH_ADDR. -/
def State.flashCmd (s : State) (op count : Nat) : State :=
  if 2 < op then s.wr .cfgFlashCmd_result 0 4
  else
    let s := (s.wr .cfgFlashCmd_op 0 op).wr .cfgFlashCmd_count 0 count
    let a := s.rd .cfgFlashAddr_addr 0
    let n := count % 256 + 1
    match op with
    | 0 => s.flashRuns ⟨0, a, n, [], 0⟩
    | 1 =>
      if s.flashProtected a n then s.flashEnds 1
      else if 256 < a % 256 + n then s.flashEnds 2
      else s.flashRuns ⟨1, a, n, s.flashData n, 0⟩
    | _ =>
      let base := a / 0x10000 * 0x10000
      if s.flashProtected base 0x10000 then s.flashEnds 1 else s.flashRuns ⟨2, base, 0x10000, [], 0⟩

/-- FLASH_READ, FLASH_PROGRAM, FLASH_ERASE (R384). -/
def execFlashRead (src : Src) (count : BitVec 8) (s : State) : Host.Outcome State Fault Refusal :=
  settle s (s.onWrite src .cfgFlashCmd 0 (fun s => s.flashCmd 0 count.toNat))
def execFlashProgram (src : Src) (count : BitVec 8) (s : State) : Host.Outcome State Fault Refusal :=
  settle s (s.onWrite src .cfgFlashCmd 0 (fun s => s.flashCmd 1 count.toNat))
def execFlashErase (src : Src) (s : State) : Host.Outcome State Fault Refusal :=
  settle s (s.onWrite src .cfgFlashCmd 0 (fun s => s.flashCmd 2 (s.rd .cfgFlashCmd_count 0)))

/-- Bytes of a cut or failed PROGRAM or ERASE: what each then reads as is free (log entry 4). -/
def State.flashTorn (s : State) (a : Nat) : Nat → State
  | 0 => s
  | n + 1 =>
    let (v, s) := s.free 23 256
    ({ s with flash := sset 0xFF s.flash a v }).flashTorn (a + 1) n

/-- Put the bytes read into CFG_FLASH_DATA; the other bytes of a word that is not filled stay. -/
def State.fillFlash (s : State) (bs : List Byte) : State :=
  (List.range ((bs.length + 3) / 4)).foldl (fun s i =>
    let w := slice bs (4 * i) 4
    let m := 2 ^ (8 * min 4 (bs.length - 4 * i)) - 1
    s.wr .cfgFlashData_data i (clearMask (s.rd .cfgFlashData_data i) m ||| (leNat w &&& m))) s

/-- What a flash command has done when it ends; with a device error, what it was to write or return is free;
while the boundary chain holds the lands its traffic is lost. -/
def State.flashDone (s : State) (j : FlashJob) (err : Bool) : State :=
  match j.op with
  | 0 =>
    if err || s.landsHeld then
      let (bs, s) := (List.range j.count).foldl (fun (acc : List Byte × State) _ =>
        let (v, t) := acc.2.free 23 256
        (acc.1 ++ [BitVec.ofNat 8 v], t)) ([], s)
      s.fillFlash bs
    else s.fillFlash (bytesAt 0xFF s.flash j.addr j.count)
  | 1 => if s.landsHeld then s else if err then s.flashTorn j.addr j.count else { s with flash := progBytes s.flash j.addr j.data }
  | _ => if s.landsHeld then s else if err then s.flashTorn j.addr j.count else { s with flash := eraseSector s.flash j.addr }

/-- A flash command ends; a FATAL record that waited for it is programmed with those before it (Table 17.5). -/
def State.flashComplete (s : State) (err : Bool) : State :=
  match s.chip.flash with
  | none => s
  | some j =>
    let t := ((s.onChip (fun c => { c with flash := none })).flashDone j err).flashEnds (if err then 3 else 0)
    t.when (t.tel.log.any (fun q => q.sev == 3)) State.commitLog

/-- FLASH_COMMAND_COMPLETE. -/
def execFlashCommandComplete (devErr : Bool) (s : State) : Host.Outcome State Fault Refusal := settle s (s.flashComplete devErr)

/-! Self-test (R396, R397). -/

/-- A self-test may not start. -/
def State.selftestRefused (s : State) (full : Bool) (mem : Nat) : Bool :=
  s.chip.test.isSome || (full && s.rd .gwMode_mode 0 != 2) || (!full && mem == 0)

/-- A full self-test takes every port to DOWN and stops every instance with ABORT (R285, R397). -/
def State.testStops (s : State) : State :=
  let s := s.enabledPorts.foldl (fun s n => s.goDown n none) s
  ((s.eng.inst.filter (fun e => e.2.state == 1)).map (fun e => e.1)).foldl (fun s i => s.instAbort i 7) s

/-- A write of CFG_SELFTEST. -/
def State.selftestWrite (s : State) (val : Nat) : State :=
  let s := s.writeFields .cfgSelftest 0 val (2 ^ 32 - 1)
  if !bitAt val 31 then s
  else
    let full := s.flag .cfgSelftest_full 0
    let mem := s.rd .cfgSelftest_mem 0
    if s.selftestRefused full mem then s.wr .cfgSelftest_accept 0 3
    else
      let s := s.wr .cfgSelftest_accept 0 (if full then 1 else 2)
      let s := (s.wr .cfgSelftestStatus_running 0 1).wr .cfgSelftestStatus_progress 0 0
      (s.onChip (fun c => { c with test := some (full, mem) })).when full State.testStops

/-- SELFTEST_START. -/
def execSelftestStart (src : Src) (val : BitVec 32) (s : State) : Host.Outcome State Fault Refusal :=
  settle s (s.onWrite src .cfgSelftest 0 (fun s => s.selftestWrite val.toNat))

/-! The owner anchor (R399). -/

/-- The 48 bytes of SEC_OWNER_HASH. -/
def State.ownerHash (s : State) : List Byte := (List.range 12).flatMap (fun i => leBytes 4 (s.rd .secOwnerHash_hash i))

/-- SEC_OWNER.BIND. -/
def State.bind (s : State) : State :=
  if !s.flag .secOwner_bound 0 && s.devState == 6 then
    ((s.onChip (fun c => { c with anchor := some s.ownerHash })).wr .secOwner_bound 0 1).wr .secOwner_result 0 0
  else s.wr .secOwner_result 0 1

/-- OWNER_BIND. -/
def execOwnerBind (src : Src) (s : State) : Host.Outcome State Fault Refusal := settle s (s.onWrite src .secOwner 0 State.bind)

/-! Debug authorisation (R402). -/

/-- A fresh nonce is drawn. -/
def State.drawNonce (s : State) : State :=
  (List.range 8).foldl (fun s i => let (v, s) := s.free 27 (2 ^ 32); s.wr .secDbgNonce_nonce i v) s

/-- The nonce in force. -/
def State.nonce (s : State) : List Byte := (List.range 8).flatMap (fun i => leBytes 4 (s.rd .secDbgNonce_nonce i))

/-- The debug record at an address of Scratch: a region in C4 has been written to zero by the wake that the access asks for (R414,
R415). -/
def State.dbgRecord (s : State) (a : Nat) : List Byte :=
  (List.range 144).map (fun i =>
    match scratchRegion? (a + i) with
    | some k => if s.rd .pwrRegionStatus_state k = 4 then 0 else BitVec.ofNat 8 (sget 0 s.eng.mem (a + i))
    | none => 0)

/-- The record at an address of Scratch passes every test of R402. -/
def State.dbgAccepted (s : State) (a : Nat) : Bool :=
  let bs := s.dbgRecord a
  decide (a + 144 ≤ 0x40000000) && !(rangeRegions a 144).any s.regionDead &&
    leNat (slice bs 0 8) == Config.deviceId.toNat && slice bs 8 32 == s.nonce &&
    (match s.chip.keys[leNat (slice bs 44 4)]? with
     | some key => Config.ecdsaVerify key (Config.sha384 (slice bs 0 48)) (slice bs 48 96)
     | none => false)

/-- SEC_DBG_CTRL.SUBMIT. The nonce is drawn afresh whatever the result. -/
def State.submit (s : State) : State :=
  let a := s.rd .secDbgAddr_addr 0 / 64 * 64
  let s := if s.dbgAccepted a then
      (s.wr .secDbgCtrl_enable 0 (leNat (slice (s.dbgRecord a) 40 4) % 4)).wr .secDbgCtrl_result 0 0
    else s.wr .secDbgCtrl_result 0 1
  ((rangeRegions a 144).foldl State.wakeRegion s).drawNonce

/-- DEBUG_SUBMIT. -/
def execDebugSubmit (src : Src) (s : State) : Host.Outcome State Fault Refusal := settle s (s.onWrite src .secDbgCtrl 0 State.submit)

/-! Attestation (R400, R401; log entry 5). -/

/-- A byte string as one number, first byte highest. -/
def digestOf (bs : List Byte) : Nat := beNat bs

/-- The measurement blocks there are: the firmware and image in use and the services once a slot is in use, and the owner anchor
once it is bound (Table 15.10). -/
def State.measurements (s : State) : List (Nat × Nat) :=
  [(1, Config.romDigest.toNat)] ++
  (if s.chip.chosen then [(2, s.chip.m2), (3, s.chip.m3), (4, s.chip.m4)] else []) ++
  [(5, (Config.sha384 (leBytes 4 (s.rd .secDbgCtrl_enable 0))).toNat)] ++
  (match s.chip.anchor with | some a => [(6, digestOf a)] | none => [])

/-- A DOE response leaves, with the function's DOE interrupt (Table 18.5). -/
def State.doe (s : State) (fn : Nat) (r : SpdmResp) : State := (s.emit (.doe fn r)).msixCause fn 3

/-- A request that needs the algorithms agreed is an error before that. -/
def State.spdm (s : State) (fn : Nat) (answer : State → SpdmResp × State) : State :=
  if s.off then s
  else if s.chip.agreed.contains fn then (let r := answer s; r.2.doe fn r.1)
  else s.doe fn .error

/-- The responder's nonce of a signed answer is free. -/
def State.spdmNonce (s : State) : Nat × State := s.free 28 (2 ^ 256)

/-- GET_VERSION: a negotiation starts afresh. -/
def execGetVersion (fn : Fin 2) (s : State) : Host.Outcome State Fault Refusal :=
  settle s (if s.off then s
    else (s.onChip (fun c => { c with agreed := c.agreed.filter (· != fn.val) })).doe fn (.version 0x12))

/-- GET_CAPABILITIES. -/
def execGetCapabilities (fn : Fin 2) (s : State) : Host.Outcome State Fault Refusal :=
  settle s (if s.off then s else s.doe fn (.capabilities true true true true))

/-- NEGOTIATE_ALGORITHMS: an error unless the requester offers SHA-384 and the ExtAsym entry. -/
def execNegotiateAlgorithms (fn : Fin 2) (sha384 extAsym : Bool) (s : State) : Host.Outcome State Fault Refusal :=
  settle s (if s.off then s
    else if sha384 && extAsym then
      (s.onChip (fun c => { c with agreed := c.agreed.filter (· != fn.val) ++ [fn.val] })).doe fn (.algorithms true 1)
    else s.doe fn .error)

/-- GET_DIGESTS. -/
def execGetDigests (fn : Fin 2) (s : State) : Host.Outcome State Fault Refusal :=
  settle s (s.spdm fn (fun s => (.digests (Config.sha384 Config.certChain).toNat, s)))

/-- The portion of the chain that GET_CERTIFICATE asks for. -/
def certAnswer (slot off len : Nat) : SpdmResp :=
  if slot ≠ 0 ∨ Config.certChain.length ≤ off then .error
  else
    let bs := (Config.certChain.drop off).take len
    .certificate bs (Config.certChain.length - off - bs.length)

/-- GET_CERTIFICATE. -/
def execGetCertificate (fn : Fin 2) (slot : BitVec 4) (off len : BitVec 16) (s : State) : Host.Outcome State Fault Refusal :=
  settle s (s.spdm fn (fun s => (certAnswer slot.toNat off.toNat len.toNat, s)))

/-- CHALLENGE: signed by the device key over the requester's nonce, the responder's and the digest of the chain. -/
def State.challengeAnswer (s : State) (slot nonce : Nat) : SpdmResp × State :=
  if slot ≠ 0 then (.error, s)
  else
    let r := s.spdmNonce
    let d := (Config.sha384 Config.certChain).toNat
    (.challengeAuth d r.1 (Config.deviceSign (beBytes 32 nonce ++ beBytes 32 r.1 ++ beBytes 48 d)), r.2)

/-- CHALLENGE. -/
def execChallenge (fn : Fin 2) (slot : BitVec 4) (nonce : BitVec 256) (s : State) : Host.Outcome State Fault Refusal :=
  settle s (s.spdm fn (fun s => s.challengeAnswer slot.toNat nonce.toNat))

/-- GET_MEASUREMENTS: the blocks asked for, all of one instant (R403). -/
def State.measureAnswer (s : State) (index : Nat) (sign : Bool) (nonce : Nat) : SpdmResp × State :=
  if index = 0 then (.count s.measurements.length, s)
  else
    let bs := s.measurements.filter (fun b => index == 0xFF || b.1 == index)
    if bs.isEmpty then (.error, s)
    else
      let r := s.spdmNonce
      let msg := beBytes 32 nonce ++ beBytes 32 r.1 ++ bs.flatMap (fun b => leBytes 1 b.1 ++ beBytes 48 b.2)
      (.measurements bs r.1 (if sign then some (Config.deviceSign msg) else none), r.2)

/-- GET_MEASUREMENTS. -/
def execGetMeasurements (fn : Fin 2) (index : BitVec 8) (sign : Bool) (nonce : BitVec 256) (s : State) :
    Host.Outcome State Fault Refusal := settle s (s.spdm fn (fun s => s.measureAnswer index.toNat sign nonce.toNat))

end Sys2Proof.Machine
end

