-- ==== Sys2Proof/Machine/Apply.lean ====
section
/-! DEFINITION. A register write that takes effect, whatever its register: the commands and the plain writes in one place; which
writes are ignored or refused; and what a read of BAR0 returns (R8, R10, R11, R33, R390, R449, R475). -/

namespace Sys2Proof.Machine

/-! Registers whose write is a command. -/

/-- A write starts a command: one of its CMD fields is written 1. -/
def Reg.starts (r : Reg) (val mask : Nat) : Bool :=
  r.fields.any (fun f => decide (f.acc = .cmd) && bitAt val f.lo && bitAt mask f.lo)

/-- A register whose every write is a row of its own. -/
def Reg.ownRow : Reg → Bool
  | .corePortCfg | .gateCycleCfg | .gatePortCtrl | .gateList | .optChanCfg | .svcGid | .gwMode | .timeStep | .cfgGid
  | .pcieRingCfg | .pcieRingHostIdx => true
  | _ => false

/-- The write acts at once, as a command does. -/
def actsNow (r : Reg) (val mask : Nat) : Bool := r.ownRow || r.starts val mask

/-- The stored part of a register that a write's mask leaves out, joined to what the write carries. -/
def State.merged (s : State) (r : Reg) (i val mask : Nat) : Nat := clearMask (s.storedReg r i) mask ||| (val &&& mask)

/-- ENG_INST_CMD.START. -/
def State.instWrite (s : State) (src : Src) (val : Nat) : State :=
  let i := bits val 0 12
  let s := s.when (decide (bits val 28 3 ≤ 4)) (fun s => s.wr .engInstCmd_ctr 0 (bits val 20 4))
  match bits val 28 3 with
  | 0 => s.startCmd src i
  | 1 => s.instCmd 1 i (fun s => s.doInstAbort i)
  | 2 => s.instCmd 2 i (fun s => s.doInstRead i)
  | 3 => s.instCmd 3 i (fun s => s.doClearFlags i)
  | 4 => s.instCmd 4 i (fun s => s.doInstSignal i (bits val 20 4))
  | _ => s.wr .engInstCmd_result 0 4

/-- PROM_CMD.START. -/
def State.promWrite (s : State) (val : Nat) : State :=
  let j := bits val 0 16
  match bits val 28 3 with
  | 0 => s.promCmd 0 j (fun s => s.doPromQuery j)
  | 1 => s.promCmd 1 j (fun s => s.doPromFetch j)
  | 2 => s.promCmd 2 j (fun s => s.doPromDrop j)
  | 3 => s.promCmd 3 j (fun s => s.doPromDropAll)
  | _ => s.wr .promCmd_result 0 4

/-- FEN_GID_CMD.START. -/
def State.fenWrite (s : State) (src : Src) (val : Nat) : State :=
  let g := bits val 0 18
  match bits val 28 3 with
  | 0 => s.gidCmd src 0 g (fun s => (s.fillGid g, 0))
  | 1 => s.gidCmd src 1 g (fun s => s.manageFence g)
  | 2 => s.gidCmd src 2 g (fun s => s.readmit g)
  | 3 => s.gidCmd src 3 g (fun s => s.suspectRead (g % 256))
  | 4 => s.gidCmd src 4 g (fun s => s.suspectDrop g)
  | _ => s.wr .fenGidCmd_result 0 5

/-- TBL_CMD.START. -/
def State.tblWrite (s : State) (src : Src) (val : Nat) : State :=
  s.tblCommand src (bits val 28 3) (bits val 24 3) (bits val 0 18) (bitAt val 23)

/-- TEL_CTRL with SNAP or CLEAR. CLEAR is the lease owner's (R428). -/
def State.telWrite (s : State) (src : Src) (val : Nat) : State :=
  let s := s.wr .telCtrl_group 0 (bits val 0 5)
  let s := s.when (bitAt val 30 && srcIsOwner src) (fun s => s.clearWrite (bits val 0 5))
  s.when (bitAt val 31) State.snapWrite

/-- CFG_SYNC.SYNC (R35): it waits for the writes and table commands that its source has issued, and for no later one. -/
def State.syncWrite (s : State) (src : Src) : State :=
  (s.wr .cfgSync_sync 0 1).onAcc (fun a => { a with syncs := a.syncs ++ [src], later := [], mark := s.tab.nextJob })

/-- The effect of an accepted write that acts at once. CFG_CTRL is left out: a restart is not among the effects that a register
write has here. -/
def State.cmdEffect (s : State) (src : Src) (r : Reg) (i val mask : Nat) : State :=
  match r with
  | .cfgSync => s.syncWrite src
  | .corePortCfg => doPortCfgWrite src (Fin.ofNat 512 i) (BitVec.ofNat 32 val) s
  | .coreLaneTest => doLaneTestStart src (BitVec.ofNat 32 val) s
  | .optModAcc => doModuleAccess src (BitVec.ofNat 64 (s.merged .optModAcc 0 val mask)) s
  | .tblCmd => s.tblWrite src val
  | .gateCycleCfg => s.writeCycleCfg val mask
  | .gateCycleCtrl => (s.writeFields r i val mask).doArm
  | .gatePortCtrl => s.writePortCtrl i val mask
  | .gateList => s.writeGateList i val mask
  | .timeStep => s.stepTime val
  | .optPlanCtrl => doPlanArm src (s.writeFields r i val mask)
  | .optSlotCtrl => s.doRecapture i
  | .optChanCfg => doChanCfgWrite src (Fin.ofNat 512 i) (BitVec.ofNat 32 val) s
  | .cvtSctrl => (s.when (bitAt val 30) (fun s => s.doQclr i)).when (bitAt val 31) (fun s => s.doCvtStep i)
  | .engInstCmd => s.instWrite src val
  | .svcGid => s.doSvcGidWrite i val
  | .svcLoadCmd => s.doSvcLoad (bits val 0 20)
  | .cmnCtrl => s.doCmnClear (bits val 0 8)
  | .promCmd => s.promWrite val
  | .gwMode => doGwModeWrite src (BitVec.ofNat 32 val) s
  | .fenCtrl => doStormClear src s
  | .fenGidCmd => s.fenWrite src val
  | .fenPort => doFenPortClear src (Fin.ofNat 512 i) s
  | .cfgGid => s.writeGid val
  | .cfgFlashCmd => s.flashCmd (bits val 28 3) (bits val 0 8)
  | .cfgSelftest => s.selftestWrite val
  | .secOwner => s.bind
  | .secDbgCtrl => s.submit
  | .telCtrl => s.telWrite src val
  | .cfgLeaseCtrl => (s.when (bits val 29 2 != 3) (fun s => s.writeFields r i val mask)).leaseGo i (bits val 29 2)
  | .pcieRingCfg => s.ringCfgWrite (i / 3) (i % 3) val mask
  | .pcieRingHostIdx => s.hostIdxWrite (i / 3) (i % 3) val mask
  | _ => s.plainWrite r i val mask

/-- A write of a register place that takes effect at once, when it is accepted. -/
def State.writeNow (s : State) (src : Src) (r : Reg) (i val mask : Nat) : State :=
  if r = .gatePortCtrl then s.portCtrlWrite src i val mask
  else if r = .promCmd then
    s.onPromWrite src val (fun s => if actsNow r val mask then s.cmdEffect src r i val mask else s.plainWrite r i val mask)
  else s.onWrite src r i (fun s => if actsNow r val mask then s.cmdEffect src r i val mask else s.plainWrite r i val mask)

/-! Writes that are ignored or refused (R390, R449). -/

/-- A plan would be refused at ARM (R222). -/
def State.armRefused (s : State) : Bool :=
  let ahead := span32 s.now (s.rd .optPlanTime_act 0)
  ahead == 0 || decide (2 ^ 31 ≤ ahead) || s.planConflict.isSome

/-- A lane test would be refused (R99). -/
def State.laneTestRefused (s : State) (val : Nat) : Bool :=
  let lanes := if bitAt val 30 then List.range 512 else [bits val 0 9]
  bitAt val 31 && bitAt val 29 && lanes.any (fun l => (s.portOfLane l).isSome)

/-- The register refuses, or ignores, the write. -/
def State.refuses (s : State) (src : Src) (r : Reg) (i val mask : Nat) : Bool :=
  match r with
  | .corePortCfg => s.portRefused i (bitAt val 31) (bits val 26 2) (bits val 24 2) (bitAt val 22)
  | .optChanCfg => s.chanRefused i (bits val 23 5) (bits val 18 5) (bits val 9 9) (bits val 0 9)
  | .svcGid => bitAt val 31 && s.svcGidTaken i (bits val 0 18)
  | .gwMode => !(s.gwPermitted (val % 4) && gwStateOk (val % 4) s.devState)
  | .cfgGid => s.gidRefused (bits val 0 18)
  | .gateList => s.listGuarded (i / 128) (i / 64 % 2)
  | .tblData => s.flag .tblCmd_start (i / 16)
  | .optPlanNext => s.flag .optPlanCtrl_arm 0
  | .optPlanCtrl => r.starts val mask && s.armRefused
  | .coreLaneTest => s.laneTestRefused val
  | .cfgSelftest => bitAt val 31 && s.selftestRefused (bitAt val 30) (bits val 24 6)
  | .secOwnerHash => s.flag .secOwner_bound 0
  | .pcieRingBase => s.flag .pcieRingCfg_en i
  | .telCtrl => bitAt val 30 && !srcIsOwner src
  | .engHostCfg => s.hostCfgHeld val mask
  | .cfgCtrl => bitAt val 31 && bits val 0 16 != 0x5AFE
  | _ => false

/-- A write is ignored or refused: nothing of it takes effect. -/
def State.writeFails (s : State) (src : Src) (r : Reg) (i val mask : Nat) : Bool :=
  !(s.accepts src r i || (r == .promCmd && s.takesDrop src val)) || s.refuses src r i val mask

/-! Accesses and the halves of 64-bit registers (R11, R31). -/

/-- The register place that a source's write names: the management cores have a TBL_ instance of their own (R125). -/
def srcPlace? (src : Src) (off : Nat) : Option Place :=
  match place? ((srcView src).getD 0) off with
  | none => none
  | some p =>
    if p.reg.perFn && (srcView src).isNone then none
    else match p.reg with
      | .tblCmd => some { p with idx := tblInst src }
      | .tblStatus => some { p with idx := tblInst src }
      | .tblData => some { p with idx := 16 * tblInst src + p.idx }
      | _ => some p

/-- One 32-bit write (R11): a lower half is held; an upper half makes the write, with the half held or alone. -/
def State.half (s : State) (src : Src) (off val : Nat) : State × Option InWrite :=
  match srcPlace? src off with
  | none => (s.markIgnored src off, none)
  | some p =>
    let key := Nat.pair (srcIdx src) (p.reg.offset p.idx)
    if !p.reg.is64 then (s, some ⟨src, p.reg, p.idx, val, 2 ^ 32 - 1⟩)
    else if p.upper then
      match (if s.accepts src p.reg p.idx then kget s.acc.halves key else none) with
      | some lo => (s.onAcc (fun a => { a with halves := kdel a.halves key }), some ⟨src, p.reg, p.idx, lo + val * 2 ^ 32, 2 ^ 64 - 1⟩)
      | none => (s, some ⟨src, p.reg, p.idx, val * 2 ^ 32, (2 ^ 32 - 1) * 2 ^ 32⟩)
    else if s.accepts src p.reg p.idx then (s.onAcc (fun a => { a with halves := kput a.halves key val }), none)
    else (s.markIgnored src off, none)

/-- The offset is that of a whole 64-bit register. -/
def whole64 (src : Src) (off : Nat) : Bool :=
  match srcPlace? src off with
  | some p => p.reg.is64 && !p.upper
  | none => false

/-- A write access of 32 or 64 bits, as the register writes it makes. -/
def State.access (s : State) (src : Src) (off : Nat) (is64 : Bool) (val : Nat) : State × List InWrite :=
  if !is64 then (let r := s.half src off (val % 2 ^ 32); (r.1, r.2.toList))
  else if whole64 src off then
    match srcPlace? src off with
    | some p => (s, [⟨src, p.reg, p.idx, val, 2 ^ 64 - 1⟩])
    | none => (s, [])
  else
    let r := s.half src off (val % 2 ^ 32)
    let q := r.1.half src (off + 4) (val / 2 ^ 32 % 2 ^ 32)
    (q.1, r.2.toList ++ q.2.toList)

/-- Register writes in order, each at once; and whether any of them was ignored or refused (R390, R449). -/
def State.writeAll (s : State) (ws : List InWrite) : State × Bool :=
  ws.foldl (fun (a : State × Bool) w =>
    (a.1.writeNow w.src w.reg w.idx w.val w.mask, a.2 || a.1.writeFails w.src w.reg w.idx w.val w.mask)) (s, false)

/-! Reads. -/

/-- Whole milliseconds left of the lease's term, which began with what REMAIN_MS holds; they are counted on the free-running count of
ns (log entry 52). -/
def State.leaseLeft (s : State) : Nat := s.rd .cfgLeaseStatus_remainMs 0 - (s.tb.mono - s.mgmt.termAt) / 1000000

/-- A field as a read gives it: fields that show the part as it stands are computed, the others are stored. -/
def State.readField (s : State) (fn : Nat) (f : Fld) (i : Nat) : Nat :=
  match f with
  | .timeNs_count => s.now
  | .coreNbr_age => s.nbrAge i
  | .engHbmMap_genTop => s.genTop i
  | .svcStatus_live => s.svcLive i
  | .svcStatus_waiting => s.svcWaiting i
  | .redLbStatus_open => ((s.lbChunks i).filter (fun c => c.st == .open_ || c.st == .sending)).length
  | .redLbStatus_done => ((s.lbChunks i).filter (fun c => c.st == .done || c.st == .aborted)).length
  | .redLbStatus_used => s.redUsed i
  | .redFenceStatus_scanning => b2n (!s.fen.scan.isEmpty)
  | .cmnStatus_slotsUsed => s.slotsUsed i
  | .cmnStatus_poisoned => (s.cmn.poison.filter (fun l => lineRegion l == i)).length
  | .promUsage_used => s.promUsed
  | .gwStatus_outstanding => s.gwOutstanding i
  | .gwStatus_buffers => s.gwBuffers i
  | .fenStatus_suspects => s.fen.suspects.length
  | .fenStatus_windowCount => min 255 s.fenWindow.length
  | .secId_deviceId => Config.deviceId.toNat
  | .secI3cPid_pid => Config.i3cPid.toNat
  | .cfgLeaseStatus_remainMs => s.leaseLeft
  | .cfgLeaseStatus_selfPort => fn
  | .i3cStatus_addrValid => b2n s.i3c.da.isSome
  | .i3cStatus_da => match s.i3c.da with | some d => d.toNat | none => 0
  | .i3cStatus_ibiEn => b2n s.i3c.ibiEn
  | .dbgSel_active => b2n (bitAt (s.rd .secDbgCtrl_enable 0) 0 && s.rd .dbgSel_group 0 != 0)
  | f => s.rd f i

/-- A register as a read gives it: 0 in a failed region (R39), WO fields 0. -/
def State.readReg (s : State) (fn : Nat) (r : Reg) (i : Nat) : Nat :=
  if s.regDead r i then 0
  else r.fields.foldl (fun a f => if f.acc = .wo then a else a + s.readField fn f.fld i * 2 ^ f.lo) 0

/-- A read of CORE_LANE_STATUS gives in SER what was measured over the last 1 ms: a free value while the lane has codeword lock. -/
def State.drawSer (s : State) (off : Nat) : State :=
  let l := (off - Reg.coreLaneStatus.base) / 4
  if decide (Reg.coreLaneStatus.base ≤ off) && decide (l < 512) && s.flag .coreLaneStatus_fecLock l then
    let (v, s) := s.free 33 65536
    s.wr .coreLaneStatus_ser l v
  else s

/-- What an aligned 32-bit offset of BAR0 lies in: the base and value of a 64-bit unit, or a 32-bit value (R424, R437, R447). -/
def State.unitAt (s : State) (fn off : Nat) : Option (Nat × Nat) × Nat :=
  let at8 := off / 8 * 8
  if decide (0x1000000 ≤ off) && decide (off < 0x2000000) then
    (some (at8, s.liveAt ((off - 0x1000000) / 0x80000) (off % 0x80000 / 8)), 0)
  else if decide (0x2000000 ≤ off) && decide (off < 0x3000000) then
    (some (at8, s.shadowAt ((off - 0x2000000) / 0x80000) (off % 0x80000 / 8)), 0)
  else if decide (0x780000 ≤ off) && decide (off < 0x790000) then
    let w := match kget s.tel.ring ((off - 0x780000) / 64) with
      | some q => leNat (slice q.image (at8 % 64) 8)
      | none => 0
    (some (at8, w), 0)
  else if decide (0x7C1000 ≤ off) && decide (off < 0x7C1400) then (none, s.msixWord fn ((off - 0x7C1000) / 4))
  else if decide (0x7C1800 ≤ off) && decide (off < 0x7C1808) then
    (some (at8, (List.range 64).foldl (fun a v => a + sget 0 s.mgmt.pba (Nat.pair fn v) * 2 ^ v) 0), 0)
  else match place? fn off with
    | some p => if p.reg.is64 then (some (if p.upper then off - 4 else off, s.readReg fn p.reg p.idx), 0) else (none, s.readReg fn p.reg p.idx)
    | none => (none, 0)

/-- A 32-bit read of BAR0 (R8, R11, R33): the source's own writes to the block take effect first; a read of a lower half latches
the upper half, which the next read of that half returns. -/
def State.read32 (s : State) (fn off : Nat) : Nat × State :=
  if !s.served off then (0, s)
  else
    let s := s.flush (fnSrc fn) (regBlock off)
    let s := s.drawSer off
    match (s.unitAt fn off).1 with
    | none => ((s.unitAt fn off).2, s)
    | some (base, v) =>
      let key := Nat.pair fn base
      if off = base then (v % 2 ^ 32, s.onAcc (fun a => { a with latched := kput a.latched key (v / 2 ^ 32) }))
      else match kget s.acc.latched key with
        | some h => (h, s.onAcc (fun a => { a with latched := kdel a.latched key }))
        | none => (v / 2 ^ 32 % 2 ^ 32, s)

/-- A 64-bit read of BAR0 at an 8-byte aligned offset (R11): a 64-bit register as one access, which latches nothing, or two 32-bit
places. -/
def State.read64 (s : State) (fn off : Nat) : Nat × State :=
  if !s.served off then (0, s)
  else
    let t := s.flush (fnSrc fn) (regBlock off)
    match (t.unitAt fn off).1 with
    | some (_, v) => (v % 2 ^ 64, t)
    | none =>
      let r := s.read32 fn off
      let q := r.2.read32 fn (off + 4)
      (r.1 + 2 ^ 32 * q.1, q.2)

end Sys2Proof.Machine
end

