-- ==== Sys2Proof/Machine/Startup.lean ====
section
/-! DEFINITION. Start-up: the image slots, the choice between them, the application of an image, the device states around them,
restart and loss of power (R376 to R397, R403, R435, R438, R464, R470). -/

namespace Sys2Proof.Machine

/-! The image (R385 to R388). -/

/-- A record of an image: TYPE, FLAGS and value. -/
structure ImgRec where
  ty : Nat
  flags : Nat
  val : List Byte
  deriving DecidableEq, Repr

/-- The records that fill a byte string exactly, if they do. The first argument bounds their number. -/
def parseRecs : Nat → List Byte → Option (List ImgRec)
  | 0, bs => if bs.isEmpty then some [] else none
  | n + 1, bs =>
    if bs.isEmpty then some []
    else
      let vlen := leNat (slice bs 4 4)
      let total := 8 + (vlen + 7) / 8 * 8
      if bs.length < total then none
      else (parseRecs n (bs.drop total)).map (fun rs => ⟨leNat (slice bs 0 2), leNat (slice bs 2 2), slice bs 8 vlen⟩ :: rs)

/-- A record type of Table 15.5. -/
def knownType (ty : Nat) : Bool :=
  (decide (1 ≤ ty) && decide (ty ≤ 4)) || (decide (0x10 ≤ ty) && decide (ty ≤ 0x16)) || ty == 0x20 || ty == 0x21

/-- The value of the first record of a type. -/
def recVal (rs : List ImgRec) (ty : Nat) : List Byte :=
  match rs.find? (fun r => r.ty == ty) with
  | some r => r.val
  | none => []

/-- The number of records of a type. -/
def recsOfType (rs : List ImgRec) (ty : Nat) : Nat := rs.countP (fun r => r.ty == ty)

/-- What keeps a header from passing (Table 15.4): BLANK, FORMAT or LENGTH. -/
def headReason (h : List Byte) : Nat :=
  let len := leNat (slice h 16 4)
  if slice h 0 4 == [0xFF, 0xFF, 0xFF, 0xFF] then 1
  else if slice h 0 4 != [0x49, 0x47, 0x58, 0x43] || leNat (slice h 4 2) != 1 then 2
  else if len % 8 ≠ 0 ∨ len < 64 ∨ 25165720 < len then 3
  else 0

/-- The records are well formed and complete (R386, R388). -/
def recsOk (rs : List ImgRec) (count : Nat) : Bool :=
  rs.length == count && rs.all (fun r => knownType r.ty || !bitAt r.flags 15) && recsOfType rs 1 == 1 && recsOfType rs 2 == 1

/-- The firmware signature verifies (R387). -/
def firmwareOk (v : List Byte) : Bool :=
  let n := leNat (slice v 8 4)
  let key := slice v 16 97
  n % 8 == 0 && decide (8 ≤ n) && decide (n ≤ 8388608) && v.length == 216 + n && leNat (slice v 12 4) == 0 &&
    leNat (slice v 113 7) == 0 && slice key 0 1 == [0x04] && Config.sha384 key == Config.romFwKeyDigest &&
    Config.ecdsaVerify key (Config.sha384 (v.take (120 + n))) (slice v (120 + n) 96)

/-- The keys of a KEYS value: the root, then the signing keys. -/
def keysOf (v : List Byte) : List (List Byte) :=
  slice v 0 97 :: (List.range ((v.length - 97) / 193)).map (fun i => slice v (97 + 193 * i) 97)

/-- The owner root key is the one the anchor names, and it has signed every signing key (R388). -/
def keysOk (anchor : Option (List Byte)) (v : List Byte) : Bool :=
  let root := slice v 0 97
  let n := (v.length - 97) / 193
  decide (97 ≤ v.length) && v.length == 97 + 193 * n && decide (n ≤ 3) &&
    (match anchor with | some a => (Config.sha384 root).toNat == beNat a | none => false) &&
    (List.range n).all (fun i =>
      Config.ecdsaVerify root (Config.sha384 (slice v (97 + 193 * i) 97)) (slice v (194 + 193 * i) 96))

/-- The trailer's signature verifies against the key it names (R388). -/
def imageSigned (keys : List (List Byte)) (digest : BitVec 384) (trailer : List Byte) : Bool :=
  match keys[leNat (slice trailer 0 4)]? with
  | some key => Config.ecdsaVerify key digest (slice trailer 8 96)
  | none => false

/-- What the ROM finds in a slot. -/
structure SlotView where
  reason : Nat
  version : Nat
  recs : List ImgRec
  digest : Nat
  deriving DecidableEq, Repr

/-- A slot as the ROM reads and checks it; the first failure sets its reason. -/
def State.viewSlot (s : State) (i : Nat) (readErr : Bool) : SlotView :=
  if readErr then ⟨8, 0, [], 0⟩
  else
    let base := 0x1800000 * i
    let h := bytesAt 0xFF s.flash base 64
    let version := if slice h 0 4 == [0x49, 0x47, 0x58, 0x43] then leNat (slice h 8 8) else 0
    if headReason h ≠ 0 then ⟨headReason h, version, [], 0⟩
    else
      let len := leNat (slice h 16 4)
      let img := bytesAt 0xFF s.flash base len
      match parseRecs (len / 8) (img.drop 64) with
      | none => ⟨4, version, [], 0⟩
      | some rs =>
        let digest := Config.sha384 img
        let keys := keysOf (recVal rs 2)
        if !recsOk rs (leNat (slice h 20 4)) then ⟨4, version, rs, 0⟩
        else if !firmwareOk (recVal rs 1) then ⟨7, version, rs, 0⟩
        else if !keysOk s.chip.anchor (recVal rs 2) then ⟨5, version, rs, 0⟩
        else if s.chip.torn.contains i || !imageSigned keys digest (bytesAt 0xFF s.flash (base + len) 104) then ⟨6, version, rs, 0⟩
        else ⟨0, version, rs, digest.toNat⟩

/-- Show what was found in a slot. -/
def State.showSlot (s : State) (i : Nat) (v : SlotView) : State :=
  let s := (s.wr .cfgSlotStatus_valid i (b2n (v.reason == 0))).wr .cfgSlotStatus_reason i v.reason
  s.wr .cfgSlotVersion_version i v.version

/-! Applying an image (R390). -/

/-- The registers that a record of register writes may name (Table 15.5). -/
def inRecord (ty : Nat) (r : Reg) : Bool :=
  let b := r.base
  match ty with
  | 0x10 => match r with
    | .corePortCfg | .corePortStatus | .coreNbrExpect | .coreHelloCfg | .coreEthPcpMap | .corePktCtrl | .corePuntCfg | .dtLearnCfg
    | .dtPortLearn | .timePortCfg => true
    | _ => false
  | 0x11 => match r with
    | .coreAdmCfg | .coreAgeLimit | .coreMarkCfg | .coreEgrCfg | .coreReseqCfg | .voqSpillCfg | .schPortCfg | .schPortStatus
    | .schDrrCfg | .schShape | .schIpol => true
    | _ => false
  | 0x12 => decide (0x440000 ≤ b) && decide (b < 0x4C0000)
  | 0x13 => decide (0x700000 ≤ b) && decide (b < 0x710000)
  | 0x14 => decide (0x500000 ≤ b) && decide (b < 0x520000) && r != .oclStatus
  | 0x15 =>
    (match r with
     | .lgHashSeed | .lpmScrubCfg | .lpmRouterMac | .timeRate | .gwCfg | .cfgLeaseCfg => true
     | _ => false) ||
    (decide (0x600000 ≤ b) && decide (b < 0x630000)) || (decide (0x680000 ≤ b) && decide (b < 0x690000)) ||
    (decide (0x740000 ≤ b) && decide (b < 0x790000))
  | 0x16 =>
    (match r with | .svcGid | .svcCfg => true | _ => false) ||
    (decide (0x540000 ≤ b) && decide (b < 0x550000)) || (decide (0x5C0000 ≤ b) && decide (b < 0x5E0000))
  | _ => false

/-- A record of this type may name the register. -/
def imageMay (ty : Nat) (r : Reg) : Bool :=
  inRecord ty r && r.fields.any (fun f => decide (f.acc = .rw)) && r != .gwMode && r != .timeStep

/-- The write sets a CMD or WO field. -/
def Reg.setsCmd (r : Reg) (val mask : Nat) : Bool :=
  r.fields.any (fun f => (decide (f.acc = .cmd) || decide (f.acc = .wo)) && bits (val &&& mask) f.lo f.fld.width != 0)

/-- A register write of a record, and whether it fails. -/
def State.imageWrite (s : State) (ty off : Nat) (is64 : Bool) (val : Nat) : State × Bool :=
  let bad (o : Nat) : Bool := match srcPlace? .image o with | some p => !imageMay ty p.reg | none => false
  if (srcPlace? .image off).isNone || bad off || (is64 && !whole64 .image off && bad (off + 4)) then (s, true)
  else
    let r := s.access .image off is64 val
    if r.2.any (fun w => w.reg.setsCmd w.val w.mask || r.1.writeFails .image w.reg w.idx w.val w.mask) then (s, true)
    else r.1.writeAll r.2

/-- Entries of a record's value, each of n bytes, applied in order until one fails. -/
def State.eachEntry (s : State) (g : State → List Byte → State × Bool) (n : Nat) : Nat → List Byte → State × Bool
  | 0, _ => (s, false)
  | k + 1, bs =>
    if bs.length < n then (s, false)
    else
      let r := g s (bs.take n)
      if r.2 then r else r.1.eachEntry g n k (bs.drop n)

/-- PERMITS: the bits of GW_PERMIT that the record sets for this part. -/
def State.applyPermits (s : State) (v : List Byte) : State :=
  let id := leNat (slice v 0 8)
  let m := leNat (slice v 8 4)
  if id = 0 ∨ id = Config.deviceId.toNat then
    ((s.when (bitAt m 3) (fun s => s.wr .gwPermit_recovery 0 1)).when (bitAt m 2) (fun s => s.wr .gwPermit_test 0 1)).when
      (bitAt m 1) (fun s => s.wr .gwPermit_startup 0 1)
  else s

/-- IDENT. -/
def State.applyIdent (s : State) (v : List Byte) : State × Bool :=
  let w := leNat (slice v 0 4)
  let g := bits w 0 18
  if !bitAt w 31 then (s, false)
  else if s.isSvcGid g then (s, true)
  else if s.flag .cfgGid_valid 0 then (s.wr .cfgGid_refused 0 1, false)
  else (s.assignGid g, false)

/-- One entry of a TABLES record. -/
def State.applyEntry (s : State) (e : List Byte) : State × Bool :=
  let r := s.tblAct 4 ⟨1, leNat (slice e 0 1), leNat (slice e 4 4), false, leNat (slice e 8 64)⟩
  (r.1, r.2.result != 0 && r.2.result != 7)

/-- LOAD: the bytes go to the address. -/
def State.applyLoad (s : State) (v : List Byte) : State × Bool :=
  let a := leNat (slice v 0 8)
  let bs := v.drop 8
  if a % 64 ≠ 0 ∨ bs.length % 64 ≠ 0 ∨ !s.mapped a bs.length then (s, true) else (s.memPut a bs, false)

/-- One record, and whether it fails. -/
def State.applyRec (s : State) (r : ImgRec) : State × Bool :=
  match r.ty with
  | 0x03 => (s.applyPermits r.val, false)
  | 0x04 => s.applyIdent r.val
  | 0x20 => s.eachEntry State.applyEntry 72 r.val.length r.val
  | 0x21 => s.applyLoad r.val
  | ty =>
    if 0x10 ≤ ty ∧ ty ≤ 0x16 then
      s.eachEntry (fun s e => s.imageWrite ty (leNat (slice e 0 4)) (bitAt (leNat (slice e 4 4)) 0) (leNat (slice e 8 8))) 16 r.val.length r.val
    else (s, false)

/-- The records in order; the index of the record that fails, if one does. -/
def State.applyRecs (s : State) (i : Nat) : List ImgRec → State × Option Nat
  | [] => (s, none)
  | r :: rs =>
    let a := s.applyRec r
    if a.2 then (a.1, some i) else a.1.applyRecs (i + 1) rs

/-! The start-up sequence (R380, R389, R401). -/

/-- A record of the flash log is valid: not blank, and its CRC holds. -/
def recordValid (bs : List Byte) : Bool :=
  bs.any (fun b => b != 0xFF) && leNat (slice bs 28 4) == crc32c (slice bs 0 28 ++ slice bs 32 32)

/-- The record at a place of the log. -/
def State.logAt (s : State) (sector place : Nat) : List Byte := bytesAt 0xFF s.flash (0x3000000 + 0x10000 * sector + 64 * place) 64

/-- The first record of each sector: sector and SEQ of those that are valid. -/
def State.logHeads (s : State) : List (Nat × Nat) :=
  if s.flash.any (fun e => inLog e.1) then
    ((List.range 128).filter (fun k => recordValid (s.logAt k 0))).map (fun k => (k, leNat (slice (s.logAt k 0) 0 8)))
  else []

/-- The newest sector of the log, sector 0 while it holds none. -/
def State.logSector (s : State) : Nat :=
  (s.logHeads.foldl (fun (a : Nat × Nat) e => if a.2 < e.2 then e else a) (0, 0)).1

/-- The log is taken up where it was left: SEQ of the newest valid record, and the place after the last one used (R435, R438). -/
def State.logScan (s : State) : State :=
  if s.flash.any (fun e => inLog e.1) then
    let k := s.logSector
    let recs := (List.range 1024).map (fun p => s.logAt k p)
    let seq := (recs.filter recordValid).foldl (fun a r => max a (leNat (slice r 0 8))) 0
    let used := (List.range 1024).foldl (fun a p => if (nthD recs p []).any (fun b => b != 0xFF) then p + 1 else a) 0
    let at_ := 0x3000000 + 0x10000 * k + 64 * used
    (s.wr .telFaultSeq_seq 0 seq).wr .telLogStatus_next 0 (if at_ < 0x3800000 then at_ else 0x3000000)
  else (s.wr .telFaultSeq_seq 0 0).wr .telLogStatus_next 0 0x3000000

/-- The identity store as the registers show it (R398). -/
def State.showAnchor (s : State) : State :=
  match s.chip.anchor with
  | none => s
  | some a => (List.range 12).foldl (fun s i => s.wr .secOwnerHash_hash i (leNat (slice a (4 * i) 4))) (s.wr .secOwner_bound 0 1)

/-- The part at the ROM step: everything at its reset value but what Table 14.5 keeps, the JTAG port, the outside world and the
draws of free values. TIME_NS counts from 0. -/
def State.romStep (s : State) : State :=
  let t : State := { State.reset with
    pending := s.pending, jtag := s.jtag, flash := s.flash, out := s.out, freeCtr := s.freeCtr,
    tb := { State.reset.tb with counting := true },
    chip := { State.reset.chip with anchor := s.chip.anchor, torn := s.chip.torn } }
  (t.logScan.showAnchor).drawNonce

/-- The slot that R389 chooses first, if one is valid, and whether equal versions differ. -/
def chooseSlot (a b : SlotView) : Option Nat × Bool :=
  match a.reason == 0, b.reason == 0 with
  | true, true => (some (if a.version < b.version then 1 else 0), a.version == b.version && a.digest != b.digest)
  | true, false => (some 0, false)
  | false, true => (some 1, false)
  | false, false => (none, false)

/-- Firmware starts from a slot, and measurements 2 and 3 are those of the slot (R401). -/
def State.takeSlot (s : State) (i : Nat) (v : SlotView) : State :=
  let fwv := recVal v.recs 1
  let n := leNat (slice fwv 8 4)
  let s := s.onChip (fun c => { c with
    chosen := true, keys := keysOf (recVal v.recs 2),
    m2 := (Config.sha384 (slice fwv 0 8 ++ slice fwv 120 n)).toNat,
    m3 := (Config.sha384 (beBytes 48 v.digest ++ leBytes 1 i)).toNat })
  { s with fw := true }.wr .cfgState_slot 0 i

/-- Units that the memory test of step 6 takes out of service. -/
def State.unitsFail (s : State) (units : List (BlockKind × Fin 64)) : State := units.foldl (fun s u => s.failBlock u.1 u.2 0) s

/-- The end of step 9: enabled ports begin to train, blocks with no work are in C1, and the state is JOIN. -/
def State.joins (s : State) : State :=
  let s := ({ (s.dropHeld 4) with started := true }.onChip (fun c => { c with joinAt := s.tb.mono })).setDevState 3
  (s.enabledPorts.foldl State.leaveDown s).idleAll (List.range 64)

/-- No slot serves: SAFE. -/
def State.noImage (s : State) (cause : Nat) : State := { s with fw := false, started := true }.enterSafe cause

/-- Apply the chosen slot, then the other when it is valid (R389, R390). -/
def State.runSlots (s : State) (i : Nat) (v w : SlotView) (units : List (BlockKind × Fin 64)) : State :=
  let s := ((s.takeSlot i v).setDevState 2).unitsFail units
  let a := s.applyRecs 0 v.recs
  match a.2 with
  | none => a.1.joins
  | some q =>
    if w.reason ≠ 0 then (a.1.wr .cfgSlotStatus_reason i 9).noImage 2
    else
      -- the other slot: its firmware, and steps 6 and 7 once more
      let s := { s with freeCtr := a.1.freeCtr }.onChip (fun c => { c with m4 := a.1.chip.m4 })
      let s := (s.wr .cfgSlotStatus_reason i 9).takeSlot (1 - i) w
      let s := (s.event .cfgState .cfgState_applyFallback 0).fault 0x0061 1 [i, q]
      let b := s.applyRecs 0 w.recs
      match b.2 with
      | none => b.1.joins
      | some _ => (b.1.wr .cfgSlotStatus_reason (1 - i) 9).noImage 2

/-- The sequence of Table 15.2, from the ROM step to JOIN or SAFE. -/
def State.startUp (s : State) (found : BootFindings) : State :=
  let s := s.romStep
  let a := s.viewSlot 0 found.readErrA
  let b := s.viewSlot 1 found.readErrB
  let s := ((s.showSlot 0 a).showSlot 1 b).onChip (fun c => { c with torn := [] })
  let c := chooseSlot a b
  let s := s.when c.2 (fun s => (s.event .cfgState .cfgState_slotConflict 0).fault 0x0060 0 [a.version % 2 ^ 32, a.version / 2 ^ 32])
  match c.1 with
  | none => s.noImage 1
  | some i => if i = 0 then s.runSlots 0 a b found.failed else s.runSlots 1 b a found.failed

/-- RESET_N_RELEASE: from OFF, or of the part that has not started. -/
def execResetNRelease (found : BootFindings) (s : State) : Host.Outcome State Fault Refusal :=
  .next { (if s.off || !s.started then s.startUp found else s) with pending := s.pending }

/-- JOIN_EXIT (R391): `waited` says that it comes of the second since JOIN began. -/
def State.joinExits (s : State) (waited : Bool) : State :=
  if !s.off && s.devState == 3 && s.gid?.isSome && ((waited && s.passed s.chip.joinAt 1000000000) || s.enabledPorts.all (fun n => (s.pst n).ended)) then
    s.setDevState (if s.flag .cfgFaultSummary_degraded 0 then 5 else 4)
  else s

/-- JOIN_EXIT. -/
def execJoinExit (waited : Bool) (s : State) : Host.Outcome State Fault Refusal := settle s (s.joinExits waited)

/-! Restart and loss of power (R376, R378, R379, R403, R464, R470). -/

/-- REBOOT: a flash command completes, the log is committed, and the part restarts. CFG_SELFTEST_STATUS keeps its value, but that no
test is running after the restart; a missing SerDes reference stays missing. -/
def State.restart (s : State) (found : BootFindings) : State :=
  let s := (s.flashComplete false).commitLog
  let s := s.syncLow.when (s.flag .pwrStatus_throttling 0) (fun s => s.pin "ALERT_N" true)
  let s := s.when s.chip.tripped (fun s => s.pin "THERMTRIP_N" true)
  let t := s.startUp found
  let t := ((t.wr .cfgSelftestStatus_doneEvent 0 (s.rd .cfgSelftestStatus_doneEvent 0)).wr .cfgSelftestStatus_failed 0
    (s.rd .cfgSelftestStatus_failed 0)).wr .cfgSelftestStatus_progress 0 (s.rd .cfgSelftestStatus_progress 0)
  t.wr .cfgSelftestStatus_errors 0 (s.rd .cfgSelftestStatus_errors 0)

/-- An outcome of a command that may have restarted the part: only the queue of commands is kept. -/
def State.settledR (s t : State) : State := { t with pending := s.pending }
/-- The outcome of a command that may restart the part. -/
def restarted (s t : State) : Host.Outcome State Fault Refusal := .next (s.settledR t)

/-- The value of CFG_CTRL asks for a restart. -/
def rebootAsked (val : Nat) : Bool := bitAt val 31 && bits val 0 16 == 0x5AFE

/-- A write of CFG_CTRL. -/
def State.ctrlWrite (s : State) (src : Src) (val : Nat) (found : BootFindings) : State :=
  if s.accepts src .cfgCtrl 0 then (if rebootAsked val then s.restart found else s) else s.markIgnored src (Reg.cfgCtrl.offset 0)

/-- REBOOT (R379). -/
def execReboot (src : Src) (val : BitVec 32) (found : BootFindings) (s : State) : Host.Outcome State Fault Refusal :=
  restarted s (s.ctrlWrite src val.toNat found)

/-- A PROGRAM or ERASE is cut: its bytes are free, and its slot fails its signature at the next start (R403). -/
def State.cutFlash (s : State) : State :=
  match s.chip.flash with
  | none => s
  | some j =>
    if j.op = 0 then s
    else
      let s := s.flashTorn j.addr j.count
      let i := j.addr / 0x1800000
      s.onChip (fun c => { c with torn := if i < 2 ∧ !c.torn.contains i then i :: c.torn else c.torn })

/-- The outputs while RESET_N or PWR_GOOD is low (R464). -/
def State.holdPins (s : State) : State :=
  let p := [("SYNC_OUT", false), ("DBG_CLK", false), ("DBG_D", false), ("XSPI_CS_N", true), ("XSPI_CLK", false), ("ALERT_N", true),
    ("I3C_SDA", true)]
  p.foldl (fun s x => s.pin x.1 x.2) s

/-- The part enters OFF. THERMTRIP_N is released when RESET_N or PWR_GOOD goes low (R419), and the outputs are held then. -/
def State.powerOff (s : State) (pin : PowerPin) : State :=
  let s := s.cutFlash
  let trip := s.chip.tripped && pin == .rail
  let t : State := { State.reset with
    pending := s.pending, off := true, flash := s.flash, out := s.out, freeCtr := s.freeCtr,
    jtag := if pin = .resetN then s.jtag else State.reset.jtag,
    chip := { State.reset.chip with anchor := s.chip.anchor, torn := s.chip.torn, tripped := trip } }
  if pin = .rail then t
  else t.holdPins.when s.chip.tripped (fun t => t.pin "THERMTRIP_N" true)

/-- POWER_GOOD_LOSS. -/
def execPowerGoodLoss (pin : PowerPin) (s : State) : Host.Outcome State Fault Refusal := restarted s (s.powerOff pin)

/-! The end of a self-test (R397). -/

/-- A self-test ends: what it found, and the units it takes out of service. -/
def State.testEnds (s : State) (full : Bool) (mem failed errors : Nat) (units : List (BlockKind × Fin 64)) : State :=
  let s := s.onChip (fun c => { c with test := none })
  let s := (s.wr .cfgSelftestStatus_failed 0 (if full then failed else failed &&& mem)).wr .cfgSelftestStatus_errors 0 errors
  let s := (s.wr .cfgSelftestStatus_progress 0 100).wr .cfgSelftestStatus_running 0 0
  (s.event .cfgSelftestStatus .cfgSelftestStatus_doneEvent 0).unitsFail units

/-- SELFTEST_COMPLETE: a full test then restarts the part. -/
def execSelftestComplete (failed : BitVec 6) (errors : BitVec 16) (units : List (BlockKind × Fin 64)) (found : BootFindings) (s : State) :
    Host.Outcome State Fault Refusal :=
  match s.chip.test with
  | none => .next s
  | some (full, mem) =>
    let t := s.testEnds full mem failed.toNat errors.toNat units
    if full then restarted s (t.restart found) else settle s t

end Sys2Proof.Machine
end

