-- ==== Sys2Proof/Machine/Registers.lean ====
section
/-! DEFINITION. Register accesses over BAR0 and from a command ring: acceptance, effect within 64 cycles, CFG_SYNC, paired halves
and the MSI-X table (R10, R11, R30 to R35, R379, R445, R447, R449, R475). -/

namespace Sys2Proof.Machine

/-! The MSI-X table (R441; log entry 8). -/

/-- The offset lies in the MSI-X table or the pending bit array. -/
def inMsix (off : Nat) : Bool :=
  (decide (0x7C1000 ≤ off) && decide (off < 0x7C1400)) || (decide (0x7C1800 ≤ off) && decide (off < 0x7C1808))

/-- A write of a dword of the MSI-X table: unmasking a vector with a pending message sends it. -/
def State.msixWrite (s : State) (fn d val : Nat) : State :=
  if 256 ≤ d then s
  else
    let s := s.onMgmt (fun m => { m with msix := sset (if d % 4 = 3 then 1 else 0) m.msix (Nat.pair fn d) val })
    let key := Nat.pair fn (d / 4)
    if d % 4 = 3 ∧ val % 2 = 0 ∧ sget 0 s.mgmt.pba key = 1 then
      (s.onMgmt (fun m => { m with pba := sset 0 m.pba key 0 })).msixSend fn (d / 4)
    else s

/-- A write access within the MSI-X range of a source's function; the pending bit array is read-only. -/
def State.msixAccess (s : State) (src : Src) (off : Nat) (is64 : Bool) (val : Nat) : State :=
  match srcView src with
  | some fn =>
    if s.served off then
      let d := (off - 0x7C1000) / 4
      (s.msixWrite fn d (val % 2 ^ 32)).when is64 (fun s => s.msixWrite fn (d + 1) (val / 2 ^ 32 % 2 ^ 32))
    else s
  | none => s

/-! Acceptance (R10, R30). -/

/-- A write is accepted: it acts at once, or joins the writes in flight. -/
def State.takeWrite (s : State) (w : InWrite) : State :=
  if actsNow w.reg w.val w.mask then s.writeNow w.src w.reg w.idx w.val w.mask
  else if s.accepts w.src w.reg w.idx then s.onAcc (fun a => { a with
    inflight := a.inflight ++ [w],
    later := if a.syncs.contains w.src then sset 0 a.later (w.block) (sget 0 a.later w.block + 1) else a.later })
  else s.markIgnored w.src (w.reg.offset w.idx)

/-- One of the writes is an accepted write of CFG_CTRL that restarts the part. -/
def State.restartsOn (s : State) (ws : List InWrite) : Bool :=
  ws.any (fun w => w.reg == .cfgCtrl && rebootAsked w.val && s.accepts w.src .cfgCtrl 0)

/-- REGISTER_WRITE (R30): a restart finds no read error and no failing unit, which the REBOOT row names. -/
def execRegisterWrite (src : Src) (off : BitVec 26) (is64 : Bool) (val : BitVec 64) (s : State) : Host.Outcome State Fault Refusal :=
  if inMsix off.toNat then settle s (s.msixAccess src off.toNat is64 val.toNat)
  else
    let r := s.access src off.toNat is64 val.toNat
    if r.1.restartsOn r.2 then restarted s (r.1.restart ⟨false, false, []⟩)
    else settleT s (r.2.foldl State.takeWrite r.1)

/-! Taking effect (R30 to R35). -/

/-- The writes in flight with their places in the queue. -/
def State.numbered (s : State) : List (InWrite × Nat) := s.acc.inflight.zipIdx

/-- Two writes are of one source and one block. -/
def sameLane (a b : InWrite) : Bool := a.src == b.src && regBlock (a.reg.offset a.idx) == regBlock (b.reg.offset b.idx)

/-- The picked writes keep the order of each source within each block (R32). -/
def State.picksOk (s : State) (picks : List Nat) : Bool :=
  s.numbered.all (fun w => !picks.contains w.2 ||
    s.numbered.all (fun e => !(decide (e.2 < w.2) && sameLane e.1 w.1) || picks.contains e.2))

/-- A write loses to one of a higher source in the same cycle (R34). -/
def State.beaten (s : State) (ws : List InWrite) (w : InWrite) : Bool :=
  ws.any (fun v => v.reg == w.reg && v.idx == w.idx && decide (s.srcRank v.src < s.srcRank w.src))

/-- Writes in flight take effect in one cycle. -/
def State.takeEffect (s : State) (picks : List Nat) : State :=
  if s.picksOk picks then
    let ws := (s.numbered.filter (fun w => picks.contains w.2)).map (fun w => w.1)
    let rest := (s.numbered.filter (fun w => !picks.contains w.2)).map (fun w => w.1)
    (ws.filter (fun w => !s.beaten ws w)).foldl State.applyIn (s.onAcc (fun a => { a with inflight := rest }))
  else s

/-- WRITE_TAKES_EFFECT. -/
def execWriteTakesEffect (picks : List Nat) (s : State) : Host.Outcome State Fault Refusal := settle s (s.takeEffect picks)

/-- LOWER_HALF_READ (R11): the data of the read is what leaves the part. -/
def execLowerHalfRead (fn : Fin 2) (a : RegRead) (s : State) : Host.Outcome State Fault Refusal :=
  settle s (if s.off then s
    else if a.is64 then (let r := s.read64 fn (a.off.toNat / 8 * 8); r.2.emit (.readData fn (leBytes 8 r.1) false))
    else (let r := s.read32 fn (a.off.toNat / 4 * 4); r.2.emit (.readData fn (leBytes 4 r.1) false)))

/-- CFG_SYNC (R35). -/
def execCfgSync (src : Src) (s : State) : Host.Outcome State Fault Refusal :=
  settle s (s.onWrite src .cfgSync 0 (fun s => s.syncWrite src))

/-- A table command in progress is a source's own. -/
def jobOf (src : Src) (j : TblJob) : Bool :=
  match src with
  | .fn0 => j.by_ == 0 && j.fn == some 0
  | .fn1 => j.by_ == 0 && j.fn == some 1
  | .ring0 => j.by_ == 2
  | .ring1 => j.by_ == 3
  | .image => j.by_ == 4
  | .ctl0 => j.by_ == 1
  | .ctl1 => j.by_ == 1

/-- Writes of a source to a block that are in flight. -/
def State.inflightOf (s : State) (src : Src) (blk : Nat) : Nat := (s.acc.inflight.filter (InWrite.isOf src blk)).length

/-- Every write that a source issued before its CFG_SYNC has taken effect, and every table command. Writes of one source to one
block take effect in order (R32), so no earlier one is left in flight once no more are than it issued later. -/
def State.synced (s : State) (src : Src) : Bool :=
  s.acc.inflight.all (fun w => w.src != src || decide (s.inflightOf src w.block ≤ sget 0 s.acc.later w.block)) &&
    !s.tab.jobs.any (fun j => jobOf src j && decide (j.num < s.acc.mark))

/-- CFG_SYNC ends. -/
def State.syncEnds (s : State) : State :=
  if s.acc.syncs.all s.synced then (s.wr .cfgSync_sync 0 0).onAcc (fun a => { a with syncs := [] }) else s

/-- CFG_SYNC_COMPLETE. -/
def execCfgSyncComplete (s : State) : Host.Outcome State Fault Refusal := settle s s.syncEnds

/-! Register writes of a command ring (R449). -/

/-- A write access of a command ring entry, and whether it was ignored or refused. -/
def State.ringWrite (s : State) (src : Src) (w : RegW) : State × Bool :=
  let off := w.off.toNat
  if inMsix off then (s.msixAccess src off w.is64 w.val.toNat, !s.served off)
  else
    match srcPlace? src off with
    | none => (s, true)
    | some p =>
      let r := s.access src off w.is64 w.val.toNat
      let t := r.1.writeAll r.2
      (t.1, t.2 || !(s.accepts src p.reg p.idx || (p.reg == .promCmd && s.takesDrop src w.val.toNat)))

/-- The register writes of an entry in order, until one restarts the part: the state, whether any was ignored or refused, and
whether the part restarts. -/
def State.ringWrites (s : State) (src : Src) (bad : Bool) : List RegW → State × Bool × Bool
  | [] => (s, bad, false)
  | w :: ws =>
    let r := s.access src w.off.toNat w.is64 w.val.toNat
    if r.1.restartsOn r.2 then (r.1.restart ⟨false, false, []⟩, bad, true)
    else
      let t := s.ringWrite src w
      t.1.ringWrites src (bad || t.2) ws

/-- CMD_REG_WRITE: an entry of one to seven register writes. -/
def execCmdRegWrite (fn : Fin 2) (complete : Bool) (seq : BitVec 32) (writes : List RegW) (s : State) :
    Host.Outcome State Fault Refusal :=
  if s.cmdFetch fn && decide (1 ≤ writes.length) && decide (writes.length ≤ 7) then
    let r := (s.cmdTaken fn).ringWrites (ringSrc fn) false writes
    if r.2.2 then restarted s r.1
    else settleT s (r.1.when complete (fun s => s.complete fn seq.toNat (b2n r.2.1)))
  else .next s

end Sys2Proof.Machine
end

