-- ==== Sys2Proof/Machine/Sideband.lean ====
section
/-! DEFINITION. The I3C sideband and JTAG (R392, R453 to R458). -/

namespace Sys2Proof.Machine

/-! The I3C target (R453, R454, R456). -/

/-- What an I3C command leaves as it was: the queue, the time base and JTAG. -/
def State.settledI (s t : State) : State := { t with pending := s.pending, tb := s.tb, jtag := s.jtag }
/-- The outcome of a sideband command. -/
def settleI (s t : State) : Host.Outcome State Fault Refusal := .next (s.settledI t)

/-- Change the I3C target. -/
def State.onI3c (s : State) (g : I3c → I3c) : State := { s with i3c := g s.i3c }

/-- The target can be reached: not in OFF, and its lands not held by the boundary chain. -/
def State.i3cUp (s : State) : Bool := !s.off && !s.landsHeld

/-- A pending IBI is sent before the bus's next command (log entry 9). -/
def State.sendIbi (s : State) : State :=
  match s.mgmt.ibi with
  | some c =>
    if s.i3c.ibiEn && s.i3c.da.isSome then (s.emit (.ibi c)).onMgmt (fun m => { m with ibi := none }) else s
  | none => s

/-- A broadcast command: the target takes it with or without an address. -/
def State.broadcast (s : State) (g : State → State) : State := if s.i3cUp then g s.sendIbi else s

/-- A direct or private command: without a dynamic address the target does not answer it. -/
def State.addressed (s : State) (g : State → State) : State :=
  if !s.i3cUp then s else if s.i3c.da.isSome then g s.sendIbi else s.emit .i3cNak

/-- A command in its broadcast or its direct form. -/
def State.ccc (s : State) (direct : Bool) (g : State → State) : State := if direct then s.addressed g else s.broadcast g

/-- The bytes that ENTDAA sends: the provisioned ID, BCR and DCR (log entry 10). -/
def daaBytes : List Byte := beBytes 6 Config.i3cPid.toNat ++ [0x06, 0x00]

/-- ENTDAA: a target without an address takes the one given. -/
def execEntdaa (da : BitVec 7) (s : State) : Host.Outcome State Fault Refusal :=
  settleI s (s.broadcast (fun s =>
    if s.i3c.da.isSome then s else (s.emit (.i3c daaBytes)).onI3c (fun x => { x with da := some da })))

/-- RSTDAA. -/
def execRstdaa (s : State) : Host.Outcome State Fault Refusal := settleI s (s.broadcast (fun s => s.onI3c (fun x => { x with da := none })))

/-- ENEC. -/
def execEnec (direct : Bool) (s : State) : Host.Outcome State Fault Refusal :=
  settleI s (s.ccc direct (fun s => s.onI3c (fun x => { x with ibiEn := true })))

/-- DISEC: an IBI still pending is not sent. -/
def execDisec (direct : Bool) (s : State) : Host.Outcome State Fault Refusal :=
  settleI s (s.ccc direct (fun s => (s.onI3c (fun x => { x with ibiEn := false })).onMgmt (fun m => { m with ibi := none })))

/-- GETPID, GETBCR, GETDCR. -/
def execGetpid (s : State) : Host.Outcome State Fault Refusal :=
  settleI s (s.addressed (fun s => s.emit (.i3c (beBytes 6 Config.i3cPid.toNat))))
def execGetbcr (s : State) : Host.Outcome State Fault Refusal := settleI s (s.addressed (fun s => s.emit (.i3c [0x06])))
def execGetdcr (s : State) : Host.Outcome State Fault Refusal := settleI s (s.addressed (fun s => s.emit (.i3c [0x00])))

/-- GETSTATUS: two bytes whose content the specification leaves to I3C. -/
def execGetstatus (s : State) : Host.Outcome State Fault Refusal :=
  settleI s (s.addressed (fun s => (let r := s.free 30 (2 ^ 16); r.2.emit (.i3c (beBytes 2 r.1)))))

/-- GETMWL, and GETMRL with the one byte of an IBI's payload. -/
def execGetmwl (s : State) : Host.Outcome State Fault Refusal := settleI s (s.addressed (fun s => s.emit (.i3c (beBytes 2 s.i3c.mwl))))
def execGetmrl (s : State) : Host.Outcome State Fault Refusal :=
  settleI s (s.addressed (fun s => s.emit (.i3c (beBytes 2 s.i3c.mrl ++ [1]))))

/-- A maximum length as it is used: no more than the part's own, no less than its commands need (R454). -/
def lenUsed (lo hi n : Nat) : Nat := max lo (min hi n)

/-- SETMWL, SETMRL. -/
def execSetmwl (direct : Bool) (len : BitVec 16) (s : State) : Host.Outcome State Fault Refusal :=
  settleI s (s.ccc direct (fun s => s.onI3c (fun x => { x with mwl := lenUsed 8 16 len.toNat })))
def execSetmrl (direct : Bool) (len : BitVec 16) (s : State) : Host.Outcome State Fault Refusal :=
  settleI s (s.ccc direct (fun s => s.onI3c (fun x => { x with mrl := lenUsed 24 32 len.toNat })))

/-- The target's own reset. -/
def State.i3cReset (s : State) : State := { s with i3c := State.reset.i3c }.onMgmt (fun m => { m with ibi := none })

/-- RSTACT: 0x00 resets nothing, 0x01 the target alone; any other defining byte is refused. -/
def execRstact (direct : Bool) (defByte : BitVec 8) (s : State) : Host.Outcome State Fault Refusal :=
  settleI s (s.ccc direct (fun s =>
    if defByte = 0x00 then s else if defByte = 0x01 then s.i3cReset else s.when direct (fun s => s.emit .i3cNak)))

/-- The codes of the direct commands of Table 18.6 (log entry 10). -/
def directCccs : List Nat := [0x80, 0x81, 0x89, 0x8A, 0x8B, 0x8C, 0x8D, 0x8E, 0x8F, 0x90, 0x9A]

/-- I3C_UNSUPPORTED_CCC. -/
def execI3cUnsupportedCcc (ccc : BitVec 8) (s : State) : Host.Outcome State Fault Refusal :=
  settleI s (if s.i3cUp && !directCccs.contains ccc.toNat then s.sendIbi.emit .i3cNak else s)

/-! Private commands (R455). -/

/-- The answer of a private command, which the next private read returns. -/
def State.i3cAnswer (s : State) (status : Nat) (data : List Byte) : State :=
  s.onI3c (fun x => { x with resp := some (leBytes 1 status ++ data) })

/-- A 32-bit value of BAR0 as the sideband reads it: no half is latched. -/
def State.peek32 (s : State) (fn off : Nat) : Nat :=
  if !s.served off then 0
  else match (s.unitAt fn off).1 with
    | none => (s.unitAt fn off).2
    | some (base, v) => if off = base then v % 2 ^ 32 else v / 2 ^ 32 % 2 ^ 32

/-- Offsets that READ_REG reaches. -/
def i3cReach (off : Nat) : Bool :=
  off % 4 == 0 &&
  (off / 0x10000 == 0x10 || off / 0x10000 == 0x6C || off / 0x10000 == 0x68 || off / 0x10000 == 0x70 ||
   (decide (0x740000 ≤ off) && decide (off < 0x790000)) || (decide (0x2000000 ≤ off) && decide (off < 0x3000000)))

/-- READ_REG. Where a register shows each function its own value, whose value is read is free. -/
def State.i3cRead (s : State) (off : Nat) : State :=
  if !i3cReach off then s.i3cAnswer 3 []
  else
    let own := off == 0x100060 || off == 0x10006C
    let r := if own then s.free 31 2 else (0, s)
    r.2.i3cAnswer 0 (leBytes 4 (s.peek32 r.1 off))

/-- I3C_READ_REG. -/
def execI3cReadReg (off : BitVec 32) (s : State) : Host.Outcome State Fault Refusal :=
  settleI s (s.addressed (fun s => s.i3cRead off.toNat))

/-- The 20 bytes of HEALTH (Table 18.7). -/
def State.healthBytes (s : State) : List Byte :=
  let f (x : Fld) : Nat := if s.fw then s.readField 0 x 0 else 0
  leBytes 4 (s.readReg 0 .cfgState 0) ++ leBytes 4 (s.readReg 0 .cfgFaultSummary 0) ++ leBytes 4 (s.peek32 0 (Reg.fenStatus.offset 0)) ++
  leBytes 2 (f .pwrStatus_pkgW % 2 ^ 12) ++ leBytes 1 (f .pwrStatus_tHot) ++
  leBytes 1 (f .pwrStatus_throttling + 2 * f .pwrStatus_limitLow + 4 * f .pwrStatus_sensorFail) ++
  leBytes 4 (f .telFaultSeq_seq % 2 ^ 32)

/-- I3C_HEALTH. -/
def execI3cHealth (s : State) : Host.Outcome State Fault Refusal :=
  settleI s (s.addressed (fun s => s.i3cAnswer 0 s.healthBytes))

/-- I3C_SET_GID (R392). -/
def State.i3cGid (s : State) (g : Nat) : State :=
  if s.gidRefused g then (s.wr .cfgGid_refused 0 1).i3cAnswer 2 [] else (s.assignGid g).i3cAnswer 0 []

def execI3cSetGid (gid : BitVec 24) (s : State) : Host.Outcome State Fault Refusal :=
  settleI s (s.addressed (fun s => s.i3cGid (gid.toNat % 2 ^ 18)))

/-- I3C_REBOOT: acts as CFG_CTRL.REBOOT; any other key is refused. -/
def execI3cReboot (key : BitVec 16) (found : BootFindings) (s : State) : Host.Outcome State Fault Refusal :=
  if s.i3cUp && s.i3c.da.isSome && key == 0x5AFE then restarted s (s.sendIbi.restart found)
  else settleI s (s.addressed (fun s => s.i3cAnswer 2 []))

/-- I3C_PRIVATE_READ: the answer of the last command; with none there is nothing to return. -/
def execI3cPrivateRead (s : State) : Host.Outcome State Fault Refusal :=
  settleI s (s.addressed (fun s => match s.i3c.resp with
    | some bs => s.emit (.i3c bs)
    | none => s.emit .i3cNak))

/-- I3C_BAD_CMD: a command byte that Table 18.7 does not list. -/
def execI3cBadCmd (cmd : BitVec 8) (s : State) : Host.Outcome State Fault Refusal :=
  settleI s (if decide (1 ≤ cmd.toNat) && decide (cmd.toNat ≤ 4) then s else s.addressed (fun s => s.i3cAnswer 1 []))

/-! JTAG (R458). -/

/-- What a JTAG instruction leaves as it was: the queue, the time base and the sideband. -/
def State.settledJ (s t : State) : State := { t with pending := s.pending, tb := s.tb, i3c := s.i3c }
/-- The outcome of a JTAG command. -/
def settleJ (s t : State) : Host.Outcome State Fault Refusal := .next (s.settledJ t)

/-- The instruction in force. -/
def State.jtagTakes (s : State) (i : JtagInstr) : State := { s with jtag := { s.jtag with instr := i } }

/-- The bypass register shifts out one 0. -/
def State.jtagBypassed (s : State) : State := (s.jtagTakes .bypass).emit (.jtag 1 0)

/-- The identification code. -/
def idcode : Nat := 0x5120 * 2 ^ 12 + Config.jep106.toNat * 2 + 1

/-- JTAG_BYPASS, JTAG_IDCODE, JTAG_SAMPLE_PRELOAD. -/
def execJtagBypass (s : State) : Host.Outcome State Fault Refusal := settleJ s s.jtagBypassed
def execJtagIdcode (s : State) : Host.Outcome State Fault Refusal := settleJ s ((s.jtagTakes .idcode).emit (.jtag 32 idcode))
def execJtagSamplePreload (pins load : BitVec 38) (s : State) : Host.Outcome State Fault Refusal :=
  settleJ s (let t := (s.jtagTakes .sample).emit (.jtag 38 pins.toNat)
    { t with jtag := { t.jtag with boundary := load } })

/-- JTAG_EXTEST, JTAG_CLAMP, JTAG_HIGHZ. -/
def execJtagExtest (s : State) : Host.Outcome State Fault Refusal := settleJ s ((s.jtagTakes .extest).emit (.lands s.jtag.boundary.toNat))
def execJtagClamp (s : State) : Host.Outcome State Fault Refusal :=
  settleJ s (((s.jtagTakes .clamp).emit (.lands s.jtag.boundary.toNat)).emit (.jtag 1 0))
def execJtagHighz (s : State) : Host.Outcome State Fault Refusal := settleJ s (((s.jtagTakes .highz).emit .landsHighZ).emit (.jtag 1 0))

/-- JTAG_INTERNAL: BYPASS while ENABLE bit 1 is 0; the specification gives the instructions no effect while it is 1. -/
def execJtagInternal (instr : BitVec 8) (s : State) : Host.Outcome State Fault Refusal :=
  if instr.toNat < 0x80 ∨ instr.toNat = 0xFF then .next s
  else if bitAt (s.rd .secDbgCtrl_enable 0) 1 then .refused .debugUnit
  else settleJ s s.jtagBypassed

/-! The debug port (R457). -/

/-- The word that DBG_D carries for the group selected (Table 18.8): 0 while the port is disabled, for group 0 and for groups the table
does not list (log entry 36). -/
def State.debugWord (s : State) : BitVec 16 :=
  let g := s.rd .dbgSel_group 0
  if !bitAt (s.rd .secDbgCtrl_enable 0) 0 then 0
  else if (0x10 ≤ g ∧ g < 0x18) ∨ (0x20 ≤ g ∧ g < 0x28) then BitVec.ofNat 16 s.sw.shown
  else if g = 0x30 then
    let budget := min s.pkgLimit s.thermLimit - s.rd .pwrStatus_floorW 0 - 40 - s.rd .pwrStatus_hbmW 0
    BitVec.ofNat 16 (budget / 8 % 256 * 256 + s.rd .pwrStatus_floorW 0 / 4 % 256)
  else if g = 0x40 then BitVec.ofNat 16 (s.now % 65536)
  else 0

end Sys2Proof.Machine
end

