-- ==== Sys2Proof/Machine/Dispatch.lean ====
section
/-! DEFINITION. The dispatch: one arm per command, each a direct call of its meaning. -/

namespace Sys2Proof.Machine

/-- The effect of a command on everything but the queue. -/
def exec (i : Instr) (s : State) : Host.Outcome State Fault Refusal :=
  match i with
  | .registerWrite src off is64 val => Sys2Proof.Machine.execRegisterWrite src off is64 val s
  | .writeTakesEffect picks => Sys2Proof.Machine.execWriteTakesEffect picks s
  | .lowerHalfRead fn r => Sys2Proof.Machine.execLowerHalfRead fn r s
  | .cfgSync src => Sys2Proof.Machine.execCfgSync src s
  | .cfgSyncComplete => Sys2Proof.Machine.execCfgSyncComplete s
  | .ctlFailover core => Sys2Proof.Machine.execCtlFailover core s
  | .blockFailed kind num cause => Sys2Proof.Machine.execBlockFailed kind num cause s
  | .blockWatchdogExpiry kind num => Sys2Proof.Machine.execBlockWatchdogExpiry kind num s
  | .regionFailed k cause => Sys2Proof.Machine.execRegionFailed k cause s
  | .hbmStackFailed j => Sys2Proof.Machine.execHbmStackFailed j s
  | .chipFatal cause => Sys2Proof.Machine.execChipFatal cause s
  | .uncorrectableCodeword site => Sys2Proof.Machine.execUncorrectableCodeword site s
  | .tableEntryReload table index k => Sys2Proof.Machine.execTableEntryReload table index k s
  | .packetHeaderReceived port p start => Sys2Proof.Machine.execPacketHeaderReceived port p start s
  | .packetReceiveComplete port exp rxLen fecOk => Sys2Proof.Machine.execPacketReceiveComplete port exp rxLen fecOk s
  | .segmentBytesArrived port exp => Sys2Proof.Machine.execSegmentBytesArrived port exp s
  | .ethFrameReceived port bytes fcsOk => Sys2Proof.Machine.execEthFrameReceived port bytes fcsOk s
  | .ethEncapReceived pos => Sys2Proof.Machine.execEthEncapReceived pos s
  | .responseReceived pos => Sys2Proof.Machine.execResponseReceived pos s
  | .mgmtReceived pos => Sys2Proof.Machine.execMgmtReceived pos s
  | .puntDeliver => Sys2Proof.Machine.execPuntDeliver s
  | .portCfgWrite src n val => Sys2Proof.Machine.execPortCfgWrite src n val s
  | .lanePowerupWaitExpiry n => Sys2Proof.Machine.execLanePowerupWaitExpiry n s
  | .trainingBackoffExpiry n => Sys2Proof.Machine.execTrainingBackoffExpiry n s
  | .trainingPhaseTimeout n phase deskew => Sys2Proof.Machine.execTrainingPhaseTimeout n phase deskew s
  | .trainingSuccess n lanes lrx => Sys2Proof.Machine.execTrainingSuccess n lanes lrx s
  | .lossOfLink n cause => Sys2Proof.Machine.execLossOfLink n cause s
  | .laneFailed lane cause => Sys2Proof.Machine.execLaneFailed lane cause s
  | .helloTxTimer n => Sys2Proof.Machine.execHelloTxTimer n s
  | .helloReceived pos => Sys2Proof.Machine.execHelloReceived pos s
  | .helloTimeout n => Sys2Proof.Machine.execHelloTimeout n s
  | .fastRetrain n => Sys2Proof.Machine.execFastRetrain n s
  | .drainComplete n => Sys2Proof.Machine.execDrainComplete n s
  | .drainTimeout n => Sys2Proof.Machine.execDrainTimeout n s
  | .laneTestStart src val => Sys2Proof.Machine.execLaneTestStart src val s
  | .laneTestComplete pass => Sys2Proof.Machine.execLaneTestComplete pass s
  | .moduleInserted slot kind rev power => Sys2Proof.Machine.execModuleInserted slot kind rev power s
  | .moduleReady slot apps => Sys2Proof.Machine.execModuleReady slot apps s
  | .moduleReadyTimeout slot => Sys2Proof.Machine.execModuleReadyTimeout slot s
  | .moduleRemoved slot => Sys2Proof.Machine.execModuleRemoved slot s
  | .modulePoll slot monitors flags => Sys2Proof.Machine.execModulePoll slot monitors flags s
  | .moduleInterrupt slot flags => Sys2Proof.Machine.execModuleInterrupt slot flags s
  | .moduleAccess src val => Sys2Proof.Machine.execModuleAccess src val s
  | .moduleAccessComplete ack data => Sys2Proof.Machine.execModuleAccessComplete ack data s
  | .moduleAccessTimeout => Sys2Proof.Machine.execModuleAccessTimeout s
  | .srefLost k => Sys2Proof.Machine.execSrefLost k s
  | .srefRestored k => Sys2Proof.Machine.execSrefRestored k s
  | .tblRead src table index => Sys2Proof.Machine.execTblRead src table index s
  | .tblWrite src table index => Sys2Proof.Machine.execTblWrite src table index s
  | .tblInvalidate src table index => Sys2Proof.Machine.execTblInvalidate src table index s
  | .tblSearch src table index => Sys2Proof.Machine.execTblSearch src table index s
  | .tblInsertSorted src table index => Sys2Proof.Machine.execTblInsertSorted src table index s
  | .tblDeleteSorted src table index => Sys2Proof.Machine.execTblDeleteSorted src table index s
  | .tblLearnFlush src table all index => Sys2Proof.Machine.execTblLearnFlush src table all index s
  | .tableCommandComplete => Sys2Proof.Machine.execTableCommandComplete s
  | .learnApply => Sys2Proof.Machine.execLearnApply s
  | .learnWindowBoundary => Sys2Proof.Machine.execLearnWindowBoundary s
  | .lpmScrubSlot k slot => Sys2Proof.Machine.execLpmScrubSlot k slot s
  | .reelSlot => Sys2Proof.Machine.execReelSlot s
  | .segmentArriveIntermediate pos => Sys2Proof.Machine.execSegmentArriveIntermediate pos s
  | .segmentArriveResequencer pos => Sys2Proof.Machine.execSegmentArriveResequencer pos s
  | .skipNoticeReceived pos => Sys2Proof.Machine.execSkipNoticeReceived pos s
  | .reseqTimeout d src c mc => Sys2Proof.Machine.execReseqTimeout d src c mc s
  | .spillRefill src d c => Sys2Proof.Machine.execSpillRefill src d c s
  | .ageSweep => Sys2Proof.Machine.execAgeSweep s
  | .schedulerDecision port => Sys2Proof.Machine.execSchedulerDecision port s
  | .packetTxEnd e => Sys2Proof.Machine.execPacketTxEnd e s
  | .expressCutPoint port => Sys2Proof.Machine.execExpressCutPoint port s
  | .underrun port => Sys2Proof.Machine.execUnderrun port s
  | .gateCycleArm src => Sys2Proof.Machine.execGateCycleArm src s
  | .gateCycleStop src val => Sys2Proof.Machine.execGateCycleStop src val s
  | .gateCycleBoundary => Sys2Proof.Machine.execGateCycleBoundary s
  | .syncOutPulseEnd => Sys2Proof.Machine.execSyncOutPulseEnd s
  | .gateEntryChange port => Sys2Proof.Machine.execGateEntryChange port s
  | .gateCommit src port val => Sys2Proof.Machine.execGateCommit src port val s
  | .gateListWrite src port bank entry val => Sys2Proof.Machine.execGateListWrite src port bank entry val s
  | .syncInEdge => Sys2Proof.Machine.execSyncInEdge s
  | .timeClkTick => Sys2Proof.Machine.execTimeClkTick s
  | .timeStep src d => Sys2Proof.Machine.execTimeStep src d s
  | .oclFrame slot up => Sys2Proof.Machine.execOclFrame slot up s
  | .ringLoopUpdate lane rx => Sys2Proof.Machine.execRingLoopUpdate lane rx s
  | .pilotWindow slot chan rx => Sys2Proof.Machine.execPilotWindow slot chan rx s
  | .ringSweepComplete lane rx found => Sys2Proof.Machine.execRingSweepComplete lane rx found s
  | .chanCfgWrite src n val => Sys2Proof.Machine.execChanCfgWrite src n val s
  | .calibrationStart => Sys2Proof.Machine.execCalibrationStart s
  | .calHoldExpiry n => Sys2Proof.Machine.execCalHoldExpiry n s
  | .calibrationEnd codes tx seen => Sys2Proof.Machine.execCalibrationEnd codes tx seen s
  | .peerWaitExpiry n => Sys2Proof.Machine.execPeerWaitExpiry n s
  | .peerSignalArrival n => Sys2Proof.Machine.execPeerSignalArrival n s
  | .planArm src => Sys2Proof.Machine.execPlanArm src s
  | .planDrainLead => Sys2Proof.Machine.execPlanDrainLead s
  | .planActivate => Sys2Proof.Machine.execPlanActivate s
  | .retuneSettled n => Sys2Proof.Machine.execRetuneSettled n s
  | .linePowerWindow region n => Sys2Proof.Machine.execLinePowerWindow region n s
  | .recapture src slot => Sys2Proof.Machine.execRecapture src slot s
  | .spareSettled n ok => Sys2Proof.Machine.execSpareSettled n ok s
  | .cvtStep src st => Sys2Proof.Machine.execCvtStep src st s
  | .amaxExchange st => Sys2Proof.Machine.execAmaxExchange st s
  | .cvtQclr src st => Sys2Proof.Machine.execCvtQclr src st s
  | .accuracyCheck k => Sys2Proof.Machine.execAccuracyCheck k s
  | .instStart src inst => Sys2Proof.Machine.execInstStart src inst s
  | .instAbort src inst => Sys2Proof.Machine.execInstAbort src inst s
  | .instRead src inst => Sys2Proof.Machine.execInstRead src inst s
  | .instClearFlags src inst => Sys2Proof.Machine.execInstClearFlags src inst s
  | .instSignal src inst ctr => Sys2Proof.Machine.execInstSignal src inst ctr s
  | .descriptorIssue inst => Sys2Proof.Machine.execDescriptorIssue inst s
  | .engineSeekWork eng => Sys2Proof.Machine.execEngineSeekWork eng s
  | .tileComplete eng => Sys2Proof.Machine.execTileComplete eng s
  | .xfeRetryTimeout k psn => Sys2Proof.Machine.execXfeRetryTimeout k psn s
  | .utilWindow k block region net hbm waited => Sys2Proof.Machine.execUtilWindow k block region net hbm waited s
  | .svcGidWrite src g val => Sys2Proof.Machine.execSvcGidWrite src g val s
  | .svcReqReceived pos => Sys2Proof.Machine.execSvcReqReceived pos s
  | .assemblyTimeout sv sgid msgid => Sys2Proof.Machine.execAssemblyTimeout sv sgid msgid s
  | .refusalRecordExpiry sv sgid msgid => Sys2Proof.Machine.execRefusalRecordExpiry sv sgid msgid s
  | .joinWindowExpiry sv => Sys2Proof.Machine.execJoinWindowExpiry sv s
  | .groupStart sv => Sys2Proof.Machine.execGroupStart sv s
  | .runLimitExpiry inst => Sys2Proof.Machine.execRunLimitExpiry inst s
  | .svcLoad src size => Sys2Proof.Machine.execSvcLoad src size s
  | .svcLoadComplete => Sys2Proof.Machine.execSvcLoadComplete s
  | .serviceBuildComplete sv => Sys2Proof.Machine.execServiceBuildComplete sv s
  | .steer pos => Sys2Proof.Machine.execSteer pos s
  | .claim pos => Sys2Proof.Machine.execClaim pos s
  | .gateAnswer pos => Sys2Proof.Machine.execGateAnswer pos s
  | .gateTimeout inst => Sys2Proof.Machine.execGateTimeout inst s
  | .redContribAtHome pos => Sys2Proof.Machine.execRedContribAtHome pos s
  | .redTimeout lb group chunk => Sys2Proof.Machine.execRedTimeout lb group chunk s
  | .redResultLeft lb group chunk => Sys2Proof.Machine.execRedResultLeft lb group chunk s
  | .redGraceExpiry lb group chunk => Sys2Proof.Machine.execRedGraceExpiry lb group chunk s
  | .redFenceScan => Sys2Proof.Machine.execRedFenceScan s
  | .commonsWrite pos => Sys2Proof.Machine.execCommonsWrite pos s
  | .commonsRead pos => Sys2Proof.Machine.execCommonsRead pos s
  | .commonsAtomic pos => Sys2Proof.Machine.execCommonsAtomic pos s
  | .commonsBatchApply line => Sys2Proof.Machine.execCommonsBatchApply line s
  | .cmnClear src regions => Sys2Proof.Machine.execCmnClear src regions s
  | .cmnClearComplete => Sys2Proof.Machine.execCmnClearComplete s
  | .promChunkReceived pos => Sys2Proof.Machine.execPromChunkReceived pos s
  | .promRepairReceived pos => Sys2Proof.Machine.execPromRepairReceived pos s
  | .promQuery src obj => Sys2Proof.Machine.execPromQuery src obj s
  | .promFetch src obj => Sys2Proof.Machine.execPromFetch src obj s
  | .promFetchRepeat => Sys2Proof.Machine.execPromFetchRepeat s
  | .promFetchDone => Sys2Proof.Machine.execPromFetchDone s
  | .promDrop src obj => Sys2Proof.Machine.execPromDrop src obj s
  | .promDropAll src => Sys2Proof.Machine.execPromDropAll src s
  | .gwModeWrite src val => Sys2Proof.Machine.execGwModeWrite src val s
  | .memLoad pos => Sys2Proof.Machine.execMemLoad pos s
  | .memStore pos => Sys2Proof.Machine.execMemStore pos s
  | .gwCoalesceExpiry k buf => Sys2Proof.Machine.execGwCoalesceExpiry k buf s
  | .gwRequestComplete k psn => Sys2Proof.Machine.execGwRequestComplete k psn s
  | .gwNack k psn => Sys2Proof.Machine.execGwNack k psn s
  | .gwTimeout k psn => Sys2Proof.Machine.execGwTimeout k psn s
  | .scoreRecover => Sys2Proof.Machine.execScoreRecover s
  | .voteRound => Sys2Proof.Machine.execVoteRound s
  | .healthReceived pos => Sys2Proof.Machine.execHealthReceived pos s
  | .voteExpiry spine gid => Sys2Proof.Machine.execVoteExpiry spine gid s
  | .rackReportExpiry port gid => Sys2Proof.Machine.execRackReportExpiry port gid s
  | .fenceWindowExpiry => Sys2Proof.Machine.execFenceWindowExpiry s
  | .fenceReceived pos => Sys2Proof.Machine.execFenceReceived pos s
  | .fenceReqReceived pos => Sys2Proof.Machine.execFenceReqReceived pos s
  | .fenQuery src gid => Sys2Proof.Machine.execFenQuery src gid s
  | .fenFence src gid => Sys2Proof.Machine.execFenFence src gid s
  | .fenReadmit src gid => Sys2Proof.Machine.execFenReadmit src gid s
  | .fenSuspectRead src num => Sys2Proof.Machine.execFenSuspectRead src num s
  | .fenSuspectDrop src gid => Sys2Proof.Machine.execFenSuspectDrop src gid s
  | .stormClear src => Sys2Proof.Machine.execStormClear src s
  | .readmitHoldExpiry gid => Sys2Proof.Machine.execReadmitHoldExpiry gid s
  | .fenPortClear src n => Sys2Proof.Machine.execFenPortClear src n s
  | .powerGoodLoss pin => Sys2Proof.Machine.execPowerGoodLoss pin s
  | .resetNRelease found => Sys2Proof.Machine.execResetNRelease found s
  | .joinExit waited => Sys2Proof.Machine.execJoinExit waited s
  | .reboot src val found => Sys2Proof.Machine.execReboot src val found s
  | .cfgGidWrite src val => Sys2Proof.Machine.execCfgGidWrite src val s
  | .flashRead src count => Sys2Proof.Machine.execFlashRead src count s
  | .flashProgram src count => Sys2Proof.Machine.execFlashProgram src count s
  | .flashErase src => Sys2Proof.Machine.execFlashErase src s
  | .flashCommandComplete devErr => Sys2Proof.Machine.execFlashCommandComplete devErr s
  | .selftestStart src val => Sys2Proof.Machine.execSelftestStart src val s
  | .selftestComplete failed errors units found => Sys2Proof.Machine.execSelftestComplete failed errors units found s
  | .ownerBind src => Sys2Proof.Machine.execOwnerBind src s
  | .debugSubmit src => Sys2Proof.Machine.execDebugSubmit src s
  | .getVersion fn => Sys2Proof.Machine.execGetVersion fn s
  | .getCapabilities fn => Sys2Proof.Machine.execGetCapabilities fn s
  | .negotiateAlgorithms fn sha384 extAsym => Sys2Proof.Machine.execNegotiateAlgorithms fn sha384 extAsym s
  | .getDigests fn => Sys2Proof.Machine.execGetDigests fn s
  | .getCertificate fn slot off len => Sys2Proof.Machine.execGetCertificate fn slot off len s
  | .challenge fn slot nonce => Sys2Proof.Machine.execChallenge fn slot nonce s
  | .getMeasurements fn index sign nonce => Sys2Proof.Machine.execGetMeasurements fn index sign nonce s
  | .perstAssert fn => Sys2Proof.Machine.execPerstAssert fn s
  | .arbiterInterval switchW hbmW pkgW req => Sys2Proof.Machine.execArbiterInterval switchW hbmW pkgW req s
  | .thermalTick readings => Sys2Proof.Machine.execThermalTick readings s
  | .thermtrip sensor => Sys2Proof.Machine.execThermtrip sensor s
  | .idleC2Timer c => Sys2Proof.Machine.execIdleC2Timer c s
  | .idleC3Timer k => Sys2Proof.Machine.execIdleC3Timer k s
  | .idleC4Timer k => Sys2Proof.Machine.execIdleC4Timer k s
  | .wakeComplete u => Sys2Proof.Machine.execWakeComplete u s
  | .hbmSelfRefresh j => Sys2Proof.Machine.execHbmSelfRefresh j s
  | .telSnap src => Sys2Proof.Machine.execTelSnap src s
  | .autoSnapshot => Sys2Proof.Machine.execAutoSnapshot s
  | .snapshotComplete => Sys2Proof.Machine.execSnapshotComplete s
  | .telClear src g => Sys2Proof.Machine.execTelClear src g s
  | .telemetryWindowRead pos => Sys2Proof.Machine.execTelemetryWindowRead pos s
  | .scrubRead mem k found => Sys2Proof.Machine.execScrubRead mem k found s
  | .logCommit => Sys2Proof.Machine.execLogCommit s
  | .leaseAcquire fn => Sys2Proof.Machine.execLeaseAcquire fn s
  | .leaseRenew fn => Sys2Proof.Machine.execLeaseRenew fn s
  | .leaseRelease fn => Sys2Proof.Machine.execLeaseRelease fn s
  | .leaseTermExpiry => Sys2Proof.Machine.execLeaseTermExpiry s
  | .pcieLinkDown fn => Sys2Proof.Machine.execPcieLinkDown fn s
  | .functionLevelReset fn => Sys2Proof.Machine.execFunctionLevelReset fn s
  | .bar2Write fn off data => Sys2Proof.Machine.execBar2Write fn off data s
  | .bar2Read fn off len ue => Sys2Proof.Machine.execBar2Read fn off len ue s
  | .ringEnable fn r val => Sys2Proof.Machine.execRingEnable fn r val s
  | .ringHostIdxWrite fn r val => Sys2Proof.Machine.execRingHostIdxWrite fn r val s
  | .cmdRegWrite fn complete seq writes => Sys2Proof.Machine.execCmdRegWrite fn complete seq writes s
  | .cmdTable fn complete seq cmd data => Sys2Proof.Machine.execCmdTable fn complete seq cmd data s
  | .cmdSync fn complete seq => Sys2Proof.Machine.execCmdSync fn complete seq s
  | .cmdUnknown fn complete seq type => Sys2Proof.Machine.execCmdUnknown fn complete seq type s
  | .msixHoldExpiry fn vec => Sys2Proof.Machine.execMsixHoldExpiry fn vec s
  | .entdaa da => Sys2Proof.Machine.execEntdaa da s
  | .rstdaa => Sys2Proof.Machine.execRstdaa s
  | .enec direct => Sys2Proof.Machine.execEnec direct s
  | .disec direct => Sys2Proof.Machine.execDisec direct s
  | .getpid => Sys2Proof.Machine.execGetpid s
  | .getbcr => Sys2Proof.Machine.execGetbcr s
  | .getdcr => Sys2Proof.Machine.execGetdcr s
  | .getstatus => Sys2Proof.Machine.execGetstatus s
  | .getmwl => Sys2Proof.Machine.execGetmwl s
  | .getmrl => Sys2Proof.Machine.execGetmrl s
  | .setmwl direct len => Sys2Proof.Machine.execSetmwl direct len s
  | .setmrl direct len => Sys2Proof.Machine.execSetmrl direct len s
  | .rstact direct defByte => Sys2Proof.Machine.execRstact direct defByte s
  | .i3cReadReg off => Sys2Proof.Machine.execI3cReadReg off s
  | .i3cHealth => Sys2Proof.Machine.execI3cHealth s
  | .i3cSetGid gid => Sys2Proof.Machine.execI3cSetGid gid s
  | .i3cReboot key found => Sys2Proof.Machine.execI3cReboot key found s
  | .i3cPrivateRead => Sys2Proof.Machine.execI3cPrivateRead s
  | .jtagBypass => Sys2Proof.Machine.execJtagBypass s
  | .jtagIdcode => Sys2Proof.Machine.execJtagIdcode s
  | .jtagSamplePreload pins load => Sys2Proof.Machine.execJtagSamplePreload pins load s
  | .jtagExtest => Sys2Proof.Machine.execJtagExtest s
  | .jtagClamp => Sys2Proof.Machine.execJtagClamp s
  | .jtagHighz => Sys2Proof.Machine.execJtagHighz s
  | .jtagInternal instr => Sys2Proof.Machine.execJtagInternal instr s
  | .laneCodewordUncorrectable lane => Sys2Proof.Machine.execLaneCodewordUncorrectable lane s
  | .sensorFail sensor => Sys2Proof.Machine.execSensorFail sensor s
  | .powerManagementState fn d3hot => Sys2Proof.Machine.execPowerManagementState fn d3hot s
  | .i3cBadCmd cmd => Sys2Proof.Machine.execI3cBadCmd cmd s
  | .i3cUnsupportedCcc ccc => Sys2Proof.Machine.execI3cUnsupportedCcc ccc s
  | .promRepairComplete => Sys2Proof.Machine.execPromRepairComplete s

end Sys2Proof.Machine
end

