-- ==== Sys2Proof/Safety.lean ====
section
/-! DEFINITION. What the statements about the block say: that a command completes, which components of the state and which
register fields a command may change, and the ranges that every step keeps. -/

namespace Sys2Proof.Machine

/-- The components of the state besides the queue of commands. -/
inductive Part where
  | tb | i3c | jtag | regs | off | started | fw | acc | tel | mgmt | flash | sw | tab | ports | gate | fen | gw | opt | eng | svc | red
  | cmn | prom | pwr | chip | out | freeCtr
  deriving DecidableEq, Repr

/-- A component is the same in two states. -/
def Part.same (p : Part) (s t : State) : Prop :=
  match p with
  | .tb => t.tb = s.tb
  | .i3c => t.i3c = s.i3c
  | .jtag => t.jtag = s.jtag
  | .regs => t.regs = s.regs
  | .off => t.off = s.off
  | .started => t.started = s.started
  | .fw => t.fw = s.fw
  | .acc => t.acc = s.acc
  | .tel => t.tel = s.tel
  | .mgmt => t.mgmt = s.mgmt
  | .flash => t.flash = s.flash
  | .sw => t.sw = s.sw
  | .tab => t.tab = s.tab
  | .ports => t.ports = s.ports
  | .gate => t.gate = s.gate
  | .fen => t.fen = s.fen
  | .gw => t.gw = s.gw
  | .opt => t.opt = s.opt
  | .eng => t.eng = s.eng
  | .svc => t.svc = s.svc
  | .red => t.red = s.red
  | .cmn => t.cmn = s.cmn
  | .prom => t.prom = s.prom
  | .pwr => t.pwr = s.pwr
  | .chip => t.chip = s.chip
  | .out => t.out = s.out
  | .freeCtr => t.freeCtr = s.freeCtr

/-- Between `s` and `t` only the components listed may differ; the queue of commands does not. -/
def OnlyParts (l : List Part) (s t : State) : Prop := t.pending = s.pending ∧ ∀ p, p ∉ l → p.same s t

/-- Between `s` and `t` only the register fields listed may read differently. -/
def OnlyRegs (l : List Fld) (s t : State) : Prop := ∀ (f : Fld) (i : Nat), f ∉ l → t.rd f i = s.rd f i

/-- Between `s` and `t` only one place of the fields listed may read differently. -/
def OnlyAt (l : List Fld) (n : Nat) (s t : State) : Prop := ∀ (f : Fld) (i : Nat), (f ∉ l ∨ i ≠ n) → t.rd f i = s.rd f i

/-- Between `s` and `t` an output left the part, whatever others left after it. -/
def Emits (s t : State) (o : Output) : Prop := ∃ l, t.out = l ++ o :: s.out

/-- Counter i of group g has counted one event, or stands at its limit (R421). -/
def Counted (g i : Nat) (s t : State) : Prop := t.count g i = min (s.count g i + 1) 0xFFFFFFFF

/-- Between `s` and `t` a fault record was made: its SEQ is the next one, and its code, severity and detail are those given (R435). -/
def Recorded (code sev : Nat) (detail : List Nat) (s t : State) : Prop :=
  ∃ q : FaultRec, kget t.tel.ring ((s.rd .telFaultSeq_seq 0 + 1) % 1024) = some q ∧ q.seq = s.rd .telFaultSeq_seq 0 + 1 ∧ q.code = code ∧
    q.sev = sev ∧ q.detail = detail

/-- A command completes in a state that satisfies `P`. -/
def Completes (c : Instr) (s : State) (P : State → Prop) : Prop := ∃ t, exec c s = .next t ∧ P t

/-- The state in which a register write acts: the source's earlier writes to the register's block have taken effect (R32). -/
def State.ready (s : State) (src : Src) (r : Reg) (i : Nat) : State := s.flush src (regBlock (r.offset i))

/-- The register of a write in flight takes no write now: ENG_HOST_CFG while an instance it moves runs (R267), TBL_DATA while its command
runs (R10), the plan while it is armed (R222), the owner hash once bound (R401), and a ring's base while the ring is enabled (R447). -/
def State.writeHeld (s : State) (w : InWrite) : Bool :=
  match w.reg with
  | .engHostCfg => s.hostCfgHeld w.val w.mask
  | .tblData => s.flag .tblCmd_start (w.idx / 16)
  | .optPlanNext => s.flag .optPlanCtrl_arm 0
  | .secOwnerHash => s.flag .secOwner_bound 0
  | .pcieRingBase => s.flag .pcieRingCfg_en w.idx
  | _ => false

/-- The register fields that a host event may change besides the event's own bit: the rings' indices and their loss counts. -/
def ringFields : List Fld := [.pcieRingPartIdx_idx, .pcieFnStatus_evtLost, .pcieFnStatus_evtOverflow]

/-- The register fields that a fault record may change. -/
def faultFields : List Fld := [.telFaultSeq_seq, .telLogStatus_next, .telLogStatus_pending, .telWrap_wrap] ++ ringFields

/-- The time base keeps its remainder below one nanosecond in its unit (R191). -/
def TimeBase.ok (t : TimeBase) : Prop := t.frac < 65536000000000

/-- The I3C length limits lie in the ranges the part supports (R454). -/
def I3c.ok (x : I3c) : Prop := 8 ≤ x.mwl ∧ x.mwl ≤ 16 ∧ 24 ≤ x.mrl ∧ x.mrl ≤ 32

/-- What the loss of a line block leaves: it is out of service, its ports are DOWN, its reduction memory is empty, and a record
is made (R36, R37, Table 1.4). -/
def State.lineLost (s : State) (num cause : Nat) (t : State) : Prop :=
  t.blockDead num = true ∧ t.rd .cfgFaultSummary_degraded 0 = 1 ∧ (s.devState = 4 → t.devState = 5) ∧ Recorded 0x0001 2 [0, num, cause] s t ∧
    (∀ n, n < 512 → n / 8 = num → s.rd .corePortCfg_en n = 1 → t.rd .corePortStatus_state n = 0) ∧
    (∀ e ∈ t.red.chunks, (keyParts e.1).1 ≠ num)

/-- What the loss of a compute block leaves: it is out of service, asks for no power and is granted none, and a record is made (R37,
R420). -/
def State.computeLost (s : State) (num cause : Nat) (t : State) : Prop :=
  t.computeDead num = true ∧ t.rd .cfgFaultSummary_degraded 0 = 1 ∧ (s.devState = 4 → t.devState = 5) ∧
    Recorded 0x0001 2 [1, num, cause] s t ∧ t.rd .pwrCbGrant_grant num = 0 ∧ t.rd .pwrCbGrant_request num = 0

/-- What the loss of a region leaves: it is out of service, its ports are DOWN, no register write to it is in flight, its gateway holds
no request, its compute blocks are granted no power, and a record is made (R37, R39, R354, R420). -/
def State.regionLost (s : State) (k cause : Nat) (t : State) : Prop :=
  t.regionDead k = true ∧ t.rd .cfgFaultSummary_degraded 0 = 1 ∧ (s.devState = 4 → t.devState = 5) ∧ Recorded 0x0002 2 [k, cause] s t ∧
    (∀ n, n < 512 → n / 64 = k → s.rd .corePortCfg_en n = 1 → t.rd .corePortStatus_state n = 0) ∧
    (∀ w ∈ t.acc.inflight, w.reg.region? w.idx ≠ some k) ∧ (∀ r ∈ t.gw.reqs, r.k ≠ k) ∧
    (∀ c, c < 64 → c / 8 = k → t.rd .pwrCbGrant_grant c = 0)

/-- A table command has joined the commands in progress behind those of `u`, and its instance of TBL_CMD shows it with START 1
(R125). -/
def State.tblQueued (u : State) (n : Nat) (c : TblCmd) (t : State) : Prop :=
  t.rd .tblCmd_start n = 1 ∧ t.rd .tblCmd_op n = c.op ∧ t.rd .tblCmd_table n = c.table ∧ t.rd .tblCmd_index n = c.index ∧
    t.rd .tblCmd_all n = b2n c.all ∧ t.tab.jobs.map (·.cmd) = u.tab.jobs.map (·.cmd) ++ [c]

/-- A packet of n segments for a destination fits the unused reserve of its class in region k, and its class cannot spill
(R135, R137). -/
def State.fits (s : State) (k c n : Nat) : Prop := 4 ≤ c ∧ n ≤ s.rsvUnused k c

/-- The next packet number of `s` names, in `t`, a packet admitted with this body, destination and number of segments, at the
tail of its queue. -/
def Admitted (b : Body) (d : Dest) (n : Nat) (s t : State) : Prop :=
  ∃ p : Pkt, t.pkt? s.sw.nextPid = some p ∧ p.body = b ∧ p.dest = d ∧ p.nseg = n ∧ t.sw.nextPid = s.sw.nextPid + 1 ∧
    t.voq p.blk p.cls p.member = s.voq p.blk p.cls p.member ++ [s.sw.nextPid]

/-- A queued packet that nothing drops at its start: it has not failed, aged or been fenced, and the transparent clock
passes it (R60, R161, R200, R365). -/
def State.mayStart (s : State) (n c : Nat) (e : EPkt) : Bool :=
  match s.pkt? e.pid with
  | some p => !p.err && !s.aged c p.itime && !s.fencedBody p.body && (s.transparent n p).2.isSome
  | none => false

/-- A packet of a class is in transmission at a port. -/
def Transmits (t : State) (n c : Nat) (e : EPkt) : Prop :=
  ∃ x, kget t.sw.tx (2 * n + b2n (c == 7)) = some x ∧ x.ep = e ∧ x.cls = c ∧ x.stomp = false

/-- What a module access sends to the slot's module, newest first: the byte's read or write, after the writes of bank and page where
the byte lies above the lower memory (R102; log entry 14). -/
def twiSent (val : Nat) : List Output :=
  let slot := Reg.get .optModAcc .optModAcc_slot val
  let byte := Reg.get .optModAcc .optModAcc_byte val
  let cmd := fun (ty pay : Nat) => Output.ocl slot ty pay (downFrame ty pay)
  (if Reg.get .optModAcc .optModAcc_write val = 1 then cmd 2 (twiPay byte (Reg.get .optModAcc .optModAcc_data val))
    else cmd 3 (twiPay byte 0)) ::
  if 128 ≤ byte then [cmd 2 (twiPay 127 (Reg.get .optModAcc .optModAcc_page val)), cmd 2 (twiPay 126 (Reg.get .optModAcc .optModAcc_bank val))]
  else []

/-! Frames: what each command may change. -/

/-- Families of commands. -/
inductive Family where
  | switching | links | compute | inNetwork | upkeep | management | whole
  deriving DecidableEq, Repr

/-- The register fields that admitting and releasing packets changes. -/
def poolFields : List Fld :=
  [.corePoolStatus_free, .corePoolStatus_spillUsed, .telWrap_wrap]
/-- The register fields that a change of a port's state changes. -/
def enterFields : List Fld :=
  [.corePortStatus_attempts, .corePortStatus_lanesUp, .corePortStatus_state, .corePortStatus_stateEvent]
/-- The register fields that a port leaving UP or a training phase changes further. -/
def leaveFields : List Fld :=
  [.coreLaneStatus_fecLock, .corePoolStatus_free, .corePortStatus_failReason, .corePortStatus_widthNow,
   .schPortStatus_tc7Backlog]
/-- The receive indications of a lane. -/
def laneFields : List Fld :=
  [.coreLaneStatus_cdrLock, .coreLaneStatus_sigDet]
/-- The lock and sweep indications of a ring. -/
def lockFields : List Fld :=
  [.optChanStatus_rxLock, .optChanStatus_txLock, .optRingStatus_lock, .optRingStatus_sweep]
/-- What a ring's loop shows. -/
def ringLoopFields : List Fld :=
  [.optRingStatus_heater, .optRingStatus_sweepDue, .optRingStatus_tableCode]
/-- What a fenced link shows. -/
def linkFenceFields : List Fld :=
  [.corePortStatus_drained, .fenPort_fenced, .fenPort_nbrFence]
/-- What a sit-out entry shows. -/
def sitOutFields : List Fld :=
  [.fenStatus_fenceEvent, .gwLastPoison_addr, .gwLastPoison_gid, .redFenceStatus_scanning]
/-- What a service's build shows. -/
def svcFields : List Fld :=
  [.svcStatus_building, .svcStatus_paramBad, .svcStatus_ready, .svcStatus_scratchLost]
/-- What a gate cycle shows. -/
def gateFields : List Fld :=
  [.gateCycleCtrl_arm, .gateCycleCtrl_running, .gatePortCtrl_active, .gatePortCtrl_commit, .gatePortStatus_curEntry,
   .gatePortStatus_curState]
/-- What the end of a lease changes. -/
def leaseFields : List Fld :=
  [.cfgLeaseCtrl_leaseEvent, .cfgLeaseStatus_owner, .cfgLeaseStatus_remainMs]
/-- What a change of the gateway's mode changes. -/
def gwModeFields : List Fld :=
  [.gwMode_mode, .gwMode_modeEvent]
/-- What a change of the part's operating state changes. -/
def cfgStateFields : List Fld :=
  [.cfgState_state, .cfgState_stateEvent]

/-- The family of a command: the chapters of the spec that describe it. Commands of family `whole` may change anything but the
queue of commands: a write of any register, or a restart. -/
def familyOf : Instr → Family
  | .registerWrite .. | .writeTakesEffect .. | .lowerHalfRead .. | .gateCommit .. | .powerGoodLoss .. | .resetNRelease ..
  | .reboot .. | .selftestComplete .. | .cmdRegWrite .. | .i3cReboot .. => .whole
  | .cfgSync .. | .cfgSyncComplete | .mgmtReceived .. | .cfgGidWrite .. | .flashRead .. | .flashProgram .. | .flashErase ..
  | .flashCommandComplete .. | .ownerBind .. | .debugSubmit .. | .getVersion .. | .getCapabilities ..
  | .negotiateAlgorithms .. | .getDigests .. | .getCertificate .. | .challenge .. | .getMeasurements .. | .perstAssert ..
  | .telSnap .. | .autoSnapshot | .snapshotComplete | .telClear .. | .telemetryWindowRead .. | .logCommit | .leaseAcquire ..
  | .leaseRenew .. | .leaseRelease .. | .leaseTermExpiry | .pcieLinkDown .. | .functionLevelReset .. | .bar2Write ..
  | .bar2Read .. | .ringEnable .. | .ringHostIdxWrite .. | .cmdTable .. | .cmdSync .. | .cmdUnknown .. | .msixHoldExpiry ..
  | .entdaa .. | .rstdaa | .enec .. | .disec .. | .getpid | .getbcr | .getdcr | .getstatus | .getmwl | .getmrl | .setmwl ..
  | .setmrl .. | .rstact .. | .i3cReadReg .. | .i3cHealth | .i3cSetGid .. | .i3cPrivateRead | .jtagBypass | .jtagIdcode
  | .jtagSamplePreload .. | .jtagExtest | .jtagClamp | .jtagHighz | .jtagInternal .. | .powerManagementState ..
  | .i3cBadCmd .. | .i3cUnsupportedCcc .. => .management
  | .ctlFailover .. | .blockFailed .. | .blockWatchdogExpiry .. | .regionFailed .. | .hbmStackFailed .. | .chipFatal ..
  | .uncorrectableCodeword .. | .scoreRecover | .voteRound | .healthReceived .. | .voteExpiry .. | .rackReportExpiry ..
  | .fenceWindowExpiry | .fenceReceived .. | .fenceReqReceived .. | .fenQuery .. | .fenFence .. | .fenReadmit ..
  | .fenSuspectRead .. | .fenSuspectDrop .. | .stormClear .. | .readmitHoldExpiry .. | .fenPortClear .. | .joinExit ..
  | .selftestStart .. | .arbiterInterval .. | .thermalTick .. | .thermtrip .. | .idleC2Timer .. | .idleC3Timer ..
  | .idleC4Timer .. | .wakeComplete .. | .hbmSelfRefresh .. | .scrubRead .. | .sensorFail .. => .upkeep
  | .tableEntryReload .. | .packetHeaderReceived .. | .packetReceiveComplete .. | .segmentBytesArrived ..
  | .ethFrameReceived .. | .ethEncapReceived .. | .puntDeliver | .tblRead .. | .tblWrite .. | .tblInvalidate ..
  | .tblSearch .. | .tblInsertSorted .. | .tblDeleteSorted .. | .tblLearnFlush .. | .tableCommandComplete | .learnApply
  | .learnWindowBoundary | .lpmScrubSlot .. | .reelSlot | .segmentArriveIntermediate .. | .segmentArriveResequencer ..
  | .skipNoticeReceived .. | .reseqTimeout .. | .spillRefill .. | .ageSweep | .schedulerDecision .. | .packetTxEnd ..
  | .expressCutPoint .. | .underrun .. => .switching
  | .responseReceived .. | .redContribAtHome .. | .redTimeout .. | .redResultLeft .. | .redGraceExpiry .. | .redFenceScan
  | .commonsWrite .. | .commonsRead .. | .commonsAtomic .. | .commonsBatchApply .. | .cmnClear .. | .cmnClearComplete
  | .promChunkReceived .. | .promRepairReceived .. | .promQuery .. | .promFetch .. | .promFetchRepeat | .promFetchDone
  | .promDrop .. | .promDropAll .. | .gwModeWrite .. | .memLoad .. | .memStore .. | .gwCoalesceExpiry ..
  | .gwRequestComplete .. | .gwNack .. | .gwTimeout .. | .promRepairComplete => .inNetwork
  | .portCfgWrite .. | .lanePowerupWaitExpiry .. | .trainingBackoffExpiry .. | .trainingPhaseTimeout ..
  | .trainingSuccess .. | .lossOfLink .. | .laneFailed .. | .helloTxTimer .. | .helloReceived .. | .helloTimeout ..
  | .fastRetrain .. | .drainComplete .. | .drainTimeout .. | .laneTestStart .. | .laneTestComplete .. | .moduleInserted ..
  | .moduleReady .. | .moduleReadyTimeout .. | .moduleRemoved .. | .modulePoll .. | .moduleInterrupt .. | .moduleAccess ..
  | .moduleAccessComplete .. | .moduleAccessTimeout | .srefLost .. | .srefRestored .. | .gateCycleArm .. | .gateCycleStop ..
  | .gateCycleBoundary | .syncOutPulseEnd | .gateEntryChange .. | .gateListWrite .. | .syncInEdge | .timeClkTick
  | .timeStep .. | .oclFrame .. | .ringLoopUpdate .. | .pilotWindow .. | .ringSweepComplete .. | .chanCfgWrite ..
  | .calibrationStart | .calHoldExpiry .. | .calibrationEnd .. | .peerWaitExpiry .. | .peerSignalArrival .. | .planArm ..
  | .planDrainLead | .planActivate | .retuneSettled .. | .linePowerWindow .. | .recapture .. | .spareSettled ..
  | .laneCodewordUncorrectable .. => .links
  | .cvtStep .. | .amaxExchange .. | .cvtQclr .. | .accuracyCheck .. | .instStart .. | .instAbort .. | .instRead ..
  | .instClearFlags .. | .instSignal .. | .descriptorIssue .. | .engineSeekWork .. | .tileComplete .. | .xfeRetryTimeout ..
  | .utilWindow .. | .svcGidWrite .. | .svcReqReceived .. | .assemblyTimeout .. | .refusalRecordExpiry ..
  | .joinWindowExpiry .. | .groupStart .. | .runLimitExpiry .. | .svcLoad .. | .svcLoadComplete | .serviceBuildComplete ..
  | .steer .. | .claim .. | .gateAnswer .. | .gateTimeout .. => .compute

/-- The components of the state that a command may change (for a register write: after the source's earlier writes). -/
def partsOf : Instr → List Part
  | .registerWrite .. | .writeTakesEffect .. | .lowerHalfRead .. | .gateCommit .. | .powerGoodLoss .. | .resetNRelease ..
  | .reboot .. | .selftestComplete .. | .cmdRegWrite .. | .i3cReboot .. => []
  | .cfgSync .. | .cfgSyncComplete => [.regs, .acc]
  | .ctlFailover .. | .thermtrip .. =>
      [.regs, .fw, .tel, .mgmt, .flash, .sw, .tab, .ports, .gate, .gw, .opt, .chip, .out, .freeCtr]
  | .blockFailed .. | .blockWatchdogExpiry .. | .regionFailed .. =>
      [.regs, .acc, .tel, .mgmt, .flash, .sw, .tab, .ports, .gate, .gw, .opt, .eng, .svc, .red, .cmn, .prom, .pwr, .chip,
      .out, .freeCtr]
  | .hbmStackFailed .. => [.regs, .tel, .mgmt, .flash, .sw, .tab, .gate, .gw, .eng, .svc, .prom, .pwr, .out, .freeCtr]
  | .chipFatal .. => [.regs, .fw, .tel, .mgmt, .flash, .sw, .tab, .ports, .gate, .gw, .opt, .out, .freeCtr]
  | .uncorrectableCodeword .. | .scrubRead .. =>
      [.regs, .tel, .mgmt, .flash, .sw, .tab, .eng, .svc, .red, .cmn, .prom, .pwr, .out, .freeCtr]
  | .tableEntryReload .. | .tblRead .. | .tblWrite .. | .tblInvalidate .. | .tblSearch .. | .tblInsertSorted ..
  | .tblDeleteSorted .. | .tblLearnFlush .. | .tableCommandComplete | .cmdTable .. =>
      [.regs, .tel, .mgmt, .flash, .sw, .tab, .svc, .pwr, .chip, .out, .freeCtr]
  | .packetHeaderReceived .. | .ethFrameReceived .. | .ethEncapReceived .. | .telemetryWindowRead .. =>
      [.regs, .tel, .sw, .tab, .freeCtr]
  | .packetReceiveComplete .. | .segmentArriveIntermediate .. | .segmentArriveResequencer .. | .skipNoticeReceived ..
  | .reseqTimeout .. | .ageSweep => [.regs, .tel, .sw]
  | .segmentBytesArrived .. => [.sw]
  | .responseReceived .. => [.regs, .tel, .mgmt, .flash, .sw, .tab, .ports, .fen, .gw, .eng, .svc, .prom, .pwr, .out, .freeCtr]
  | .mgmtReceived .. | .puntDeliver | .ringEnable .. => [.regs, .mgmt, .sw, .out]
  | .portCfgWrite .. | .trainingSuccess .. | .moduleReady .. | .srefLost .. | .packetTxEnd .. | .underrun .. | .planActivate
  | .retuneSettled .. | .spareSettled .. => [.regs, .tel, .mgmt, .sw, .ports, .opt, .out, .freeCtr]
  | .lanePowerupWaitExpiry .. | .trainingBackoffExpiry .. | .peerWaitExpiry .. | .peerSignalArrival .. => [.regs, .ports]
  | .trainingPhaseTimeout .. | .drainTimeout .. | .moduleRemoved .. => [.regs, .tel, .mgmt, .sw, .ports, .opt, .out]
  | .lossOfLink .. | .helloTimeout .. | .srefRestored .. => [.regs, .tel, .mgmt, .sw, .ports, .out, .freeCtr]
  | .laneFailed .. | .laneTestComplete .. | .oclFrame .. | .calibrationEnd .. | .linePowerWindow .. =>
      [.regs, .tel, .mgmt, .flash, .sw, .ports, .opt, .out, .freeCtr]
  | .helloTxTimer .. => [.regs, .sw, .ports, .freeCtr]
  | .helloReceived .. => [.regs, .tel, .mgmt, .flash, .sw, .ports, .out, .freeCtr]
  | .fastRetrain .. | .moduleReadyTimeout .. | .modulePoll .. => [.ports]
  | .drainComplete .. | .moduleInserted .. | .calHoldExpiry .. => [.regs, .mgmt, .ports, .opt, .out]
  | .laneTestStart .. | .calibrationStart | .planDrainLead => [.regs, .mgmt, .sw, .ports, .opt, .out, .freeCtr]
  | .moduleInterrupt .. | .ringHostIdxWrite .. | .cmdSync .. | .cmdUnknown .. => [.regs, .mgmt, .out]
  | .moduleAccess .. | .chanCfgWrite .. => [.regs, .opt, .out]
  | .moduleAccessComplete .. | .planArm .. | .recapture .. => [.regs, .opt]
  | .moduleAccessTimeout | .gateEntryChange .. | .gateListWrite .. | .cvtQclr .. | .instRead .. | .promQuery ..
  | .fenQuery .. | .fenSuspectRead .. | .idleC4Timer .. => [.regs]
  | .learnApply => [.regs, .tel, .mgmt, .flash, .tab, .out, .freeCtr]
  | .learnWindowBoundary => [.tab]
  | .lpmScrubSlot .. => [.regs, .tel, .tab]
  | .reelSlot => [.regs, .tel, .sw, .freeCtr]
  | .spillRefill .. => [.regs, .sw]
  | .schedulerDecision .. | .expressCutPoint .. => [.regs, .tel, .sw, .out, .freeCtr]
  | .gateCycleArm .. => [.regs, .gate]
  | .gateCycleStop .. | .gateCycleBoundary => [.regs, .gate, .out]
  | .syncOutPulseEnd => [.gate, .out]
  | .syncInEdge => [.regs, .tel, .mgmt, .gate, .out]
  | .timeClkTick => [.tb, .regs, .tel, .mgmt, .out]
  | .timeStep .. => [.tb, .regs, .tel, .mgmt, .sw, .tab, .ports, .gate, .gw, .opt, .eng, .svc, .red, .cmn, .out, .freeCtr]
  | .ringLoopUpdate .. => [.regs, .ports, .opt, .out]
  | .pilotWindow .. => [.regs, .tel, .mgmt, .flash, .opt, .out]
  | .ringSweepComplete .. => [.regs, .tel, .mgmt, .flash, .ports, .opt, .out, .freeCtr]
  | .cvtStep .. | .amaxExchange .. | .instClearFlags .. | .instSignal .. => [.regs, .eng]
  | .accuracyCheck .. => [.regs, .tel, .mgmt, .eng, .out]
  | .instStart .. => [.regs, .eng, .pwr]
  | .instAbort .. | .runLimitExpiry .. => [.regs, .tel, .sw, .tab, .eng, .svc, .pwr, .freeCtr]
  | .descriptorIssue .. | .tileComplete .. | .gateAnswer .. =>
      [.regs, .tel, .mgmt, .flash, .sw, .tab, .eng, .svc, .pwr, .out, .freeCtr]
  | .engineSeekWork .. => [.regs, .tel, .sw, .tab, .eng, .svc, .cmn, .pwr, .freeCtr]
  | .xfeRetryTimeout .. | .gateTimeout .. =>
      [.regs, .tel, .mgmt, .flash, .sw, .tab, .ports, .fen, .gw, .eng, .svc, .pwr, .out, .freeCtr]
  | .utilWindow .. => [.regs, .tel, .eng, .freeCtr]
  | .svcGidWrite .. | .cfgGidWrite .. => [.regs, .tab]
  | .svcReqReceived .. => [.regs, .tel, .sw, .tab, .eng, .svc, .freeCtr]
  | .assemblyTimeout .. | .steer .. => [.regs, .tel, .sw, .tab, .svc, .freeCtr]
  | .refusalRecordExpiry .. | .joinWindowExpiry .. => [.svc]
  | .groupStart .. => [.regs, .tel, .eng, .svc, .pwr]
  | .svcLoad .. => [.regs, .svc, .pwr]
  | .svcLoadComplete => [.regs, .eng, .svc, .pwr]
  | .serviceBuildComplete .. => [.regs, .eng, .freeCtr]
  | .claim .. => [.regs, .tel, .mgmt, .flash, .sw, .tab, .svc, .out, .freeCtr]
  | .redContribAtHome .. | .redTimeout .. => [.regs, .tel, .sw, .tab, .red, .freeCtr]
  | .redResultLeft .. | .redGraceExpiry .. => [.red]
  | .redFenceScan => [.regs, .tel, .mgmt, .sw, .tab, .fen, .red, .out, .freeCtr]
  | .commonsWrite .. | .commonsRead .. | .commonsAtomic .. | .commonsBatchApply .. | .cmnClearComplete =>
      [.regs, .tel, .sw, .tab, .eng, .cmn, .freeCtr]
  | .cmnClear .. => [.regs, .cmn]
  | .promChunkReceived .. | .promRepairReceived .. | .promRepairComplete => [.regs, .tel, .sw, .tab, .prom, .pwr, .freeCtr]
  | .promFetch .. | .promFetchRepeat => [.regs, .tel, .sw, .tab, .prom, .freeCtr]
  | .promFetchDone | .promDrop .. | .promDropAll .. => [.regs, .prom]
  | .gwModeWrite .. | .memLoad .. | .memStore .. => [.regs, .tel, .mgmt, .flash, .sw, .tab, .gw, .out, .freeCtr]
  | .gwCoalesceExpiry .. | .gwRequestComplete .. | .gwNack .. => [.regs, .tel, .sw, .tab, .gw, .freeCtr]
  | .gwTimeout .. | .scoreRecover | .healthReceived .. | .voteExpiry .. | .rackReportExpiry .. | .fenceReceived ..
  | .fenceReqReceived .. | .fenFence .. | .stormClear .. | .readmitHoldExpiry .. =>
      [.regs, .tel, .mgmt, .flash, .sw, .tab, .ports, .fen, .gw, .out, .freeCtr]
  | .voteRound => [.regs, .tel, .sw, .tab, .fen, .freeCtr]
  | .fenceWindowExpiry => [.fen]
  | .fenReadmit .. => [.regs, .tel, .mgmt, .sw, .tab, .ports, .fen, .out, .freeCtr]
  | .fenSuspectDrop .. => [.regs, .fen]
  | .fenPortClear .. | .laneCodewordUncorrectable .. => [.regs, .mgmt, .sw, .ports, .out, .freeCtr]
  | .joinExit .. => [.regs, .tel, .mgmt, .flash, .sw, .tab, .gate, .gw, .out, .freeCtr]
  | .flashRead .. | .flashProgram .. | .flashErase .. | .ownerBind .. => [.regs, .chip]
  | .flashCommandComplete .. => [.regs, .tel, .flash, .chip, .freeCtr]
  | .selftestStart .. => [.regs, .tel, .mgmt, .sw, .tab, .ports, .opt, .eng, .svc, .pwr, .chip, .out, .freeCtr]
  | .debugSubmit .. => [.regs, .pwr, .freeCtr]
  | .getVersion .. | .negotiateAlgorithms .. => [.mgmt, .chip, .out]
  | .getCapabilities .. | .getDigests .. | .getCertificate .. | .msixHoldExpiry .. | .getpid | .getbcr | .getdcr | .getmwl
  | .getmrl | .i3cPrivateRead | .i3cUnsupportedCcc .. => [.mgmt, .out]
  | .challenge .. | .getMeasurements .. | .getstatus => [.mgmt, .out, .freeCtr]
  | .perstAssert .. | .functionLevelReset .. => [.regs, .acc, .mgmt, .sw, .tab, .chip, .out]
  | .arbiterInterval .. | .thermalTick .. => [.regs, .tel, .mgmt, .pwr, .out]
  | .idleC2Timer .. | .idleC3Timer .. | .sensorFail .. => [.regs, .pwr]
  | .wakeComplete .. => [.regs, .tel, .mgmt, .flash, .sw, .tab, .eng, .svc, .pwr, .chip, .out, .freeCtr]
  | .hbmSelfRefresh .. => [.pwr]
  | .telSnap .. | .snapshotComplete | .telClear .. => [.regs, .tel]
  | .autoSnapshot => [.tel]
  | .logCommit => [.regs, .tel, .flash]
  | .leaseAcquire .. | .leaseRenew .. | .leaseRelease .. | .leaseTermExpiry | .pcieLinkDown .. =>
      [.regs, .acc, .mgmt, .sw, .tab, .out]
  | .bar2Write .. => [.regs, .eng, .pwr, .out]
  | .bar2Read .. => [.regs, .tel, .mgmt, .flash, .eng, .pwr, .out, .freeCtr]
  | .entdaa .. | .rstdaa | .enec .. | .disec .. | .setmwl .. | .setmrl .. | .rstact .. | .i3cHealth | .i3cBadCmd .. =>
      [.i3c, .mgmt, .out]
  | .i3cReadReg .. => [.i3c, .mgmt, .out, .freeCtr]
  | .i3cSetGid .. => [.i3c, .regs, .mgmt, .tab, .out]
  | .jtagBypass | .jtagIdcode | .jtagSamplePreload .. | .jtagExtest | .jtagClamp | .jtagHighz | .jtagInternal .. =>
      [.jtag, .out]
  | .powerManagementState .. => [.mgmt]

/-- The register fields that a command may change (for a register write: after the source's earlier writes). -/
def fieldsOf : Instr → List Fld
  | .registerWrite .. | .writeTakesEffect .. | .lowerHalfRead .. | .segmentBytesArrived .. | .fastRetrain ..
  | .moduleReadyTimeout .. | .modulePoll .. | .learnWindowBoundary | .syncOutPulseEnd | .gateCommit ..
  | .refusalRecordExpiry .. | .joinWindowExpiry .. | .redResultLeft .. | .redGraceExpiry .. | .fenceWindowExpiry
  | .powerGoodLoss .. | .resetNRelease .. | .reboot .. | .selftestComplete .. | .getVersion .. | .getCapabilities ..
  | .negotiateAlgorithms .. | .getDigests .. | .getCertificate .. | .challenge .. | .getMeasurements .. | .hbmSelfRefresh ..
  | .autoSnapshot | .cmdRegWrite .. | .msixHoldExpiry .. | .entdaa .. | .rstdaa | .enec .. | .disec .. | .getpid | .getbcr
  | .getdcr | .getstatus | .getmwl | .getmrl | .setmwl .. | .setmrl .. | .rstact .. | .i3cReadReg .. | .i3cHealth
  | .i3cReboot .. | .i3cPrivateRead | .jtagBypass | .jtagIdcode | .jtagSamplePreload .. | .jtagExtest | .jtagClamp
  | .jtagHighz | .jtagInternal .. | .powerManagementState .. | .i3cBadCmd .. | .i3cUnsupportedCcc .. => []
  | .cfgSync .. | .cfgSyncComplete => [.cfgSync_sync]
  | .ctlFailover .. =>
      faultFields ++ leaveFields ++ enterFields ++ lockFields ++ poolFields ++ ringLoopFields ++ laneFields ++ gwModeFields ++
      cfgStateFields ++ [.cfgFaultSummary_chipFatal, .cfgFaultSummary_ctlOneFailed, .cfgFaultSummary_degraded,
      .cfgState_safeCause, .optCalStatus_active]
  | .blockFailed .. | .blockWatchdogExpiry .. =>
      faultFields ++ leaveFields ++ enterFields ++ lockFields ++ svcFields ++ poolFields ++ ringLoopFields ++ laneFields ++
      gwModeFields ++ cfgStateFields ++ [.cfgFaultSummary_degraded, .cfgFaultSummary_regionEvent,
      .cfgFaultSummary_regionFailed, .cfgRegionStatus_cbFail, .cfgRegionStatus_chipletFail, .cfgRegionStatus_lbFail,
      .cfgRegionStatus_netFail, .cfgRegionStatus_regionFailed, .cfgRegionStatus_svFail, .engInstCmd_inst, .engInstCmd_op,
      .engInstCmd_result, .engInstCmd_start, .optCalStatus_active, .pwrCbGrant_grant, .pwrCbGrant_request,
      .pwrRegionStatus_c1]
  | .regionFailed .. =>
      faultFields ++ leaveFields ++ enterFields ++ lockFields ++ svcFields ++ poolFields ++ ringLoopFields ++ laneFields ++
      gwModeFields ++ cfgStateFields ++ [.cfgFaultSummary_degraded, .cfgFaultSummary_regionEvent,
      .cfgFaultSummary_regionFailed, .cfgRegionStatus_chipletFail, .cfgRegionStatus_netFail, .cfgRegionStatus_regionFailed,
      .cfgRegionStatus_svFail, .engInstCmd_inst, .engInstCmd_op, .engInstCmd_result, .engInstCmd_start, .optCalStatus_active,
      .pwrCbGrant_grant, .pwrCbGrant_request, .pwrRegionStatus_c1]
  | .hbmStackFailed .. =>
      faultFields ++ poolFields ++ gwModeFields ++ cfgStateFields ++ [.cfgFaultSummary_degraded, .cfgFaultSummary_hbmFailed,
      .pwrRegionStatus_c1, .schPortStatus_tc7Backlog]
  | .chipFatal .. | .thermtrip .. =>
      faultFields ++ leaveFields ++ enterFields ++ lockFields ++ poolFields ++ ringLoopFields ++ laneFields ++ gwModeFields ++
      cfgStateFields ++ [.cfgFaultSummary_chipFatal, .cfgState_safeCause, .optCalStatus_active]
  | .uncorrectableCodeword .. | .scrubRead .. => faultFields ++ poolFields ++ [.pwrRegionStatus_c1, .schPortStatus_tc7Backlog]
  | .tableEntryReload .. | .cmdTable .. => faultFields ++ svcFields ++ poolFields
  | .packetHeaderReceived .. | .ethFrameReceived .. | .ethEncapReceived .. | .svcReqReceived .. | .assemblyTimeout ..
  | .steer .. | .redContribAtHome .. | .redTimeout .. | .commonsWrite .. | .commonsRead .. | .commonsAtomic ..
  | .commonsBatchApply .. | .promChunkReceived .. | .promRepairReceived .. | .promFetchRepeat | .gwCoalesceExpiry ..
  | .gwRequestComplete .. | .gwNack .. | .voteRound | .telemetryWindowRead .. | .promRepairComplete => poolFields
  | .packetReceiveComplete .. | .reelSlot | .segmentArriveIntermediate .. | .ageSweep =>
      poolFields ++ [.schPortStatus_tc7Backlog]
  | .responseReceived .. | .xfeRetryTimeout .. | .gateTimeout .. =>
      faultFields ++ enterFields ++ sitOutFields ++ poolFields ++ linkFenceFields ++ [.fenStatus_storm, .fenStatus_stormEvent,
      .pwrRegionStatus_c1]
  | .mgmtReceived .. => ringFields ++ [.corePoolStatus_free]
  | .puntDeliver => [.pcieRingPartIdx_idx]
  | .portCfgWrite .. =>
      leaveFields ++ enterFields ++ lockFields ++ ringFields ++ ringLoopFields ++ linkFenceFields ++ laneFields ++
      [.coreLaneStatus_testResult, .coreLaneStatus_underTest, .coreLaneTest_start, .coreNbr_valid, .corePortCfg_bypass,
      .corePortCfg_degradeOk, .corePortCfg_drain, .corePortCfg_en, .corePortCfg_mode, .corePortCfg_trainRetries,
      .corePortCfg_width, .corePortStatus_cfgRefused, .optCalStatus_active, .optChanStatus_fadeHold, .optModStatus_dpActive,
      .optSlotCtrl_spareChan, .optSlotCtrl_spareUsed, .telWrap_wrap]
  | .lanePowerupWaitExpiry .. | .trainingBackoffExpiry .. | .peerWaitExpiry .. | .peerSignalArrival .. =>
      lockFields ++ [.corePortStatus_attempts]
  | .trainingPhaseTimeout .. =>
      leaveFields ++ enterFields ++ lockFields ++ ringFields ++ ringLoopFields ++ laneFields ++ [.optCalStatus_active,
      .telWrap_wrap]
  | .trainingSuccess .. =>
      leaveFields ++ enterFields ++ lockFields ++ ringFields ++ ringLoopFields ++ linkFenceFields ++ laneFields ++
      [.coreLaneStatus_rxPolInv, .coreNbr_valid, .optCalStatus_active, .telWrap_wrap]
  | .lossOfLink .. =>
      leaveFields ++ enterFields ++ lockFields ++ ringFields ++ linkFenceFields ++ laneFields ++ [.coreNbr_valid,
      .fenPort_linkFence, .fenPort_score, .fenStatus_linkEvent, .telWrap_wrap]
  | .laneFailed .. =>
      faultFields ++ leaveFields ++ enterFields ++ lockFields ++ ringLoopFields ++ linkFenceFields ++ laneFields ++
      [.coreLaneStatus_failed, .coreNbr_valid, .optCalStatus_active, .optModStatus_dpActive]
  | .helloTxTimer .. => [.corePoolStatus_free]
  | .helloReceived .. =>
      faultFields ++ leaveFields ++ enterFields ++ lockFields ++ linkFenceFields ++ [.coreNbr_age, .coreNbr_draining,
      .coreNbr_noGid, .coreNbr_peerGid, .coreNbr_peerPort, .coreNbr_peerType, .coreNbr_valid, .corePortStatus_wrongPeer,
      .fenPort_linkFence, .fenPort_score, .fenStatus_linkEvent]
  | .helloTimeout .. =>
      leaveFields ++ enterFields ++ lockFields ++ ringFields ++ linkFenceFields ++ [.coreNbr_valid, .fenPort_linkFence,
      .fenPort_score, .fenStatus_linkEvent, .telWrap_wrap]
  | .drainComplete .. =>
      enterFields ++ lockFields ++ ringFields ++ [.coreLaneStatus_underTest, .corePortStatus_drained, .optSlotCtrl_spareChan,
      .optSlotCtrl_spareUsed]
  | .drainTimeout .. =>
      enterFields ++ lockFields ++ ringFields ++ [.coreLaneStatus_underTest, .corePoolStatus_free, .corePortStatus_drained,
      .optSlotCtrl_spareChan, .optSlotCtrl_spareUsed, .schPortStatus_tc7Backlog, .telWrap_wrap]
  | .laneTestStart .. =>
      enterFields ++ lockFields ++ ringFields ++ [.coreLaneStatus_testResult, .coreLaneStatus_underTest, .coreLaneTest_accept,
      .coreLaneTest_all, .coreLaneTest_external, .coreLaneTest_lane, .coreLaneTest_start, .corePoolStatus_free,
      .corePortStatus_drained, .optSlotCtrl_spareChan, .optSlotCtrl_spareUsed]
  | .laneTestComplete .. =>
      faultFields ++ leaveFields ++ enterFields ++ lockFields ++ ringLoopFields ++ linkFenceFields ++ laneFields ++
      [.coreLaneStatus_failed, .coreLaneStatus_testResult, .coreLaneStatus_underTest, .coreLaneTest_start, .coreNbr_valid,
      .optCalStatus_active, .optModStatus_dpActive, .optSlotCtrl_spareChan, .optSlotCtrl_spareUsed]
  | .moduleInserted .. =>
      ringFields ++ [.optChanStatus_spare, .optLinePwr_drain, .optLinePwr_refValid, .optLinePwr_rel, .optLinePwr_warn,
      .optModStatus_cmisRev, .optModStatus_modEvent, .optModStatus_powerClass, .optModStatus_present, .optModStatus_ready,
      .optModStatus_s8, .optModStatus_trefy, .optSlotCtrl_recapture, .optSlotCtrl_refValid, .optSlotCtrl_spareChan,
      .optSlotCtrl_spareUsed]
  | .moduleReady .. =>
      leaveFields ++ enterFields ++ lockFields ++ ringFields ++ ringLoopFields ++ linkFenceFields ++ laneFields ++
      [.coreNbr_valid, .optCalStatus_active, .optModStatus_dpActive, .optModStatus_ready, .telWrap_wrap]
  | .moduleRemoved .. =>
      leaveFields ++ enterFields ++ lockFields ++ ringFields ++ ringLoopFields ++ laneFields ++ [.optCalStatus_active,
      .optModStatus_cmisRev, .optModStatus_dpActive, .optModStatus_modEvent, .optModStatus_powerClass, .optModStatus_present,
      .optModStatus_ready, .optModStatus_s8, .optModStatus_trefy, .telWrap_wrap]
  | .moduleInterrupt .. => ringFields ++ [.optModStatus_modEvent]
  | .moduleAccess .. =>
      [.optModAcc_bank, .optModAcc_byte, .optModAcc_data, .optModAcc_page, .optModAcc_slot, .optModAcc_start,
      .optModAcc_status, .optModAcc_write]
  | .moduleAccessComplete .. => [.optModAcc_data, .optModAcc_start, .optModAcc_status]
  | .moduleAccessTimeout => [.optModAcc_start, .optModAcc_status]
  | .srefLost .. =>
      leaveFields ++ enterFields ++ lockFields ++ ringFields ++ ringLoopFields ++ linkFenceFields ++ [.coreNbr_valid,
      .fenPort_linkFence, .fenPort_score, .fenStatus_linkEvent, .optCalStatus_active, .telWrap_wrap]
  | .srefRestored .. =>
      leaveFields ++ enterFields ++ lockFields ++ ringFields ++ linkFenceFields ++ [.coreNbr_valid, .optModStatus_dpActive,
      .telWrap_wrap]
  | .tblRead .. | .tblWrite .. | .tblInvalidate .. | .tblSearch .. | .tblInsertSorted .. | .tblDeleteSorted ..
  | .tblLearnFlush .. =>
      faultFields ++ svcFields ++ poolFields ++ [.tblCmd_all, .tblCmd_index, .tblCmd_op, .tblCmd_start, .tblCmd_table,
      .tblStatus_result]
  | .tableCommandComplete =>
      faultFields ++ svcFields ++ poolFields ++ [.tblCmd_start, .tblData_data, .tblStatus_result, .tblStatus_rindex]
  | .learnApply => faultFields ++ [.dtLearnStatus_frozenEvent, .dtLearnStatus_lastFrozen]
  | .lpmScrubSlot .. | .groupStart .. => [.telWrap_wrap]
  | .segmentArriveResequencer .. | .skipNoticeReceived .. | .reseqTimeout .. =>
      [.corePoolStatus_free, .schPortStatus_tc7Backlog, .schPortStatus_tc7Peak, .telWrap_wrap]
  | .spillRefill .. => [.corePoolStatus_free, .corePoolStatus_spillUsed]
  | .schedulerDecision .. | .expressCutPoint .. => [.corePoolStatus_free, .schPortStatus_tc7Backlog, .telWrap_wrap]
  | .packetTxEnd .. | .underrun .. =>
      enterFields ++ lockFields ++ ringFields ++ [.coreLaneStatus_underTest, .corePoolStatus_free, .optSlotCtrl_spareChan,
      .optSlotCtrl_spareUsed, .schPortStatus_tc7Backlog, .telWrap_wrap]
  | .gateCycleArm .. => [.gateCycleCtrl_arm, .gateCycleCtrl_startLate]
  | .gateCycleStop .. =>
      [.gateCycleCfg_cycleTime, .gateCycleCfg_en, .gateCycleCfg_stepLimit, .gateCycleCtrl_arm, .gateCycleCtrl_running,
      .gatePortStatus_curEntry, .gatePortStatus_curState]
  | .gateCycleBoundary => gateFields
  | .gateEntryChange .. => [.gatePortStatus_curEntry, .gatePortStatus_curState]
  | .gateListWrite .. => [.gateList_duration, .gateList_state, .gatePortStatus_activeWrite]
  | .syncInEdge =>
      gateFields ++ ringFields ++ [.gateSyncEdge_te, .gateSyncStatus_lastOffset, .gateSyncStatus_outsideEvent,
      .gateSyncStatus_stepEvent, .telWrap_wrap]
  | .timeClkTick => ringFields ++ [.timeStatus_wrap]
  | .timeStep .. =>
      gateFields ++ enterFields ++ lockFields ++ ringFields ++ ringLoopFields ++ [.coreLaneStatus_underTest,
      .coreNbrExpect_peerGid, .coreNbrExpect_peerPort, .coreNbrExpect_valid, .corePoolStatus_free, .corePortStatus_drained,
      .gateCycleCtrl_startLate, .optCalStatus_active, .optChanCfg_rxLine, .optChanCfg_txLine, .optPlanCtrl_arm,
      .optPlanCtrl_planLate, .optPlanNext_pending, .optSlotCtrl_spareChan, .optSlotCtrl_spareUsed, .telWrap_wrap,
      .timeStatus_stepped, .timeStatus_unwrap, .timeStatus_wrap]
  | .oclFrame .. =>
      faultFields ++ leaveFields ++ enterFields ++ lockFields ++ ringLoopFields ++ linkFenceFields ++ laneFields ++
      [.coreNbr_valid, .oclStatus_oclEvent, .oclStatus_sync, .optCalStatus_active, .optChanStatus_ringFailed, .optModAcc_data,
      .optModAcc_start, .optModAcc_status, .optModStatus_modEvent]
  | .ringLoopUpdate .. =>
      lockFields ++ [.corePortStatus_attempts, .optRingStatus_err, .optRingStatus_heater, .optRingStatus_sweepDue]
  | .pilotWindow .. =>
      faultFields ++ lockFields ++ [.optChanStatus_wrongLine, .optRingStatus_heater, .optRingStatus_idLine,
      .optRingStatus_sweepDue]
  | .ringSweepComplete .. =>
      faultFields ++ lockFields ++ [.corePortStatus_attempts, .optChanStatus_ringFailed, .optRingStatus_heater,
      .optRingStatus_sweepDue]
  | .chanCfgWrite .. =>
      [.optChanCfg_rxDither, .optChanCfg_rxLine, .optChanCfg_txDither, .optChanCfg_txLine, .optChanStatus_cfgRefused,
      .optRingStatus_tableCode]
  | .calibrationStart =>
      enterFields ++ ringFields ++ [.corePoolStatus_free, .corePortStatus_drained, .optCalStatus_active, .optCalStatus_lane,
      .optCalStatus_roundEvent, .optCalStatus_roundTime]
  | .calHoldExpiry .. =>
      enterFields ++ lockFields ++ ringFields ++ [.coreLaneStatus_underTest, .optSlotCtrl_spareChan, .optSlotCtrl_spareUsed]
  | .calibrationEnd .. =>
      faultFields ++ leaveFields ++ enterFields ++ lockFields ++ ringLoopFields ++ linkFenceFields ++ laneFields ++
      [.coreNbr_valid, .optCalStatus_active, .optChanStatus_calAge, .optChanStatus_ringFailed]
  | .planArm .. => [.optPlanCtrl_arm, .optPlanCtrl_conflictLane, .optPlanCtrl_planConflict, .optPlanCtrl_planLate]
  | .planDrainLead => enterFields ++ ringFields ++ [.corePoolStatus_free, .corePortStatus_drained]
  | .planActivate =>
      enterFields ++ lockFields ++ ringFields ++ ringLoopFields ++ [.coreLaneStatus_underTest, .coreNbrExpect_peerGid,
      .coreNbrExpect_peerPort, .coreNbrExpect_valid, .corePoolStatus_free, .corePortStatus_drained, .optCalStatus_active,
      .optChanCfg_rxLine, .optChanCfg_txLine, .optPlanCtrl_arm, .optPlanNext_pending, .optSlotCtrl_spareChan,
      .optSlotCtrl_spareUsed, .telWrap_wrap]
  | .retuneSettled .. =>
      leaveFields ++ enterFields ++ lockFields ++ ringFields ++ ringLoopFields ++ linkFenceFields ++ laneFields ++
      [.coreNbr_valid, .optCalStatus_active, .telWrap_wrap]
  | .linePowerWindow .. =>
      faultFields ++ enterFields ++ lockFields ++ [.coreLaneStatus_underTest, .corePoolStatus_free, .corePortCfg_drain,
      .corePortStatus_drained, .optChanStatus_fadeHold, .optChanStatus_fadeWarn, .optLinePwr_drain, .optLinePwr_refValid,
      .optLinePwr_rel, .optLinePwr_warn, .optSlotCtrl_recapture, .optSlotCtrl_refValid, .optSlotCtrl_spareChan,
      .optSlotCtrl_spareUsed]
  | .recapture .. => [.optSlotCtrl_recapture]
  | .spareSettled .. =>
      leaveFields ++ enterFields ++ lockFields ++ ringFields ++ ringLoopFields ++ linkFenceFields ++ laneFields ++
      [.coreNbr_valid, .optCalStatus_active, .optChanStatus_spare, .telWrap_wrap]
  | .cvtStep .. => [.cvtSctrl_step]
  | .amaxExchange .. => [.cvtAmax_amax, .cvtAmax_amaxPrev, .cvtSctrl_step]
  | .cvtQclr .. => [.cvtSstatus_qerr, .cvtSstatus_qerrHigh]
  | .accuracyCheck .. => ringFields ++ [.cvtSstatus_qerr, .cvtSstatus_qerrEvent, .cvtSstatus_qerrHigh, .telWrap_wrap]
  | .instStart .. => [.engInstCmd_inst, .engInstCmd_op, .engInstCmd_result, .engInstCmd_start]
  | .instAbort .. => poolFields ++ [.engInstCmd_inst, .engInstCmd_op, .engInstCmd_result, .pwrRegionStatus_c1]
  | .instRead .. =>
      [.engInstCmd_inst, .engInstCmd_op, .engInstCmd_result, .engInstEvt_even, .engInstEvt_odd, .engInstStatus_desc,
      .engInstStatus_fault, .engInstStatus_flags, .engInstStatus_state]
  | .instClearFlags .. => [.engInstCmd_inst, .engInstCmd_op, .engInstCmd_result]
  | .instSignal .. => [.engInstCmd_ctr, .engInstCmd_inst, .engInstCmd_op, .engInstCmd_result]
  | .descriptorIssue .. | .gateAnswer .. => faultFields ++ poolFields ++ [.pwrRegionStatus_c1]
  | .engineSeekWork .. => poolFields ++ [.cvtSstatus_amaxFallback, .cvtSstatus_busy, .pwrRegionStatus_c1]
  | .tileComplete .. =>
      faultFields ++ poolFields ++ [.cvtAmax_amax, .cvtEscNext_next, .cvtSstatus_busy, .cvtSstatus_escFull,
      .pwrRegionStatus_c1]
  | .utilWindow .. => [.engSat_count, .engUtil_block, .engUtil_hbm, .engUtil_net, .engUtil_region, .telWrap_wrap]
  | .svcGidWrite .. => [.svcGid_gid, .svcGid_refused, .svcGid_valid]
  | .runLimitExpiry .. => poolFields ++ [.pwrRegionStatus_c1]
  | .svcLoad .. => [.svcLoadCmd_result, .svcLoadCmd_size, .svcLoadCmd_start]
  | .svcLoadComplete => [.svcLoadCmd_result, .svcLoadCmd_start]
  | .serviceBuildComplete .. => [.svcStatus_building, .svcStatus_paramBad, .svcStatus_ready]
  | .claim .. => faultFields ++ poolFields ++ [.svcSteerStatus_frozenEvent, .svcSteerStatus_lastFrozen]
  | .redFenceScan =>
      ringFields ++ poolFields ++ [.redFenceStatus_degradeEvent, .redFenceStatus_lastGid, .redFenceStatus_scanning]
  | .cmnClear .. => [.cmnCtrl_clear, .cmnCtrl_regions]
  | .cmnClearComplete => poolFields ++ [.cmnCtrl_clear]
  | .promQuery .. =>
      [.promCmd_object, .promCmd_op, .promCmd_result, .promCmd_start, .promObjInfo_complete, .promObjInfo_known,
      .promObjInfo_lastLen, .promObjInfo_source, .promObjStatus_held, .promObjStatus_total]
  | .promFetch .. => poolFields ++ [.promCmd_object, .promCmd_op, .promCmd_result, .promCmd_start]
  | .promFetchDone => [.promCmd_result, .promCmd_start]
  | .promDrop .. | .promDropAll .. => [.promCmd_object, .promCmd_op, .promCmd_result, .promCmd_start]
  | .gwModeWrite .. => faultFields ++ poolFields ++ gwModeFields ++ [.gwMode_refused]
  | .memLoad .. | .memStore .. => faultFields ++ poolFields ++ [.gwLastPoison_addr, .gwLastPoison_gid]
  | .gwTimeout .. | .healthReceived .. | .voteExpiry .. | .rackReportExpiry .. | .fenceReceived .. | .fenceReqReceived ..
  | .stormClear .. | .readmitHoldExpiry .. =>
      faultFields ++ enterFields ++ sitOutFields ++ poolFields ++ linkFenceFields ++ [.fenStatus_storm, .fenStatus_stormEvent]
  | .scoreRecover =>
      faultFields ++ enterFields ++ sitOutFields ++ poolFields ++ linkFenceFields ++ [.fenPort_score, .fenStatus_storm,
      .fenStatus_stormEvent]
  | .fenQuery .. | .fenSuspectRead .. =>
      [.fenGidCmd_gid, .fenGidCmd_op, .fenGidCmd_result, .fenGidStatus_cause, .fenGidStatus_gid, .fenGidStatus_hold,
      .fenGidStatus_rackScore, .fenGidStatus_score, .fenGidStatus_sitout, .fenGidStatus_suspect, .fenGidStatus_votesLow]
  | .fenFence .. =>
      faultFields ++ enterFields ++ sitOutFields ++ poolFields ++ linkFenceFields ++ [.fenGidCmd_gid, .fenGidCmd_op,
      .fenGidCmd_result]
  | .fenReadmit .. =>
      enterFields ++ ringFields ++ poolFields ++ linkFenceFields ++ [.fenGidCmd_gid, .fenGidCmd_op, .fenGidCmd_result]
  | .fenSuspectDrop .. => [.fenGidCmd_gid, .fenGidCmd_op, .fenGidCmd_result]
  | .fenPortClear .. =>
      enterFields ++ ringFields ++ linkFenceFields ++ [.corePoolStatus_free, .fenPort_linkFence, .fenPort_score]
  | .joinExit .. => faultFields ++ poolFields ++ gwModeFields ++ cfgStateFields
  | .cfgGidWrite .. | .i3cSetGid .. => [.cfgGid_gid, .cfgGid_refused, .cfgGid_valid]
  | .flashRead .. | .flashProgram .. | .flashErase .. =>
      [.cfgFlashCmd_count, .cfgFlashCmd_op, .cfgFlashCmd_result, .cfgFlashCmd_start]
  | .flashCommandComplete .. =>
      [.cfgFlashCmd_result, .cfgFlashCmd_start, .cfgFlashData_data, .telLogStatus_next, .telLogStatus_pending]
  | .selftestStart .. =>
      leaveFields ++ enterFields ++ lockFields ++ ringFields ++ poolFields ++ ringLoopFields ++ laneFields ++
      [.cfgSelftestStatus_progress, .cfgSelftestStatus_running, .cfgSelftest_accept, .cfgSelftest_cap, .cfgSelftest_full,
      .cfgSelftest_mem, .cfgSelftest_start, .optCalStatus_active, .pwrRegionStatus_c1]
  | .ownerBind .. => [.secOwner_bound, .secOwner_result]
  | .debugSubmit .. => [.secDbgCtrl_enable, .secDbgCtrl_result, .secDbgNonce_nonce]
  | .perstAssert .. | .leaseTermExpiry | .pcieLinkDown .. | .functionLevelReset .. => ringFields ++ leaseFields
  | .arbiterInterval .. =>
      ringFields ++ [.pwrCbGrant_grant, .pwrCbGrant_request, .pwrStatus_computeW, .pwrStatus_floorW, .pwrStatus_hbmW,
      .pwrStatus_limitEvent, .pwrStatus_limitLow, .telWrap_wrap]
  | .thermalTick .. =>
      ringFields ++ [.pwrRegionStatus_temp, .pwrStatus_pkgW, .pwrStatus_tHot, .pwrStatus_throttleEvent, .pwrStatus_throttling,
      .telWrap_wrap]
  | .idleC2Timer .. => [.pwrRegionStatus_c1, .pwrRegionStatus_c2]
  | .idleC3Timer .. | .idleC4Timer .. => [.pwrRegionStatus_state]
  | .wakeComplete .. =>
      faultFields ++ svcFields ++ poolFields ++ [.engInstCmd_inst, .engInstCmd_op, .engInstCmd_result, .engInstCmd_start,
      .pwrCbGrant_grant, .pwrRegionStatus_c1, .pwrRegionStatus_c2, .pwrRegionStatus_state]
  | .telSnap .. => [.telCtrl_snap]
  | .snapshotComplete => [.telCtrl_snap, .telSnapStatus_seq, .telSnapStatus_time]
  | .telClear .. => [.engSat_count, .telCtrl_group, .telWrap_wrap]
  | .logCommit => [.telLogStatus_next, .telLogStatus_pending]
  | .leaseAcquire .. | .leaseRenew .. | .leaseRelease .. =>
      ringFields ++ leaseFields ++ [.cfgLeaseCtrl_op, .cfgLeaseCtrl_result, .cfgLeaseStatus_gen]
  | .bar2Write .. => [.cfgLeaseCtrl_writeIgnored, .pcieFnStatus_bar2Bad]
  | .bar2Read .. => faultFields ++ [.pcieFnStatus_bar2Bad]
  | .ringEnable .. => [.pcieRingCfg_en, .pcieRingCfg_sizeLog2, .pcieRingHostIdx_idx, .pcieRingPartIdx_idx]
  | .ringHostIdxWrite .. => [.pcieRingHostIdx_idx, .pcieRingPartIdx_idx]
  | .cmdSync .. | .cmdUnknown .. => ringFields
  | .laneCodewordUncorrectable .. =>
      enterFields ++ ringFields ++ linkFenceFields ++ [.corePoolStatus_free, .fenPort_linkFence, .fenPort_score,
      .fenStatus_linkEvent]
  | .sensorFail .. => [.pwrStatus_sensorFail]

/-- The register place whose write a command is, with the source of the write. -/
def placeOf : Instr → Option (Src × Reg × Nat)
  | .cfgSync src => some (src, .cfgSync, 0)
  | .portCfgWrite src n _ => some (src, .corePortCfg, n)
  | .laneTestStart src _ => some (src, .coreLaneTest, 0)
  | .moduleAccess src _ => some (src, .optModAcc, 0)
  | .tblRead src _ _ => some (src, .tblCmd, (tblInst src))
  | .tblWrite src _ _ => some (src, .tblCmd, (tblInst src))
  | .tblInvalidate src _ _ => some (src, .tblCmd, (tblInst src))
  | .tblSearch src _ _ => some (src, .tblCmd, (tblInst src))
  | .tblInsertSorted src _ _ => some (src, .tblCmd, (tblInst src))
  | .tblDeleteSorted src _ _ => some (src, .tblCmd, (tblInst src))
  | .tblLearnFlush src _ _ _ => some (src, .tblCmd, (tblInst src))
  | .gateCycleArm src => some (src, .gateCycleCtrl, 0)
  | .gateCycleStop src _ => some (src, .gateCycleCfg, 0)
  | .gateListWrite src port bank entry _ => some (src, .gateList, (gateIdx port bank entry))
  | .timeStep src _ => some (src, .timeStep, 0)
  | .chanCfgWrite src n _ => some (src, .optChanCfg, n)
  | .planArm src => some (src, .optPlanCtrl, 0)
  | .recapture src slot => some (src, .optSlotCtrl, slot)
  | .cvtStep src st => some (src, .cvtSctrl, st)
  | .cvtQclr src st => some (src, .cvtSctrl, st)
  | .instStart src _ => some (src, .engInstCmd, 0)
  | .instAbort src _ => some (src, .engInstCmd, 0)
  | .instRead src _ => some (src, .engInstCmd, 0)
  | .instClearFlags src _ => some (src, .engInstCmd, 0)
  | .instSignal src _ _ => some (src, .engInstCmd, 0)
  | .svcGidWrite src g _ => some (src, .svcGid, g)
  | .svcLoad src _ => some (src, .svcLoadCmd, 0)
  | .cmnClear src _ => some (src, .cmnCtrl, 0)
  | .promQuery src _ => some (src, .promCmd, 0)
  | .promFetch src _ => some (src, .promCmd, 0)
  | .promDrop src _ => some (src, .promCmd, 0)
  | .promDropAll src => some (src, .promCmd, 0)
  | .gwModeWrite src _ => some (src, .gwMode, 0)
  | .fenQuery src _ => some (src, .fenGidCmd, 0)
  | .fenFence src _ => some (src, .fenGidCmd, 0)
  | .fenReadmit src _ => some (src, .fenGidCmd, 0)
  | .fenSuspectRead src _ => some (src, .fenGidCmd, 0)
  | .fenSuspectDrop src _ => some (src, .fenGidCmd, 0)
  | .stormClear src => some (src, .fenCtrl, 0)
  | .fenPortClear src n => some (src, .fenPort, n)
  | .cfgGidWrite src _ => some (src, .cfgGid, 0)
  | .flashRead src _ => some (src, .cfgFlashCmd, 0)
  | .flashProgram src _ => some (src, .cfgFlashCmd, 0)
  | .flashErase src => some (src, .cfgFlashCmd, 0)
  | .selftestStart src _ => some (src, .cfgSelftest, 0)
  | .ownerBind src => some (src, .secOwner, 0)
  | .debugSubmit src => some (src, .secDbgCtrl, 0)
  | .telSnap src => if src = .image then none else some (src, .telCtrl, 0)
  | .telClear src _ => if srcIsOwner src then some (src, .telCtrl, 0) else none
  | .leaseAcquire fn => some (fnSrc fn, .cfgLeaseCtrl, fn.val)
  | .leaseRenew fn => some (fnSrc fn, .cfgLeaseCtrl, fn.val)
  | .leaseRelease fn => some (fnSrc fn, .cfgLeaseCtrl, fn.val)
  | .ringEnable fn r _ => some (fnSrc fn, .pcieRingCfg, ringIdx fn r)
  | .ringHostIdxWrite fn r _ => some (fnSrc fn, .pcieRingHostIdx, ringIdx fn r)
  | .registerWrite .. | .writeTakesEffect .. | .lowerHalfRead .. | .cfgSyncComplete | .ctlFailover .. | .blockFailed ..
  | .blockWatchdogExpiry .. | .regionFailed .. | .hbmStackFailed .. | .chipFatal .. | .uncorrectableCodeword ..
  | .tableEntryReload .. | .packetHeaderReceived .. | .packetReceiveComplete .. | .segmentBytesArrived ..
  | .ethFrameReceived .. | .ethEncapReceived .. | .responseReceived .. | .mgmtReceived .. | .puntDeliver
  | .lanePowerupWaitExpiry .. | .trainingBackoffExpiry .. | .trainingPhaseTimeout .. | .trainingSuccess .. | .lossOfLink ..
  | .laneFailed .. | .helloTxTimer .. | .helloReceived .. | .helloTimeout .. | .fastRetrain .. | .drainComplete ..
  | .drainTimeout .. | .laneTestComplete .. | .moduleInserted .. | .moduleReady .. | .moduleReadyTimeout ..
  | .moduleRemoved .. | .modulePoll .. | .moduleInterrupt .. | .moduleAccessComplete .. | .moduleAccessTimeout
  | .srefLost .. | .srefRestored .. | .tableCommandComplete | .learnApply | .learnWindowBoundary | .lpmScrubSlot ..
  | .reelSlot | .segmentArriveIntermediate .. | .segmentArriveResequencer .. | .skipNoticeReceived .. | .reseqTimeout ..
  | .spillRefill .. | .ageSweep | .schedulerDecision .. | .packetTxEnd .. | .expressCutPoint .. | .underrun ..
  | .gateCycleBoundary | .syncOutPulseEnd | .gateEntryChange .. | .gateCommit .. | .syncInEdge | .timeClkTick | .oclFrame ..
  | .ringLoopUpdate .. | .pilotWindow .. | .ringSweepComplete .. | .calibrationStart | .calHoldExpiry ..
  | .calibrationEnd .. | .peerWaitExpiry .. | .peerSignalArrival .. | .planDrainLead | .planActivate | .retuneSettled ..
  | .linePowerWindow .. | .spareSettled .. | .amaxExchange .. | .accuracyCheck .. | .descriptorIssue .. | .engineSeekWork ..
  | .tileComplete .. | .xfeRetryTimeout .. | .utilWindow .. | .svcReqReceived .. | .assemblyTimeout ..
  | .refusalRecordExpiry .. | .joinWindowExpiry .. | .groupStart .. | .runLimitExpiry .. | .svcLoadComplete
  | .serviceBuildComplete .. | .steer .. | .claim .. | .gateAnswer .. | .gateTimeout .. | .redContribAtHome ..
  | .redTimeout .. | .redResultLeft .. | .redGraceExpiry .. | .redFenceScan | .commonsWrite .. | .commonsRead ..
  | .commonsAtomic .. | .commonsBatchApply .. | .cmnClearComplete | .promChunkReceived .. | .promRepairReceived ..
  | .promFetchRepeat | .promFetchDone | .memLoad .. | .memStore .. | .gwCoalesceExpiry .. | .gwRequestComplete ..
  | .gwNack .. | .gwTimeout .. | .scoreRecover | .voteRound | .healthReceived .. | .voteExpiry .. | .rackReportExpiry ..
  | .fenceWindowExpiry | .fenceReceived .. | .fenceReqReceived .. | .readmitHoldExpiry .. | .powerGoodLoss ..
  | .resetNRelease .. | .joinExit .. | .reboot .. | .flashCommandComplete .. | .selftestComplete .. | .getVersion ..
  | .getCapabilities .. | .negotiateAlgorithms .. | .getDigests .. | .getCertificate .. | .challenge ..
  | .getMeasurements .. | .perstAssert .. | .arbiterInterval .. | .thermalTick .. | .thermtrip .. | .idleC2Timer ..
  | .idleC3Timer .. | .idleC4Timer .. | .wakeComplete .. | .hbmSelfRefresh .. | .autoSnapshot | .snapshotComplete
  | .telemetryWindowRead .. | .scrubRead .. | .logCommit | .leaseTermExpiry | .pcieLinkDown .. | .functionLevelReset ..
  | .bar2Write .. | .bar2Read .. | .cmdRegWrite .. | .cmdTable .. | .cmdSync .. | .cmdUnknown .. | .msixHoldExpiry ..
  | .entdaa .. | .rstdaa | .enec .. | .disec .. | .getpid | .getbcr | .getdcr | .getstatus | .getmwl | .getmrl | .setmwl ..
  | .setmrl .. | .rstact .. | .i3cReadReg .. | .i3cHealth | .i3cSetGid .. | .i3cReboot .. | .i3cPrivateRead | .jtagBypass
  | .jtagIdcode | .jtagSamplePreload .. | .jtagExtest | .jtagClamp | .jtagHighz | .jtagInternal ..
  | .laneCodewordUncorrectable .. | .sensorFail .. | .powerManagementState .. | .i3cBadCmd .. | .i3cUnsupportedCcc ..
  | .promRepairComplete => none

/-- What a command leaves: all but its components and register fields. A register write that is not accepted changes
WRITE_IGNORED alone (R445); one that is accepted acts after the source's earlier writes to the block (R32). -/
def Frame (c : Instr) (s t : State) : Prop :=
  match placeOf c with
  | some (src, r, i) =>
    if s.accepts src r i then OnlyParts (partsOf c) (s.ready src r i) t ∧ OnlyRegs (fieldsOf c) (s.ready src r i) t
    else OnlyParts [.regs] s t ∧ OnlyRegs [.cfgLeaseCtrl_writeIgnored] s t
  | none => OnlyParts (partsOf c) s t ∧ OnlyRegs (fieldsOf c) s t

end Sys2Proof.Machine
end

