-- ==== Sys2Proof/Certificates/Slice0/Obligations.lean ====
section
/-! DEFINITION. The statements about the block, family by family. -/

open Sys2Proof Sys2Proof.Machine

/-! The block: commands, outcomes, and what every step keeps. -/

/-- A step takes the command at the front of the queue and is that command's effect on the state with the queue's rest. With
no command waiting a step changes nothing (the model's choice, log entry 1). -/
def Obligations.StepRunsFrontCommand : Prop :=
  (∀ (c : Instr) (s : State), step { s with pending := c :: s.pending } = exec c s) ∧
  (∀ s : State, s.pending = [] → step s = .next s)

/-- Every command but JTAG_INTERNAL answers a next state in every state, and leaves the queue as it was: no data ends a run.
-/
def Obligations.EveryCommandAnswersNextState : Prop :=
  ∀ (c : Instr) (s : State), (∀ i, c ≠ .jtagInternal i) → Completes c s (fun t => t.pending = s.pending)

/-- Every step keeps the remainder of the time base below its unit (R191) and the I3C length limits in the ranges the part
supports (R454; log entry 10). -/
def Obligations.EveryStepKeepsTimeAndSidebandInvariant : Prop :=
  ∀ s t : State, s.tb.ok → s.i3c.ok → step s = .next t → t.tb.ok ∧ t.i3c.ok

/-- The state right after reset satisfies the invariant of the time base and of the sideband; TIME_NS is 0, no function holds
the lease, the target has no address, no packet is held, every counter is 0, and every register field reads its reset value.
-/
def Obligations.ResetSatisfiesInvariant : Prop :=
  State.reset.tb.ok ∧ State.reset.i3c.ok ∧ State.reset.pending = [] ∧ State.reset.tb.ns = 0 ∧ State.reset.owner? = none ∧
  State.reset.i3c.da = none ∧ State.reset.sw.pkts = [] ∧ State.reset.tel.cnt = [] ∧
  (∀ (f : Fld) (i : Nat), State.reset.rd f i = f.reset i % 2 ^ f.width)

/-! Frames: what the commands of each family leave alone. -/

/-- Frame of the commands of switching, tables and egress: each leaves the queue, every component of the state not listed for
it, and every register field not listed for it as they were; a register write that is not accepted changes WRITE_IGNORED
alone (R445), and an accepted one acts after the source's earlier writes to its block (R32). -/
def Obligations.FrameOfSwitching : Prop :=
  ∀ (c : Instr) (s t : State), familyOf c = .switching → exec c s = .next t → Frame c s t

/-- Frame of the commands of links, gates, time and optics: each leaves the queue, every component of the state not listed
for it, and every register field not listed for it as they were; a register write that is not accepted changes WRITE_IGNORED
alone (R445), and an accepted one acts after the source's earlier writes to its block (R32). -/
def Obligations.FrameOfLinksAndOptics : Prop :=
  ∀ (c : Instr) (s t : State), familyOf c = .links → exec c s = .next t → Frame c s t

/-- Frame of the commands of conversion, engines and services: each leaves the queue, every component of the state not listed
for it, and every register field not listed for it as they were; a register write that is not accepted changes WRITE_IGNORED
alone (R445), and an accepted one acts after the source's earlier writes to its block (R32). -/
def Obligations.FrameOfComputeAndServices : Prop :=
  ∀ (c : Instr) (s t : State), familyOf c = .compute → exec c s = .next t → Frame c s t

/-- Frame of the commands of reduction, Commons, promenade and gateway: each leaves the queue, every component of the state
not listed for it, and every register field not listed for it as they were; a register write that is not accepted changes
WRITE_IGNORED alone (R445), and an accepted one acts after the source's earlier writes to its block (R32). -/
def Obligations.FrameOfInNetworkFunctions : Prop :=
  ∀ (c : Instr) (s t : State), familyOf c = .inNetwork → exec c s = .next t → Frame c s t

/-- Frame of the commands of failures, fencing, start-up, power and scrub: each leaves the queue, every component of the
state not listed for it, and every register field not listed for it as they were; a register write that is not accepted
changes WRITE_IGNORED alone (R445), and an accepted one acts after the source's earlier writes to its block (R32). -/
def Obligations.FrameOfFencingAndUpkeep : Prop :=
  ∀ (c : Instr) (s t : State), familyOf c = .upkeep → exec c s = .next t → Frame c s t

/-- Frame of the commands of register access, trust, telemetry, lease, rings and the sideband: each leaves the queue, every
component of the state not listed for it, and every register field not listed for it as they were; a register write that is
not accepted changes WRITE_IGNORED alone (R445), and an accepted one acts after the source's earlier writes to its block
(R32). -/
def Obligations.FrameOfManagement : Prop :=
  ∀ (c : Instr) (s t : State), familyOf c = .management → exec c s = .next t → Frame c s t

/-! Register accesses. -/

/-- A 32-bit write to a register place is queued in order when it is accepted; one that is not accepted changes WRITE_IGNORED
alone. -/
def Obligations.RegisterWriteIsAcceptedOrIgnored : Prop :=
  (∀ (src : Src) (off : BitVec 26) (val : BitVec 64) (p : Place) (s : State),
    inMsix off.toNat = false → srcPlace? src off.toNat = some p → p.reg.is64 = false → s.accepts src p.reg p.idx = true →
    actsNow p.reg (val.toNat % 2 ^ 32) (2 ^ 32 - 1) = false →
    Completes (.registerWrite src off false val) s (fun t =>
      t.acc.inflight = s.acc.inflight ++ [⟨src, p.reg, p.idx, val.toNat % 2 ^ 32, 2 ^ 32 - 1⟩] ∧
      OnlyParts [.acc] s t)) ∧
  (∀ (src : Src) (off : BitVec 26) (val : BitVec 64) (p : Place) (s : State),
    inMsix off.toNat = false → srcPlace? src off.toNat = some p → p.reg.is64 = false → s.accepts src p.reg p.idx = false →
    p.reg ≠ .gatePortCtrl →
    Completes (.registerWrite src off false val) s (fun t =>
      OnlyParts [.regs] s t ∧ OnlyRegs [.cfgLeaseCtrl_writeIgnored] s t))

/-- All fields of a register that a write in flight names change together, each by its access code (R31, Table 0.3); a register
whose write is ignored meanwhile keeps its fields, and so do SIZE and SPINES_M1 of PROM_CFG and SIZE of VOQ_SPILL_CFG while their
rules say so.
Times are told on the free-running count of ns (log entry 52). -/
def Obligations.WriteTakesEffectOnEveryField : Prop :=
  (∀ (w : InWrite) (s : State), s.acc.inflight = [w] → s.off = false → s.regDead w.reg w.idx = false →
    w.reg ∉ [.promCfg, .voqSpillCfg, .cvtAmax] → s.writeHeld w = false →
    Completes (.writeTakesEffect [0]) s (fun t => t.acc.inflight = [] ∧
      (∀ f ∈ w.reg.fields, t.rd f.fld w.idx =
        accessValue f.acc (s.rd f.fld w.idx) (bits w.val f.lo f.fld.width) (bits w.mask f.lo f.fld.width)))) ∧
  (∀ (w : InWrite) (s : State), s.acc.inflight = [w] → s.off = false → s.writeHeld w = true →
    Completes (.writeTakesEffect [0]) s (fun t => t.acc.inflight = [] ∧ (∀ f ∈ w.reg.fields, t.rd f.fld w.idx = s.rd f.fld w.idx) ∧
      OnlyParts [.acc, .regs] s t ∧ OnlyRegs [.optPlanCtrl_writeIgnored] s t)) ∧
  (∀ (w : InWrite) (s : State), s.acc.inflight = [w] → s.off = false → s.regDead w.reg w.idx = false →
    (w.reg = .promCfg → s.prom.objs.any (fun o => !o.2.chunks.isEmpty) = true →
      Completes (.writeTakesEffect [0]) s (fun t => t.rd .promCfg_size 0 = s.rd .promCfg_size 0 ∧
        t.rd .promCfg_spinesM1 0 = s.rd .promCfg_spinesM1 0)) ∧
    (w.reg = .voqSpillCfg → s.rd .voqSpillCfg_en 0 = 1 →
      Completes (.writeTakesEffect [0]) s (fun t => t.rd .voqSpillCfg_size 0 = s.rd .voqSpillCfg_size 0)) ∧
    (w.reg = .telCfg → accessValue .rw (s.rd .telCfg_autoMs 0) (bits w.val 16 16) (bits w.mask 16 16) ≠ s.rd .telCfg_autoMs 0 →
      Completes (.writeTakesEffect [0]) s (fun t => t.tel = { s.tel with autoAt := s.tb.mono }))) ∧
  ∀ (w : InWrite) (s : State), s.acc.inflight = [w] → s.off = false → s.regDead w.reg w.idx = false →
    w.reg ∉ [.schShape, .schIpol, .corePuntCfg, .engHostCfg, .promCfg, .pwrCfg, .telCfg, .dbgSel, .tblData, .optPlanNext, .cvtAmax,
      .cvtEscNext, .optLoopCfg, .secOwnerHash, .pcieRingBase, .voqSpillCfg] →
    Completes (.writeTakesEffect [0]) s (fun t =>
      t.acc.inflight = [] ∧
      (∀ f ∈ w.reg.fields, t.rd f.fld w.idx =
        accessValue f.acc (s.rd f.fld w.idx) (bits w.val f.lo f.fld.width) (bits w.mask f.lo f.fld.width)) ∧
      (∀ (f : Fld) (i : Nat), (∀ x ∈ w.reg.fields, (f, i) ≠ (x.fld, w.idx)) → t.rd f i = s.rd f i) ∧
      OnlyParts [.acc, .regs] s t)

/-- A read of the lower half of a 64-bit register latches the upper half, and a read before firmware runs reaches only the
CFG_ and SEC_ blocks. CFG_SYNC reads 1 from its write until every earlier write of its source has taken effect. -/
def Obligations.ReadsLatchAndSyncsWait : Prop :=
  (∀ (fn : Fin 2) (off : BitVec 26) (base v : Nat) (s : State), s.served off.toNat = true → off.toNat % 4 = 0 →
    s.acc.inflight = [] → (s.unitAt fn off.toNat).1 = some (base, v) → off.toNat = base →
    Completes (.lowerHalfRead fn ⟨off, false⟩) s (fun t =>
      t.out = .readData fn (leBytes 4 (v % 2 ^ 32)) false :: s.out ∧
      kget t.acc.latched (Nat.pair fn base) = some (v / 2 ^ 32) ∧ OnlyParts [.acc, .out] s t)) ∧
  (∀ (fn : Fin 2) (off : BitVec 26) (base v h : Nat) (s : State), s.served off.toNat = true → off.toNat % 4 = 0 →
    s.acc.inflight = [] → (s.unitAt fn off.toNat).1 = some (base, v) → off.toNat ≠ base →
    kget s.acc.latched (Nat.pair fn base) = some h →
    Completes (.lowerHalfRead fn ⟨off, false⟩) s (fun t => t.out = .readData fn (leBytes 4 h) false :: s.out ∧
      kget t.acc.latched (Nat.pair fn base) = none ∧ OnlyParts [.acc, .out] s t)) ∧
  (∀ (fn : Fin 2) (off : BitVec 26) (base v : Nat) (s : State), s.served off.toNat = true → off.toNat % 8 = 0 →
    s.acc.inflight = [] → (s.unitAt fn off.toNat).1 = some (base, v) →
    Completes (.lowerHalfRead fn ⟨off, true⟩) s (fun t => t.out = .readData fn (leBytes 8 (v % 2 ^ 64)) false :: s.out ∧
      OnlyParts [.acc, .out] s t ∧ t.acc.latched = s.acc.latched)) ∧
  (∀ (fn : Fin 2) (off : BitVec 26) (s : State), s.off = false → s.fw = false → off.toNat % 4 = 0 →
    cfgOrSec off.toNat = false →
    Completes (.lowerHalfRead fn ⟨off, false⟩) s (fun t => t.out = .readData fn [0, 0, 0, 0] false :: s.out ∧ OnlyParts [.out] s t)) ∧
  (∀ (src : Src) (s : State), s.accepts src .cfgSync 0 = true →
    Completes (.cfgSync src) s (fun t => t.rd .cfgSync_sync 0 = 1 ∧ src ∈ t.acc.syncs)) ∧
  (∀ s : State, s.acc.syncs.all s.synced = true →
    Completes .cfgSyncComplete s (fun t => t.rd .cfgSync_sync 0 = 0 ∧ t.acc.syncs = [] ∧
      OnlyParts [.acc, .regs] s t ∧ OnlyRegs [.cfgSync_sync] s t)) ∧
  (∀ s : State, s.acc.syncs.all s.synced = false → Completes .cfgSyncComplete s (fun t => t = s))

/-! The sideband and JTAG. -/

/-- The I3C target takes and drops its dynamic address, and answers the length, status and identity commands. The layouts of
the answers are presumed (log entry 10). -/
def Obligations.SidebandStandardCommands : Prop :=
  (∀ (da : BitVec 7) (s : State), s.i3cUp = true → s.i3c.da = none →
    Completes (.entdaa da) s (fun t => t.i3c = { s.i3c with da := some da } ∧
      t.out = .i3c (beBytes 6 Config.i3cPid.toNat ++ [0x06, 0x00]) :: s.sendIbi.out ∧ OnlyParts [.i3c, .mgmt, .out] s t)) ∧
  (∀ s : State, s.i3cUp = true →
    Completes .rstdaa s (fun t => t.i3c = { s.i3c with da := none } ∧ OnlyParts [.i3c, .mgmt, .out] s t)) ∧
  (∀ (direct : Bool) (s : State), s.i3cUp = true → (direct = true → s.i3c.da.isSome = true) →
    Completes (.enec direct) s (fun t => t.i3c = { s.i3c with ibiEn := true } ∧ OnlyParts [.i3c, .mgmt, .out] s t) ∧
    Completes (.disec direct) s (fun t => t.i3c = { s.i3c with ibiEn := false } ∧ OnlyParts [.i3c, .mgmt, .out] s t) ∧
    (∀ len : BitVec 16, Completes (.setmwl direct len) s (fun t =>
      t.i3c = { s.i3c with mwl := max 8 (min 16 len.toNat) } ∧ OnlyParts [.i3c, .mgmt, .out] s t)) ∧
    (∀ len : BitVec 16, Completes (.setmrl direct len) s (fun t =>
      t.i3c = { s.i3c with mrl := max 24 (min 32 len.toNat) } ∧ OnlyParts [.i3c, .mgmt, .out] s t)) ∧
    Completes (.rstact direct 0) s (fun t => t.i3c = s.i3c ∧ OnlyParts [.mgmt, .out] s t) ∧
    Completes (.rstact direct 1) s (fun t => t.i3c = State.reset.i3c ∧ OnlyParts [.i3c, .mgmt, .out] s t)) ∧
  (∀ s : State, s.i3cUp = true → s.i3c.da.isSome = true →
    Completes .getpid s (fun t => t.out = .i3c (beBytes 6 Config.i3cPid.toNat) :: s.sendIbi.out ∧ OnlyParts [.mgmt, .out] s t) ∧
    Completes .getbcr s (fun t => t.out = .i3c [0x06] :: s.sendIbi.out ∧ OnlyParts [.mgmt, .out] s t) ∧
    Completes .getdcr s (fun t => t.out = .i3c [0x00] :: s.sendIbi.out ∧ OnlyParts [.mgmt, .out] s t) ∧
    Completes .getmwl s (fun t => t.out = .i3c (beBytes 2 s.i3c.mwl) :: s.sendIbi.out ∧ OnlyParts [.mgmt, .out] s t) ∧
    Completes .getmrl s (fun t => t.out = .i3c (beBytes 2 s.i3c.mrl ++ [1]) :: s.sendIbi.out ∧ OnlyParts [.mgmt, .out] s t) ∧
    Completes .getstatus s (fun t => (∃ bs : List Byte, bs.length = 2 ∧ t.out = .i3c bs :: s.sendIbi.out) ∧
      OnlyParts [.mgmt, .out, .freeCtr] s t))

/-- Until the target holds an address it answers no direct or private command, and a CCC outside Table 18.6 is not
acknowledged. Private commands leave a status byte and their data for the next private read. -/
def Obligations.SidebandPrivateCommands : Prop :=
  (∀ (c : Instr) (s : State),
    c ∈ [Instr.getpid, .getbcr, .getdcr, .getstatus, .getmwl, .getmrl, .i3cHealth, .i3cPrivateRead, .enec true, .disec true] →
    s.i3cUp = true → s.i3c.da = none → Completes c s (fun t => t.out = .i3cNak :: s.out ∧ OnlyParts [.out] s t)) ∧
  (∀ (ccc : BitVec 8) (s : State), s.i3cUp = true → ccc.toNat ∉ directCccs →
    Completes (.i3cUnsupportedCcc ccc) s (fun t => t.out = .i3cNak :: s.sendIbi.out ∧ OnlyParts [.mgmt, .out] s t)) ∧
  (∀ (off : BitVec 32) (s : State), s.i3cUp = true → s.i3c.da.isSome = true → i3cReach off.toNat = true →
    off.toNat ≠ 0x10006C → off.toNat ≠ 0x100060 →
    Completes (.i3cReadReg off) s (fun t => t.i3c.resp = some (0 :: leBytes 4 (s.sendIbi.peek32 0 off.toNat)) ∧
      OnlyParts [.i3c, .mgmt, .out] s t)) ∧
  (∀ (off : BitVec 32) (s : State), s.i3cUp = true → s.i3c.da.isSome = true → off.toNat = 0x10006C ∨ off.toNat = 0x100060 →
    Completes (.i3cReadReg off) s (fun t => (∃ fn, fn < 2 ∧ t.i3c.resp = some (0 :: leBytes 4 (s.sendIbi.peek32 fn off.toNat))) ∧
      OnlyParts [.i3c, .mgmt, .out, .freeCtr] s t)) ∧
  (∀ (off : BitVec 32) (s : State), s.i3cUp = true → s.i3c.da.isSome = true → i3cReach off.toNat = false →
    Completes (.i3cReadReg off) s (fun t => t.i3c.resp = some [3] ∧ OnlyParts [.i3c, .mgmt, .out] s t)) ∧
  (∀ s : State, s.i3cUp = true → s.i3c.da.isSome = true →
    Completes .i3cHealth s (fun t => t.i3c.resp = some (0 :: s.sendIbi.healthBytes) ∧ OnlyParts [.i3c, .mgmt, .out] s t)) ∧
  (∀ (gid : BitVec 24) (s : State), s.i3cUp = true → s.i3c.da.isSome = true → s.gidRefused (gid.toNat % 2 ^ 18) = false →
    Completes (.i3cSetGid gid) s (fun t => t.rd .cfgGid_gid 0 = gid.toNat % 2 ^ 18 ∧ t.rd .cfgGid_valid 0 = 1 ∧
      t.i3c.resp = some [0])) ∧
  (∀ (gid : BitVec 24) (s : State), s.i3cUp = true → s.i3c.da.isSome = true → s.gidRefused (gid.toNat % 2 ^ 18) = true →
    Completes (.i3cSetGid gid) s (fun t => t.rd .cfgGid_refused 0 = 1 ∧ t.i3c.resp = some [2] ∧
      OnlyRegs [.cfgGid_refused] s t ∧ OnlyParts [.i3c, .mgmt, .out, .regs] s t)) ∧
  (∀ (key : BitVec 16) (found : BootFindings) (s : State), s.i3cUp = true → s.i3c.da.isSome = true → key ≠ 0x5AFE →
    Completes (.i3cReboot key found) s (fun t => t.i3c.resp = some [2] ∧ OnlyParts [.i3c, .mgmt, .out] s t)) ∧
  (∀ (cmd : BitVec 8) (s : State), s.i3cUp = true → s.i3c.da.isSome = true → (cmd.toNat = 0 ∨ 4 < cmd.toNat) →
    Completes (.i3cBadCmd cmd) s (fun t => t.i3c.resp = some [1] ∧ OnlyParts [.i3c, .mgmt, .out] s t)) ∧
  (∀ (bs : List Byte) (s : State), s.i3cUp = true → s.i3c.da.isSome = true → s.i3c.resp = some bs →
    Completes .i3cPrivateRead s (fun t => t.out = .i3c bs :: s.sendIbi.out ∧ OnlyParts [.mgmt, .out] s t))

/-- The JTAG instructions: what each shifts out and drives, and which instruction is in force. JTAG_INTERNAL acts as BYPASS
while internal JTAG is disabled, and stops by name while it is enabled, for the specification gives its instructions no
effect then. -/
def Obligations.JtagInstructions : Prop :=
  (∀ s : State,
    Completes .jtagBypass s (fun t => t.jtag = { s.jtag with instr := .bypass } ∧ t.out = .jtag 1 0 :: s.out ∧ OnlyParts [.jtag, .out] s t) ∧
    Completes .jtagIdcode s (fun t => t.jtag = { s.jtag with instr := .idcode } ∧
      t.out = .jtag 32 (0x5120 * 2 ^ 12 + Config.jep106.toNat * 2 + 1) :: s.out ∧ OnlyParts [.jtag, .out] s t) ∧
    (∀ pins load : BitVec 38, Completes (.jtagSamplePreload pins load) s (fun t => t.jtag = ⟨.sample, load⟩ ∧
      t.out = .jtag 38 pins.toNat :: s.out ∧ OnlyParts [.jtag, .out] s t)) ∧
    Completes .jtagExtest s (fun t => t.jtag = { s.jtag with instr := .extest } ∧ t.out = .lands s.jtag.boundary.toNat :: s.out ∧
      OnlyParts [.jtag, .out] s t) ∧
    Completes .jtagClamp s (fun t => t.jtag = { s.jtag with instr := .clamp } ∧
      t.out = .jtag 1 0 :: .lands s.jtag.boundary.toNat :: s.out ∧ OnlyParts [.jtag, .out] s t) ∧
    Completes .jtagHighz s (fun t => t.jtag = { s.jtag with instr := .highz } ∧ t.out = .jtag 1 0 :: .landsHighZ :: s.out ∧
      OnlyParts [.jtag, .out] s t)) ∧
  (∀ (instr : BitVec 8) (s : State), 0x80 ≤ instr.toNat → instr.toNat ≤ 0xFE →
    (bitAt (s.rd .secDbgCtrl_enable 0) 1 = false →
      Completes (.jtagInternal instr) s (fun t => t.jtag = { s.jtag with instr := .bypass } ∧ t.out = .jtag 1 0 :: s.out ∧
        OnlyParts [.jtag, .out] s t)) ∧
    (bitAt (s.rd .secDbgCtrl_enable 0) 1 = true → exec (.jtagInternal instr) s = .refused .debugUnit))

/-! Time and the gates. -/

/-- One TIME_CLK cycle adds Q + RATE to the fraction and its whole part to TIME_NS; a wrap is counted in the epoch. Every
rising edge that is accepted on SYNC_IN is timestamped, whatever SYNC_IN_EN holds; with SYNC_IN_EN clear or the timer stopped
it does nothing more. -/
def Obligations.TimeTicksAndEdges : Prop :=
  (∀ s : State, s.tb.counting = true → s.off = false → s.tb.ok →
    Completes .timeClkTick s (fun t =>
      (t.tb.frac : Int) + 65536000000000 * (t.tb.mono - s.tb.mono : Nat) =
        s.tb.frac + 65536000000000 + signed 32 (s.rd .timeRate_rate 0) ∧
      t.tb.frac < 65536000000000 ∧ t.tb.ns = s.tb.ns + BitVec.ofNat 32 (t.tb.mono - s.tb.mono) ∧
      (2 ^ 32 ≤ s.tb.ns.toNat + (t.tb.mono - s.tb.mono) → t.rd .timeStatus_wrap 0 = 1 ∧ t.tel.epoch = s.tel.epoch + 1) ∧
      (s.tb.ns.toNat + (t.tb.mono - s.tb.mono) < 2 ^ 32 → OnlyParts [.tb] s t))) ∧
  (∀ s : State, (s.tb.counting = false ∨ s.off = true) → Completes .timeClkTick s (fun t => t = s)) ∧
  (∀ s : State, s.off = false → s.landsHeld = false → (∀ t0, s.gate.edge = some t0 → t0 + 100 ≤ s.tb.mono) →
    Completes .syncInEdge s (fun t => t.rd .gateSyncEdge_te 0 = s.now ∧ t.gate.edge = some s.tb.mono) ∧
    (s.rd .gateSyncCfg_syncInEn 0 = 0 ∨ s.gateRuns = false →
      Completes .syncInEdge s (fun t => OnlyRegs [.gateSyncEdge_te] s t ∧ OnlyParts [.gate, .regs] s t ∧
        t.gate = { s.gate with edge := some s.tb.mono })))

/-- TIME_STEP adds its value to TIME_NS modulo 2^32 and keeps the fraction; a step of 0 has no effect; two steps of one
source apply separately. -/
def Obligations.TimeStepAddsSignedValue : Prop :=
  (∀ (src : Src) (d : BitVec 32) (s : State), s.accepts src .timeStep 0 = true → d ≠ 0 →
    Completes (.timeStep src d) s (fun t => t.tb.ns = s.tb.ns + d ∧ t.tb.frac = s.tb.frac ∧ t.tb.mono = s.tb.mono ∧
      t.tb.counting = s.tb.counting)) ∧
  (∀ (src : Src) (s : State), s.accepts src .timeStep 0 = true →
    Completes (.timeStep src 0) s (fun t => t = s.ready src .timeStep 0)) ∧
  (∀ (src : Src) (d e : BitVec 32) (s t : State), s.accepts src .timeStep 0 = true → exec (.timeStep src d) s = .next t →
    t.accepts src .timeStep 0 = true → Completes (.timeStep src e) t (fun u => u.tb.ns = s.tb.ns + d + e ∧ u.tb.frac = s.tb.frac))

/-- The cycle timer: ARM captures its settings and start, EN 0 stops it at once, and SYNC_OUT stays high for 1,000 ns. Gate
lists: the entry in force is shown, COMMIT waits for the next boundary, and a write to a list in use is turned away with
ACTIVE_WRITE.
Times are told on the free-running count of ns (log entry 52). -/
def Obligations.GatesFollowTheCycle : Prop :=
  (∀ (src : Src) (s : State), s.accepts src .gateCycleCtrl 0 = true →
    (s.ready src .gateCycleCtrl 0).rd .gateCycleCfg_en 0 = 1 →
    Completes (.gateCycleArm src) s (fun t => t.rd .gateCycleCtrl_arm 0 = 1 ∧
      t.gate.armed = some ((startAhead ((s.ready src .gateCycleCtrl 0).rd .gateNextCycleStart_start 0) s.now
          (s.ready src .gateCycleCtrl 0).cycleTime).1,
        (s.ready src .gateCycleCtrl 0).cycleTime, (s.ready src .gateCycleCtrl 0).stepLimit))) ∧
  (∀ (src : Src) (val : BitVec 64) (s : State), s.accepts src .gateCycleCfg 0 = true →
    Completes (.gateCycleStop src val) s (fun t =>
      t.rd .gateCycleCfg_cycleTime 0 = bits val.toNat 40 24 ∧ t.rd .gateCycleCfg_stepLimit 0 = bits val.toNat 20 20 ∧
      t.rd .gateCycleCfg_en 0 = bits val.toNat 0 1 ∧
      (bits val.toNat 0 1 = 0 → t.rd .gateCycleCtrl_running 0 = 0 ∧ t.rd .gateCycleCtrl_arm 0 = 0 ∧ t.gate.armed = none ∧
        t.gate.pulse = none))) ∧
  (∀ s : State, s.gate.armed = none → s.gateRuns = true → s.reached s.gate.next = true →
    Completes .gateCycleBoundary s (fun t => t.gate.last = s.gate.next ∧ t.gate.next = (s.gate.next + s.gate.cycle) % 2 ^ 32 ∧
      t.gate.count = (s.gate.count + 1) % s.outDiv ∧
      (∀ n, n < 512 → s.rd .gatePortCtrl_commit n = 1 →
        t.rd .gatePortCtrl_commit n = 0 ∧ t.rd .gatePortCtrl_active n = (1 - s.rd .gatePortCtrl_active n) % 2))) ∧
  (∀ (t0 : Nat) (s : State), s.gate.pulse = some t0 → t0 + 1000 ≤ s.tb.mono →
    Completes .syncOutPulseEnd s (fun t => t.gate = { s.gate with pulse := none } ∧ OnlyParts [.gate, .out] s t)) ∧
  (∀ (port : Fin 512) (s : State), s.follows port = false →
    Completes (.gateEntryChange port) s (fun t => t.rd .gatePortStatus_curEntry port = 0 ∧ t.rd .gatePortStatus_curState port = 0xFF ∧
      OnlyParts [.regs] s t ∧ OnlyAt [.gatePortStatus_curEntry, .gatePortStatus_curState] port s t)) ∧
  (∀ (port : Fin 512) (w : Nat × Nat × Nat × Nat) (s : State), s.follows port = true →
    (s.gateSpans port).reverse.find? (fun w => decide (w.2.1 ≤ span32 s.gate.last s.now)) = some w →
    Completes (.gateEntryChange port) s (fun t => t.rd .gatePortStatus_curEntry port = w.1 % 2 ^ 6 ∧
      t.rd .gatePortStatus_curState port = (w.2.2.2 ||| 0x80) % 2 ^ 8 ∧ OnlyParts [.regs] s t ∧
      OnlyAt [.gatePortStatus_curEntry, .gatePortStatus_curState] port s t)) ∧
  (∀ (src : Src) (port : Fin 512) (val : BitVec 32) (s : State), s.accepts src .gatePortCtrl port = true →
    bitAt val.toNat 30 = true →
    Completes (.gateCommit src port val) s (fun t => t.rd .gatePortCtrl_commit port = 1 ∧
      t.rd .gatePortCtrl_en port = bits val.toNat 31 1)) ∧
  (∀ (src : Src) (port : Fin 512) (bank : Fin 2) (entry : Fin 64) (val : BitVec 32) (s : State),
    s.accepts src .gateList (gateIdx port bank entry) = true →
    (s.ready src .gateList (gateIdx port bank entry)).listGuarded port bank = false →
    Completes (.gateListWrite src port bank entry val) s (fun t =>
      t.rd .gateList_state (gateIdx port bank entry) = bits val.toNat 24 8 ∧
      t.rd .gateList_duration (gateIdx port bank entry) = bits val.toNat 0 24 ∧
      OnlyAt [.gateList_state, .gateList_duration] (gateIdx port bank entry) (s.ready src .gateList (gateIdx port bank entry)) t)) ∧
  (∀ (src : Src) (port : Fin 512) (bank : Fin 2) (entry : Fin 64) (val : BitVec 32) (s : State),
    s.accepts src .gateList (gateIdx port bank entry) = true →
    (s.ready src .gateList (gateIdx port bank entry)).listGuarded port bank = true →
    Completes (.gateListWrite src port bank entry val) s (fun t => t.rd .gatePortStatus_activeWrite port = 1 ∧
      OnlyAt [.gatePortStatus_activeWrite] port (s.ready src .gateList (gateIdx port bank entry)) t))

/-! Telemetry and upkeep. -/

/-- A snapshot latches every counter into its shadow with TIME_NS and one more SEQ; CLEAR acts on the live counters of one
group only. A window read of an exposed group returns its snapshot, any other all ones with STATUS ERROR. LOG_COMMIT programs
the oldest pending record at the next place of the flash log and moves the place on.
Times are told on the free-running count of ns (log entry 52). -/
def Obligations.SnapshotsClearAndLog : Prop :=
  (∀ (src : Src) (s : State), src ≠ .image → s.accepts src .telCtrl 0 = true → s.tel.latch = none →
    Completes (.telSnap src) s (fun t => t.tel.latch = some ((s.ready src .telCtrl 0).latched, s.now) ∧ t.rd .telCtrl_snap 0 = 1)) ∧
  (∀ s : State, s.off = false → s.rd .telCfg_autoMs 0 ≠ 0 → s.tel.autoAt + 1000000 * s.rd .telCfg_autoMs 0 ≤ s.tb.mono →
    Completes .autoSnapshot s (fun t => t.tel = { s.tel with
        latch := if s.tel.latch.isSome then s.tel.latch else some (s.latched, s.now),
        autoAt := s.tel.autoAt + 1000000 * s.rd .telCfg_autoMs 0 } ∧ OnlyParts [.tel] s t)) ∧
  (∀ (m : SMap) (τ : Nat) (s : State), s.tel.latch = some (m, τ) →
    Completes .snapshotComplete s (fun t => t.tel = { s.tel with shadow := m, latch := none } ∧
      t.rd .telSnapStatus_seq 0 = (s.rd .telSnapStatus_seq 0 + 1) % 2 ^ 32 ∧ t.rd .telSnapStatus_time 0 = τ % 2 ^ 32 ∧
      t.rd .telCtrl_snap 0 = 0 ∧ OnlyParts [.tel, .regs] s t ∧
      OnlyRegs [.telSnapStatus_seq, .telSnapStatus_time, .telCtrl_snap] s t)) ∧
  (∀ (src : Src) (g : BitVec 5) (s : State), srcIsOwner src = true → s.accepts src .telCtrl 0 = true →
    Completes (.telClear src g) s (fun t => (∀ i, t.count g.toNat i = 0) ∧
      (∀ g' i, g' ≠ g.toNat → t.count g' i = (s.ready src .telCtrl 0).count g' i) ∧ t.tel.shadow = s.tel.shadow ∧
      (∀ i, g.toNat < 2 → i / 256 = g.toNat → t.rd .telWrap_wrap i = 0))) ∧
  (∀ (pos : Nat) (r : Deliv) (s u : State) (off n : Nat), s.takeLocal pos isWindowRead = some (r, u) →
    off = r.pkt.w2.toNat - 0x100000000 → n = 4 * r.pkt.w1k.toNat →
    (n = 0 ∨ 4096 < n ∨ (r.pkt.tc = 7 ∧ 2012 < n) →
      Completes (.telemetryWindowRead pos) s (fun t => t.sw = (u.nack r 5).sw)) ∧
    (0 < n → n ≤ 4096 → (r.pkt.tc = 7 → n ≤ 2012) → off < 0x1000000 → off / 0x80000 = (off + n - 1) / 0x80000 →
      (bitAt (u.rd .telExpose_groups 0) (off / 0x80000) = true →
        Completes (.telemetryWindowRead pos) s (fun t =>
          t.sw = (u.respond r 0x03 0 r.pkt.w2 (u.windowBytes (off / 0x80000) (off % 0x80000) n)).sw)) ∧
      (bitAt (u.rd .telExpose_groups 0) (off / 0x80000) = false →
        Completes (.telemetryWindowRead pos) s (fun t =>
          t.sw = (u.respond r 0x03 0x200 r.pkt.w2 (List.replicate n 0xFF)).sw)))) ∧
  (∀ (q : FaultRec) (rest : List FaultRec) (s : State), s.off = false → s.chip.flash = none → s.tel.log = q :: rest →
    s.landsHeld = false →
    Completes .logCommit s (fun t => t.tel = { s.tel with log := rest } ∧
      t.rd .telLogStatus_next 0 = nextLogPlace (s.rd .telLogStatus_next 0) % 2 ^ 32 ∧
      t.rd .telLogStatus_pending 0 = rest.length % 2 ^ 8 ∧ OnlyParts [.tel, .regs, .flash] s t ∧
      OnlyRegs [.telLogStatus_next, .telLogStatus_pending] s t))

/-- A unit that fails is recorded in the fault summary and the region status, and DEGRADED is shown. -/
def Obligations.FailedUnitsAreRecorded : Prop :=
  (∀ (core : Fin 2) (s : State), s.off = false → s.chip.ctlDead = none →
    Completes (.ctlFailover core) s (fun t => t.chip.ctlDead = some core.val ∧ t.rd .cfgFaultSummary_ctlOneFailed 0 = 1 ∧
      t.rd .cfgFaultSummary_degraded 0 = 1)) ∧
  (∀ (kind : BlockKind) (num : Fin 64) (cause : Fin 3) (c : Instr) (s : State), s.off = false →
    c = .blockFailed kind num cause ∨ c = .blockWatchdogExpiry kind num →
    Completes c s (fun t => match kind with
      | .line => bitAt (t.rd .cfgRegionStatus_lbFail (num / 8)) (num % 8) = true
      | .compute => bitAt (t.rd .cfgRegionStatus_cbFail (num / 8)) (num % 8) = true
      | .service => t.rd .cfgRegionStatus_svFail (num % 8) = 1)) ∧
  (∀ (num : Fin 64) (cause : Fin 3) (s : State), s.off = false → s.blockDead num = false →
    Completes (.blockFailed .line num cause) s (s.lineLost num cause) ∧ Completes (.blockWatchdogExpiry .line num) s (s.lineLost num 2)) ∧
  (∀ (num : Fin 64) (cause : Fin 3) (s : State), s.off = false → s.computeDead num = false →
    Completes (.blockFailed .compute num cause) s (s.computeLost num cause) ∧
    Completes (.blockWatchdogExpiry .compute num) s (s.computeLost num 2)) ∧
  (∀ (num : Fin 64) (cause : Fin 3) (s : State), s.off = false → s.regionDead (num % 8) = false →
    Completes (.blockFailed .service num cause) s (s.regionLost (num % 8) 1) ∧
    Completes (.blockWatchdogExpiry .service num) s (s.regionLost (num % 8) 1)) ∧
  (∀ (k : Fin 8) (cause : Fin 3) (s : State), s.off = false → s.regionDead k = false →
    Completes (.regionFailed k cause) s (fun t => t.rd .cfgRegionStatus_regionFailed k = 1 ∧ s.regionLost k cause t)) ∧
  (∀ (j : Fin 4) (s : State), s.off = false → s.stackDead j = false →
    Completes (.hbmStackFailed j) s (fun t => t.stackDead j = true ∧ t.rd .cfgFaultSummary_degraded 0 = 1 ∧
      Recorded 0x0004 2 [j] s t ∧ (s.devState = 4 → t.devState = 5) ∧
      (∀ o ∈ t.prom.objs, ∀ c ∈ o.2.chunks, s.promStack c.1 ≠ j)))

/-- A fatal chip error sets CHIP_FATAL and takes the part from CONFIG, JOIN, RUN or DEGRADED to SAFE. -/
def Obligations.FatalErrorEntersSafe : Prop :=
  (∀ (cause : Fin 6) (s : State), s.off = false →
    Completes (.chipFatal cause) s (fun t => t.rd .cfgFaultSummary_chipFatal 0 = 1 ∧
      (2 ≤ s.devState → s.devState ≤ 5 → t.devState = 6 ∧ t.rd .cfgState_safeCause 0 = 3) ∧ Recorded 0x0005 3 [cause] s t)) ∧
  (∀ (sensor : Fin 9) (s : State), s.off = false → s.chip.tripped = false →
    Completes (.thermtrip sensor) s (fun t => t.chip.tripped = true ∧ t.rd .cfgFaultSummary_chipFatal 0 = 1 ∧
      (2 ≤ s.devState → s.devState ≤ 5 → t.devState = 6))) ∧
  (∀ (core other : Fin 2) (s : State), s.off = false → s.chip.ctlDead = some other.val → core ≠ other →
    Completes (.ctlFailover core) s (fun t => t.rd .cfgFaultSummary_chipFatal 0 = 1 ∧ t.fw = false))

/-- An uncorrectable codeword marks the unit that holds it; a table entry is copied back from a region that holds it, or
invalidated. The background scrub counts what it corrects and each pass it ends, while it is enabled; a correction on an ordinary read
comes as a finding of the same command (the model's choice, log entry 51).
Times are told on the free-running count of ns (log entry 52). -/
def Obligations.UncorrectableCodewordsAreContained : Prop :=
  (∀ (tb : Fin 8) (i : BitVec 18) (k : Fin 8) (s : State), s.off = false →
    Completes (.uncorrectableCodeword (.table tb i k)) s (fun t => (tb.val, i.toNat, k.val) ∈ t.tab.bad ∧ OnlyParts [.tab, .tel, .regs] s t)) ∧
  (∀ (line : BitVec 18) (s : State), s.off = false →
    Completes (.uncorrectableCodeword (.commons line)) s (fun t => t.poisoned line.toNat = true ∧
      t.rd .telFaultSeq_seq 0 = (s.rd .telFaultSeq_seq 0 + 1) % 2 ^ 64)) ∧
  (∀ (m : Fin 6) (k : Fin 8) (addr : Nat) (s : State), s.off = false →
    Completes (.uncorrectableCodeword (.unused m k addr)) s (fun t =>
      t.rd .telFaultSeq_seq 0 = (s.rd .telFaultSeq_seq 0 + 1) % 2 ^ 64)) ∧
  (∀ (tb : Fin 8) (i : BitVec 18) (k h : Fin 8) (s : State), (tb.val, i.toNat, k.val) ∈ s.tab.bad → h ≠ k →
    s.copyGood tb i.toNat h = true →
    Completes (.tableEntryReload tb i k) s (fun t => t.tab = { s.tab with bad := s.tab.bad.filter (fun b => b != (tb.val, i.toNat, k.val)) })) ∧
  (∀ (tb : Fin 8) (i : BitVec 18) (k : Fin 8) (s : State), (tb.val, i.toNat, k.val) ∈ s.tab.bad →
    (∀ h : Fin 8, h ≠ k → s.copyGood tb i.toNat h = false) →
    Completes (.tableEntryReload tb i k) s (fun t => ∀ h, (tb.val, i.toNat, h) ∉ t.tab.bad)) ∧
  (∀ (mem : Fin 6) (k : Fin 8) (s : State), s.off = false → s.rd .telScrubCfg_en 0 = 1 → (mem.val < 5 → s.regionDead k = false) →
    (mem.val = 5 → k.val < 4) →
    Completes (.scrubRead mem k .clean) s (fun t => t = s) ∧
    Completes (.scrubRead mem k .corrected) s (fun t =>
      Counted 15 (4 * (8 * k + mem)) s t ∧ OnlyParts [.tel] s t) ∧
    (s.passed (sget 0 s.tel.passAt (Nat.pair mem k)) (s.passNs mem) = true →
      Completes (.scrubRead mem k .endOfPass) s (fun t =>
        Counted 15 (4 * (8 * k + mem) + 3) s t ∧ sget 0 t.tel.passAt (Nat.pair mem k) = s.tb.mono ∧ OnlyParts [.tel] s t)) ∧
    (∀ site, exec (.scrubRead mem k (.uncorrectable site)) s = exec (.uncorrectableCodeword site) s)) ∧
  (∀ (mem : Fin 6) (k : Fin 8) (s : State), s.off = false → (mem.val < 5 → s.regionDead k = false) → (mem.val = 5 → k.val < 4) →
    Completes (.scrubRead mem k .readCorrected) s (fun t => Counted 15 (4 * (8 * k + mem)) s t ∧ OnlyParts [.tel] s t))

/-! Power and heat. -/

/-- The arbiter's floor is the draw measured plus the headroom, capped, and each block's grant moves by at most the ramp. -/
def Obligations.ArbiterMovesGrantsByRamp : Prop :=
  ∀ (switchW : BitVec 12) (hbmW : BitVec 8) (pkgW : BitVec 12) (req : List (BitVec 8)) (s : State), s.off = false →
    Completes (.arbiterInterval switchW hbmW pkgW req) s (fun t =>
      t.pwr.floor = min (switchW.toNat + s.rd .pwrCfg_swHeadroom 0) s.floorCap ∧
      t.rd .pwrStatus_floorW 0 = t.pwr.floor % 2 ^ 12 ∧ t.pwr.ptr = (s.pwr.ptr + 1) % 64 ∧
      (∀ c, c < 64 → s.computeDead c = false →
        t.rd .pwrCbGrant_grant c ≤ s.rd .pwrCbGrant_grant c + s.rampUp ∧
        s.rd .pwrCbGrant_grant c ≤ t.rd .pwrCbGrant_grant c + s.rampDn) ∧
      (∀ c, c < 64 → s.computeDead c = true → t.rd .pwrCbGrant_grant c = 0))

/-- In each millisecond the thermal limit falls by a step above THROTTLE, rises by one 2 °C or more below it, and otherwise
stays; THROTTLING shows that it lies below PKG_LIMIT. A failed sensor is remembered. -/
def Obligations.ThermalLimitFollowsHottestSensor : Prop :=
  (∀ (readings : List (BitVec 8)) (hot : Nat) (s : State), s.off = false →
    hot = ((List.range 9).map (s.sensorRead readings)).foldl max 0 →
    Completes (.thermalTick readings) s (fun t => t.rd .pwrStatus_tHot 0 = hot ∧
      (s.throttleT < hot → t.thermLimit = s.thermLimit - max 1 (s.rd .pwrThermCfg_step 0)) ∧
      (hot ≤ s.throttleT → s.throttleT < hot + 2 → t.thermLimit = s.thermLimit) ∧
      (hot + 2 ≤ s.throttleT → t.thermLimit = min s.pkgLimit (s.thermLimit + max 1 (s.rd .pwrThermCfg_step 0))) ∧
      (t.rd .pwrStatus_throttling 0 = 1 ↔ t.thermLimit < s.pkgLimit))) ∧
  (∀ (sensor : Fin 9) (s : State), s.off = false → s.pwr.sensors.contains sensor.val = false →
    Completes (.sensorFail sensor) s (fun t => t.rd .pwrStatus_sensorFail 0 = 1 ∧
      t.pwr = { s.pwr with sensors := s.pwr.sensors ++ [sensor.val] } ∧ OnlyParts [.pwr, .regs] s t ∧
      OnlyRegs [.pwrStatus_sensorFail] s t))

/-- Idle states: when a block enters C2, a region C3 and C4, and a stack self-refresh. A block wakes into C0 with a grant of
0 when a tile is queued on it; a region wakes into C0.
Times are told on the free-running count of ns (log entry 52). -/
def Obligations.IdleStatesAndWakes : Prop :=
  (∀ (c : Fin 64) (s : State), s.off = false → s.computeDead c = false → s.rd .pwrRegionStatus_state (c / 8) = 0 →
    bitAt (s.rd .pwrRegionStatus_c1 (c / 8)) (c % 8) = true → s.tilesIn c = [] → 2 ≤ s.maxState → s.wakeFits (c / 8) 2 = true →
    sget 0 s.pwr.c1At c + 1000 * s.rd .pwrIdleCfg_c2Us 0 ≤ s.tb.mono →
    Completes (.idleC2Timer c) s (fun t => bitAt (t.rd .pwrRegionStatus_c1 (c / 8)) (c % 8) = false ∧
      bitAt (t.rd .pwrRegionStatus_c2 (c / 8)) (c % 8) = true ∧ OnlyParts [.regs, .pwr] s t ∧
      t.pwr = { s.pwr with c2At := sset 0 s.pwr.c2At c s.tb.mono } ∧
      OnlyAt [.pwrRegionStatus_c1, .pwrRegionStatus_c2] (c / 8) s t)) ∧
  (∀ (k : Fin 8) (s : State), s.off = false → s.regionDead k = false → s.rd .pwrRegionStatus_state k = 0 →
    (∀ j, j < 8 → s.computeDead (8 * k + j) = true ∨ (bitAt (s.rd .pwrRegionStatus_c2 k) j = true ∧
      sget 0 s.pwr.c2At (8 * k + j) + s.c3Ns ≤ s.tb.mono)) →
    (∀ e ∈ s.eng.inst, s.hostFirst ≤ e.1 → e.2.region = k → e.2.state ≠ 1) → s.regionIdle k = true → 3 ≤ s.maxState →
    s.wakeFits k 20 = true →
    Completes (.idleC3Timer k) s (fun t => t.rd .pwrRegionStatus_state k = 3 ∧ OnlyParts [.regs, .pwr] s t ∧
      t.pwr = { s.pwr with c3At := sset 0 s.pwr.c3At k s.tb.mono } ∧
      OnlyAt [.pwrRegionStatus_state] k s t)) ∧
  (∀ (k : Fin 8) (s : State), s.off = false → s.regionDead k = false → s.rd .pwrRegionStatus_state k = 3 →
    s.pwr.waking.contains k.val = false → s.maxState = 4 → s.holders k = [] →
    sget 0 s.pwr.c3At k + s.c4Ns ≤ s.tb.mono →
    Completes (.idleC4Timer k) s (fun t => t.rd .pwrRegionStatus_state k = 4 ∧ OnlyParts [.regs] s t ∧
      OnlyAt [.pwrRegionStatus_state] k s t)) ∧
  (∀ (j : Fin 4) (s : State), s.off = false → s.stackDead j = false →
    (s.rd .voqSpillCfg_en 0 = 0 ∨ s.rd .voqSpillCfg_size 0 = 0) → s.pwr.refresh.contains j.val = false →
    (∀ e ∈ s.sw.pkts, e.2.hseg = 0) → sget 0 s.pwr.used j + 10000 ≤ s.tb.mono →
    Completes (.hbmSelfRefresh j) s (fun t => t.pwr = { s.pwr with refresh := s.pwr.refresh ++ [j.val] } ∧ OnlyParts [.pwr] s t)) ∧
  (∀ (c : Fin 64) (s : State), s.off = false → s.rd .pwrRegionStatus_state (c / 8) = 0 → s.blockDozes c = true → s.tilesIn c ≠ [] →
    Completes (.wakeComplete (.block c)) s (fun t => t.blockDozes c = false ∧ t.rd .pwrCbGrant_grant c = 0 ∧ OnlyParts [.regs] s t ∧
      OnlyRegs [.pwrRegionStatus_c1, .pwrRegionStatus_c2, .pwrCbGrant_grant] s t)) ∧
  (∀ (k : Fin 8) (s : State), s.off = false → s.pwr.waking.contains k.val = true → s.regionDead k = false →
    s.rd .pwrRegionStatus_state k ≠ 0 →
    Completes (.wakeComplete (.region k)) s (fun t => t.rd .pwrRegionStatus_state k = 0 ∧ t.pwr.waking.contains k.val = false ∧
      (s.rd .pwrRegionStatus_state k = 4 → s.pwr.bar2 = [] → s.tab.jobs = [] → s.eng.startReq = none →
        ∀ e ∈ t.eng.mem, scratchRegion? e.1 ≠ some k.val)))

/-! Start-up, loss of power, trust. -/

/-- RESET_N is released and the part starts; with no valid slot it enters SAFE without firmware. -/
def Obligations.StartUpWithoutValidSlotEntersSafe : Prop :=
  (∀ (found : BootFindings) (s : State), (s.off = true ∨ s.started = false) →
    Completes (.resetNRelease found) s (fun t => t.started = true ∧ t.off = false ∧ t.tb.counting = true ∧ t.i3c = State.reset.i3c)) ∧
  (∀ (found : BootFindings) (s : State), (s.off = true ∨ s.started = false) →
    (s.romStep.viewSlot 0 found.readErrA).reason ≠ 0 → (s.romStep.viewSlot 1 found.readErrB).reason ≠ 0 →
    Completes (.resetNRelease found) s (fun t => t.devState = 6 ∧ t.rd .cfgState_safeCause 0 = 1 ∧ t.fw = false))

/-- The part leaves JOIN when it has a GID and every enabled port has reached UP or ended a training attempt, or the wait is
over: for DEGRADED when a unit is out of service, for RUN otherwise. Without a GID, or before either, it stays. That the
second of waiting is read on the free-running count is the model's choice (log entry 52). -/
def Obligations.JoinIsLeftWithGid : Prop :=
  (∀ (waited : Bool) (s : State), s.off = false → s.devState = 3 → s.gid?.isSome = true →
    ((waited = true ∧ s.chip.joinAt + 1000000000 ≤ s.tb.mono) ∨ s.enabledPorts.all (fun n => (s.pst n).ended) = true) →
    Completes (.joinExit waited) s (fun t => t.devState = if s.rd .cfgFaultSummary_degraded 0 = 1 then 5 else 4)) ∧
  (∀ (waited : Bool) (s : State), s.gid? = none → Completes (.joinExit waited) s (fun t => t = s)) ∧
  (∀ (waited : Bool) (s : State), s.enabledPorts.all (fun n => (s.pst n).ended) = false →
    (waited = false ∨ s.tb.mono < s.chip.joinAt + 1000000000) → Completes (.joinExit waited) s (fun t => t = s))

/-- Loss of RESET_N or of power turns the part off and loses everything but the flash and the identity store; a restart asked
for with the key starts it anew, whoever asks. -/
def Obligations.RestartAndPowerLoss : Prop :=
  (∀ (pin : PowerPin) (s : State),
    Completes (.powerGoodLoss pin) s (fun t => t.off = true ∧ t.regs = [] ∧ t.chip.anchor = s.chip.anchor ∧
      (s.chip.flash = none → t.flash = s.flash) ∧
      ∀ p ∈ [Part.tb, .i3c, .started, .fw, .acc, .tel, .mgmt, .sw, .tab, .ports, .gate, .fen, .gw, .opt, .eng, .svc, .red, .cmn, .prom,
        .pwr], p.same State.reset t)) ∧
  (∀ (src : Src) (val : BitVec 32) (found : BootFindings) (s : State), s.accepts src .cfgCtrl 0 = true →
    rebootAsked val.toNat = true →
    Completes (.reboot src val found) s (fun t => t.started = true ∧ t.off = false ∧ t.jtag = s.jtag)) ∧
  (∀ (found : BootFindings) (s : State), s.i3cUp = true → s.i3c.da.isSome = true →
    Completes (.i3cReboot 0x5AFE found) s (fun t => t.started = true ∧ t.off = false ∧ t.jtag = s.jtag))

/-- Flash commands: START takes the address and count, PROTECTED ranges are refused, and completion does the work. Self-test:
a deferred test that may start is accepted and runs, and its end is shown; a full one restarts the part. -/
def Obligations.FlashAndSelfTest : Prop :=
  (∀ (src : Src) (count : BitVec 8) (s u : State), s.accepts src .cfgFlashCmd 0 = true → u = s.ready src .cfgFlashCmd 0 →
    Completes (.flashRead src count) s (fun t => t.rd .cfgFlashCmd_start 0 = 1 ∧
      t.chip.flash = some ⟨0, u.rd .cfgFlashAddr_addr 0, count.toNat + 1, [], 0⟩) ∧
    (u.flashProtected (u.rd .cfgFlashAddr_addr 0) (count.toNat + 1) = false →
      u.rd .cfgFlashAddr_addr 0 % 256 + (count.toNat + 1) ≤ 256 →
      Completes (.flashProgram src count) s (fun t => t.rd .cfgFlashCmd_start 0 = 1 ∧
        t.chip.flash = some ⟨1, u.rd .cfgFlashAddr_addr 0, count.toNat + 1, u.flashData (count.toNat + 1), 0⟩)) ∧
    (u.flashProtected (u.rd .cfgFlashAddr_addr 0) (count.toNat + 1) = true →
      Completes (.flashProgram src count) s (fun t => t.rd .cfgFlashCmd_start 0 = 0 ∧ t.rd .cfgFlashCmd_result 0 = 1 ∧
        t.flash = s.flash ∧ t.chip = s.chip))) ∧
  (∀ (src : Src) (s u : State), s.accepts src .cfgFlashCmd 0 = true → u = s.ready src .cfgFlashCmd 0 →
    u.flashProtected (u.rd .cfgFlashAddr_addr 0 / 0x10000 * 0x10000) 0x10000 = false →
    Completes (.flashErase src) s (fun t => t.rd .cfgFlashCmd_start 0 = 1 ∧
      t.chip.flash = some ⟨2, u.rd .cfgFlashAddr_addr 0 / 0x10000 * 0x10000, 0x10000, [], 0⟩)) ∧
  (∀ (j : FlashJob) (s : State), s.chip.flash = some j → s.landsHeld = false → s.tel.log.any (fun q => q.sev == 3) = false →
    Completes (.flashCommandComplete false) s (fun t => t.chip = { s.chip with flash := none } ∧ t.rd .cfgFlashCmd_start 0 = 0 ∧
      t.rd .cfgFlashCmd_result 0 = 0 ∧ (j.op = 0 → t.flash = s.flash) ∧ (j.op = 1 → t.flash = progBytes s.flash j.addr j.data) ∧
      (j.op = 2 → t.flash = eraseSector s.flash j.addr))) ∧
  (∀ (j : FlashJob) (s : State), s.chip.flash = some j →
    Completes (.flashCommandComplete true) s (fun t => t.chip = { s.chip with flash := none } ∧ t.rd .cfgFlashCmd_start 0 = 0 ∧
      t.rd .cfgFlashCmd_result 0 = 3)) ∧
  (∀ (j : FlashJob) (devErr : Bool) (s : State), s.chip.flash = some j → s.tel.log.any (fun q => q.sev == 3) = true →
    Completes (.flashCommandComplete devErr) s (fun t => t.chip.flash = none ∧ t.tel.log = [] ∧ t.rd .telLogStatus_pending 0 = 0)) ∧
  (∀ (src : Src) (val : BitVec 32) (s : State), s.accepts src .cfgSelftest 0 = true → bitAt val.toNat 31 = true →
    bitAt val.toNat 30 = false → bits val.toNat 24 6 ≠ 0 → s.chip.test = none →
    Completes (.selftestStart src val) s (fun t => t.chip = { s.chip with test := some (false, bits val.toNat 24 6) } ∧
      t.rd .cfgSelftest_accept 0 = 2 ∧ t.rd .cfgSelftestStatus_running 0 = 1 ∧ t.rd .cfgSelftestStatus_progress 0 = 0)) ∧
  (∀ (failed : BitVec 6) (errors : BitVec 16) (found : BootFindings) (mem : Nat) (s : State), s.chip.test = some (false, mem) →
    Completes (.selftestComplete failed errors [] found) s (fun t => t.chip = { s.chip with test := none } ∧
      t.rd .cfgSelftestStatus_failed 0 = failed.toNat &&& mem ∧ t.rd .cfgSelftestStatus_errors 0 = errors.toNat ∧
      t.rd .cfgSelftestStatus_progress 0 = 100 ∧ t.rd .cfgSelftestStatus_running 0 = 0 ∧ t.rd .cfgSelftestStatus_doneEvent 0 = 1)) ∧
  (∀ (failed : BitVec 6) (errors : BitVec 16) (units : List (BlockKind × Fin 64)) (found : BootFindings) (mem : Nat) (s : State),
    s.chip.test = some (true, mem) →
    Completes (.selftestComplete failed errors units found) s (fun t => t.started = true ∧ t.chip.test = none ∧
      t.rd .cfgSelftestStatus_running 0 = 0))

/-- BIND writes the 48 bytes of SEC_OWNER_HASH as the owner anchor, only while BOUND is 0 and in SAFE; otherwise it is
REFUSED. Once bound, no command changes the anchor. -/
def Obligations.OwnerAnchorIsBoundOnce : Prop :=
  (∀ (src : Src) (s u : State), s.accepts src .secOwner 0 = true → u = s.ready src .secOwner 0 → u.rd .secOwner_bound 0 = 0 →
    u.devState = 6 →
    Completes (.ownerBind src) s (fun t => t.chip = { s.chip with anchor := some u.ownerHash } ∧ t.rd .secOwner_bound 0 = 1 ∧
      t.rd .secOwner_result 0 = 0)) ∧
  (∀ (src : Src) (s u : State), s.accepts src .secOwner 0 = true → u = s.ready src .secOwner 0 →
    (u.rd .secOwner_bound 0 = 1 ∨ u.devState ≠ 6) →
    Completes (.ownerBind src) s (fun t => t.chip = s.chip ∧ t.rd .secOwner_bound 0 = u.rd .secOwner_bound 0 ∧
      t.rd .secOwner_result 0 = 1)) ∧
  (∀ (c : Instr) (a : List Byte) (s t : State), s.chip.anchor = some a → s.rd .secOwner_bound 0 = 1 → exec c s = .next t →
    t.chip.anchor = some a)

/-- The part takes its GID once between starts, and answers for it in the DT; a later assignment, and that of a service GID, is refused. A debug record
is accepted only when it passes every test; the enable bits then follow it, and otherwise stay. -/
def Obligations.GidAndDebugEnable : Prop :=
  (∀ (src : Src) (val : BitVec 32) (s u : State), s.accepts src .cfgGid 0 = true → u = s.ready src .cfgGid 0 →
    bitAt val.toNat 31 = true → u.gidRefused (bits val.toNat 0 18) = false →
    Completes (.cfgGidWrite src val) s (fun t => t.rd .cfgGid_gid 0 = bits val.toNat 0 18 ∧ t.rd .cfgGid_valid 0 = 1 ∧
      t.dt (bits val.toNat 0 18) = 2 ^ 63 + 2 ^ 62 + 3 * 2 ^ 59)) ∧
  (∀ (src : Src) (val : BitVec 32) (s u : State), s.accepts src .cfgGid 0 = true → u = s.ready src .cfgGid 0 →
    u.gidRefused (bits val.toNat 0 18) = true →
    Completes (.cfgGidWrite src val) s (fun t => t.rd .cfgGid_refused 0 = 1 ∧ OnlyRegs [.cfgGid_refused] u t ∧ OnlyParts [.regs] u t)) ∧
  (∀ (src : Src) (s u : State), s.accepts src .secDbgCtrl 0 = true → u = s.ready src .secDbgCtrl 0 →
    Completes (.debugSubmit src) s (fun t =>
      t.rd .secDbgCtrl_result 0 = (if u.dbgAccepted (u.rd .secDbgAddr_addr 0 / 64 * 64) then 0 else 1) ∧
      t.rd .secDbgCtrl_enable 0 = (if u.dbgAccepted (u.rd .secDbgAddr_addr 0 / 64 * 64) then
        leNat (slice (u.memGet (u.rd .secDbgAddr_addr 0 / 64 * 64) 144) 40 4) % 4 else u.rd .secDbgCtrl_enable 0)))

/-- The SPDM responder: what each request is answered with; the responder's nonce is a free value. -/
def Obligations.AttestationAnswers : Prop :=
  (∀ (fn : Fin 2) (s : State), s.off = false →
    Completes (.getVersion fn) s (fun t => Emits s t (.doe fn (.version 0x12)) ∧ t.chip.agreed.contains fn.val = false) ∧
    Completes (.getCapabilities fn) s (fun t => Emits s t (.doe fn (.capabilities true true true true))) ∧
    Completes (.negotiateAlgorithms fn true true) s (fun t => Emits s t (.doe fn (.algorithms true 1)) ∧
      t.chip.agreed.contains fn.val = true)) ∧
  (∀ (fn : Fin 2) (s : State), s.off = false → s.chip.agreed.contains fn.val = true →
    Completes (.getDigests fn) s (fun t => Emits s t (.doe fn (.digests (Config.sha384 Config.certChain).toNat))) ∧
    (∀ (slot : BitVec 4) (off len : BitVec 16),
      Completes (.getCertificate fn slot off len) s (fun t => Emits s t (.doe fn (certAnswer slot.toNat off.toNat len.toNat)))) ∧
    (∀ nonce : BitVec 256, Completes (.challenge fn 0 nonce) s (fun t => ∃ n, n < 2 ^ 256 ∧
      Emits s t (.doe fn (.challengeAuth (Config.sha384 Config.certChain).toNat n
        (Config.deviceSign (beBytes 32 nonce.toNat ++ beBytes 32 n ++ beBytes 48 (Config.sha384 Config.certChain).toNat)))))) ∧
    (∀ (sign : Bool) (nonce : BitVec 256),
      Completes (.getMeasurements fn 0 sign nonce) s (fun t => Emits s t (.doe fn (.count s.measurements.length))) ∧
      Completes (.getMeasurements fn 0xFF sign nonce) s (fun t => ∃ n sig, Emits s t (.doe fn (.measurements s.measurements n sig)) ∧
        (sig.isSome = true ↔ sign = true)))) ∧
  (∀ (fn : Fin 2) (c : Instr) (s : State), s.off = false → s.chip.agreed.contains fn.val = false → c = .getDigests fn ∨
    (∃ slot nonce, c = .challenge fn slot nonce) ∨ (∃ i sign nonce, c = .getMeasurements fn i sign nonce) →
    Completes c s (fun t => Emits s t (.doe fn .error)))

/-! Management access. -/

/-- At most one function holds the lease: ACQUIRE, RENEW and RELEASE and what each answers. A lease ends with its term, with
its function's link, reset or PERST; those of the function end its DMA state.
Times are told on the free-running count of ns (log entry 52). -/
def Obligations.LeaseIsHeldByOneFunction : Prop :=
  ((∀ (fn : Fin 2) (s : State), s.accepts (fnSrc fn) .cfgLeaseCtrl fn = true →
    ((s.ready (fnSrc fn) .cfgLeaseCtrl fn).owner? = none →
      Completes (.leaseAcquire fn) s (fun t => t.owner? = some fn.val ∧ t.rd .cfgLeaseCtrl_result fn = 0 ∧
        t.rd .cfgLeaseStatus_gen 0 = ((s.ready (fnSrc fn) .cfgLeaseCtrl fn).rd .cfgLeaseStatus_gen 0 + 1) % 2 ^ 32 ∧
        t.rd .cfgLeaseCtrl_leaseEvent 0 = 1 ∧ t.rd .cfgLeaseCtrl_leaseEvent 1 = 1)) ∧
    (∀ o : Nat, (s.ready (fnSrc fn) .cfgLeaseCtrl fn).owner? = some o → o ≠ fn.val →
      Completes (.leaseAcquire fn) s (fun t => t.owner? = some o ∧ t.rd .cfgLeaseCtrl_result fn = 1)) ∧
    ((s.ready (fnSrc fn) .cfgLeaseCtrl fn).owner? = some fn.val →
      Completes (.leaseRenew fn) s (fun t => t.owner? = some fn.val ∧ t.rd .cfgLeaseCtrl_result fn = 0 ∧
        t.rd .cfgLeaseStatus_remainMs 0 = t.termMs) ∧
      Completes (.leaseRelease fn) s (fun t => t.owner? = none ∧ t.rd .cfgLeaseCtrl_result fn = 0)) ∧
    ((s.ready (fnSrc fn) .cfgLeaseCtrl fn).owner? ≠ some fn.val →
      Completes (.leaseRenew fn) s (fun t => t.rd .cfgLeaseCtrl_result fn = 2) ∧
      Completes (.leaseRelease fn) s (fun t => t.owner? = (s.ready (fnSrc fn) .cfgLeaseCtrl fn).owner? ∧
        t.rd .cfgLeaseCtrl_result fn = 2)))) ∧
  (∀ s : State, s.off = false → s.mgmt.termAt + 1000000 * s.rd .cfgLeaseStatus_remainMs 0 ≤ s.tb.mono →
    Completes .leaseTermExpiry s (fun t => t.owner? = none)) ∧
  (∀ s : State, s.tb.mono < s.mgmt.termAt + 1000000 * s.rd .cfgLeaseStatus_remainMs 0 →
    Completes .leaseTermExpiry s (fun t => t = s)) ∧
  (∀ (fn : Fin 2) (s : State), s.off = false →
    Completes (.pcieLinkDown fn) s (fun t => t.owner? ≠ some fn.val) ∧
    Completes (.functionLevelReset fn) s (fun t => t.owner? ≠ some fn.val ∧ t.mgmt.flr.contains fn.val = true ∧ t.mgmt.d3.contains fn.val = false) ∧
    Completes (.perstAssert fn) s (fun t => t.owner? ≠ some fn.val ∧ t.fnStopped fn = false) ∧
    Completes (.powerManagementState fn true) s (fun t => t.mgmt.d3.contains fn.val = true ∧ OnlyParts [.mgmt] s t) ∧
    Completes (.powerManagementState fn false) s (fun t => t.fnStopped fn = false ∧ OnlyParts [.mgmt] s t)) ∧
  (∀ (fn : Fin 2) (vec : Fin 5) (t0 : Nat) (s : State), kget s.mgmt.hold (Nat.pair fn vec) = some (true, t0) →
    t0 + 1000 * s.rd .pcieFnCfg_holdUs fn ≤ s.tb.mono → s.fnStopped fn = false →
    s.msixWord fn (4 * vec + 3) % 2 = 0 →
    Completes (.msixHoldExpiry fn vec) s (fun t => Emits s t (.msix fn vec (s.msixWord fn (4 * vec) + 2 ^ 32 * s.msixWord fn (4 * vec + 1))
      (s.msixWord fn (4 * vec + 2))))) ∧
  (∀ (fn : Fin 2) (vec : Fin 5) (t0 : Nat) (s : State), kget s.mgmt.hold (Nat.pair fn vec) = some (false, t0) →
    t0 + 1000 * s.rd .pcieFnCfg_holdUs fn ≤ s.tb.mono →
    Completes (.msixHoldExpiry fn vec) s (fun t => t.mgmt = { s.mgmt with hold := kdel s.mgmt.hold (Nat.pair fn vec) } ∧ OnlyParts [.mgmt] s t))

/-- A ring that is enabled restarts its indices and captures its place and size; the host's index is as written. The owner's
command ring: an entry is consumed two cells at a time and has its effect. -/
def Obligations.RingsStartAndAreServed : Prop :=
  (∀ (fn : Fin 2) (r : Fin 3) (val : BitVec 32) (s u : State), s.accepts (fnSrc fn) .pcieRingCfg (ringIdx fn r) = true →
    u = s.ready (fnSrc fn) .pcieRingCfg (ringIdx fn r) → u.rd .pcieRingCfg_en (ringIdx fn r) = 0 →
    Reg.get .pcieRingCfg .pcieRingCfg_en val.toNat = 1 →
    Completes (.ringEnable fn r val) s (fun t => t.rd .pcieRingCfg_en (ringIdx fn r) = 1 ∧ t.rd .pcieRingHostIdx_idx (ringIdx fn r) = 0 ∧
      (t.ring fn r).base = u.rd .pcieRingBase_base (ringIdx fn r) * 4096 ∧ 8 ≤ (t.ring fn r).log2 ∧ (t.ring fn r).log2 ≤ 20 ∧
      (r ≠ 1 → t.rd .pcieRingPartIdx_idx (ringIdx fn r) = 0 ∧ (t.ring fn r).seq = 0))) ∧
  (∀ (fn : Fin 2) (r : Fin 3) (val : BitVec 32) (s : State), s.accepts (fnSrc fn) .pcieRingHostIdx (ringIdx fn r) = true →
    Completes (.ringHostIdxWrite fn r val) s (fun t => t.rd .pcieRingHostIdx_idx (ringIdx fn r) = val.toNat)) ∧
  (∀ (fn : Fin 2) (complete : Bool) (seq : BitVec 32) (cmd : BitVec 32) (data : BitVec 512) (s : State), s.cmdFetch fn = true →
    s.ringBusy fn = false →
    Completes (.cmdTable fn complete seq cmd data) s (fun t =>
      t.tab.jobs.map TblJob.cmd = s.tab.jobs.map TblJob.cmd ++
        [⟨bits cmd.toNat 28 3, bits cmd.toNat 24 3, bits cmd.toNat 0 18, bitAt cmd.toNat 23, data.toNat⟩])) ∧
  (∀ (fn : Fin 2) (complete : Bool) (seq : BitVec 32) (s : State), s.cmdFetch fn = true →
    Completes (.cmdSync fn complete seq) s (fun t =>
      t.rd .pcieRingPartIdx_idx (ringIdx fn 0) = (s.rd .pcieRingPartIdx_idx (ringIdx fn 0) + 2) % 2 ^ 32 ∧
      (complete = true → s.ringBusy fn = true → t.mgmt.owed = s.mgmt.owed ++ [(fn.val, seq.toNat)]))) ∧
  (∀ (fn : Fin 2) (complete : Bool) (seq : BitVec 32) (ty : BitVec 16) (s : State), s.cmdFetch fn = true →
    (ty.toNat < 0x0101 ∨ 0x0103 < ty.toNat) →
    Completes (.cmdUnknown fn complete seq ty) s (fun t =>
      t.rd .pcieRingPartIdx_idx (ringIdx fn 0) = (s.rd .pcieRingPartIdx_idx (ringIdx fn 0) + 2) % 2 ^ 32)) ∧
  (∀ (fn : Fin 2) (complete : Bool) (seq : BitVec 32) (w : RegW) (p : Place) (s : State), s.cmdFetch fn = true →
    inMsix w.off.toNat = false → w.is64 = false → srcPlace? (ringSrc fn) w.off.toNat = some p → p.reg.is64 = false →
    (s.cmdTaken fn).accepts (ringSrc fn) p.reg p.idx = true → actsNow p.reg (w.val.toNat % 2 ^ 32) (2 ^ 32 - 1) = false →
    p.reg ∉ [.schShape, .schIpol, .corePuntCfg, .engHostCfg, .promCfg, .tblData, .optPlanNext, .cvtAmax, .secOwnerHash,
      .pcieRingBase, .voqSpillCfg] →
    Completes (.cmdRegWrite fn complete seq [w]) s (fun t =>
      ∀ f ∈ p.reg.fields, f.acc = .rw → t.rd f.fld p.idx = bits (w.val.toNat % 2 ^ 32) f.lo f.fld.width))

/-- A write over BAR2 by the lease owner stores its bytes, and a read returns the bytes stored; any other function's write is
ignored. An access to an address that is not mapped sets BAR2_BAD, and a read of it returns all-ones data. -/
def Obligations.Bar2Accesses : Prop :=
  (∀ (fn : Fin 2) (off : BitVec 34) (data : List Byte) (s : State), s.off = false → data ≠ [] → s.owner? = some fn.val →
    s.mapped (s.bar2Addr fn off.toNat) data.length = true → s.bar2Dead (s.bar2Addr fn off.toNat) data.length = false →
    s.sleeping (s.bar2Addr fn off.toNat) data.length = [] → s.pwr.bar2.any (fun b => b.fn == fn.val) = false →
    Completes (.bar2Write fn off data) s (fun t => t.memGet (s.bar2Addr fn off.toNat) data.length = data ∧
      (∀ a, (a < s.bar2Addr fn off.toNat ∨ s.bar2Addr fn off.toNat + data.length ≤ a) → t.memGet a 1 = s.memGet a 1) ∧
      OnlyParts [.eng, .pwr] s t)) ∧
  (∀ (fn : Fin 2) (off : BitVec 34) (data : List Byte) (s : State), s.off = false → data ≠ [] → s.owner? ≠ some fn.val →
    Completes (.bar2Write fn off data) s (fun t => t.rd .cfgLeaseCtrl_writeIgnored fn = 1 ∧ OnlyParts [.regs] s t ∧
      OnlyAt [.cfgLeaseCtrl_writeIgnored] fn s t)) ∧
  (∀ (fn : Fin 2) (off : BitVec 34) (len : BitVec 13) (s : State), s.off = false → len ≠ 0 →
    s.mapped (s.bar2Addr fn off.toNat) len.toNat = true → s.bar2Dead (s.bar2Addr fn off.toNat) len.toNat = false →
    s.sleeping (s.bar2Addr fn off.toNat) len.toNat = [] → s.pwr.bar2.any (fun b => b.fn == fn.val) = false →
    Completes (.bar2Read fn off len false) s (fun t =>
      t.out = .readData fn (s.memGet (s.bar2Addr fn off.toNat) len.toNat) false :: s.out ∧ OnlyParts [.pwr, .out] s t)) ∧
  (∀ (fn : Fin 2) (off : BitVec 34) (data : List Byte) (s : State), s.off = false → data ≠ [] → s.owner? = some fn.val →
    s.mapped (s.bar2Addr fn off.toNat) data.length = false →
    Completes (.bar2Write fn off data) s (fun t => t.rd .pcieFnStatus_bar2Bad fn = 1 ∧ OnlyParts [.regs] s t ∧
      OnlyAt [.pcieFnStatus_bar2Bad] fn s t)) ∧
  (∀ (fn : Fin 2) (off : BitVec 34) (len : BitVec 13) (ue : Bool) (s : State), s.off = false → len ≠ 0 →
    s.mapped (s.bar2Addr fn off.toNat) len.toNat = false →
    Completes (.bar2Read fn off len ue) s (fun t => t.rd .pcieFnStatus_bar2Bad fn = 1 ∧
      t.out = .readData fn (List.replicate len.toNat 0xFF) false :: s.out ∧ OnlyParts [.regs, .out] s t ∧
      OnlyAt [.pcieFnStatus_bar2Bad] fn s t)) ∧
  (∀ (fn : Fin 2) (off : BitVec 34) (len : BitVec 13) (s : State), s.off = false → len ≠ 0 →
    s.mapped (s.bar2Addr fn off.toNat) len.toNat = true → s.bar2Dead (s.bar2Addr fn off.toNat) len.toNat = false →
    Completes (.bar2Read fn off len true) s (fun t => ∃ l m, t.out = l ++ .readData fn (List.replicate len.toNat 0xFF) true :: (m ++ s.out)))

/-! Links and optics. -/

/-- A write of CORE_PORT_CFG is applied in full or refused in full. -/
def Obligations.PortConfigIsAppliedOrRefusedInFull : Prop :=
  ∀ (src : Src) (n : Fin 512) (val : BitVec 32) (s u : State), s.accepts src .corePortCfg n = true → u = s.ready src .corePortCfg n →
    (u.portRefused n (bitAt val.toNat 31) (bits val.toNat 26 2) (bits val.toNat 24 2) (bitAt val.toNat 22) = true →
      Completes (.portCfgWrite src n val) s (fun t => t.rd .corePortStatus_cfgRefused n = 1 ∧ OnlyParts [.regs] u t ∧
        OnlyAt [.corePortStatus_cfgRefused] n u t)) ∧
    (u.portRefused n (bitAt val.toNat 31) (bits val.toNat 26 2) (bits val.toNat 24 2) (bitAt val.toNat 22) = false →
      Completes (.portCfgWrite src n val) s (fun t => t.rd .corePortCfg_en n = bits val.toNat 31 1 ∧
        t.rd .corePortCfg_width n = bits val.toNat 26 2 ∧ t.rd .corePortCfg_mode n = bits val.toNat 24 2 ∧
        (bits val.toNat 31 1 = 0 → t.portState n = 0)))

/-- Training: a powered port begins an attempt, an attempt that runs out backs off or ends in DOWN, and a success leads to
HELLO or to UP. A port that loses its link retrains; a lane that fails stays marked. -/
def Obligations.TrainingAndLossOfLink : Prop :=
  (∀ (n : Fin 512) (s : State), s.rd .corePortCfg_en n = 1 → (s.pst n).powered = false → s.lanesAllowed = true →
    s.portState n = 1 → (s.pst n).at_ = .powerup → s.ringsReady n = true → (s.isBypass n && (s.pst n).nextFast) = false →
    Completes (.lanePowerupWaitExpiry n) s (fun t => (t.pst n).powered = true ∧ (t.pst n).at_ = .attempt ∧
      (t.pst n).tries = (s.pst n).tries + 1)) ∧
  (∀ (n : Fin 512) (s : State), s.portState n = 1 → (s.pst n).at_ = .backoff →
    ((s.isBypass n && (s.pst n).nextFast) = false → s.ringsReady n = true →
      Completes (.trainingBackoffExpiry n) s (fun t => (t.pst n).at_ = .attempt ∧ (t.pst n).tries = (s.pst n).tries + 1 ∧
        t.rd .corePortStatus_attempts n = min 255 (s.rd .corePortStatus_attempts n + 1))) ∧
    ((s.isBypass n && (s.pst n).nextFast) = true →
      Completes (.trainingBackoffExpiry n) s (fun t => (t.pst n).at_ = .peer ∧ (t.pst n).fast = true ∧ OnlyParts [.ports] s t))) ∧
  (∀ (n : Fin 512) (phase : Fin 4) (deskew : Bool) (s : State), s.portState n = 1 → (s.pst n).at_ = .attempt →
    ((s.pst n).fast = false ∨ 2 ≤ phase.val) →
    Completes (.trainingPhaseTimeout n phase deskew) s (fun t =>
      t.rd .corePortStatus_failReason n = phaseReason (s.isNative n) phase deskew ∧
      (s.rd .corePortCfg_trainRetries n = 0 ∨ (s.pst n).tries < s.rd .corePortCfg_trainRetries n →
        t.portState n = 1 ∧ (t.pst n).at_ = .backoff) ∧
      (s.rd .corePortCfg_trainRetries n ≠ 0 → s.rd .corePortCfg_trainRetries n ≤ (s.pst n).tries → t.portState n = 0))) ∧
  (∀ (n : Fin 512) (pol : BitVec 8) (lrx : BitVec 16) (farBad : BitVec 8) (s : State), s.portState n = 1 → (s.pst n).at_ = .attempt →
    ((∀ j, j < 2 ^ s.rd .corePortStatus_widthNow n →
        bitAt (if s.isNative n = true then farBad.toNat else (s.pst n).far) ((s.pst n).runAt + j) = false) →
      Completes (.trainingSuccess n ⟨pol, farBad⟩ lrx) s (fun t => t.portState n = (if s.isNative n = true then 2
        else if s.wantDrain n = true ∨ (s.pst n).waits ≠ [] then 4 else 3) ∧ (t.pst n).ended = true)) ∧
    (∀ j, j < 2 ^ s.rd .corePortStatus_widthNow n → s.isNative n = true → bitAt farBad.toNat ((s.pst n).runAt + j) = true →
      Completes (.trainingSuccess n ⟨pol, farBad⟩ lrx) s (fun t => (t.pst n).far = farBad.toNat ∧
        (t.portState n = 0 ∨ t.portState n = 1)))) ∧
  (∀ (n : Fin 512) (cause : LossCause) (s : State), lossFits cause (s.isNative n) = true → s.linked n = true →
    Completes (.lossOfLink n cause) s (fun t => t.portState n = 1 ∧ ∀ l ∈ s.lanesOf n, t.rd .coreLaneStatus_fecLock l = 0)) ∧
  (∀ (n : Fin 512) (s : State), s.isNative n = true → s.linked n = true →
    Completes (.helloTimeout n) s (fun t => t.portState n = 1 ∧ t.rd .corePortStatus_failReason n = 6)) ∧
  (∀ (lane : Fin 512) (cause : Fin 3) (s : State), s.off = false → s.rd .coreLaneStatus_failed lane = 0 →
    Completes (.laneFailed lane cause) s (fun t => t.rd .coreLaneStatus_failed lane = 1 ∧ Recorded 0x0020 1 [lane, cause] s t)) ∧
  (∀ (k : Fin 8) (s : State), s.off = false → s.ports.sref.contains k.val = false →
    Completes (.srefLost k) s (fun t => t.ports.sref.contains k.val = true ∧
      ∀ n, n < 512 → n / 64 = k.val → s.rd .corePortCfg_en n = 1 → s.portState n ≠ 0 →
        t.portState n = 1 ∧ t.rd .corePortStatus_failReason n = 1)) ∧
  (∀ (k : Fin 8) (s : State), s.off = false → s.ports.sref.contains k.val = true →
    Completes (.srefRestored k) s (fun t => t.ports.sref.contains k.val = false))

/-- A HELLO is sent every millisecond in a port's round; a valid one from the neighbour expected is recorded. -/
def Obligations.HelloSentAndRecorded : Prop :=
  (∀ (n : Fin 512) (s : State), s.linked n = true → s.isNative n = true → s.off = false →
    Completes (.helloTxTimer n) s (fun t => (t.pst n).round = ((s.pst n).round + 1) % 2 ^ 32 ∧ t.sw.nextPid = s.sw.nextPid + 1)) ∧
  (∀ (pos n : Nat) (r : Deliv) (s u : State),
    s.takeLocal pos (fun r => r.pkt.kind == 0x30 && isLinkLocal r.pkt.dgid) = some (r, u) → r.inPort = some n →
    bitAt (beNat (slice r.pkt.payload 5 1)) 5 = false → beNat (slice r.pkt.payload 0 1) = 1 →
    beNat (slice r.pkt.payload 8 4) = u.rd .coreHelloCfg_fabricId 0 → u.rd .coreNbrExpect_valid n = 0 →
    bitAt (beNat (slice r.pkt.payload 24 4)) 31 = true → beNat (slice r.pkt.payload 28 2) = n →
    (∀ g, u.gid? = some g → beNat (slice r.pkt.payload 24 4) % 2 ^ 18 = g) → u.portState n ≠ 1 →
    Completes (.helloReceived pos) s (fun t => t.rd .coreNbr_valid n = 1 ∧
      (u.portState n = 2 → 1 ≤ (u.pst n).good → t.portState n = 3 ∨ t.portState n = 4) ∧
      t.rd .coreNbr_peerGid n = r.pkt.sgid.toNat % 2 ^ 18 % 2 ^ Fld.width .coreNbr_peerGid ∧
      t.rd .coreNbr_peerPort n = beNat (slice r.pkt.payload 2 2) % 2 ^ Fld.width .coreNbr_peerPort ∧
      t.rd .corePortStatus_wrongPeer n = 0))

/-- Lane tests: a test that may run at once begins on its lane, and its end is shown. -/
def Obligations.LaneTests : Prop :=
  (∀ (src : Src) (val : BitVec 32) (l : Nat) (s u : State), s.accepts src .coreLaneTest 0 = true → u = s.ready src .coreLaneTest 0 →
    bitAt val.toNat 31 = true → bitAt val.toNat 30 = false → l = bits val.toNat 0 9 → u.portOfLane l = none →
    Completes (.laneTestStart src val) s (fun t => t.rd .coreLaneTest_accept 0 = 1 ∧ t.rd .coreLaneTest_start 0 = 1 ∧
      t.rd .coreLaneStatus_underTest l = 1)) ∧
  (∀ (pass : Bool) (l : Nat) (q : LaneTest) (s : State), s.ports.test = some q → q.lane = some l → q.port = none → q.todo = [] →
    Completes (.laneTestComplete pass) s (fun t => t.ports.test = none ∧ t.rd .coreLaneTest_start 0 = 0 ∧
      t.rd .coreLaneStatus_underTest l = 0 ∧ t.rd .coreLaneStatus_testResult l = (if pass then 1 else 2) ∧
      t.rd .coreLaneStatus_failed l = (if pass then 0 else 1)))

/-- Modules: insertion, readiness, removal, polling and access to module memory. -/
def Obligations.Modules : Prop :=
  (∀ (slot : Fin 64) (kind : ModuleKind) (rev : BitVec 8) (power : BitVec 4) (s : State), s.off = false →
    s.rd .optModStatus_present slot = 0 →
    Completes (.moduleInserted slot kind rev power) s (fun t => t.rd .optModStatus_present slot = 1 ∧ t.rd .optModStatus_ready slot = 0 ∧
      t.rd .optModStatus_cmisRev slot = rev.toNat ∧ t.rd .optModStatus_powerClass slot = power.toNat ∧
      t.rd .optModStatus_modEvent slot = 1)) ∧
  (∀ (slot : Fin 64) (apps : List ModApp) (s : State), s.off = false → s.ports.waitReady.contains slot.val = true →
    Completes (.moduleReady slot apps) s (fun t => t.rd .optModStatus_ready slot = 1 ∧ t.ports.waitReady.contains slot.val = false)) ∧
  (∀ (slot : Fin 64) (s : State),
    Completes (.moduleReadyTimeout slot) s (fun t => t.ports = { s.ports with waitReady := s.ports.waitReady.filter (· != slot.val) } ∧
      OnlyParts [.ports] s t)) ∧
  (∀ (slot : Fin 64) (s : State), s.off = false → s.rd .optModStatus_present slot = 1 →
    Completes (.moduleRemoved slot) s (fun t => t.rd .optModStatus_present slot = 0 ∧ t.rd .optModStatus_ready slot = 0 ∧
      t.rd .optModStatus_modEvent slot = 1) ∧
    (∀ (mons : List Byte) (flags : BitVec 8), Completes (.modulePoll slot mons flags) s (fun t =>
      kget t.ports.monitors slot = some (mons ++ [flags]) ∧ OnlyParts [.ports] s t)) ∧
    (∀ flags : BitVec 8, Completes (.moduleInterrupt slot flags) s (fun t => t.rd .optModStatus_modEvent slot = 1))) ∧
  (∀ (src : Src) (val : BitVec 64) (s u : State), s.accepts src .optModAcc 0 = true → u = s.ready src .optModAcc 0 →
    bitAt val.toNat 63 = true → u.rd .optModStatus_present (Reg.get .optModAcc .optModAcc_slot val.toNat) = 1 →
    u.rd .oclStatus_sync (Reg.get .optModAcc .optModAcc_slot val.toNat) = 1 →
    (Reg.get .optModAcc .optModAcc_write val.toNat = 0 ∨ protectedByte (Reg.get .optModAcc .optModAcc_page val.toNat)
      (Reg.get .optModAcc .optModAcc_byte val.toNat) = false) →
    Completes (.moduleAccess src val) s (fun t => t.rd .optModAcc_start 0 = 1 ∧ t.out = twiSent val.toNat ++ u.out)) ∧
  (∀ (ack : Bool) (data : BitVec 8) (s : State), s.rd .optModAcc_start 0 = 1 →
    Completes (.moduleAccessComplete ack data) s (fun t => t.rd .optModAcc_start 0 = 0 ∧
      t.rd .optModAcc_status 0 = (if ack then 0 else 2) ∧ (ack = true → s.rd .optModAcc_write 0 = 0 → t.rd .optModAcc_data 0 = data.toNat) ∧
      t.opt = { s.opt with twi := 0 } ∧ OnlyParts [.regs, .opt] s t ∧ OnlyAt [.optModAcc_start, .optModAcc_status, .optModAcc_data] 0 s t) ∧
    Completes .moduleAccessTimeout s (fun t => t.rd .optModAcc_start 0 = 0 ∧ t.rd .optModAcc_status 0 = 4 ∧ OnlyParts [.regs] s t ∧
      OnlyAt [.optModAcc_start, .optModAcc_status] 0 s t))

/-- Drains end when the egress queues are empty or after their time, and CAL waits for the hold time. The Optical Control
Link: sync after eight good frames in a row, lost after four bad ones.
Times are told on the free-running count of ns (log entry 52). -/
def Obligations.DrainsAndControlLink : Prop :=
  (∀ (n : Fin 512) (s : State), s.portState n = 4 →
    ((s.pst n).draining = true → s.queuesEmpty n = true →
      Completes (.drainComplete n) s (fun t => t.rd .corePortStatus_drained n = 1 ∧ (t.pst n).draining = false)) ∧
    ((s.pst n).draining = true →
      Completes (.drainTimeout n) s (fun t => t.rd .corePortStatus_drained n = 1 ∧ (t.pst n).draining = false)) ∧
    ((s.pst n).drainAt + 10000 * max 1 (s.rd .optCfg_calHold 0) ≤ s.tb.mono →
      Completes (.calHoldExpiry n) s (fun t => (t.pst n).holdDone = true))) ∧
  (∀ (slot : Fin 64) (up : OclUp) (good bad : Nat) (s : State), s.off = false → oclGood up = true →
    (kget s.opt.ocl slot).getD (0, 0) = (good, bad) →
    Completes (.oclFrame slot up) s (fun t => kget t.opt.ocl slot = some (min 8 (good + 1), 0) ∧
      (7 ≤ good → t.rd .oclStatus_sync slot = 1) ∧
      (up.utype = 4 → s.rd .optModStatus_present slot = 1 → t.rd .optModStatus_modEvent slot = 1) ∧
      (up.utype = 2 → s.rd .optModAcc_start 0 = 1 → s.rd .optModAcc_slot 0 = slot → s.opt.twi = 0 →
        t.rd .optModAcc_start 0 = 0 ∧ t.rd .optModAcc_status 0 = 0) ∧
      (up.utype = 0 → (∀ n ∈ s.opt.restore, n / 8 ≠ slot.val) →
        OnlyParts [.opt, .regs] s t ∧ OnlyAt [.oclStatus_sync] slot s t ∧
        ∀ (r : Nat) (v : BitVec 11), r < 16 → up.rings[r]? = some v → t.ringSt (slotRing slot r) =
          (s.ringSt (slotRing slot r)).sample (s.rd .optLoopCfg_lpf 0) (s.ringDither (slotRing slot r)) v.toNat))) ∧
  (∀ (slot : Fin 64) (up : OclUp) (good bad : Nat) (s : State), s.off = false → oclGood up = false →
    (kget s.opt.ocl slot).getD (0, 0) = (good, bad) →
    Completes (.oclFrame slot up) s (fun t => kget t.opt.ocl slot = some (0, min 4 (bad + 1)) ∧
      (up.answered = true → Counted 6 (8 * (8 * slot) + OptEv.oclCrcErr.ctorIdx) s t) ∧
      (3 ≤ bad → t.flag .oclStatus_sync slot = false)))

/-- Ring control: the loop sends a heater code, a pilot that identifies another line twice starts a sweep, and a sweep that
finds its line locks the ring. Channel settings are applied or refused in full, and a lane in training under the bypass may
be asked for a fast retrain.
Times are told on the free-running count of ns (log entry 52). -/
def Obligations.RingsAndChannelSettings : Prop :=
  (∀ (lane : Fin 512) (rx : Bool) (s : State), s.off = false → s.rd .oclStatus_sync (lane / 8) = 1 →
    s.rd .optRingStatus_sweep (ringKey lane rx) = 0 → s.portState lane ≠ 5 →
    Completes (.ringLoopUpdate lane rx) s (fun t => ∃ (y : Int) (code : Nat), y = (s.ringSt (ringKey lane rx)).acc / 2 ^ 16 ∧
      code = clampCode (s.rd .optRingStatus_heater (ringKey lane rx) +
        (s.rd .optLoopCfg_kp 0 : Int) * (y - (s.ringSt (ringKey lane rx)).y) / 256 + (s.rd .optLoopCfg_ki 0 : Int) * y / 256) ∧
      code ≤ 4095 ∧ (t.ringSt (ringKey lane rx)).y = y ∧ t.rd .optRingStatus_heater (ringKey lane rx) = code ∧
      Emits s t (.ocl (ringKey lane rx / 16) 1 (heaterPay (ringOnModule (ringKey lane rx)) code)
        (downFrame 1 (heaterPay (ringOnModule (ringKey lane rx)) code))))) ∧
  (∀ (slot : Fin 64) (chan : Fin 8) (lane : Fin 512) (rx : Bool) (s : State), lane = laneOf slot chan → s.off = false →
    s.rd .optRingStatus_lock (ringKey lane rx) = 1 →
    s.portState lane ≠ 5 → (s.ringSt (ringKey lane rx)).faint = false →
    (s.windowPasses (ringKey lane rx) = true →
      Completes (.pilotWindow slot chan rx) s (fun t => t.rd .optRingStatus_idLine (ringKey lane rx) = argMax (s.ringBins (ringKey lane rx)) ∧
        (t.ringSt (ringKey lane rx)).bad = 0 ∧ OnlyParts [.opt, .regs] s t ∧ OnlyAt [.optRingStatus_idLine] (ringKey lane rx) s t)) ∧
    (s.windowPasses (ringKey lane rx) = false → (s.ringSt (ringKey lane rx)).bad = 0 →
      Completes (.pilotWindow slot chan rx) s (fun t => (t.ringSt (ringKey lane rx)).bad = 1 ∧ OnlyParts [.opt, .regs] s t ∧
        OnlyAt [.optRingStatus_idLine] (ringKey lane rx) s t)) ∧
    (s.windowPasses (ringKey lane rx) = false → (s.ringSt (ringKey lane rx)).bad ≠ 0 →
      Completes (.pilotWindow slot chan rx) s (fun t => t.rd .optChanStatus_wrongLine lane = 1 ∧
        t.rd .optRingStatus_sweep (ringKey lane rx) = 1 ∧ t.rd .optRingStatus_lock (ringKey lane rx) = 0))) ∧
  (∀ (lane : Fin 512) (rx : Bool) (s : State), s.off = false → s.rd .optRingStatus_sweep (ringKey lane rx) = 1 →
    s.opt.cal ≠ some lane.val →
    (s.ringDark (ringKey lane rx) = false →
      Completes (.ringSweepComplete lane rx true) s (fun t => t.rd .optRingStatus_sweep (ringKey lane rx) = 0 ∧
        t.rd .optRingStatus_lock (ringKey lane rx) = 1 ∧ t.rd .optChanStatus_ringFailed lane = 0)) ∧
    ((s.ringSt (ringKey lane rx)).sweeps = 2 →
      Completes (.ringSweepComplete lane rx false) s (fun t => t.rd .optRingStatus_sweep (ringKey lane rx) = 0 ∧
        t.rd .optChanStatus_ringFailed lane = 1 ∧ (t.ringSt (ringKey lane rx)).sweeps = 3 ∧ Recorded 0x0031 1 [lane] s t))) ∧
  (∀ (src : Src) (n : Fin 512) (val : BitVec 32) (s u : State), s.accepts src .optChanCfg n = true → u = s.ready src .optChanCfg n →
    (u.chanRefused n (bits val.toNat 23 5) (bits val.toNat 18 5) (bits val.toNat 9 9) (bits val.toNat 0 9) = true →
      Completes (.chanCfgWrite src n val) s (fun t => t.rd .optChanStatus_cfgRefused n = 1 ∧ OnlyParts [.regs] u t ∧
        OnlyAt [.optChanStatus_cfgRefused] n u t)) ∧
    (u.chanRefused n (bits val.toNat 23 5) (bits val.toNat 18 5) (bits val.toNat 9 9) (bits val.toNat 0 9) = false →
      Completes (.chanCfgWrite src n val) s (fun t => t.rd .optChanCfg_txLine n = bits val.toNat 23 5 ∧
        t.rd .optChanCfg_rxLine n = bits val.toNat 18 5 ∧ t.rd .optChanCfg_txDither n = bits val.toNat 9 9 ∧
        t.rd .optChanCfg_rxDither n = bits val.toNat 0 9 ∧ OnlyParts [.regs, .opt, .out] u t))) ∧
  (∀ (n : Fin 512) (s : State), s.portState n = 1 →
    ((s.pst n).at_ = .peer → s.ringsReady n = true →
      ((s.pst n).peerAt + 1000000 * max 1 (s.rd .optCfg_peerWait 0) ≤ s.tb.mono →
        Completes (.peerWaitExpiry n) s (fun t => (t.pst n).at_ = .attempt ∧ (t.pst n).fast = false ∧
          (t.pst n).tries = (s.pst n).tries + 1)) ∧
      Completes (.peerSignalArrival n) s (fun t => (t.pst n).at_ = .attempt ∧ (t.pst n).fast = (s.pst n).fast ∧
        (t.pst n).tries = (s.pst n).tries + 1)) ∧
    (s.isBypass n = true → (s.pst n).at_ ≠ .attempt → (s.pst n).at_ ≠ .powerup →
      Completes (.fastRetrain n) s (fun t => (t.pst n).at_ = .peer ∧ (t.pst n).fast = true ∧ OnlyParts [.ports] s t)) ∧
    (s.isBypass n = true → (s.pst n).at_ = .attempt ∨ (s.pst n).at_ = .powerup →
      Completes (.fastRetrain n) s (fun t => (t.pst n).nextFast = true ∧ OnlyParts [.ports] s t)))

/-- Calibration takes one port at a time, and its end restores service; a retuned port and one given the spare laser retrain.
The circuit plan: ARM captures its time unless it is late or in conflict; every pending lane moves at that time.
Times are told on the free-running count of ns (log entry 52). -/
def Obligations.CalibrationAndPlan : Prop :=
  (∀ (n : Nat) (s : State), s.off = false → s.rd .optCfg_calEn 0 = 1 → s.rd .optCalStatus_active 0 = 0 → s.ports.test = none →
    (∀ t0, s.opt.last = some t0 → t0 + s.calSpacing ≤ s.tb.mono) → s.calNext = some n →
    Completes .calibrationStart s (fun t => t.rd .optCalStatus_active 0 = 1 ∧ t.rd .optCalStatus_lane 0 = n ∧ t.portState n = 4)) ∧
  (∀ (n : Nat) (codes : List (BitVec 12)) (own far : Option (Fin 32)) (seen : List (Fin 32 × BitVec 12)) (s : State), s.off = false →
    s.opt.cal = some n → s.portState n = 5 →
    (∀ tx rx : List Nat, txTable (s.rd .optChanCfg_txLine n) codes own far = some tx →
      rxTable (s.rd .optChanCfg_rxLine n) tx seen = some rx → s.windowPasses (2 * n) = true → s.windowPasses (2 * n + 1) = true →
      Completes (.calibrationEnd codes ⟨own, far⟩ seen) s (fun t => t.opt.cal = none ∧ t.rd .optCalStatus_active 0 = 0 ∧
        (t.ringSt (2 * n)).table = tx ∧ (t.ringSt (2 * n + 1)).table = rx ∧ t.portState n ≠ 5)) ∧
    (s.windowPasses (2 * n) = false ∨ s.windowPasses (2 * n + 1) = false →
      Completes (.calibrationEnd codes ⟨own, far⟩ seen) s (fun t => t.opt.cal = none ∧ t.rd .optCalStatus_active 0 = 0 ∧
        Counted 6 (8 * n + OptEv.calFail.ctorIdx) s t ∧ t.portState n ≠ 5))) ∧
  (∀ (n : Fin 512) (s : State), s.inCalFor n .plan = true → Completes (.retuneSettled n) s (fun t => t.portState n ≠ 5)) ∧
  (∀ (n : Fin 512) (s : State), s.inCalFor n .laser = true →
    Completes (.spareSettled n true) s (fun t => t.portState n ≠ 5 ∧ t.rd .optChanStatus_spare n = 1)) ∧
  (∀ (src : Src) (slot : Fin 64) (s : State), s.accepts src .optSlotCtrl slot = true →
    Completes (.recapture src slot) s (fun t => t.rd .optSlotCtrl_recapture slot = 1 ∧ sget 0 t.opt.capN slot = 16)) ∧
  (∀ (region m : Fin 8) (slot : Fin 64) (s : State), slot = slotOf region m → s.off = false →
    (s.rd .optModStatus_s8 slot = 1 ∨ s.rd .optModStatus_trefy slot = 1) → 0 < sget 0 s.opt.capN slot →
    Completes (.linePowerWindow region m) s (fun t => sget 0 t.opt.capN slot = sget 0 s.opt.capN slot - 1 ∧
      (sget 0 s.opt.capN slot = 1 → t.rd .optSlotCtrl_refValid slot = 1 ∧ t.rd .optSlotCtrl_recapture slot = 0))) ∧
  (∀ (src : Src) (s u : State), s.accepts src .optPlanCtrl 0 = true → u = s.ready src .optPlanCtrl 0 →
    (0 < span32 u.now (u.rd .optPlanTime_act 0) → span32 u.now (u.rd .optPlanTime_act 0) < 2 ^ 31 → u.planConflict = none →
      Completes (.planArm src) s (fun t => t.rd .optPlanCtrl_arm 0 = 1 ∧ t.opt = { u.opt with plan := some (u.rd .optPlanTime_act 0), led := false, skip := [] })) ∧
    (0 < span32 u.now (u.rd .optPlanTime_act 0) → span32 u.now (u.rd .optPlanTime_act 0) < 2 ^ 31 → ∀ n, u.planConflict = some n →
      Completes (.planArm src) s (fun t => t.rd .optPlanCtrl_planConflict 0 = 1 ∧ t.rd .optPlanCtrl_conflictLane 0 = n ∧
        t.rd .optPlanCtrl_arm 0 = u.rd .optPlanCtrl_arm 0 ∧ t.opt = u.opt)) ∧
    ((span32 u.now (u.rd .optPlanTime_act 0) = 0 ∨ 2 ^ 31 ≤ span32 u.now (u.rd .optPlanTime_act 0)) →
      Completes (.planArm src) s (fun t => t.rd .optPlanCtrl_planLate 0 = 1 ∧ t.opt = u.opt))) ∧
  (∀ (a : Nat) (s : State), s.opt.plan = some a → s.opt.led = false → s.reached ((a + 2 ^ 32 - s.drainLead) % 2 ^ 32) = true →
    Completes .planDrainLead s (fun t => t.opt = { s.opt with led := true } ∧
      ∀ n, n < 512 → s.rd .optPlanNext_pending n = 1 → s.portState n = 3 → t.portState n = 4)) ∧
  (∀ (a : Nat) (s : State), s.opt.plan = some a → s.reached a = true →
    Completes .planActivate s (fun t => t.opt.plan = none ∧ t.rd .optPlanCtrl_arm 0 = 0 ∧
      ∀ n, n < 512 → n ∉ s.opt.skip → t.rd .optPlanNext_pending n = 0 ∧
        (s.rd .optPlanNext_pending n = 1 → t.rd .optChanCfg_txLine n = s.rd .optPlanNext_nextTx n ∧
          t.rd .optChanCfg_rxLine n = s.rd .optPlanNext_nextRx n)))

/-! Switching. -/

/-- A header that fails a check is counted at its port; one that passes is admitted with none of its segments arrived (the model's
reading of R133, log entry 18), and segments then enter its queue one by one; a packet completes whole, or is counted at the check
that its tail fails, dropped where nothing of it has left and stomped where it has begun to leave (R59, R60, R78, R133, R135, R477). -/
def Obligations.ReceptionFollowsTheChecks : Prop :=
  (∀ (port : Fin 512) (p : Packet) (start : Option (BitVec 64)) (e : PortEv) (s : State), s.off = false →
    s.regionDead (port / 64) = false → s.flag .corePortCfg_en port = true → s.isEth port = false →
    s.rd .corePortStatus_state port ∈ [2, 3, 4] → headerFault p start = some e →
    Completes (.packetHeaderReceived port p start) s (fun t =>
      Counted 2 (64 * port + e.ctorIdx) s t ∧ OnlyParts [.tel] s t)) ∧
  (∀ (port : Fin 512) (p : Packet) (start : Option (BitVec 64)) (s v : State) (x : Nat), s.off = false →
    s.regionDead (port / 64) = false → s.flag .corePortCfg_en port = true → s.isEth port = false →
    s.rd .corePortStatus_state port ∈ [3, 4] → headerFault p start = none → (p.tc = 7 → 36 + p.len.toNat ≤ 2048) →
    (p.tc = 6 → tc6Kind p.kind = true) → isLinkLocal p.dgid = false → s.inSitOut p.sgid.toNat = false →
    s.inSitOut p.dgid.toNat = false → p.hops ≠ 0 →
    ((s.learnEvent port p).bumpTraffic 0 port p.tc.toNat (36 + p.len.toNat)).lookup (port / 64) (port / 8) (some port) p =
      (v, .go (.port x)) →
    v.policerPasses port p.tc.toNat = true → v.fits (port / 64) p.tc.toNat ((36 + p.len.toNat + 255) / 256) →
    Completes (.packetHeaderReceived port p start) s (fun t =>
      Admitted (.porxel p) (.port x) ((36 + p.len.toNat + 255) / 256) v t ∧
      (t.pkt? v.sw.nextPid).map (fun p => (p.arrived, p.whole)) = some (0, false) ∧
      kget t.sw.rx (2 * port + b2n (p.tc.toNat == 7)) = some v.sw.nextPid)) ∧
  (∀ (port : Fin 512) (p : Packet) (start : Option (BitVec 64)) (s : State), s.off = false → s.regionDead (port / 64) = false →
    s.flag .corePortCfg_en port = true → s.isEth port = false → s.rd .corePortStatus_state port ∈ [3, 4] →
    headerFault p start = none →
    (p.tc = 6 → tc6Kind p.kind = false → Completes (.packetHeaderReceived port p start) s (fun t =>
      Counted 3 (4 * (8 * port + 6) + ClassEv.tc6KindDrop.ctorIdx) s t ∧ t.sw = s.sw)) ∧
    (p.tc = 7 → 2048 < 36 + p.len.toNat → Completes (.packetHeaderReceived port p start) s (fun t =>
      Counted 2 (64 * port + PortEv.tc7Oversize.ctorIdx) s t ∧ t.sw = s.sw))) ∧
  (∀ (port : Fin 512) (exp : Bool) (pid : Nat) (p : Pkt) (q : Packet) (s : State), kget s.sw.rx (2 * port + b2n exp) = some pid →
    s.pkt? pid = some p → p.body = .porxel q → p.arrived + 1 < p.nseg →
    Completes (.segmentBytesArrived port exp) s (fun t =>
      t.pkt? pid = some { p with arrived := p.arrived + 1, segT := p.segT ++ [s.now], ord := p.ord ++ [s.sw.nextSeg] } ∧
      OnlyParts [.sw] s t)) ∧
  (∀ (port : Fin 512) (exp : Bool) (pid x : Nat) (p : Pkt) (q : Packet) (s : State),
    kget s.sw.rx (2 * port + b2n exp) = some pid → s.pkt? pid = some p → p.body = .porxel q → p.dest = .port x →
    p.dropped = false → p.arrived ≤ p.nseg → sget 0 s.sw.gather (Nat.pair pid p.dst) = 0 →
    Completes (.packetReceiveComplete port exp q.len.toNat true) s (fun t =>
      t.sw.rx = kdel s.sw.rx (2 * port + b2n exp) ∧ (t.pkt? pid).map (fun p => (p.whole, p.arrived)) = some (true, p.nseg) ∧
      OnlyParts [.sw, .regs] s t ∧ OnlyRegs [.corePoolStatus_spillUsed] s t)) ∧
  (∀ (port : Fin 512) (exp : Bool) (pid x rxLen : Nat) (p : Pkt) (q : Packet) (fecOk : Bool) (e : PortEv) (s : State),
    s.off = false → s.flag .corePortCfg_en port = true →
    kget s.sw.rx (2 * port + b2n exp) = some pid → s.pkt? pid = some p → p.body = .porxel q → p.dest = .port x →
    p.dropped = false → tailFault q rxLen fecOk = some e →
    Completes (.packetReceiveComplete port exp rxLen fecOk) s (fun t =>
      (p.begun = false → Counted 2 (64 * port + e.ctorIdx) s t) ∧ (∀ r, t.pkt? pid = some r → r.err = true) ∧
      (∀ y ∈ t.sw.tx, y.2.ep.pid = pid → y.2.stomp = true)))

/-- An Ethernet frame is counted and routed; an ETH_ENCAP packet's inner frame is; MGMT packets and punted packets reach the owner's
rings (R62, R64, R83, R119, R451). -/
def Obligations.FramesAndHostPackets : Prop :=
  (∀ (port : Fin 512) (bytes : List Byte) (fcsOk : Bool) (s : State), s.off = false → s.regionDead (port / 64) = false →
    s.flag .corePortCfg_en port = true → s.isEth port = true → s.rd .corePortStatus_state port ∈ [3, 4] →
    (∀ e : PortEv, (if 9216 < bytes.length + 4 then some PortEv.frameOversize
      else if bytes.length + 4 < 64 ∨ fcsOk = false then some PortEv.rxFrameErr
      else if isPause bytes then some PortEv.pauseRx else none) = some e →
      Completes (.ethFrameReceived port bytes fcsOk) s (fun t =>
        Counted 2 (64 * port + e.ctorIdx) s t ∧ OnlyParts [.tel] s t)) ∧
    (∀ (c x : Nat) (b : List Byte) (v : State), 64 ≤ bytes.length + 4 → bytes.length + 4 ≤ 9216 → fcsOk = true →
      isPause bytes = false → c = s.frameClass bytes → (c = 7 → bytes.length + 4 ≤ 2048) →
      (s.bumpTraffic 0 port c (bytes.length + 4)).frameLookup (port / 64) (port / 8) c (some port) bytes = (v, .v (.go (.port x)) b) →
      s.policerPasses port c = true → v.fits (port / 64) c 36 →
      Completes (.ethFrameReceived port bytes fcsOk) s (fun t => Admitted (.frame b) (.port x) 36 v t))) ∧
  (∀ (pos c x : Nat) (r : Deliv) (b : List Byte) (s u v : State),
    s.takeLocal pos (fun r => r.pkt.kind == 0x3E && r.fn == .own) = some (r, u) → 60 ≤ r.pkt.payload.length →
    r.pkt.payload.length ≤ 4096 → isPause r.pkt.payload = false → c = u.frameClass r.pkt.payload →
    (c = 7 → r.pkt.payload.length + 4 ≤ 2048) →
    u.frameLookup (regionOfBlock (64 + u.answerRegion r)) (64 + u.answerRegion r) c none r.pkt.payload = (v, .v (.go (.port x)) b) →
    v.fits (regionOfBlock (64 + u.answerRegion r)) c (segsOf (.frame b)) →
    Completes (.ethEncapReceived pos) s (fun t => Admitted (.frame b) (.port x) (segsOf (.frame b)) v t)) ∧
  (∀ (pos fn : Nat) (r : Deliv) (s u : State),
    s.takeLocal pos (fun r => r.pkt.kind == 0x3F && r.fn == .own) = some (r, u) → u.owner? = some fn →
    u.ringTakes fn 1 r.pkt.bytes = true → u.padCells fn 1 (entryCells r.pkt.bytes) = 0 →
    Completes (.mgmtReceived pos) s (fun t =>
      Emits s t (.hostWrite fn ((u.ring fn 1).base + 64 * (u.rd .pcieRingPartIdx_idx (ringIdx fn 1) % 2 ^ (u.ring fn 1).log2))
        (slice (entryHead 3 (entryCells r.pkt.bytes) (u.ring fn 1).seq (leBytes 2 r.pkt.bytes.length) ++ r.pkt.bytes) 0
          (64 * entryCells r.pkt.bytes))) ∧
      t.rd .pcieRingPartIdx_idx (ringIdx fn 1) =
        (s.rd .pcieRingPartIdx_idx (ringIdx fn 1) + entryCells r.pkt.bytes) % 2 ^ 32 ∧
      OnlyParts [.sw, .mgmt, .regs, .out] s t)) ∧
  (∀ (pos : Nat) (r : Deliv) (s u : State),
    s.takeLocal pos (fun r => r.pkt.kind == 0x3F && r.fn == .own) = some (r, u) → u.owner? = none →
    Completes (.mgmtReceived pos) s (fun t => t = u)) ∧
  (∀ (fn : Nat) (e : PuntEntry) (rest : List PuntEntry) (s : State), s.sw.puntQ = e :: rest → s.owner? = some fn →
    s.ringTakes fn 2 (e.record ++ e.bytes) = true → s.padCells fn 2 (entryCells (e.record ++ e.bytes)) = 0 →
    Completes .puntDeliver s (fun t => t.sw.puntQ = rest ∧
      Emits s t (.hostWrite fn ((s.ring fn 2).base + 64 * (s.rd .pcieRingPartIdx_idx (ringIdx fn 2) % 2 ^ (s.ring fn 2).log2))
        (slice (entryHead 0x10 (entryCells (e.record ++ e.bytes)) (s.ring fn 2).seq [] ++ (e.record ++ e.bytes)) 0
          (64 * entryCells (e.record ++ e.bytes)))) ∧
      OnlyParts [.sw, .mgmt, .regs, .out] s t))

/-- A slot of the Reel sends by the rotor; segments reach their intermediate, from which they are not sent in the slot of their
arrival, and their resequencer, which releases them in order; a gap is skipped at its timeout; spill refills oldest first; the sweep
drops what has aged (R137, R140 to R148, R161). -/
def Obligations.ReelMovesSegments : Prop :=
  (∀ s : State, s.off = false → Completes .reelSlot s (fun t => t.sw.slot = s.sw.slot + 1 ∧ t.sw.fresh = [] ∧
    OnlyParts [.sw, .tel, .regs, .freeCtr] s t)) ∧
  (∀ (i c d pid : Nat) (p : Pkt) (s : State), s.off = false → s.sw.voq = [(voqKey i c d, [pid])] → i < 72 → c < 8 → d < 72 →
    s.sw.streams = [] → s.sw.iq = [] → s.sw.copies = [] → s.sw.wall = [] → s.sw.skips = [] → s.pkt? pid = some p →
    s.blockDead i = false → s.blockDead ((i + s.sw.slot) % 72) = false → p.ready1 = true → (p.ord[p.sent]?).isSome = true →
    s.agedPkt p = false → s.iqRoom ((i + s.sw.slot) % 72) d c = true → s.outstanding d i c false < 2048 →
    Completes .reelSlot s (fun t =>
      t.sw.t1 = s.sw.t1 ++ [⟨(i + s.sw.slot) % 72, s.sw.slot + 8,
        .uni ⟨pid, p.sent, i, d, c, false, sget 0 s.sw.seqs (flowKey d i c false), 0⟩⟩] ∧
      sget 0 t.sw.seqs (flowKey d i c false) = (sget 0 s.sw.seqs (flowKey d i c false) + 1) % 4096)) ∧
  (∀ (k d c : Nat) (g : Seg) (s : State), s.off = false → s.sw.iq = [(iqKey k d c, [g])] → k < 72 → c < 8 → d = (k + s.sw.slot) % 72 →
    s.sw.voq = [] → s.sw.streams = [] → s.sw.copies = [] → s.sw.wall = [] → s.sw.skips = [] → s.blockDead k = false →
    s.blockDead d = false → (c < 7 → s.stopped d c = false) →
    (s.isFresh k g = false → Completes .reelSlot s (fun t => t.sw.t2 = s.sw.t2 ++ [(s.sw.slot + 8, g)] ∧ t.sw.iq = [])) ∧
    (s.isFresh k g = true → Completes .reelSlot s (fun t => t.sw.t2 = s.sw.t2 ∧ t.sw.iq = s.sw.iq))) ∧
  (∀ (pos : Nat) (k due : Nat) (g : Seg) (s : State), s.sw.t1[pos]? = some ⟨k, due, .uni g⟩ → due ≤ s.sw.slot →
    s.blockDead k = false →
    Completes (.segmentArriveIntermediate pos) s (fun t => t.sw.t1 = s.sw.t1.eraseIdx pos ∧
      kget t.sw.iq (iqKey k g.dst g.cls) = some (((kget s.sw.iq (iqKey k g.dst g.cls)).getD []) ++ [g]) ∧
      (due = s.sw.slot → t.isFresh k g = true) ∧ OnlyParts [.sw] s t)) ∧
  (∀ (pos due : Nat) (g : Seg) (f : Flow) (s : State), s.sw.t2[pos]? = some (due, g) → due ≤ s.sw.slot → s.off = false →
    s.blockDead g.dst = false → f = s.flow (flowKey g.dst g.src g.cls g.mc) → f.exp < 4096 →
    (g.seq = f.exp → f.held = [] → f.skip = [] →
      Completes (.segmentArriveResequencer pos) s (fun t => t.sw.t2 = s.sw.t2.eraseIdx pos ∧
        t.flow (flowKey g.dst g.src g.cls g.mc) = ⟨(f.exp + 1) % 4096, [], [], 0, none⟩)) ∧
    (0 < (g.seq + 4096 - f.exp) % 4096 → (g.seq + 4096 - f.exp) % 4096 < 2048 → f.skip.contains g.seq = false →
      Completes (.segmentArriveResequencer pos) s (fun t => t.sw.t2 = s.sw.t2.eraseIdx pos ∧
        (t.flow (flowKey g.dst g.src g.cls g.mc)).exp = f.exp ∧
        (t.flow (flowKey g.dst g.src g.cls g.mc)).held = insertHeld f.exp g f.held ∧
        (t.flow (flowKey g.dst g.src g.cls g.mc)).skip = f.skip ∧ OnlyParts [.sw] s t)) ∧
    (2048 ≤ (g.seq + 4096 - f.exp) % 4096 → g.cls < 8 →
      Completes (.segmentArriveResequencer pos) s (fun t => t.sw.t2 = s.sw.t2.eraseIdx pos ∧
        Counted 4 (16 * (8 * regionOfBlock g.dst + g.cls) + CoreEv.reseqLate.ctorIdx) s t))) ∧
  (∀ (pos : Nat) (n : Notice) (f : Flow) (s : State), s.sw.skipT[pos]? = some n → n.due ≤ s.sw.slot → n.n = 1 →
    f = s.flow (flowKey n.d n.src n.cls true) → n.base % 4096 = f.exp → f.held = [] → f.skip = [] →
    Completes (.skipNoticeReceived pos) s (fun t => t.sw.skipT = s.sw.skipT.eraseIdx pos ∧
      t.flow (flowKey n.d n.src n.cls true) = ⟨(f.exp + 1) % 4096, [], [], 0, none⟩)) ∧
  (∀ (d i : Fin 72) (c : Fin 8) (mc : Bool) (g : Seg) (s : State), s.off = false → s.stopped d c = false →
    (s.flow (flowKey d i c mc)).held = [g] → (s.flow (flowKey d i c mc)).skip = [] → g.seq < 4096 →
    s.reseqLimit ≤ s.gapTime (flowKey d i c mc) →
    Completes (.reseqTimeout d i c mc) s (fun t => t.flow (flowKey d i c mc) = ⟨(g.seq + 1) % 4096, [], [], 0, none⟩ ∧
      Counted 4 (16 * (8 * regionOfBlock d + c) + CoreEv.reseqSkip.ctorIdx) s t)) ∧
  (∀ (i d : Fin 72) (c : Fin 4) (pid n : Nat) (p : Pkt) (s : State), s.stackDead (stackOf (regionOfBlock i)) = false →
    s.voq i c d = [pid] → s.pkt? pid = some p → p.sent + p.hseg ≤ p.nseg → p.nseg ≤ p.ord.length →
    n = min (min p.hseg (64 - p.sram)) (s.poolFree (regionOfBlock i)) →
    Completes (.spillRefill i d c) s (fun t => t.pkt? pid = some { p with hseg := p.hseg - n } ∧
      t.poolFree (regionOfBlock i) = s.poolFree (regionOfBlock i) - n ∧ (n = p.hseg → voqKey i c d ∉ t.sw.spill) ∧
      OnlyParts [.sw, .regs] s t)) ∧
  (∀ (pid : Nat) (p : Pkt) (rest : List Nat) (s : State), s.off = false → s.sw.voq = [(voqKey p.blk p.cls p.member, pid :: rest)] →
    s.sw.wall = [] → s.sw.egq = [] → s.pkt? pid = some p → p.sent = 0 → s.agedPkt p = true →
    Completes .ageSweep s (fun t => t.voq p.blk p.cls p.member = rest.filter (· != pid) ∧
      Counted 4 (16 * (8 * regionOfBlock p.blk + p.cls) + CoreEv.ageDrop.ctorIdx) s t))

/-- The scheduler takes TC7, then TC6, then the round by deficit; a port in HELLO sends its HELLO (log entry 21); TC7 interrupts; a
whole packet leaves and is counted, each segment being freed as it leaves, and one that has run out is stomped (R135, R153, R167,
R168, R171). -/
def Obligations.EgressFollowsTheScheduler : Prop :=
  (∀ (port : Fin 512) (s : State), s.off = false → s.rd .corePortCfg_en port = 1 → s.rd .corePortStatus_state port ∈ [3, 4] →
    kget s.sw.tx (2 * port) = none → kget s.sw.tx (2 * port + 1) = none →
    (∀ e, s.headIf port 7 = some e → s.mayStart port 7 e = true →
      Completes (.schedulerDecision port) s (fun t => Transmits t port 7 e)) ∧
    (∀ e, s.headIf port 7 = none → s.headIf port 6 = some e → s.mayStart port 6 e = true →
      Completes (.schedulerDecision port) s (fun t => Transmits t port 6 e)) ∧
    (∀ (c : Nat) (e : EPkt), c ≤ 5 → s.headIf port 7 = none → s.headIf port 6 = none → s.round port = [c] →
      s.headIf port c = some e → s.mayStart port c e = true → s.sw.credited.contains (8 * port + c) = false →
      s.costOf port e ≤ sget 0 s.sw.deficit (8 * port + c) + s.quantum port c →
      Completes (.schedulerDecision port) s (fun t => Transmits t port c e ∧
        ((s.egq port c).filter (· != e) ≠ [] →
          sget 0 t.sw.deficit (8 * port + c) = sget 0 s.sw.deficit (8 * port + c) + s.quantum port c - s.costOf port e)))) ∧
  (∀ (port : Fin 512) (e : EPkt) (s : State), s.off = false → s.rd .corePortCfg_en port = 1 → s.rd .corePortStatus_state port = 2 →
    kget s.sw.tx (2 * port) = none → kget s.sw.tx (2 * port + 1) = none → (∀ c, s.egq port c = if c = 6 then [e] else []) →
    s.firstHello port = some e → (∀ p, s.pkt? e.pid = some p → p.isMc = false) → s.eligibleAt port 6 e = true →
    s.mayStart port 6 e = true →
    Completes (.schedulerDecision port) s (fun t => Transmits t port 6 e)) ∧
  (∀ (port : Fin 512) (e : EPkt) (s : State), s.isEth port = false → (kget s.sw.tx (2 * port)).isSome = true →
    kget s.sw.tx (2 * port + 1) = none → s.headIf port 7 = some e → s.mayStart port 7 e = true →
    Completes (.expressCutPoint port) s (fun t => Transmits t port 7 e ∧ kget t.sw.tx (2 * port) = kget s.sw.tx (2 * port))) ∧
  (∀ (port : Fin 512) (x : Tx) (s : State), kget s.sw.tx (2 * port + 1) = none → kget s.sw.tx (2 * port) = some x →
    s.txWhole x = true → s.off = false → s.rd .corePortCfg_en port = 1 → x.cls < 8 → x.stomp = false →
    Completes (.packetTxEnd ⟨port, true⟩) s (fun t => t.out = .sent port x.body false :: s.out ∧ kget t.sw.tx (2 * port) = none ∧
      t.count 1 (2 * (8 * port + x.cls)) = (s.count 1 (2 * (8 * port + x.cls)) + x.body.size) % 2 ^ 48 ∧
      t.count 1 (2 * (8 * port + x.cls) + 1) = (s.count 1 (2 * (8 * port + x.cls) + 1) + 1) % 2 ^ 48 ∧
      OnlyParts [.sw, .tel, .regs, .out] s t)) ∧
  (∀ (port : Fin 512) (x : Tx) (s : State), kget s.sw.tx (2 * port + 1) = none → kget s.sw.tx (2 * port) = some x →
    x.left + 1 < x.ep.rel → Completes (.packetTxEnd ⟨port, false⟩) s (fun t =>
      kget t.sw.tx (2 * port) = some { x with left := x.left + 1 } ∧ OnlyParts [.sw, .regs] s t)) ∧
  (∀ (port : Fin 512) (x : Tx) (s : State), kget s.sw.tx (2 * port + 1) = none → kget s.sw.tx (2 * port) = some x →
    s.txWhole x = false → s.off = false → s.rd .corePortCfg_en port = 1 →
    Completes (.underrun port) s (fun t => t.out = .sent port (cutBody x.body x.ep.rel) true :: s.out ∧
      kget t.sw.tx (2 * port) = none ∧
      Counted 2 (64 * port + PortEv.underrun.ctorIdx) s t ∧
      OnlyParts [.sw, .tel, .regs, .out] s t))

/-- A table command joins the commands in progress with START 1 and answers in RESULT; learning moves an entry that no command changed
in the same instant (log entry 50), a window boundary clears MOVES, and the scrub repairs a slot that no command acts on (R114, R115,
R123, R125, R129, Table 4.5). -/
def Obligations.TablesAreCommandedLearnedAndScrubbed : Prop :=
  (∀ (src : Src) (s u : State), s.accepts src .tblCmd (tblInst src) = true → u = s.ready src .tblCmd (tblInst src) →
    ∀ (table : BitVec 3) (index : BitVec 18) (d : Nat), d = u.tblData (tblInst src) →
      Completes (.tblRead src table index) s (u.tblQueued (tblInst src) ⟨0, table.toNat, index.toNat, false, d⟩) ∧
      Completes (.tblWrite src table index) s (u.tblQueued (tblInst src) ⟨1, table.toNat, index.toNat, false, d⟩) ∧
      Completes (.tblInvalidate src table index) s (u.tblQueued (tblInst src) ⟨2, table.toNat, index.toNat, false, d⟩) ∧
      Completes (.tblSearch src table index) s (u.tblQueued (tblInst src) ⟨3, table.toNat, index.toNat, false, d⟩) ∧
      Completes (.tblInsertSorted src table index) s (u.tblQueued (tblInst src) ⟨4, table.toNat, index.toNat, false, d⟩) ∧
      Completes (.tblDeleteSorted src table index) s (u.tblQueued (tblInst src) ⟨5, table.toNat, index.toNat, false, d⟩) ∧
      (∀ all : Bool, Completes (.tblLearnFlush src table all index) s (u.tblQueued (tblInst src) ⟨6, table.toNat, index.toNat, all, d⟩))) ∧
  (∀ (j : TblJob) (r : TblRes) (s : State), s.tab.jobs = [j] → j.done = some r → j.by_ < 2 → r.result < 16 →
    Completes .tableCommandComplete s (fun t => t.tab.jobs = [] ∧ t.rd .tblCmd_start j.by_ = 0 ∧
      t.rd .tblStatus_result j.by_ = r.result ∧
      (∀ d i : Nat, r.data = some d → i < 16 → t.rd .tblData_data (16 * j.by_ + i) = bits d (32 * i) 32) ∧ OnlyParts [.tab, .regs] s t ∧
      OnlyRegs [.tblCmd_start, .tblStatus_result, .tblStatus_rindex, .tblData_data] s t)) ∧
  (∀ (g port : Nat) (rest : List (Nat × Nat)) (s : State), s.tab.learnQ = (g, port) :: rest →
    s.changedNow 0 g = none →
    (bitAt (s.dt g) 63 = false → s.flag .dtLearnCfg_create 0 = true →
      Completes .learnApply s (fun t => t.tab.learnQ = rest ∧
        t.dt g = 2 ^ 63 + 2 ^ 59 + 2 ^ 53 + s.rd .dtPortLearn_group port ∧ OnlyParts [.tab, .tel] s t)) ∧
    (bitAt (s.dt g) 63 = true → bitAt (s.dt g) 62 = true → Completes .learnApply s (fun t => t.tab.learnQ = rest ∧ t.dt g = s.dt g)) ∧
    (bitAt (s.dt g) 63 = true → bitAt (s.dt g) 62 = false → bits (s.dt g) 59 3 = 1 → bitAt (s.dt g) 57 = false →
      bits (s.dt g) 53 4 < 8 → (s.lgMembers (bits (s.dt g) 0 12)).any (fun m => m.2.2 == port) = false →
      Completes .learnApply s (fun t => t.tab.learnQ = rest ∧ bits (t.dt g) 53 4 = bits (s.dt g) 53 4 + 1 ∧
        bits (t.dt g) 0 18 = s.rd .dtPortLearn_group port))) ∧
  (∀ s : State, swf (fun _ => 0) s.tab.dt = true → s.tb.counting = true → s.reached s.tab.window = true →
    Completes .learnWindowBoundary s (fun t => t.tab.window = (s.tab.window + 1000000000) % 2 ^ 32 ∧
      (∀ g, t.dt g = clearMask (s.dt g) (15 * 2 ^ 53)) ∧ OnlyParts [.tab] s t)) ∧
  (∀ (k : Fin 8) (slot : BitVec 15) (s : State), s.off = false → s.flag .lpmScrubCfg_en 0 = true → s.regionDead k = false →
    s.slotActed slot.toNat = false → s.tab.bad.contains (3, slot.toNat, k.val) = false →
    sget 0 s.tab.tcam (32768 * k + slot.toNat) ≠ sget 0 s.tab.shadow slot.toNat →
    Completes (.lpmScrubSlot k slot) s (fun t =>
      sget 0 t.tab.tcam (32768 * k + slot.toNat) = sget 0 s.tab.shadow slot.toNat ∧
      Counted 5 TabEv.lpmScrubFix.ctorIdx s t ∧ OnlyParts [.tab, .tel] s t))

/-! Engines and services. -/

/-- A conversion stream's step exchanges AMAX, its error average and QERR_HIGH follow each checked block, and a utilisation window is
shown and judged (R250, R257, R284). -/
def Obligations.ConversionStreamsAndUtilisation : Prop :=
  (∀ (src : Src) (st : Fin 256) (s u : State), s.accepts src .cvtSctrl st = true → u = s.ready src .cvtSctrl st →
    Completes (.cvtStep src st) s (fun t => t.rd .cvtSctrl_step st = 1 ∧ st.val ∈ t.eng.steps) ∧
    Completes (.cvtQclr src st) s (fun t => t.rd .cvtSstatus_qerr st = 0 ∧ t.rd .cvtSstatus_qerrHigh st = 0 ∧
      OnlyRegs [.cvtSstatus_qerr, .cvtSstatus_qerrHigh] u t)) ∧
  (∀ (st : Fin 256) (s : State), st.val ∈ s.eng.steps →
    (s.converting st = false → Completes (.amaxExchange st) s (fun t =>
      t.rd .cvtAmax_amaxPrev st = s.rd .cvtAmax_amax st ∧ t.rd .cvtAmax_amax st = 0 ∧ t.rd .cvtSctrl_step st = 0 ∧
      st.val ∉ t.eng.steps ∧ OnlyParts [.eng, .regs] s t ∧ OnlyAt [.cvtAmax_amaxPrev, .cvtAmax_amax, .cvtSctrl_step] st s t)) ∧
    (s.converting st = true → Completes (.amaxExchange st) s (fun t => t = s))) ∧
  (∀ (k : Fin 8) (st cfg e q : Nat) (rest : List (Nat × Nat × Nat)) (s : State), s.off = false →
    kget s.eng.chk k = some ((st, cfg, e) :: rest) → q = qerrNext (s.rd .cvtSstatus_qerr st) e →
    Completes (.accuracyCheck k) s (fun t => (kget t.eng.chk k).getD [] = rest ∧
      t.rd .cvtSstatus_qerr st = q % 2 ^ 32 ∧ Counted 7 (8 * st + CvtEv.qsampleCnt.ctorIdx) s t ∧
      (s.rd .cvtSstatus_qerrHigh st = 0 → (Elem.bf16.decode (scQthr cfg)).lt (n32 q) = true →
        (Elem.bf16.decode (scQthr cfg)).lt (n32 (s.rd .cvtSstatus_qerr st)) = false → t.rd .cvtSstatus_qerrHigh st = 1))) ∧
  (∀ (k : Fin 8) (block region net hbm : BitVec 8) (waited : Bool) (s : State),
    Completes (.utilWindow k block region net hbm waited) s (fun t =>
      t.rd .engUtil_block k = block.toNat ∧ t.rd .engUtil_region k = region.toNat ∧ t.rd .engUtil_net k = net.toNat ∧
      t.rd .engUtil_hbm k = hbm.toNat ∧
      ∀ l, l < 4 → t.rd .engSat_count (4 * k + l) =
        if saturated [block.toNat, region.toNat, net.toNat, hbm.toNat] (s.rd .engStealCfg_satThr 0) l waited then
          min (s.rd .engSat_count (4 * k + l) + 1) 0xFFFFFFFF else s.rd .engSat_count (4 * k + l)))

/-- ENG_INST_CMD starts, aborts, reads and signals a context, with its RESULT, a START waiting for the function's earlier BAR2 writes;
a descriptor waits, faults, completes at issue or is cut into tiles; an engine takes and ends a tile; an unanswered packet is resent
after RETRY_US, then its instance faults (R243, R266, R267, R269, R273, R276, R280, R281, R285).
Times are told on the free-running count of ns (log entry 52). -/
def Obligations.InstancesRunTheirDescriptors : Prop :=
  (∀ (src : Src) (inst : BitVec 12) (s u : State), s.accepts src .engInstCmd 0 = true → u = s.ready src .engInstCmd 0 →
    ((srcFn src).any (fun f => u.bar2Waits f u.pwr.nextBar2) = false →
      (inst.toNat < u.hostFirst → Completes (.instStart src inst) s (fun t => t.rd .engInstCmd_result 0 = 2 ∧ t.eng = u.eng)) ∧
      (u.hostFirst ≤ inst.toNat → u.running inst.toNat = true →
        Completes (.instStart src inst) s (fun t => t.rd .engInstCmd_result 0 = 1 ∧ t.eng = u.eng)) ∧
      (u.hostFirst ≤ inst.toNat → u.running inst.toNat = false →
        Completes (.instStart src inst) s (fun t => t.rd .engInstCmd_result 0 = 0 ∧
          t.inst inst.toNat = { Inst.init with
            state := 1, region := u.rd .engInstHead_region 0, next := u.rd .engInstHead_head 0 / 64 * 64,
            mode := u.rd .engInstHead_mode 0, starts := (u.inst inst.toNat).starts + 1, t0 := u.now }))) ∧
    ((srcFn src).any (fun f => u.bar2Waits f u.pwr.nextBar2) = true → Completes (.instStart src inst) s (fun t =>
      t.rd .engInstCmd_start 0 = 1 ∧ t.rd .engInstCmd_inst 0 = inst.toNat ∧
      t.eng = { u.eng with startReq := (srcFn src).map (fun f => (f, u.pwr.nextBar2)) })) ∧
    (u.running inst.toNat = true →
      Completes (.instAbort src inst) s (fun t => t.rd .engInstCmd_result 0 = 0 ∧ (t.inst inst.toNat).state = 4) ∧
      (∀ ctr : BitVec 4, Completes (.instSignal src inst ctr) s (fun t => t.rd .engInstCmd_result 0 = 0 ∧
        t.inst inst.toNat = { u.inst inst.toNat with
          ctr := (u.inst inst.toNat).ctr.set ctr.toNat ((nthD (u.inst inst.toNat).ctr ctr.toNat 0 + 1) % 2 ^ 16) }))) ∧
    (u.running inst.toNat = false →
      Completes (.instAbort src inst) s (fun t => t.rd .engInstCmd_result 0 = 3 ∧ t.eng = u.eng) ∧
      (∀ ctr : BitVec 4, Completes (.instSignal src inst ctr) s (fun t => t.rd .engInstCmd_result 0 = 3 ∧ t.eng = u.eng))) ∧
    Completes (.instRead src inst) s (fun t => t.rd .engInstCmd_result 0 = 0 ∧ t.eng = u.eng ∧
      t.rd .engInstStatus_state 0 = (u.inst inst.toNat).state % 2 ^ Fld.engInstStatus_state.width ∧
      t.rd .engInstStatus_fault 0 = (u.inst inst.toNat).fault % 2 ^ Fld.engInstStatus_fault.width ∧
      t.rd .engInstStatus_flags 0 = (u.inst inst.toNat).flags % 2 ^ Fld.engInstStatus_flags.width) ∧
    Completes (.instClearFlags src inst) s (fun t => t.rd .engInstCmd_result 0 = 0 ∧
      t.inst inst.toNat = { u.inst inst.toNat with flags := 0 })) ∧
  (∀ (inst : BitVec 12) (w : List Nat) (s : State), s.off = false → s.mayIssue inst.toNat = true → s.instGrp inst.toNat = none →
    s.rd .pwrRegionStatus_state (s.inst inst.toNat).region = 0 → s.fetchFault inst.toNat = 0 →
    (rangeRegions (s.inst inst.toNat).next 64).any (fun k => s.rd .pwrRegionStatus_state k != 0) = false →
    w = descWords s.eng.mem (s.inst inst.toNat).next →
    (waitMet (s.inst inst.toNat) w = false → Completes (.descriptorIssue inst) s (fun t => t.eng = s.eng)) ∧
    (waitMet (s.inst inst.toNat) w = true → s.descFault inst.toNat w ≠ 0 → Completes (.descriptorIssue inst) s (fun t =>
      (t.inst inst.toNat).state = 3 ∧ (t.inst inst.toNat).fault = s.descFault inst.toNat w ∧
      (t.inst inst.toNat).fdesc = (s.inst inst.toNat).next)) ∧
    (waitMet (s.inst inst.toNat) w = true → s.descFault inst.toNat w = 0 → dOp w = 0xF1 → dEnd w = false → dSigEn w = false →
      Completes (.descriptorIssue inst) s (fun t => t.eng.jobs = s.eng.jobs ∧
        t.inst inst.toNat = { s.inst inst.toNat with next := dNext w, mode := bits (dArg2 w) 0 8 })) ∧
    (waitMet (s.inst inst.toNat) w = true → s.descFault inst.toNat w = 0 → dKind w ≠ 0xF → shapeZero w = false →
      Completes (.descriptorIssue inst) s (fun t => (t.inst inst.toNat).jobs = (s.inst inst.toNat).jobs ++ [s.eng.nextJob] ∧
        (kget t.eng.jobs s.eng.nextJob).map (fun b => (b.inst, b.words, b.mode, b.left)) =
          some (inst.toNat, w, (s.inst inst.toNat).mode, tilesOf w)))) ∧
  (∀ (e : EngId) (x : Tile) (rest : List Tile) (b : Job) (s : State), s.engineFree e = true →
    (∀ c, e.block? = some c → s.blockReady c = true) → s.tq e.queue = x :: rest → s.mayBegin e x = true →
    kget s.eng.jobs x.job = some b → Completes (.engineSeekWork e) s (fun t => (kget t.eng.run e.num).map (·.tile) = some x)) ∧
  (∀ (n : Fin 512) (q : Nat) (x : Tile) (l rest : List Tile) (b : Job) (s : State), s.engineFree (.mxe n) = true → s.tq (n.val / 8) = [] →
    bitAt (s.rd .pwrRegionStatus_c2 (n.val / 8 / 8)) (n.val / 8 % 8) = false → s.rd .pwrCbGrant_grant (n.val / 8) ≠ 0 →
    s.flag .engStealCfg_sibEn 0 = true → s.victim 0 (n.val / 8 / 8) (n.val / 8) = some q → l = s.tq q →
    l.drop (l.length - (l.length + 1) / 2) = x :: rest → kget s.eng.jobs x.job = some b →
    Completes (.engineSeekWork (.mxe n)) s (fun t => (kget t.eng.run n).map (·.tile) = some x)) ∧
  (∀ (e : EngId) (r : Run) (b : Job) (s : State), kget s.eng.run e.num = some r → kget s.eng.jobs r.tile.job = some b →
    (s.tileEnds e r b = true → Completes (.tileComplete e) s (fun t => kget t.eng.run e.num = none ∧
      (dOp b.words ∈ [0x60, 0x61, 0x62, 0x63, 0x70] → b.left = [(r.tile.num, r.tile.part)] → kget t.eng.jobs r.tile.job = none) ∧
      (∀ x : Nat, dOp b.words ∈ [0x10, 0x11, 0x12, 0x13] → tileRows b.words r.tile = [x] →
        ∀ bs : List Byte, bs = packBytes (opC b.words).fmt.el ((vxeRow s.eng.mem b.mode b.words x).map
            (fun v => (convOut (opC b.words).fmt.el b.mode .rne v.1).code)) →
          t.memGet ((opC b.words).row x) bs.length = bs))) ∧
    (s.tileEnds e r b = false → Completes (.tileComplete e) s (fun t => t = s))) ∧
  (∀ (k : Fin 8) (psn : BitVec 24) (x : XReq) (b : Job) (s : State),
    s.eng.xfe.find? (fun x => x.k == k.val && x.psn == psn.toNat) = some x → kget s.eng.jobs x.job = some b →
    (s.tb.mono < x.sentAt + s.xfeRetryNs → Completes (.xfeRetryTimeout k psn) s (fun t => t = s)) ∧
    (x.sentAt + s.xfeRetryNs ≤ s.tb.mono → x.resends < s.rd .engXfeCfg_retries 0 → Completes (.xfeRetryTimeout k psn) s (fun t =>
      t.eng.xfe = s.eng.xfe.map (fun z => if z = x then
        { x with pkt := { x.pkt with hops := BitVec.ofNat 6 s.hopsInit }, resends := x.resends + 1, got := 0, sentAt := s.tb.mono }
        else z))) ∧
    (x.sentAt + s.xfeRetryNs ≤ s.tb.mono → s.rd .engXfeCfg_retries 0 ≤ x.resends → s.running b.inst = true → Completes (.xfeRetryTimeout k psn) s (fun t =>
      (t.inst b.inst).state = 3 ∧ (t.inst b.inst).fault = 7 ∧ ∀ y ∈ t.eng.xfe, y.job ≠ x.job)))

/-- Service GIDs are given once; a request is admitted to the lowest free group of slots and is whole with its last packet;
an unfinished one ends at its timeout; refusals are forgotten and joining ends in time; a group starts a context, and a run
limit aborts it (R287, R293, R295 to R297, R300). -/
def Obligations.RequestsAreAdmittedAndStarted : Prop :=
  (∀ (src : Src) (g : Fin 16) (val : BitVec 32) (s u : State), s.accepts src .svcGid g = true → u = s.ready src .svcGid g →
    (bitAt val.toNat 31 = true → u.svcGidTaken g (bits val.toNat 0 18) = true →
      Completes (.svcGidWrite src g val) s (fun t => t.rd .svcGid_refused g = 1 ∧ t.tab = u.tab ∧ OnlyAt [.svcGid_refused] g u t)) ∧
    (bitAt val.toNat 31 = true → u.svcGidTaken g (bits val.toNat 0 18) = false →
      Completes (.svcGidWrite src g val) s (fun t => t.rd .svcGid_gid g = bits val.toNat 0 18 ∧ t.rd .svcGid_valid g = 1 ∧
        t.dt (bits val.toNat 0 18) = 2 ^ 63 + 2 ^ 62 + 3 * 2 ^ 59 + 16 + g))) ∧
  (∀ (pos sv e a : Nat) (r : Deliv) (s u : State), s.takeLocal pos (fun r => isSvcReq r && !s.otherSvc r) = some (r, u) →
    sv = r.pkt.svc → u.assembling sv r = none → u.bound? r = some (sv, e) → seKind e = 0 → u.isRefused sv r = false →
    (u.admTests sv e r = none → reqBad e r.pkt 0 = false → reqNpkt e r.pkt = 0 → ownGroup e r.pkt = true →
      u.freeGroup sv e = some a → u.grp? u.svc.nextGrp = none →
      Completes (.svcReqReceived pos) s (fun t => t.svc.nextGrp = u.svc.nextGrp + 1 ∧
        ∃ (g : SvcGrp) (q : SvcReq), t.grp? u.svc.nextGrp = some g ∧ g.sv = sv ∧ g.slot0 = a ∧ g.entry = e ∧ g.closed = true ∧
          g.ready = some s.now ∧ g.reqs = [q] ∧ q.slot = a ∧ q.whole = true ∧ q.first = r)) ∧
    (s.off = false → r.pkt.tc ≠ 7 → reqBad e r.pkt (reqNpkt e r.pkt) = false → u.rd .svcStatus_ready sv = 0 →
      u.rd .svcStatus_building sv = 1 →
      Completes (.svcReqReceived pos) s (fun t => Counted 9 (16 * sv + SvcEv.svcBusyTx.ctorIdx) s t ∧ t.svc.grps = u.svc.grps))) ∧
  (∀ (sv : Fin 64) (sgid : BitVec 18) (msgid : BitVec 16) (g : SvcGrp) (q : SvcReq) (s : State), s.svc.grps = [g] →
    g.sv = sv.val → g.reqs = [q] → q.whole = false → q.first.pkt.sgid.toNat = sgid.toNat → q.first.pkt.msgid = msgid →
    s.asmNs ≤ span32 q.t0 s.now → Completes (.assemblyTimeout sv sgid msgid) s (fun t => t.svc.grps = [])) ∧
  (∀ (sv : Fin 64) (sgid : BitVec 18) (msgid : BitVec 16) (s : State),
    Completes (.refusalRecordExpiry sv sgid msgid) s (fun t => OnlyParts [.svc] s t ∧
      ∀ x, x ∈ t.svc.refused ↔ x ∈ s.svc.refused ∧
        ¬ (x.1 = sv.val ∧ x.2.1 = sgid.toNat ∧ x.2.2.1 = msgid.toNat ∧ s.asmNs ≤ span32 x.2.2.2 s.now))) ∧
  (∀ (sv : Fin 64) (g : SvcGrp) (a : Nat) (s : State), s.openGroup sv = some g → g.ready = some a →
    (seJoinNs g.entry ≤ span32 a s.now → Completes (.joinWindowExpiry sv) s (fun t =>
      (t.grp? g.num).map (·.closed) = some true ∧ OnlyParts [.svc] s t)) ∧
    (span32 a s.now < seJoinNs g.entry → Completes (.joinWindowExpiry sv) s (fun t => t = s))) ∧
  (∀ (sv : Fin 64) (g : SvcGrp) (s : State), s.svc.grps.find? (fun g => g.sv == sv.val && g.startable) = some g →
    s.svc.grps.find? (fun x => x.startable && x.waits) = none →
    (∀ i, s.freeCtx = some i → Completes (.groupStart sv) s (fun t =>
      t.inst i = { Inst.init with
        state := 1, region := seRegion g.entry, next := (seHead g.entry + g.slot0 * seLstride g.entry * 64) / 64 * 64,
        mode := seMode g.entry, starts := (s.inst i).starts + 1, t0 := s.now, grp := some g.num } ∧
      (t.grp? g.num).bind (·.inst) = some i)) ∧
    (s.freeCtx = none → s.off = false → g.waits = false → Completes (.groupStart sv) s (fun t =>
      Counted 9 (16 * g.sv + SvcEv.svcCtxWait.ctorIdx) s t ∧ t.eng = s.eng))) ∧
  (∀ (inst : BitVec 12) (e : Nat) (s : State), s.instEntry inst.toNat = some e → seRunLimit e ≠ 0 →
    1000 * seRunLimit e ≤ span32 (s.inst inst.toNat).t0 s.now → s.running inst.toNat = true →
    Completes (.runLimitExpiry inst) s (fun t => (t.inst inst.toNat).state = 4))

/-- A copy into a service's memory, and the building of a built-in service; STEER forwards to the session's holder, CLAIM moves a
session by Table 11.6 where no command changed it in the same instant (log entry 50); a GATE run takes its answers and ends at its
timeout (R303, R304, R306, R307, R313, R314). -/
def Obligations.ServicesAreLoadedSteeredAndGated : Prop :=
  (∀ (src : Src) (size : BitVec 20) (s u : State), s.accepts src .svcLoadCmd 0 = true → u = s.ready src .svcLoadCmd 0 →
    u.flag .svcLoadSrc_prom 0 = false →
    (u.loadRange (u.rd .svcLoadSrc_addr 0) (4096 * size.toNat) = true → u.loadRange (u.rd .svcLoadDst_addr 0) (4096 * size.toNat) = true →
      0x8000000000 ≤ u.rd .svcLoadSrc_addr 0 →
      Completes (.svcLoad src size) s (fun t => t.rd .svcLoadCmd_start 0 = 1 ∧
        t.svc.load = some ⟨u.rd .svcLoadDst_addr 0, u.rd .svcLoadSrc_addr 0, none, 4096 * size.toNat, 0⟩)) ∧
    (u.loadRange (u.rd .svcLoadSrc_addr 0) (4096 * size.toNat) = false →
      Completes (.svcLoad src size) s (fun t => t.rd .svcLoadCmd_start 0 = 0 ∧ t.rd .svcLoadCmd_result 0 = 2 ∧ t.svc = u.svc))) ∧
  (∀ (dst src size : Nat) (s : State), s.svc.load = some ⟨dst, src, none, size, 0⟩ →
    (rangeRegions dst size).any (fun k => !s.regionDead k && s.rd .pwrRegionStatus_state k != 0) = false →
    (s.loadRange dst size = true → Completes .svcLoadComplete s (fun t => t.memGet dst size = s.memGet src size ∧ t.svc.load = none ∧
      t.rd .svcLoadCmd_start 0 = 0 ∧ t.rd .svcLoadCmd_result 0 = 0 ∧ OnlyParts [.eng, .svc, .pwr, .regs] s t ∧
      OnlyRegs [.svcLoadCmd_start, .svcLoadCmd_result] s t)) ∧
    (s.loadRange dst size = false → Completes .svcLoadComplete s (fun t => t.eng = s.eng ∧ t.svc.load = none ∧
      t.rd .svcLoadCmd_start 0 = 0 ∧ t.rd .svcLoadCmd_result 0 = 2))) ∧
  (∀ (sv : Fin 64) (s : State), s.rd .svcStatus_building sv = 1 → seLive (s.svcEntry sv) = true → seKind (s.svcEntry sv) = 2 →
    s.rd .pwrRegionStatus_state (seRegion (s.svcEntry sv)) = 0 → 16 ≤ seLstride (s.svcEntry sv) →
    s.regionDead (seRegion (s.svcEntry sv)) = false →
    Completes (.serviceBuildComplete sv) s (fun t => t.rd .svcStatus_building sv = 0 ∧ t.rd .svcStatus_ready sv = 1 ∧
      OnlyRegs [.svcStatus_building, .svcStatus_ready] s t)) ∧
  (∀ (pos sv e x : Nat) (r : Deliv) (q : Packet) (s u w : State), s.takeLocal pos (s.steerReq 0) = some (r, u) →
    u.bound? r = some (sv, e) → 64 + r.pkt.payload.length ≤ seSlotSize e → u.admTests sv e r = none →
    u.tab.bad = [] → bitAt (u.sesAt r.pkt.key.toNat) 63 = true → u.inSitOut (bits (u.sesAt r.pkt.key.toNat) 39 18) = false →
    q = { r.pkt with dgid := BitVec.ofNat 20 (bits (u.sesAt r.pkt.key.toNat) 39 18), hops := r.pkt.hops - 1 }.sealed →
    (u.admTake sv e).lookup (seRegion e) (64 + seRegion e) none q = (w, .go (.port x)) → r.pkt.hops ≠ 0 → s.off = false →
    w.fits (seRegion e) r.pkt.tc.toNat (segsOf (.porxel q)) →
    Completes (.steer pos) s (fun t => Admitted (.porxel q) (.port x) (segsOf (.porxel q)) w t ∧
      Counted 9 (16 * sv + SvcEv.steerFwd.ctorIdx) s t)) ∧
  (∀ (pos sv e : Nat) (r : Deliv) (s u : State), s.takeLocal pos (s.steerReq 1) = some (r, u) → u.bound? r = some (sv, e) →
    u.flag .svcCfg_steerLearn 0 = true → 64 + r.pkt.payload.length ≤ seSlotSize e → u.admTests sv e r = none →
    u.changedNow 6 r.pkt.key.toNat = none →
    (bitAt (u.sesAt r.pkt.key.toNat) 63 = false → u.flag .svcCfg_steerCreate 0 = true →
      Completes (.claim pos) s (fun t => t.sesAt r.pkt.key.toNat = 2 ^ 63 + 2 ^ 57 + r.pkt.sgid.toNat % 2 ^ 18 * 2 ^ 39)) ∧
    (bitAt (u.sesAt r.pkt.key.toNat) 63 = true → (bitAt (u.sesAt r.pkt.key.toNat) 62 = true ∨
        bits (u.sesAt r.pkt.key.toNat) 39 18 = r.pkt.sgid.toNat % 2 ^ 18 ∨ bitAt (u.sesAt r.pkt.key.toNat) 61 = true) →
      Completes (.claim pos) s (fun t => t.sesAt r.pkt.key.toNat = u.sesAt r.pkt.key.toNat)) ∧
    (bitAt (u.sesAt r.pkt.key.toNat) 63 = true → bitAt (u.sesAt r.pkt.key.toNat) 62 = false →
      bits (u.sesAt r.pkt.key.toNat) 39 18 ≠ r.pkt.sgid.toNat % 2 ^ 18 → bitAt (u.sesAt r.pkt.key.toNat) 61 = false →
      bits (u.sesAt r.pkt.key.toNat) 57 4 < 8 →
      Completes (.claim pos) s (fun t => bits (t.sesAt r.pkt.key.toNat) 39 18 = r.pkt.sgid.toNat % 2 ^ 18 ∧
        bits (t.sesAt r.pkt.key.toNat) 57 4 = bits (u.sesAt r.pkt.key.toNat) 57 4 + 1))) ∧
  (∀ (pos sv e ord : Nat) (r : Deliv) (run : GateRun) (o : GateOrd) (s u : State),
    s.takeLocal pos (fun r => isSvcReq r && r.pkt.op == 1 && (match s.bound? r with | some (_, e) => seKind e == 3 | none => false)) =
      some (r, u) → u.bound? r = some (sv, e) → r.pkt.npkt = 0 → r.pkt.idx = 0 →
    (u.gateFind sv r.pkt.ctx.toNat = some (run, ord, o) → o.done = false → r.pkt.sgid.toNat = o.gid → o.seen = [] →
      (∃ (j : Nat) (y : GateOrd), j ≠ ord ∧ run.ords[j]? = some y ∧ y.done = false) →
      Completes (.gateAnswer pos) s (fun t => ∃ v : GateRun, v ∈ t.svc.gates ∧ v.inst = run.inst ∧ v.order = run.order ++ [ord] ∧
        (v.ords[ord]?).map (·.done) = some true)) ∧
    (u.gateFind sv r.pkt.ctx.toNat = none → s.off = false →
      Completes (.gateAnswer pos) s (fun t => Counted 9 (16 * sv + SvcEv.gateLate.ctorIdx) s t ∧ t.svc = u.svc))) ∧
  (∀ (inst : BitVec 12) (run : GateRun) (g : SvcGrp) (s : State), s.svc.gates.find? (fun r => r.inst == inst.toNat) = some run →
    s.grp? run.grp = some g → 1000 * max 1 (gateParam s.eng.mem (seParam g.entry)).us ≤ span32 run.t0 s.now →
    Completes (.gateTimeout inst) s (fun t => ∀ v ∈ t.svc.gates, v.inst ≠ inst.toNat))

/-- A chunk opens with its first contribution, joins each member once, is sent when whole or at its timeout, keeps its record
for the grace time, and is aborted where its group is degraded (R319 to R325). -/
def Obligations.ReductionChunksLive : Prop :=
  (∀ (pos key : Nat) (r : Deliv) (s u : State), s.takeLocal pos (fun r => r.fn == .own && r.pkt.kind == 0x10) = some (r, u) →
    r.blk < 64 → key = chunkKey r.blk r.pkt.redGroup r.pkt.redChunk →
    (∀ e : Nat, u.chunk? key = none → e = sget 0 u.tab.cgt r.pkt.redGroup → u.tab.bad.contains (5, r.pkt.redGroup, r.blk / 8) = false →
      ceValid e = true → redOk e r.pkt.redMember r.pkt.payload.length r.inPort = true → ceDegraded e = false →
      1 + dataUnits e ≤ u.redRoom r.blk → ceNmem e ≠ 1 →
      Completes (.redContribAtHome pos) s (fun t =>
        t.chunk? key = some ⟨.open_, e, [r.pkt.redMember], redElems e r.pkt.payload, [], 0, s.now, 0⟩ ∧ OnlyParts [.sw, .red, .regs] s t ∧ OnlyRegs [.corePoolStatus_free] s t)) ∧
    (∀ c : Chunk, u.chunk? key = some c → c.st = .open_ → redOk c.entry r.pkt.redMember r.pkt.payload.length r.inPort = true →
      r.pkt.redMember ∉ c.members →
      (c.members.length + 1 ≠ ceNmem c.entry → Completes (.redContribAtHome pos) s (fun t =>
        t.chunk? key = some { c with
          members := c.members ++ [r.pkt.redMember],
          acc := (c.acc.zip (redElems c.entry r.pkt.payload)).map (fun p => redCombine (ceOp c.entry) p.1 p.2) } ∧
        OnlyParts [.sw, .red, .regs] s t ∧ OnlyRegs [.corePoolStatus_free] s t)) ∧
      (c.members.length + 1 = ceNmem c.entry → Completes (.redContribAtHome pos) s (fun t =>
        (t.chunk? key).map (fun c => (c.st, c.result)) = some (.sending, redResult c.entry
          ((c.acc.zip (redElems c.entry r.pkt.payload)).map (fun p => redCombine (ceOp c.entry) p.1 p.2)))))) ∧
    (∀ c : Chunk, s.off = false → u.chunk? key = some c → c.st = .open_ →
      redOk c.entry r.pkt.redMember r.pkt.payload.length r.inPort = true → r.pkt.redMember ∈ c.members →
      Completes (.redContribAtHome pos) s (fun t =>
        Counted 10 (16 * r.blk + RedEv.redDup.ctorIdx) s t ∧ t.chunk? key = some c ∧ OnlyParts [.sw, .tel, .regs] s t ∧
        OnlyRegs [.corePoolStatus_free] s t))) ∧
  (∀ (lb : Fin 64) (group : BitVec 14) (chunk : BitVec 24) (key : Nat) (c : Chunk) (s : State),
    key = chunkKey lb group.toNat chunk.toNat → s.chunk? key = some c →
    (c.st = .open_ → 1000 * ceTimeout c.entry ≤ span32 c.t0 s.now →
      (cePartial c.entry = true → Completes (.redTimeout lb group chunk) s (fun t =>
        (t.chunk? key).map (fun c => (c.st, c.result)) = some (.sending, redResult c.entry c.acc))) ∧
      (cePartial c.entry = false → ceGrace c.entry ≠ 0 → Completes (.redTimeout lb group chunk) s (fun t =>
        (t.chunk? key).map (fun c => (c.st, c.acode, c.tEnd)) = some (.aborted, 1, s.now)))) ∧
    (c.st = .sending → Completes (.redResultLeft lb group chunk) s (fun t =>
      t.chunk? key = (if ceGrace c.entry = 0 then none else some { c with st := .done, acc := [], tEnd := s.now }) ∧
      OnlyParts [.red] s t)) ∧
    (c.st = .done ∨ c.st = .aborted → 1000 * ceGrace c.entry ≤ span32 c.tEnd s.now →
      Completes (.redGraceExpiry lb group chunk) s (fun t => t.chunk? key = none ∧ OnlyParts [.red] s t))) ∧
  (∀ (gid : Nat) (rest : List Nat) (s : State), s.fen.scan = gid :: rest →
    Completes .redFenceScan s (fun t => t.fen.scan = rest ∧ t.rd .redFenceStatus_lastGid 0 = gid % 2 ^ 18 ∧
      t.rd .redFenceStatus_scanning 0 = b2n (!rest.isEmpty) ∧
      ∀ g, s.scanGroups gid = [g] → ceValid (sget 0 s.tab.cgt g) = true →
        sget 0 t.tab.cgt g = setBit (sget 0 s.tab.cgt g) 506 ∧ t.rd .redFenceStatus_degradeEvent 0 = 1))

/-- A request to one line joins its batch; a batch takes effect whole; an atomic is kept for replay and a repeat is answered
from its record; a clear empties the regions named (R328 to R332, R335, Table 12.4).
Times are told on the free-running count of ns (log entry 52). -/
def Obligations.CommonsAppliesBatches : Prop :=
  (∀ (pos off line : Nat) (r : Deliv) (s u : State), off = r.cmnOff → line = off / 64 → r.pkt.w2.toNat < 0x1000000 →
    s.atePasses pos (cmnRegion off) 1 = true →
    (s.takeLocal pos (isCommons 0x01) = some (r, u) → r.pkt.payload ≠ [] → off % 64 + r.pkt.payload.length ≤ 64 →
      ((kget u.cmn.batch line).getD (0, [])).2.length < 1024 →
      Completes (.commonsWrite pos) s (fun t =>
        kget t.cmn.batch line = some (((kget u.cmn.batch line).getD (s.now, [])).1,
          ((kget u.cmn.batch line).getD (0, [])).2 ++ [⟨.packet u.cmn.nextOp, off, .write r.pkt.payload⟩]) ∧
        t.cmn.mem = s.cmn.mem ∧ OnlyParts [.sw, .cmn, .regs] s t ∧ OnlyRegs [.corePoolStatus_free] s t)) ∧
    (s.takeLocal pos (fun r => isCommons 0x02 r && decide (r.pkt.w2.toNat < 0x100000000)) = some (r, u) → r.pkt.w1k ≠ 0 →
      off % 64 + 4 * r.pkt.w1k.toNat ≤ 64 → ((kget u.cmn.batch line).getD (0, [])).2.length < 1024 →
      Completes (.commonsRead pos) s (fun t =>
        kget t.cmn.batch line = some (((kget u.cmn.batch line).getD (s.now, [])).1,
          ((kget u.cmn.batch line).getD (0, [])).2 ++ [⟨.packet u.cmn.nextOp, off, .read (4 * r.pkt.w1k.toNat)⟩]) ∧
        t.cmn.mem = s.cmn.mem ∧ OnlyParts [.sw, .cmn, .regs] s t ∧ OnlyRegs [.corePoolStatus_free] s t)) ∧
    (∀ aop : Nat, s.takeLocal pos (isCommons 0x05) = some (r, u) → aop = bits r.pkt.w1k.toNat 7 4 → aop ≤ 4 →
      off % atomOut aop = 0 → r.pkt.payload.length = atomIn aop → ((kget u.cmn.batch line).getD (0, [])).2.length < 1024 →
      (kget u.cmn.replay (replayKey (cmnRegion off) r.pkt.sgid.toNat) = none →
        (u.cmn.replay.filter (fun e => (unpair e.1).1 == cmnRegion off)).length < 2048 →
        Completes (.commonsAtomic pos) s (fun t =>
          kget t.cmn.replay (replayKey (cmnRegion off) r.pkt.sgid.toNat) = some ⟨r.pkt.psn.toNat, [⟨r.pkt.psn.toNat, aop, off, 0, none⟩]⟩ ∧
          (kget t.cmn.batch line).map (·.2) = some (((kget u.cmn.batch line).getD (0, [])).2 ++
            [⟨.packet u.cmn.nextOp, off, .atomic aop (atomOps aop r.pkt.payload)⟩]))) ∧
      (∀ (x : Rec) (a : Nat) (sl : Slot), s.off = false → kget u.cmn.replay (replayKey (cmnRegion off) r.pkt.sgid.toNat) = some sl →
        (sl.hi + 2 ^ 24 - r.pkt.psn.toNat) % 2 ^ 24 < 64 → sl.recs.find? (fun x => x.psn == r.pkt.psn.toNat) = some x →
        x.time = some a → x.aop = aop → x.off = off → s.tb.mono < a + 2000000 →
        Completes (.commonsAtomic pos) s (fun t =>
          Counted 11 (8 * cmnRegion off + CmnEv.cmnReplayHit.ctorIdx) s t ∧ t.cmn = s.cmn)))) ∧
  (∀ (line : BitVec 18) (a id off : Nat) (s : State),
    (s.cmnWindow ≤ span32 a s.now) → bitAt s.cmn.clearing (lineRegion line.toNat) = false → s.poisoned (off / 64) = false →
    (∀ k : Fin 8, kget s.eng.run (EngId.ate k).num = none) →
    (∀ bs : List Byte, kget s.cmn.batch line.toNat = some (a, [⟨.packet id, off, .write bs⟩]) →
      Completes (.commonsBatchApply line) s (fun t => kget t.cmn.batch line.toNat = none ∧ t.cmnGet off bs.length = bs ∧
        ∀ b, (b < off ∨ off + bs.length ≤ b) → sget 0 t.cmn.mem b = sget 0 s.cmn.mem b)) ∧
    (∀ n : Nat, kget s.cmn.batch line.toNat = some (a, [⟨.packet id, off, .read n⟩]) →
      Completes (.commonsBatchApply line) s (fun t => kget t.cmn.batch line.toNat = none ∧ t.cmn.mem = s.cmn.mem)) ∧
    (∀ (aop : Nat) (ops : List Nat), kget s.cmn.batch line.toNat = some (a, [⟨.packet id, off, .atomic aop ops⟩]) →
      Completes (.commonsBatchApply line) s (fun t => kget t.cmn.batch line.toNat = none ∧
        t.cmnGet off (atomOut aop) = beBytes (atomOut aop) (atomNew aop (beNat (s.cmnGet off (atomOut aop))) ops)))) ∧
  (∀ (src : Src) (regions : BitVec 8) (s u : State), s.accepts src .cmnCtrl 0 = true → u = s.ready src .cmnCtrl 0 →
    Completes (.cmnClear src regions) s (fun t => t.rd .cmnCtrl_clear 0 = 1 ∧ t.rd .cmnCtrl_regions 0 = regions.toNat ∧
      t.cmn = { u.cmn with clearing := regions.toNat } ∧ OnlyRegs [.cmnCtrl_clear, .cmnCtrl_regions] u t)) ∧
  (∀ s : State, s.rd .cmnCtrl_clear 0 = 1 → (∀ k : Fin 8, kget s.eng.run (EngId.ate k).num = none) →
    Completes .cmnClearComplete s (fun t => t.rd .cmnCtrl_clear 0 = 0 ∧ t.cmn.clearing = 0 ∧
    OnlyParts [.cmn, .regs] s t ∧
    (∀ a, bitAt s.cmn.clearing (cmnRegion a) = true → sget 0 t.cmn.mem a = 0) ∧
    (∀ a, bitAt s.cmn.clearing (cmnRegion a) = false → sget 0 t.cmn.mem a = sget 0 s.cmn.mem a)))

/-- A good chunk is cached; repairs are served within their number; the object commands answer and fetch, a fetch is repeated every 1
ms and ends as R340 says, and the drop of the object being fetched ends it (R337 to R342; log entry 30).
Times are told on the free-running count of ns (log entry 52). -/
def Obligations.PromenadeCachesObjects : Prop :=
  (∀ (pos : Nat) (r : Deliv) (o : Obj) (s u : State), s.takeLocal pos (fun r => r.fn == .own && r.pkt.kind == 0x20) = some (r, u) →
    o = (u.obj? r.pkt.promObj).getD ⟨r.pkt.ctx.toNat, r.pkt.sgid.toNat, []⟩ →
    (chunkBad r.pkt o.total = false → kget o.chunks r.pkt.promChunk = none → u.promRoom r.pkt.promChunk = true →
      Completes (.promChunkReceived pos) s (fun t => t.obj? r.pkt.promObj = some { o with
        chunks := kput o.chunks r.pkt.promChunk
          ⟨r.pkt.psn.toNat, r.pkt.msgid.toNat, r.pkt.key.toNat, r.pkt.ctx.toNat, r.pkt.payload⟩ })) ∧
    (chunkBad r.pkt o.total = true → s.off = false → Completes (.promChunkReceived pos) s (fun t =>
      Counted 12 PromEv.promBad.ctorIdx s t ∧ OnlyParts [.sw, .tel, .regs] s t ∧ OnlyRegs [.corePoolStatus_free] s t))) ∧
  (∀ (pos : Nat) (r : Deliv) (s u : State), s.takeLocal pos (fun r => r.fn == .own && r.pkt.kind == 0x21) = some (r, u) →
    (r.pkt.promCount ≠ 0 → u.prom.reps.length < 256 → Completes (.promRepairReceived pos) s (fun t =>
      ∃ x : PRep, t.prom = { u.prom with reps := u.prom.reps ++ [x] } ∧ x.req = r)) ∧
    (r.pkt.promCount ≠ 0 → 256 ≤ u.prom.reps.length → s.off = false → Completes (.promRepairReceived pos) s (fun t =>
      Counted 12 PromEv.promRepairDrop.ctorIdx s t ∧ OnlyParts [.sw, .tel, .regs] s t ∧ OnlyRegs [.corePoolStatus_free] s t))) ∧
  (∀ (x : PRep) (rest : List PRep) (s : State), s.prom.reps = x :: rest →
    Completes .promRepairComplete s (fun t => t.prom = { s.prom with reps := rest })) ∧
  (∀ (src : Src) (obj : BitVec 16) (s u : State), s.accepts src .promCmd 0 = true → u = s.ready src .promCmd 0 →
    (u.obj? obj.toNat = none →
      Completes (.promQuery src obj) s (fun t => t.rd .promObjInfo_known 0 = 0 ∧ t.rd .promCmd_result 0 = 0 ∧ t.prom = u.prom) ∧
      Completes (.promFetch src obj) s (fun t => t.rd .promCmd_result 0 = 1 ∧ t.prom = u.prom)) ∧
    (∀ o : Obj, u.obj? obj.toNat = some o →
      Completes (.promQuery src obj) s (fun t => t.rd .promObjInfo_known 0 = 1 ∧ t.rd .promObjInfo_complete 0 = b2n o.whole ∧
        t.rd .promObjStatus_total 0 = o.total % 2 ^ 32 ∧ t.rd .promObjStatus_held 0 = o.chunks.length % 2 ^ 32 ∧ t.prom = u.prom) ∧
      (u.promCfgBad o = false → o.whole = false → Completes (.promFetch src obj) s (fun t =>
        t.rd .promCmd_start 0 = 1 ∧ t.prom.fetch = some ⟨obj.toNat, u.rd .promCfg_index 0, s.tb.mono, s.tb.mono⟩ ∧
        t.prom.objs = u.prom.objs)) ∧
      (u.promCfgBad o = false → o.whole = true → Completes (.promFetch src obj) s (fun t =>
        t.rd .promCmd_result 0 = 0 ∧ t.prom = u.prom))) ∧
    (u.prom.fetch.map (fun f => f.obj) ≠ some obj.toNat → Completes (.promDrop src obj) s (fun t => t.rd .promCmd_result 0 = 0 ∧
      ∀ j, t.obj? j = if j = obj.toNat then none else u.obj? j)) ∧
    Completes (.promDropAll src) s (fun t => t.rd .promCmd_result 0 = 0 ∧ t.prom.objs = [])) ∧
  (∀ (src : Src) (obj : BitVec 16) (s u : State), s.takesDrop src (dropWord obj.toNat) = true → u = s.ready src .promCmd 0 →
    u.prom.fetch.map (fun f => f.obj) = some obj.toNat → Completes (.promDrop src obj) s (fun t => t.prom.fetch = none ∧
      t.rd .promCmd_start 0 = 0 ∧ t.rd .promCmd_result 0 = 1 ∧ ∀ j, t.obj? j = if j = obj.toNat then none else u.obj? j)) ∧
  (∀ (f : PFetch) (s : State), s.prom.fetch = some f →
    (∀ o : Obj, s.obj? f.obj = some o → o.missing ≠ [] → f.last + 1000000 ≤ s.tb.mono → Completes .promFetchRepeat s (fun t =>
      t.prom.objs = s.prom.objs ∧ t.prom.fetch = some { f with last := s.tb.mono } ∧
      s.prom.asked.length < t.prom.asked.length)) ∧
    (s.tb.mono < f.last + 1000000 → Completes .promFetchRepeat s (fun t => t = s)) ∧
    (∀ r : Nat, (s.obj? f.obj = none ∧ r = 1) ∨ (∃ o : Obj, s.obj? f.obj = some o ∧
        (o.whole = true ∧ r = 0 ∨ o.whole = false ∧ f.start + s.fetchNs ≤ s.tb.mono ∧ r = 2)) →
      Completes .promFetchDone s (fun t => t.prom = { s.prom with fetch := none, asked := [] } ∧ t.rd .promCmd_start 0 = 0 ∧
        t.rd .promCmd_result 0 = r ∧ OnlyRegs [.promCmd_start, .promCmd_result] s t)) ∧
    (∀ o : Obj, s.obj? f.obj = some o → o.whole = false → s.tb.mono < f.start + s.fetchNs →
      Completes .promFetchDone s (fun t => t = s)))

/-- The gateway mode changes where it is permitted, and a refused write changes REFUSED alone; an access becomes a request or joins a
buffer; a request is answered, resent or abandoned; a response completes the request it matches (R344, R345, R348 to R352). -/
def Obligations.GatewayCarriesAccesses : Prop :=
  (∀ (src : Src) (val : BitVec 32) (s u : State), s.accepts src .gwMode 0 = true → u = s.ready src .gwMode 0 → src ≠ .image →
    ((u.gwPermitted (val.toNat % 4) && gwStateOk (val.toNat % 4) (u.rd .cfgState_state 0)) = true →
      u.rd .gwMode_mode 0 ≠ val.toNat % 4 →
      Completes (.gwModeWrite src val) s (fun t => t.rd .gwMode_mode 0 = val.toNat % 4 ∧ t.rd .gwMode_modeEvent 0 = 1)) ∧
    ((u.gwPermitted (val.toNat % 4) && gwStateOk (val.toNat % 4) (u.rd .cfgState_state 0)) = false →
      Completes (.gwModeWrite src val) s (fun t => t.rd .gwMode_refused 0 = 1 ∧ OnlyRegs [.gwMode_refused] u t))) ∧
  (∀ (pos : Nat) (r : Deliv) (s u : State), s.off = false → s.regionDead r.region = false → s.gwWaiting r.region < 1024 →
    s.gwBehind pos r = false →
    (s.takeLocal pos (fun r => r.pkt.kind == 0x0A && r.fn == .own) = some (r, u) →
      (u.rd .gwMode_mode 0 = 0 → Completes (.memLoad pos) s (fun t =>
        Counted 13 (8 * r.region + GwEv.gwNotRoutable.ctorIdx) s t ∧ t.gw = s.gw)) ∧
      (u.rd .gwMode_mode 0 ≠ 0 → u.gwBad r = false → u.inSitOut r.gwTarget = false → u.gw.reqs = [] → u.gw.bufs = [] →
        Completes (.memLoad pos) s (fun t => Counted 13 (8 * r.region + GwEv.gwLoad.ctorIdx) s t ∧
          ∃ q : GwReq, t.gw.reqs = [q] ∧ q.k = r.region ∧ q.isWrite = false ∧ q.src = r.src ∧ q.dst = r.gwTarget ∧
            q.addr = r.gwAddr / 4 * 4 ∧ q.accs = [r] ∧ q.sentAt = some s.now ∧ q.psn = sget 0 u.gw.ctr r.region % 2 ^ 24))) ∧
    (s.takeLocal pos (fun r => r.pkt.kind == 0x0B && r.fn == .own) = some (r, u) → u.rd .gwMode_mode 0 ≠ 0 → u.gwBad r = false →
      u.inSitOut r.gwTarget = false → u.gw.bufs = [] → r.pkt.payload.length < gwLimit r.pkt.tc.toNat →
      (r.gwAddr + r.pkt.payload.length) % 4096 ≠ 0 → u.gwCoalNs ≠ 0 → r.isLoad = false →
      Completes (.memStore pos) s (fun t => Counted 13 (8 * r.region + GwEv.gwStore.ctorIdx) s t ∧
        t.gw.bufs = [⟨r.region, u.gw.nextBuf, r.src, r.gwTarget, r.pkt.tc.toNat, r.gwAddr, r.pkt.payload, [r], s.now⟩] ∧
        t.gw.reqs = s.gw.reqs))) ∧
  (∀ (k : Fin 8) (buf : Nat) (b : GwBuf) (s : State), s.gw.bufs.find? (fun b => b.k == k.val && b.num == buf) = some b →
    s.reached ((b.opened + s.gwCoalNs) % 2 ^ 32) = true → s.gw.reqs = [] →
    Completes (.gwCoalesceExpiry k buf) s (fun t => t.gw.bufs = s.gw.bufs.filter (fun x => x.num != buf) ∧
      ∃ q : GwReq, t.gw.reqs = [q] ∧ q.isWrite = true ∧ q.addr = b.addr ∧ q.data = b.data ∧ q.accs = b.accs)) ∧
  (∀ (k : Fin 8) (psn : BitVec 24) (r : GwReq) (s : State), s.gwFind k psn.toNat = some r →
    (r.done = true → Completes (.gwRequestComplete k psn) s (fun t => ∀ x ∈ t.gw.reqs, x.num ≠ r.num)) ∧
    (r.done = false → Completes (.gwRequestComplete k psn) s (fun t => t = s)) ∧
    (r.nacked = true → r.resends < s.rd .gwCfg_retries 0 → s.off = false → Completes (.gwNack k psn) s (fun t =>
      Counted 13 (8 * k + GwEv.gwResend.ctorIdx) s t ∧
      t.gw.reqs = s.gw.reqs.map (fun x => if x.num = r.num then { r with nacked := false, resends := r.resends + 1 } else x))) ∧
    (r.done = false → s.reached ((r.sentAt.getD 0 + s.gwTimeoutNs) % 2 ^ 32) = true → Completes (.gwTimeout k psn) s (fun t =>
      (∀ x ∈ t.gw.reqs, x.num ≠ r.num) ∧ t.rd .gwLastPoison_gid 0 = r.dst % 2 ^ 18))) ∧
  (∀ (pos : Nat) (r : Deliv) (s u : State), s.takeLocal pos isResponse = some (r, u) →
    (∀ q : GwReq, u.gw.reqs.find? (fun x => x.sentAt.isSome && x.dst == r.pkt.sgid.toNat && x.psn == r.pkt.psn.toNat &&
        x.msgid == r.pkt.msgid.toNat) = some q → r.pkt.kind = 0x08 → q.isWrite = true →
      Completes (.responseReceived pos) s (fun t =>
        t.gw.reqs = s.gw.reqs.map (fun x => if x = q then { q with done := true } else x) ∧ OnlyParts [.sw, .gw, .regs] s t ∧
        OnlyRegs [.corePoolStatus_free] s t)) ∧
    (s.off = false → u.gw.reqs = [] → u.eng.xfe = [] → u.prom.asked = [] →
      Completes (.responseReceived pos) s (fun t => Counted 5 TabEv.unmatchedResp.ctorIdx s t ∧ OnlyParts [.sw, .tel, .regs] s t ∧
        OnlyRegs [.corePoolStatus_free] s t)))

/-! Fencing. -/

/-- Scores fall, and recover every RECOVER_MS; votes and reports are taken, counted while current, and leave in rounds (R355 to R363).
Times are told on the free-running count of ns (the model's choice, log entry 52). -/
def Obligations.ScoresAndVotes : Prop :=
  (∀ (lane : Fin 512) (n : Nat) (s : State), s.off = false → s.portOfLane lane = some n →
    Completes (.laneCodewordUncorrectable lane) s (fun t =>
      t.rd .fenPort_score n = s.rd .fenPort_score n - s.rd .fenWeight_wCw 0 ∧
      (s.rd .fenPort_score n - s.rd .fenWeight_wCw 0 < s.rd .fenCfg2_linkThr 0 → t.rd .fenPort_linkFence n = 1))) ∧
  (∀ (g v : Nat) (s : State), s.off = false → s.passed s.fen.recAt s.recoverNs = true → s.fen.own = [(g, v)] → v ≤ 255 →
    s.inSitOut g = false → s.isSuspect g = false →
    Completes .scoreRecover s (fun t => t.ownScore g = min 255 (v + 1) ∧ t.fen.recAt = s.tb.mono)) ∧
  (∀ s : State, s.off = false → s.passed s.fen.recAt s.recoverNs = true → s.fen.own = [] →
    Completes .scoreRecover s (fun t => t.fen = { s.fen with recAt := s.tb.mono } ∧ OnlyParts [.regs, .fen] s t ∧
      OnlyRegs [.fenPort_score] s t ∧
      ∀ n, n < 512 → t.rd .fenPort_score n =
        if s.rd .fenPort_linkFence n = 0 then min 255 (s.rd .fenPort_score n + 1) else s.rd .fenPort_score n)) ∧
  (∀ s : State, s.passed s.fen.recAt s.recoverNs = false → Completes .scoreRecover s (fun t => t = s)) ∧
  (∀ s : State, s.off = false → s.rd .fenCfg_en 0 = 1 →
    (s.passed s.fen.roundAt s.voteNs = true → Completes .voteRound s (fun t =>
      t.fen = { s.fen with round := (s.fen.round + 1) % 2 ^ 32, roundAt := s.tb.mono })) ∧
    (s.passed s.fen.roundAt s.voteNs = false → Completes .voteRound s (fun t => t = s))) ∧
  (∀ (pos : Nat) (r : Deliv) (s u : State), s.takeLocal pos (fun r => r.pkt.kind == 0x31 && r.fn == .own) = some (r, u) →
    ((r.pkt.w1k.toNat = 0 ∨ 1024 < r.pkt.w1k.toNat ∨ r.pkt.len.toNat ≠ 4 * r.pkt.w1k.toNat) → s.off = false →
      Completes (.healthReceived pos) s (fun t => Counted 14 ChipEv.fenHealthBad.ctorIdx s t ∧ OnlyParts [.sw, .tel, .regs] s t ∧
        OnlyRegs [.corePoolStatus_free] s t)) ∧
    (∀ j : Nat, 0 < r.pkt.w1k.toNat → r.pkt.w1k.toNat ≤ 1024 → r.pkt.len.toNat = 4 * r.pkt.w1k.toNat →
      u.spineOf r.pkt.sgid.toNat = some j →
      Completes (.healthReceived pos) s (fun t => ∀ x ∈ healthEntries r.pkt.payload r.pkt.w1k.toNat,
        kget t.fen.votes (Nat.pair j x.1) = some (x.2, r.pkt.ctx.toNat, s.tb.mono)))) ∧
  (∀ (spine : Fin 64) (gid : BitVec 18) (v : Nat × Nat × Nat) (s : State), kget s.fen.votes (Nat.pair spine gid.toNat) = some v →
    (s.passed v.2.2 (2 * s.voteNs) = true →
      Completes (.voteExpiry spine gid) s (fun t => kget t.fen.votes (Nat.pair spine gid.toNat) = none)) ∧
    (s.passed v.2.2 (2 * s.voteNs) = false → Completes (.voteExpiry spine gid) s (fun t => t = s))) ∧
  (∀ (port : Fin 512) (gid : BitVec 18) (l : List (Nat × Nat × Nat)) (r : Nat × Nat × Nat) (s : State),
    kget s.fen.rack gid.toNat = some l → reportOf port l = some r →
    (s.passed r.2.2 s.rackAgeNs = true →
      Completes (.rackReportExpiry port gid) s (fun t => (kget t.fen.rack gid.toNat).getD [] = l.erase r)) ∧
    (s.passed r.2.2 s.rackAgeNs = false → Completes (.rackReportExpiry port gid) s (fun t => t = s))) ∧
  (∀ (a : Nat) (rest : List Nat) (s : State), s.fen.window = a :: rest →
    (s.passed a 100000000 = true → Completes .fenceWindowExpiry s (fun t =>
      t.fen = { s.fen with window := rest } ∧ OnlyParts [.fen] s t)) ∧
    (s.passed a 100000000 = false → Completes .fenceWindowExpiry s (fun t => t = s)))

/-- A candidate enters sit-out, with the cause that brought it; the management commands answer, fence, re-admit and handle
suspects; holds end and fenced links are cleared (R359, R364, R366, R367, R371 to R375).
Times are told on the free-running count of ns (log entry 52). -/
def Obligations.SitOutAndReadmission : Prop :=
  (∀ (pos g : Nat) (r : Deliv) (s u : State), g = bits r.pkt.w2.toNat 0 18 → u.rd .fenCfg_en 0 = 1 → u.isSelf g = false →
    u.inSitOut g = false → u.isSuspect g = false → u.rd .fenStatus_storm 0 = 0 →
    (s.takeLocal pos (fun r => r.pkt.kind == 0x32 && r.fn == .own) = some (r, u) → (u.spineOf r.pkt.sgid.toNat).isSome = true →
      r.pkt.status = 0 → u.held g = false →
      (u.fenWindow.length + 1 ≤ u.budget → Completes (.fenceReceived pos) s (fun t => kget t.fen.sit g = some 2 ∧
        t.rd .fenStatus_fenceEvent 0 = 1 ∧ t.fen.window = u.fenWindow ++ [s.tb.mono])) ∧
      (u.budget < u.fenWindow.length + 1 → u.fen.suspects.length < 256 → Completes (.fenceReceived pos) s (fun t =>
        t.fen.suspects = u.fen.suspects ++ [(g, 2)] ∧ t.rd .fenStatus_storm 0 = 1 ∧ t.rd .fenStatus_stormEvent 0 = 1))) ∧
    (s.takeLocal pos (fun r => r.pkt.kind == 0x33 && r.fn == .own) = some (r, u) → bits r.pkt.w1k.toNat 6 5 = 1 →
      g = r.pkt.sgid.toNat → u.fenWindow.length + 1 ≤ u.budget →
      Completes (.fenceReqReceived pos) s (fun t => kget t.fen.sit g = some 3))) ∧
  (∀ (pos : Nat) (r : Deliv) (s u : State), s.off = false →
    s.takeLocal pos (fun r => r.pkt.kind == 0x32 && r.fn == .own) = some (r, u) → u.spineOf r.pkt.sgid.toNat = none →
    Completes (.fenceReceived pos) s (fun t => Counted 14 ChipEv.fenHealthBad.ctorIdx s t ∧ OnlyParts [.sw, .tel, .regs] s t ∧
      OnlyRegs [.corePoolStatus_free] s t)) ∧
  (∀ (src : Src) (gid : BitVec 18) (s u : State), s.accepts src .fenGidCmd 0 = true → u = s.ready src .fenGidCmd 0 →
    Completes (.fenQuery src gid) s (fun t => t.rd .fenGidCmd_result 0 = 0 ∧ t.fen = u.fen ∧
      t.rd .fenGidStatus_gid 0 = gid.toNat ∧ t.rd .fenGidStatus_sitout 0 = b2n (u.inSitOut gid.toNat) ∧
      t.rd .fenGidStatus_suspect 0 = b2n (u.isSuspect gid.toNat) ∧ t.rd .fenGidStatus_score 0 = u.usedScore gid.toNat % 2 ^ 8) ∧
    (u.isSelf gid.toNat = true →
      Completes (.fenFence src gid) s (fun t => t.rd .fenGidCmd_result 0 = 1 ∧ t.fen = u.fen) ∧
      Completes (.fenReadmit src gid) s (fun t => t.rd .fenGidCmd_result 0 = 1 ∧ t.fen = u.fen)) ∧
    (u.isSelf gid.toNat = false → u.inSitOut gid.toNat = true →
      Completes (.fenFence src gid) s (fun t => t.rd .fenGidCmd_result 0 = 3 ∧ t.fen = u.fen) ∧
      Completes (.fenReadmit src gid) s (fun t => t.rd .fenGidCmd_result 0 = 0 ∧ t.inSitOut gid.toNat = false ∧
        (gid.toNat, s.tb.mono) ∈ t.fen.holds ∧ t.ownScore gid.toNat = 255)) ∧
    (u.isSelf gid.toNat = false → u.inSitOut gid.toNat = false →
      Completes (.fenFence src gid) s (fun t => t.rd .fenGidCmd_result 0 = 0 ∧ kget t.fen.sit gid.toNat = some 4) ∧
      Completes (.fenReadmit src gid) s (fun t => t.rd .fenGidCmd_result 0 = 2 ∧ t.fen = u.fen)) ∧
    (∀ num : BitVec 8, Completes (.fenSuspectRead src num) s (fun t => t.fen = u.fen ∧
      match u.fen.suspects[num.toNat]? with
      | some x => t.rd .fenGidCmd_result 0 = 0 ∧ t.rd .fenGidStatus_gid 0 = x.1 % 2 ^ 18
      | none => t.rd .fenGidCmd_result 0 = 4)) ∧
    Completes (.fenSuspectDrop src gid) s (fun t => t.rd .fenGidCmd_result 0 = (if u.isSuspect gid.toNat then 0 else 4) ∧
      t.fen.suspects = u.fen.suspects.filter (fun x => x.1 != gid.toNat))) ∧
  (∀ (src : Src) (s u : State), s.accepts src .fenCtrl 0 = true → u = s.ready src .fenCtrl 0 → u.rd .fenStatus_storm 0 = 1 →
    (∀ x ∈ u.fen.suspects, u.votesLow x.1 < u.quorum) →
    Completes (.stormClear src) s (fun t => t.rd .fenStatus_storm 0 = 0 ∧ t.fen.suspects = [] ∧ t.fen.sit = u.fen.sit)) ∧
  (∀ (gid : BitVec 18) (h : Nat × Nat) (s : State), s.fen.holds.find? (fun h => h.1 == gid.toNat) = some h →
    (s.passed h.2 s.readmitNs = true → Completes (.readmitHoldExpiry gid) s (fun t => ∀ x ∈ t.fen.holds, x.1 ≠ gid.toNat)) ∧
    (s.passed h.2 s.readmitNs = false → Completes (.readmitHoldExpiry gid) s (fun t => t = s))) ∧
  (∀ (src : Src) (n : Fin 512) (s u : State), s.accepts src .fenPort n = true → u = s.ready src .fenPort n →
    Completes (.fenPortClear src n) s (fun t => t.rd .fenPort_linkFence n = 0 ∧ t.rd .fenPort_score n = 255 ∧ t.fen = u.fen))
end

