-- ==== Sys2Proof/Laws/Maps.lean ====
section
/-! SUPPORT. Laws of the sparse maps: read after write, writes elsewhere, the canonical form kept. -/

namespace Sys2Proof.Laws
open Sys2Proof.Machine

variable {α : Type}

theorem kwf_weaken : ∀ {m : KMap α} {a b : Nat}, a ≤ b → kwf (some b) m = true → kwf (some a) m = true
  | [], _, _, _, _ => rfl
  | (c, v) :: m, a, b, h, hw => by
    simp [kwf] at hw ⊢
    exact ⟨by omega, hw.2⟩

theorem kwf_none : ∀ {m : KMap α} {b : Nat}, kwf (some b) m = true → kwf none m = true
  | [], _, _ => rfl
  | (c, v) :: m, b, hw => by simp [kwf] at hw ⊢; exact hw.2

@[simp] theorem kget_kput_same : ∀ (m : KMap α) (k : Nat) (v : α), kget (kput m k v) k = some v
  | [], k, v => by simp [kput, kget]
  | (a, x) :: m, k, v => by
    unfold kput
    split
    · simp [kget]
    · split
      · simp [kget]
      · simp [kget, kget_kput_same m k v, *]

theorem kget_kput_other : ∀ (m : KMap α) (k j : Nat) (v : α), j ≠ k → kget (kput m k v) j = kget m j
  | [], k, j, v, h => by simp [kput, kget, Ne.symm h]
  | (a, x) :: m, k, j, v, h => by
    unfold kput
    split
    · simp [kget, Ne.symm h]
    · split
      · rename_i _ e
        subst e
        simp [kget, Ne.symm h]
      · simp only [kget, kget_kput_other m k j v h]

theorem kget_kdel_other : ∀ (m : KMap α) (k j : Nat), j ≠ k → kget (kdel m k) j = kget m j
  | [], _, _, _ => rfl
  | (a, x) :: m, k, j, h => by
    unfold kdel
    split
    · rename_i e
      subst e
      simp [kget, Ne.symm h, kget_kdel_other m a j h]
    · simp only [kget, kget_kdel_other m k j h]

@[simp] theorem kget_kdel_same : ∀ (m : KMap α) (k : Nat), kget (kdel m k) k = none
  | [], _ => rfl
  | (a, x) :: m, k => by
    unfold kdel
    split
    · exact kget_kdel_same m k
    · simp [kget, kget_kdel_same m k, *]

theorem kput_wf : ∀ (m : KMap α) (b : Option Nat) (k : Nat) (v : α),
    kwf b m = true → (∀ c, b = some c → c < k) → kwf b (kput m k v) = true
  | [], none, k, v, _, _ => by simp [kput, kwf]
  | [], some c, k, v, _, h => by simp [kput, kwf, h c rfl]
  | (a, x) :: m, b, k, v, hw, hb => by
    have hm : kwf (some a) m = true := by
      cases b with
      | none => simpa [kwf] using hw
      | some c => simp [kwf] at hw; exact hw.2
    unfold kput
    split
    · rename_i h
      cases b with
      | none => simp [kwf, h, hm]
      | some c => simp [kwf, h, hm, hb c rfl]
    · split
      · rename_i _ e
        subst e
        cases b with
        | none => simpa [kwf] using hw
        | some c => simpa [kwf] using hw
      · rename_i h1 h2
        have hk : a < k := by omega
        have ih := kput_wf m (some a) k v hm (fun c e => by cases e; exact hk)
        cases b with
        | none => simpa [kwf] using ih
        | some c => simp [kwf] at hw ⊢; exact ⟨hw.1, ih⟩

theorem kdel_wf : ∀ (m : KMap α) (b : Option Nat) (k : Nat), kwf b m = true → kwf b (kdel m k) = true
  | [], _, _, _ => by simp [kdel, kwf]
  | (a, x) :: m, b, k, hw => by
    have hm : kwf (some a) m = true := by
      cases b with
      | none => simpa [kwf] using hw
      | some c => simp [kwf] at hw; exact hw.2
    unfold kdel
    split
    · cases b with
      | none => exact kdel_wf m none k (kwf_none hm)
      | some c =>
        simp [kwf] at hw
        exact kdel_wf m (some c) k (kwf_weaken (Nat.le_of_lt hw.1) hm)
    · have ih := kdel_wf m (some a) k hm
      cases b with
      | none => simpa [kwf] using ih
      | some c => simp [kwf] at hw ⊢; exact ⟨hw.1, ih⟩

theorem mem_kput : ∀ (m : KMap α) (k : Nat) (v : α) (e : Nat × α), e ∈ kput m k v → e = (k, v) ∨ e ∈ m
  | [], k, v, e, h => by simpa [kput] using h
  | (a, x) :: m, k, v, e, h => by
    unfold kput at h
    split at h
    · simpa using h
    · split at h
      · simp at h; rcases h with h | h
        · exact .inl h
        · exact .inr (by simp [h])
      · simp at h; rcases h with h | h
        · exact .inr (by simp [h])
        · rcases mem_kput m k v e h with h | h
          · exact .inl h
          · exact .inr (by simp [h])

theorem mem_kdel : ∀ (m : KMap α) (k : Nat) (e : Nat × α), e ∈ kdel m k → e ∈ m
  | [], _, _, h => by simp [kdel] at h
  | (a, x) :: m, k, e, h => by
    unfold kdel at h
    split at h
    · simp [mem_kdel m k e h]
    · simp at h; rcases h with h | h
      · simp [h]
      · simp [mem_kdel m k e h]

/-- Reading the entry just written gives the value written. -/
@[simp] theorem sget_sset_same {d : Nat} {m : SMap} (k v : Nat) : sget d (sset d m k v) k = v := by
  unfold sget sset
  split
  · rename_i e; simp [e]
  · simp

/-- A write leaves every other entry alone. -/
theorem sget_sset_other {d d' : Nat} {m : SMap} {k j : Nat} (v : Nat) (h : j ≠ k) :
    sget d' (sset d m k v) j = sget d' m j := by
  unfold sget sset
  split
  · rw [kget_kdel_other m k j h]
  · rw [kget_kput_other m k j v h]

/-- The canonical form is kept by a write. -/
theorem sset_wf {d : Nat → Nat} {m : SMap} {k : Nat} (v : Nat) (hw : swf d m = true) :
    swf d (sset (d k) m k v) = true := by
  simp only [swf, Bool.and_eq_true, List.all_eq_true] at hw ⊢
  unfold sset
  split
  · exact ⟨kdel_wf m none k hw.1, fun e he => hw.2 e (mem_kdel m k e he)⟩
  · rename_i hv
    refine ⟨kput_wf m none k v hw.1 (by simp), fun e he => ?_⟩
    rcases mem_kput m k v e he with h | h
    · subst h; simpa using hv
    · exact hw.2 e h

theorem swf_kwf {d : Nat → Nat} {m : SMap} (h : swf d m = true) : kwf none m = true := by
  simp only [swf, Bool.and_eq_true] at h; exact h.1

/-- Writing bytes keeps the canonical form. -/
theorem putBytes_wf {d : Nat} : ∀ (bs : List Byte) {m : SMap} (a : Nat), swf (fun _ => d) m = true →
    swf (fun _ => d) (putBytes d m a bs) = true
  | [], _, _, h => h
  | b :: bs, m, a, h => by
    unfold putBytes
    exact putBytes_wf bs (a + 1) (sset_wf (d := fun _ => d) b.toNat h)

/-- Bytes outside the range written read as before. -/
theorem sget_putBytes_outside {d : Nat} : ∀ (bs : List Byte) {m : SMap} (a j : Nat), (j < a ∨ a + bs.length ≤ j) → sget d (putBytes d m a bs) j = sget d m j
  | [], _, _, _, _ => rfl
  | b :: bs, m, a, j, hj => by
    unfold putBytes
    have hj' : j < a + 1 ∨ a + 1 + bs.length ≤ j := by simp at hj; omega
    rw [sget_putBytes_outside bs (a + 1) j hj']
    exact sget_sset_other _ (by simp at hj; omega)

/-! Pair keys. -/

theorem isqrtFrom_spec (n : Nat) : ∀ (k r : Nat), r * r ≤ n → n < (r + 2 ^ k) * (r + 2 ^ k) →
    isqrtFrom n k r * isqrtFrom n k r ≤ n ∧ n < (isqrtFrom n k r + 1) * (isqrtFrom n k r + 1)
  | 0, r, h1, h2 => by simpa [isqrtFrom] using ⟨h1, h2⟩
  | k + 1, r, h1, h2 => by
    unfold isqrtFrom
    split
    · next h => exact isqrtFrom_spec n k _ h (by rw [show r + 2 ^ k + 2 ^ k = r + 2 ^ (k + 1) by rw [pow_succ]; omega]; exact h2)
    · next h => exact isqrtFrom_spec n k _ h1 (by omega)

theorem isqrtFrom_eq (n : Nat) : isqrtFrom n (Nat.log2 n / 2 + 1) 0 = Nat.sqrt n := by
  have h := isqrtFrom_spec n (Nat.log2 n / 2 + 1) 0 (by simp) (by
    have h1 : n < 2 ^ (Nat.log2 n + 1) := Nat.lt_log2_self
    have h2 : 2 ^ (Nat.log2 n + 1) ≤ 2 ^ (2 * (Nat.log2 n / 2 + 1)) := Nat.pow_le_pow_right (by omega) (by omega)
    calc n < _ := h1
      _ ≤ _ := h2
      _ = _ := by rw [two_mul, pow_add]; simp)
  exact Nat.eq_sqrt.mpr ⟨h.1, h.2⟩

theorem unpair_eq (n : Nat) : unpair n = Nat.unpair n := by
  unfold unpair Nat.unpair
  rw [isqrtFrom_eq]

@[simp] theorem unpair_pair (a b : Nat) : unpair (Nat.pair a b) = (a, b) := by
  rw [unpair_eq, Nat.unpair_pair]
end Sys2Proof.Laws
end

