-- ==== Sys2Proof/Laws/State.lean ====
section
/-! SUPPORT. One lemma per component per update of the state, and the reading of registers after each update. -/

namespace Sys2Proof.Laws
open Sys2Proof Sys2Proof.Machine

/-- A field is known by its place in the list of fields. -/
theorem fld_inj {f g : Fld} (h : f.ctorIdx = g.ctorIdx) : f = g := by
  have := congrArg Fld.ofNat h
  rwa [Fld.ofNat_ctorIdx, Fld.ofNat_ctorIdx] at this

/-- Two places of register fields have two keys. -/
theorem fkey_inj {f g : Fld} {i j : Nat} (h : fkey f i = fkey g j) : f = g ∧ i = j := by
  have := congrArg unpair h
  simp only [fkey, unpair_pair, Prod.mk.injEq] at this
  exact ⟨fld_inj this.1, this.2⟩

/-- A register field reads as a number of its width, in every state. -/
theorem rd_lt (s : State) (f : Fld) (i : Nat) : s.rd f i < 2 ^ f.width := Nat.mod_lt _ (Nat.two_pow_pos _)

/-- A register field reads what was last stored, cut to its width. -/
@[simp] theorem rd_wr_same (s : State) (f : Fld) (i v : Nat) : (s.wr f i v).rd f i = v % 2 ^ f.width := by
  simp [State.rd, State.wr]

/-- A store leaves every other field alone. -/
theorem rd_wr_other (s : State) {f g : Fld} {i j : Nat} (v : Nat) (h : g ≠ f ∨ j ≠ i) : (s.wr f i v).rd g j = s.rd g j := by
  unfold State.rd State.wr
  refine congrArg (· % 2 ^ g.width) (sget_sset_other _ (fun e => ?_))
  have := fkey_inj e
  rcases h with h | h
  · exact h this.1
  · exact h this.2

/-- Reading after a store, by cases. -/
theorem rd_wr (s : State) (f g : Fld) (i j v : Nat) :
    (s.wr f i v).rd g j = if g = f ∧ j = i then v % 2 ^ f.width else s.rd g j := by
  split
  · rename_i h; obtain ⟨rfl, rfl⟩ := h; simp
  · rename_i h; exact rd_wr_other s v (by by_cases e : g = f <;> simp_all)

theorem flag_def (s : State) (f : Fld) (i : Nat) : s.flag f i = (s.rd f i == 1) := rfl

/-- A flag after a store, by cases. -/
theorem flag_wr (s : State) (f g : Fld) (i j v : Nat) :
    (s.wr f i v).flag g j = if g = f ∧ j = i then v % 2 ^ f.width == 1 else s.flag g j := by
  simp only [State.flag, rd_wr]; split <;> rfl

/-- Reading after a guarded update. -/
@[simp] theorem rd_when (s : State) (c : Bool) (g : State → State) (f : Fld) (i : Nat) :
    (s.when c g).rd f i = if c then (g s).rd f i else s.rd f i := by cases c <;> rfl
@[simp] theorem when_true (s : State) (g : State → State) : s.when true g = g s := rfl
@[simp] theorem when_false (s : State) (g : State → State) : s.when false g = s := rfl

/-! wr -/

@[simp] theorem wr_pending (s : State) (f : Fld) (i v : Nat) : (s.wr f i v).pending = s.pending := rfl
@[simp] theorem wr_tb (s : State) (f : Fld) (i v : Nat) : (s.wr f i v).tb = s.tb := rfl
@[simp] theorem wr_i3c (s : State) (f : Fld) (i v : Nat) : (s.wr f i v).i3c = s.i3c := rfl
@[simp] theorem wr_jtag (s : State) (f : Fld) (i v : Nat) : (s.wr f i v).jtag = s.jtag := rfl
@[simp] theorem wr_off (s : State) (f : Fld) (i v : Nat) : (s.wr f i v).off = s.off := rfl
@[simp] theorem wr_started (s : State) (f : Fld) (i v : Nat) : (s.wr f i v).started = s.started := rfl
@[simp] theorem wr_fw (s : State) (f : Fld) (i v : Nat) : (s.wr f i v).fw = s.fw := rfl
@[simp] theorem wr_acc (s : State) (f : Fld) (i v : Nat) : (s.wr f i v).acc = s.acc := rfl
@[simp] theorem wr_tel (s : State) (f : Fld) (i v : Nat) : (s.wr f i v).tel = s.tel := rfl
@[simp] theorem wr_mgmt (s : State) (f : Fld) (i v : Nat) : (s.wr f i v).mgmt = s.mgmt := rfl
@[simp] theorem wr_flash (s : State) (f : Fld) (i v : Nat) : (s.wr f i v).flash = s.flash := rfl
@[simp] theorem wr_sw (s : State) (f : Fld) (i v : Nat) : (s.wr f i v).sw = s.sw := rfl
@[simp] theorem wr_tab (s : State) (f : Fld) (i v : Nat) : (s.wr f i v).tab = s.tab := rfl
@[simp] theorem wr_ports (s : State) (f : Fld) (i v : Nat) : (s.wr f i v).ports = s.ports := rfl
@[simp] theorem wr_gate (s : State) (f : Fld) (i v : Nat) : (s.wr f i v).gate = s.gate := rfl
@[simp] theorem wr_fen (s : State) (f : Fld) (i v : Nat) : (s.wr f i v).fen = s.fen := rfl
@[simp] theorem wr_gw (s : State) (f : Fld) (i v : Nat) : (s.wr f i v).gw = s.gw := rfl
@[simp] theorem wr_opt (s : State) (f : Fld) (i v : Nat) : (s.wr f i v).opt = s.opt := rfl
@[simp] theorem wr_eng (s : State) (f : Fld) (i v : Nat) : (s.wr f i v).eng = s.eng := rfl
@[simp] theorem wr_svc (s : State) (f : Fld) (i v : Nat) : (s.wr f i v).svc = s.svc := rfl
@[simp] theorem wr_red (s : State) (f : Fld) (i v : Nat) : (s.wr f i v).red = s.red := rfl
@[simp] theorem wr_cmn (s : State) (f : Fld) (i v : Nat) : (s.wr f i v).cmn = s.cmn := rfl
@[simp] theorem wr_prom (s : State) (f : Fld) (i v : Nat) : (s.wr f i v).prom = s.prom := rfl
@[simp] theorem wr_pwr (s : State) (f : Fld) (i v : Nat) : (s.wr f i v).pwr = s.pwr := rfl
@[simp] theorem wr_chip (s : State) (f : Fld) (i v : Nat) : (s.wr f i v).chip = s.chip := rfl
@[simp] theorem wr_out (s : State) (f : Fld) (i v : Nat) : (s.wr f i v).out = s.out := rfl
@[simp] theorem wr_freeCtr (s : State) (f : Fld) (i v : Nat) : (s.wr f i v).freeCtr = s.freeCtr := rfl

/-! emit -/

@[simp] theorem emit_pending (s : State) (o : Output) : (s.emit o).pending = s.pending := rfl
@[simp] theorem emit_tb (s : State) (o : Output) : (s.emit o).tb = s.tb := rfl
@[simp] theorem emit_i3c (s : State) (o : Output) : (s.emit o).i3c = s.i3c := rfl
@[simp] theorem emit_jtag (s : State) (o : Output) : (s.emit o).jtag = s.jtag := rfl
@[simp] theorem emit_regs (s : State) (o : Output) : (s.emit o).regs = s.regs := rfl
@[simp] theorem emit_off (s : State) (o : Output) : (s.emit o).off = s.off := rfl
@[simp] theorem emit_started (s : State) (o : Output) : (s.emit o).started = s.started := rfl
@[simp] theorem emit_fw (s : State) (o : Output) : (s.emit o).fw = s.fw := rfl
@[simp] theorem emit_acc (s : State) (o : Output) : (s.emit o).acc = s.acc := rfl
@[simp] theorem emit_tel (s : State) (o : Output) : (s.emit o).tel = s.tel := rfl
@[simp] theorem emit_mgmt (s : State) (o : Output) : (s.emit o).mgmt = s.mgmt := rfl
@[simp] theorem emit_flash (s : State) (o : Output) : (s.emit o).flash = s.flash := rfl
@[simp] theorem emit_sw (s : State) (o : Output) : (s.emit o).sw = s.sw := rfl
@[simp] theorem emit_tab (s : State) (o : Output) : (s.emit o).tab = s.tab := rfl
@[simp] theorem emit_ports (s : State) (o : Output) : (s.emit o).ports = s.ports := rfl
@[simp] theorem emit_gate (s : State) (o : Output) : (s.emit o).gate = s.gate := rfl
@[simp] theorem emit_fen (s : State) (o : Output) : (s.emit o).fen = s.fen := rfl
@[simp] theorem emit_gw (s : State) (o : Output) : (s.emit o).gw = s.gw := rfl
@[simp] theorem emit_opt (s : State) (o : Output) : (s.emit o).opt = s.opt := rfl
@[simp] theorem emit_eng (s : State) (o : Output) : (s.emit o).eng = s.eng := rfl
@[simp] theorem emit_svc (s : State) (o : Output) : (s.emit o).svc = s.svc := rfl
@[simp] theorem emit_red (s : State) (o : Output) : (s.emit o).red = s.red := rfl
@[simp] theorem emit_cmn (s : State) (o : Output) : (s.emit o).cmn = s.cmn := rfl
@[simp] theorem emit_prom (s : State) (o : Output) : (s.emit o).prom = s.prom := rfl
@[simp] theorem emit_pwr (s : State) (o : Output) : (s.emit o).pwr = s.pwr := rfl
@[simp] theorem emit_chip (s : State) (o : Output) : (s.emit o).chip = s.chip := rfl
@[simp] theorem emit_freeCtr (s : State) (o : Output) : (s.emit o).freeCtr = s.freeCtr := rfl
@[simp] theorem rd_emit (s : State) (o : Output) (a : Fld) (b : Nat) : (s.emit o).rd a b = s.rd a b := rfl

/-! free -/

@[simp] theorem free_pending (s : State) (tag n : Nat) : ((s.free tag n).2).pending = s.pending := rfl
@[simp] theorem free_tb (s : State) (tag n : Nat) : ((s.free tag n).2).tb = s.tb := rfl
@[simp] theorem free_i3c (s : State) (tag n : Nat) : ((s.free tag n).2).i3c = s.i3c := rfl
@[simp] theorem free_jtag (s : State) (tag n : Nat) : ((s.free tag n).2).jtag = s.jtag := rfl
@[simp] theorem free_regs (s : State) (tag n : Nat) : ((s.free tag n).2).regs = s.regs := rfl
@[simp] theorem free_off (s : State) (tag n : Nat) : ((s.free tag n).2).off = s.off := rfl
@[simp] theorem free_started (s : State) (tag n : Nat) : ((s.free tag n).2).started = s.started := rfl
@[simp] theorem free_fw (s : State) (tag n : Nat) : ((s.free tag n).2).fw = s.fw := rfl
@[simp] theorem free_acc (s : State) (tag n : Nat) : ((s.free tag n).2).acc = s.acc := rfl
@[simp] theorem free_tel (s : State) (tag n : Nat) : ((s.free tag n).2).tel = s.tel := rfl
@[simp] theorem free_mgmt (s : State) (tag n : Nat) : ((s.free tag n).2).mgmt = s.mgmt := rfl
@[simp] theorem free_flash (s : State) (tag n : Nat) : ((s.free tag n).2).flash = s.flash := rfl
@[simp] theorem free_sw (s : State) (tag n : Nat) : ((s.free tag n).2).sw = s.sw := rfl
@[simp] theorem free_tab (s : State) (tag n : Nat) : ((s.free tag n).2).tab = s.tab := rfl
@[simp] theorem free_ports (s : State) (tag n : Nat) : ((s.free tag n).2).ports = s.ports := rfl
@[simp] theorem free_gate (s : State) (tag n : Nat) : ((s.free tag n).2).gate = s.gate := rfl
@[simp] theorem free_fen (s : State) (tag n : Nat) : ((s.free tag n).2).fen = s.fen := rfl
@[simp] theorem free_gw (s : State) (tag n : Nat) : ((s.free tag n).2).gw = s.gw := rfl
@[simp] theorem free_opt (s : State) (tag n : Nat) : ((s.free tag n).2).opt = s.opt := rfl
@[simp] theorem free_eng (s : State) (tag n : Nat) : ((s.free tag n).2).eng = s.eng := rfl
@[simp] theorem free_svc (s : State) (tag n : Nat) : ((s.free tag n).2).svc = s.svc := rfl
@[simp] theorem free_red (s : State) (tag n : Nat) : ((s.free tag n).2).red = s.red := rfl
@[simp] theorem free_cmn (s : State) (tag n : Nat) : ((s.free tag n).2).cmn = s.cmn := rfl
@[simp] theorem free_prom (s : State) (tag n : Nat) : ((s.free tag n).2).prom = s.prom := rfl
@[simp] theorem free_pwr (s : State) (tag n : Nat) : ((s.free tag n).2).pwr = s.pwr := rfl
@[simp] theorem free_chip (s : State) (tag n : Nat) : ((s.free tag n).2).chip = s.chip := rfl
@[simp] theorem free_out (s : State) (tag n : Nat) : ((s.free tag n).2).out = s.out := rfl
@[simp] theorem rd_free (s : State) (tag n : Nat) (a : Fld) (b : Nat) : ((s.free tag n).2).rd a b = s.rd a b := rfl

/-! setRing -/

@[simp] theorem setRing_pending (s : State) (fn r : Nat) (x : Ring) : (s.setRing fn r x).pending = s.pending := rfl
@[simp] theorem setRing_tb (s : State) (fn r : Nat) (x : Ring) : (s.setRing fn r x).tb = s.tb := rfl
@[simp] theorem setRing_i3c (s : State) (fn r : Nat) (x : Ring) : (s.setRing fn r x).i3c = s.i3c := rfl
@[simp] theorem setRing_jtag (s : State) (fn r : Nat) (x : Ring) : (s.setRing fn r x).jtag = s.jtag := rfl
@[simp] theorem setRing_regs (s : State) (fn r : Nat) (x : Ring) : (s.setRing fn r x).regs = s.regs := rfl
@[simp] theorem setRing_off (s : State) (fn r : Nat) (x : Ring) : (s.setRing fn r x).off = s.off := rfl
@[simp] theorem setRing_started (s : State) (fn r : Nat) (x : Ring) : (s.setRing fn r x).started = s.started := rfl
@[simp] theorem setRing_fw (s : State) (fn r : Nat) (x : Ring) : (s.setRing fn r x).fw = s.fw := rfl
@[simp] theorem setRing_acc (s : State) (fn r : Nat) (x : Ring) : (s.setRing fn r x).acc = s.acc := rfl
@[simp] theorem setRing_tel (s : State) (fn r : Nat) (x : Ring) : (s.setRing fn r x).tel = s.tel := rfl
@[simp] theorem setRing_flash (s : State) (fn r : Nat) (x : Ring) : (s.setRing fn r x).flash = s.flash := rfl
@[simp] theorem setRing_sw (s : State) (fn r : Nat) (x : Ring) : (s.setRing fn r x).sw = s.sw := rfl
@[simp] theorem setRing_tab (s : State) (fn r : Nat) (x : Ring) : (s.setRing fn r x).tab = s.tab := rfl
@[simp] theorem setRing_ports (s : State) (fn r : Nat) (x : Ring) : (s.setRing fn r x).ports = s.ports := rfl
@[simp] theorem setRing_gate (s : State) (fn r : Nat) (x : Ring) : (s.setRing fn r x).gate = s.gate := rfl
@[simp] theorem setRing_fen (s : State) (fn r : Nat) (x : Ring) : (s.setRing fn r x).fen = s.fen := rfl
@[simp] theorem setRing_gw (s : State) (fn r : Nat) (x : Ring) : (s.setRing fn r x).gw = s.gw := rfl
@[simp] theorem setRing_opt (s : State) (fn r : Nat) (x : Ring) : (s.setRing fn r x).opt = s.opt := rfl
@[simp] theorem setRing_eng (s : State) (fn r : Nat) (x : Ring) : (s.setRing fn r x).eng = s.eng := rfl
@[simp] theorem setRing_svc (s : State) (fn r : Nat) (x : Ring) : (s.setRing fn r x).svc = s.svc := rfl
@[simp] theorem setRing_red (s : State) (fn r : Nat) (x : Ring) : (s.setRing fn r x).red = s.red := rfl
@[simp] theorem setRing_cmn (s : State) (fn r : Nat) (x : Ring) : (s.setRing fn r x).cmn = s.cmn := rfl
@[simp] theorem setRing_prom (s : State) (fn r : Nat) (x : Ring) : (s.setRing fn r x).prom = s.prom := rfl
@[simp] theorem setRing_pwr (s : State) (fn r : Nat) (x : Ring) : (s.setRing fn r x).pwr = s.pwr := rfl
@[simp] theorem setRing_chip (s : State) (fn r : Nat) (x : Ring) : (s.setRing fn r x).chip = s.chip := rfl
@[simp] theorem setRing_out (s : State) (fn r : Nat) (x : Ring) : (s.setRing fn r x).out = s.out := rfl
@[simp] theorem setRing_freeCtr (s : State) (fn r : Nat) (x : Ring) : (s.setRing fn r x).freeCtr = s.freeCtr := rfl
@[simp] theorem rd_setRing (s : State) (fn r : Nat) (x : Ring) (a : Fld) (b : Nat) : (s.setRing fn r x).rd a b = s.rd a b := rfl

/-! settled -/

@[simp] theorem settled_pending (s : State) (t : State) : (s.settled t).pending = s.pending := rfl
@[simp] theorem settled_tb (s : State) (t : State) : (s.settled t).tb = s.tb := rfl
@[simp] theorem settled_i3c (s : State) (t : State) : (s.settled t).i3c = s.i3c := rfl
@[simp] theorem settled_jtag (s : State) (t : State) : (s.settled t).jtag = s.jtag := rfl
@[simp] theorem settled_regs (s : State) (t : State) : (s.settled t).regs = t.regs := rfl
@[simp] theorem settled_off (s : State) (t : State) : (s.settled t).off = t.off := rfl
@[simp] theorem settled_started (s : State) (t : State) : (s.settled t).started = t.started := rfl
@[simp] theorem settled_fw (s : State) (t : State) : (s.settled t).fw = t.fw := rfl
@[simp] theorem settled_acc (s : State) (t : State) : (s.settled t).acc = t.acc := rfl
@[simp] theorem settled_tel (s : State) (t : State) : (s.settled t).tel = t.tel := rfl
@[simp] theorem settled_mgmt (s : State) (t : State) : (s.settled t).mgmt = t.mgmt := rfl
@[simp] theorem settled_flash (s : State) (t : State) : (s.settled t).flash = t.flash := rfl
@[simp] theorem settled_sw (s : State) (t : State) : (s.settled t).sw = t.sw := rfl
@[simp] theorem settled_tab (s : State) (t : State) : (s.settled t).tab = t.tab := rfl
@[simp] theorem settled_ports (s : State) (t : State) : (s.settled t).ports = t.ports := rfl
@[simp] theorem settled_gate (s : State) (t : State) : (s.settled t).gate = t.gate := rfl
@[simp] theorem settled_fen (s : State) (t : State) : (s.settled t).fen = t.fen := rfl
@[simp] theorem settled_gw (s : State) (t : State) : (s.settled t).gw = t.gw := rfl
@[simp] theorem settled_opt (s : State) (t : State) : (s.settled t).opt = t.opt := rfl
@[simp] theorem settled_eng (s : State) (t : State) : (s.settled t).eng = t.eng := rfl
@[simp] theorem settled_svc (s : State) (t : State) : (s.settled t).svc = t.svc := rfl
@[simp] theorem settled_red (s : State) (t : State) : (s.settled t).red = t.red := rfl
@[simp] theorem settled_cmn (s : State) (t : State) : (s.settled t).cmn = t.cmn := rfl
@[simp] theorem settled_prom (s : State) (t : State) : (s.settled t).prom = t.prom := rfl
@[simp] theorem settled_pwr (s : State) (t : State) : (s.settled t).pwr = t.pwr := rfl
@[simp] theorem settled_chip (s : State) (t : State) : (s.settled t).chip = t.chip := rfl
@[simp] theorem settled_out (s : State) (t : State) : (s.settled t).out = t.out := rfl
@[simp] theorem settled_freeCtr (s : State) (t : State) : (s.settled t).freeCtr = t.freeCtr := rfl
@[simp] theorem rd_settled (s : State) (t : State) (a : Fld) (b : Nat) : (s.settled t).rd a b = t.rd a b := rfl

/-! settledI -/

@[simp] theorem settledI_pending (s : State) (t : State) : (s.settledI t).pending = s.pending := rfl
@[simp] theorem settledI_tb (s : State) (t : State) : (s.settledI t).tb = s.tb := rfl
@[simp] theorem settledI_i3c (s : State) (t : State) : (s.settledI t).i3c = t.i3c := rfl
@[simp] theorem settledI_jtag (s : State) (t : State) : (s.settledI t).jtag = s.jtag := rfl
@[simp] theorem settledI_regs (s : State) (t : State) : (s.settledI t).regs = t.regs := rfl
@[simp] theorem settledI_off (s : State) (t : State) : (s.settledI t).off = t.off := rfl
@[simp] theorem settledI_started (s : State) (t : State) : (s.settledI t).started = t.started := rfl
@[simp] theorem settledI_fw (s : State) (t : State) : (s.settledI t).fw = t.fw := rfl
@[simp] theorem settledI_acc (s : State) (t : State) : (s.settledI t).acc = t.acc := rfl
@[simp] theorem settledI_tel (s : State) (t : State) : (s.settledI t).tel = t.tel := rfl
@[simp] theorem settledI_mgmt (s : State) (t : State) : (s.settledI t).mgmt = t.mgmt := rfl
@[simp] theorem settledI_flash (s : State) (t : State) : (s.settledI t).flash = t.flash := rfl
@[simp] theorem settledI_sw (s : State) (t : State) : (s.settledI t).sw = t.sw := rfl
@[simp] theorem settledI_tab (s : State) (t : State) : (s.settledI t).tab = t.tab := rfl
@[simp] theorem settledI_ports (s : State) (t : State) : (s.settledI t).ports = t.ports := rfl
@[simp] theorem settledI_gate (s : State) (t : State) : (s.settledI t).gate = t.gate := rfl
@[simp] theorem settledI_fen (s : State) (t : State) : (s.settledI t).fen = t.fen := rfl
@[simp] theorem settledI_gw (s : State) (t : State) : (s.settledI t).gw = t.gw := rfl
@[simp] theorem settledI_opt (s : State) (t : State) : (s.settledI t).opt = t.opt := rfl
@[simp] theorem settledI_eng (s : State) (t : State) : (s.settledI t).eng = t.eng := rfl
@[simp] theorem settledI_svc (s : State) (t : State) : (s.settledI t).svc = t.svc := rfl
@[simp] theorem settledI_red (s : State) (t : State) : (s.settledI t).red = t.red := rfl
@[simp] theorem settledI_cmn (s : State) (t : State) : (s.settledI t).cmn = t.cmn := rfl
@[simp] theorem settledI_prom (s : State) (t : State) : (s.settledI t).prom = t.prom := rfl
@[simp] theorem settledI_pwr (s : State) (t : State) : (s.settledI t).pwr = t.pwr := rfl
@[simp] theorem settledI_chip (s : State) (t : State) : (s.settledI t).chip = t.chip := rfl
@[simp] theorem settledI_out (s : State) (t : State) : (s.settledI t).out = t.out := rfl
@[simp] theorem settledI_freeCtr (s : State) (t : State) : (s.settledI t).freeCtr = t.freeCtr := rfl
@[simp] theorem rd_settledI (s : State) (t : State) (a : Fld) (b : Nat) : (s.settledI t).rd a b = t.rd a b := rfl

/-! settledJ -/

@[simp] theorem settledJ_pending (s : State) (t : State) : (s.settledJ t).pending = s.pending := rfl
@[simp] theorem settledJ_tb (s : State) (t : State) : (s.settledJ t).tb = s.tb := rfl
@[simp] theorem settledJ_i3c (s : State) (t : State) : (s.settledJ t).i3c = s.i3c := rfl
@[simp] theorem settledJ_jtag (s : State) (t : State) : (s.settledJ t).jtag = t.jtag := rfl
@[simp] theorem settledJ_regs (s : State) (t : State) : (s.settledJ t).regs = t.regs := rfl
@[simp] theorem settledJ_off (s : State) (t : State) : (s.settledJ t).off = t.off := rfl
@[simp] theorem settledJ_started (s : State) (t : State) : (s.settledJ t).started = t.started := rfl
@[simp] theorem settledJ_fw (s : State) (t : State) : (s.settledJ t).fw = t.fw := rfl
@[simp] theorem settledJ_acc (s : State) (t : State) : (s.settledJ t).acc = t.acc := rfl
@[simp] theorem settledJ_tel (s : State) (t : State) : (s.settledJ t).tel = t.tel := rfl
@[simp] theorem settledJ_mgmt (s : State) (t : State) : (s.settledJ t).mgmt = t.mgmt := rfl
@[simp] theorem settledJ_flash (s : State) (t : State) : (s.settledJ t).flash = t.flash := rfl
@[simp] theorem settledJ_sw (s : State) (t : State) : (s.settledJ t).sw = t.sw := rfl
@[simp] theorem settledJ_tab (s : State) (t : State) : (s.settledJ t).tab = t.tab := rfl
@[simp] theorem settledJ_ports (s : State) (t : State) : (s.settledJ t).ports = t.ports := rfl
@[simp] theorem settledJ_gate (s : State) (t : State) : (s.settledJ t).gate = t.gate := rfl
@[simp] theorem settledJ_fen (s : State) (t : State) : (s.settledJ t).fen = t.fen := rfl
@[simp] theorem settledJ_gw (s : State) (t : State) : (s.settledJ t).gw = t.gw := rfl
@[simp] theorem settledJ_opt (s : State) (t : State) : (s.settledJ t).opt = t.opt := rfl
@[simp] theorem settledJ_eng (s : State) (t : State) : (s.settledJ t).eng = t.eng := rfl
@[simp] theorem settledJ_svc (s : State) (t : State) : (s.settledJ t).svc = t.svc := rfl
@[simp] theorem settledJ_red (s : State) (t : State) : (s.settledJ t).red = t.red := rfl
@[simp] theorem settledJ_cmn (s : State) (t : State) : (s.settledJ t).cmn = t.cmn := rfl
@[simp] theorem settledJ_prom (s : State) (t : State) : (s.settledJ t).prom = t.prom := rfl
@[simp] theorem settledJ_pwr (s : State) (t : State) : (s.settledJ t).pwr = t.pwr := rfl
@[simp] theorem settledJ_chip (s : State) (t : State) : (s.settledJ t).chip = t.chip := rfl
@[simp] theorem settledJ_out (s : State) (t : State) : (s.settledJ t).out = t.out := rfl
@[simp] theorem settledJ_freeCtr (s : State) (t : State) : (s.settledJ t).freeCtr = t.freeCtr := rfl
@[simp] theorem rd_settledJ (s : State) (t : State) (a : Fld) (b : Nat) : (s.settledJ t).rd a b = t.rd a b := rfl

/-! settledT -/

@[simp] theorem settledT_pending (s : State) (t : State) : (s.settledT t).pending = s.pending := rfl
@[simp] theorem settledT_tb (s : State) (t : State) : (s.settledT t).tb = { t.tb with frac := s.tb.frac, counting := s.tb.counting } := rfl
@[simp] theorem settledT_i3c (s : State) (t : State) : (s.settledT t).i3c = s.i3c := rfl
@[simp] theorem settledT_jtag (s : State) (t : State) : (s.settledT t).jtag = s.jtag := rfl
@[simp] theorem settledT_regs (s : State) (t : State) : (s.settledT t).regs = t.regs := rfl
@[simp] theorem settledT_off (s : State) (t : State) : (s.settledT t).off = t.off := rfl
@[simp] theorem settledT_started (s : State) (t : State) : (s.settledT t).started = t.started := rfl
@[simp] theorem settledT_fw (s : State) (t : State) : (s.settledT t).fw = t.fw := rfl
@[simp] theorem settledT_acc (s : State) (t : State) : (s.settledT t).acc = t.acc := rfl
@[simp] theorem settledT_tel (s : State) (t : State) : (s.settledT t).tel = t.tel := rfl
@[simp] theorem settledT_mgmt (s : State) (t : State) : (s.settledT t).mgmt = t.mgmt := rfl
@[simp] theorem settledT_flash (s : State) (t : State) : (s.settledT t).flash = t.flash := rfl
@[simp] theorem settledT_sw (s : State) (t : State) : (s.settledT t).sw = t.sw := rfl
@[simp] theorem settledT_tab (s : State) (t : State) : (s.settledT t).tab = t.tab := rfl
@[simp] theorem settledT_ports (s : State) (t : State) : (s.settledT t).ports = t.ports := rfl
@[simp] theorem settledT_gate (s : State) (t : State) : (s.settledT t).gate = t.gate := rfl
@[simp] theorem settledT_fen (s : State) (t : State) : (s.settledT t).fen = t.fen := rfl
@[simp] theorem settledT_gw (s : State) (t : State) : (s.settledT t).gw = t.gw := rfl
@[simp] theorem settledT_opt (s : State) (t : State) : (s.settledT t).opt = t.opt := rfl
@[simp] theorem settledT_eng (s : State) (t : State) : (s.settledT t).eng = t.eng := rfl
@[simp] theorem settledT_svc (s : State) (t : State) : (s.settledT t).svc = t.svc := rfl
@[simp] theorem settledT_red (s : State) (t : State) : (s.settledT t).red = t.red := rfl
@[simp] theorem settledT_cmn (s : State) (t : State) : (s.settledT t).cmn = t.cmn := rfl
@[simp] theorem settledT_prom (s : State) (t : State) : (s.settledT t).prom = t.prom := rfl
@[simp] theorem settledT_pwr (s : State) (t : State) : (s.settledT t).pwr = t.pwr := rfl
@[simp] theorem settledT_chip (s : State) (t : State) : (s.settledT t).chip = t.chip := rfl
@[simp] theorem settledT_out (s : State) (t : State) : (s.settledT t).out = t.out := rfl
@[simp] theorem settledT_freeCtr (s : State) (t : State) : (s.settledT t).freeCtr = t.freeCtr := rfl
@[simp] theorem rd_settledT (s : State) (t : State) (a : Fld) (b : Nat) : (s.settledT t).rd a b = t.rd a b := rfl

/-! settledR -/

@[simp] theorem settledR_pending (s : State) (t : State) : (s.settledR t).pending = s.pending := rfl
@[simp] theorem settledR_tb (s : State) (t : State) : (s.settledR t).tb = t.tb := rfl
@[simp] theorem settledR_i3c (s : State) (t : State) : (s.settledR t).i3c = t.i3c := rfl
@[simp] theorem settledR_jtag (s : State) (t : State) : (s.settledR t).jtag = t.jtag := rfl
@[simp] theorem settledR_regs (s : State) (t : State) : (s.settledR t).regs = t.regs := rfl
@[simp] theorem settledR_off (s : State) (t : State) : (s.settledR t).off = t.off := rfl
@[simp] theorem settledR_started (s : State) (t : State) : (s.settledR t).started = t.started := rfl
@[simp] theorem settledR_fw (s : State) (t : State) : (s.settledR t).fw = t.fw := rfl
@[simp] theorem settledR_acc (s : State) (t : State) : (s.settledR t).acc = t.acc := rfl
@[simp] theorem settledR_tel (s : State) (t : State) : (s.settledR t).tel = t.tel := rfl
@[simp] theorem settledR_mgmt (s : State) (t : State) : (s.settledR t).mgmt = t.mgmt := rfl
@[simp] theorem settledR_flash (s : State) (t : State) : (s.settledR t).flash = t.flash := rfl
@[simp] theorem settledR_sw (s : State) (t : State) : (s.settledR t).sw = t.sw := rfl
@[simp] theorem settledR_tab (s : State) (t : State) : (s.settledR t).tab = t.tab := rfl
@[simp] theorem settledR_ports (s : State) (t : State) : (s.settledR t).ports = t.ports := rfl
@[simp] theorem settledR_gate (s : State) (t : State) : (s.settledR t).gate = t.gate := rfl
@[simp] theorem settledR_fen (s : State) (t : State) : (s.settledR t).fen = t.fen := rfl
@[simp] theorem settledR_gw (s : State) (t : State) : (s.settledR t).gw = t.gw := rfl
@[simp] theorem settledR_opt (s : State) (t : State) : (s.settledR t).opt = t.opt := rfl
@[simp] theorem settledR_eng (s : State) (t : State) : (s.settledR t).eng = t.eng := rfl
@[simp] theorem settledR_svc (s : State) (t : State) : (s.settledR t).svc = t.svc := rfl
@[simp] theorem settledR_red (s : State) (t : State) : (s.settledR t).red = t.red := rfl
@[simp] theorem settledR_cmn (s : State) (t : State) : (s.settledR t).cmn = t.cmn := rfl
@[simp] theorem settledR_prom (s : State) (t : State) : (s.settledR t).prom = t.prom := rfl
@[simp] theorem settledR_pwr (s : State) (t : State) : (s.settledR t).pwr = t.pwr := rfl
@[simp] theorem settledR_chip (s : State) (t : State) : (s.settledR t).chip = t.chip := rfl
@[simp] theorem settledR_out (s : State) (t : State) : (s.settledR t).out = t.out := rfl
@[simp] theorem settledR_freeCtr (s : State) (t : State) : (s.settledR t).freeCtr = t.freeCtr := rfl
@[simp] theorem rd_settledR (s : State) (t : State) (a : Fld) (b : Nat) : (s.settledR t).rd a b = t.rd a b := rfl

/-! onChip -/

@[simp] theorem onChip_pending (s : State) (g : Chip → Chip) : (s.onChip g).pending = s.pending := rfl
@[simp] theorem onChip_tb (s : State) (g : Chip → Chip) : (s.onChip g).tb = s.tb := rfl
@[simp] theorem onChip_i3c (s : State) (g : Chip → Chip) : (s.onChip g).i3c = s.i3c := rfl
@[simp] theorem onChip_jtag (s : State) (g : Chip → Chip) : (s.onChip g).jtag = s.jtag := rfl
@[simp] theorem onChip_regs (s : State) (g : Chip → Chip) : (s.onChip g).regs = s.regs := rfl
@[simp] theorem onChip_off (s : State) (g : Chip → Chip) : (s.onChip g).off = s.off := rfl
@[simp] theorem onChip_started (s : State) (g : Chip → Chip) : (s.onChip g).started = s.started := rfl
@[simp] theorem onChip_fw (s : State) (g : Chip → Chip) : (s.onChip g).fw = s.fw := rfl
@[simp] theorem onChip_acc (s : State) (g : Chip → Chip) : (s.onChip g).acc = s.acc := rfl
@[simp] theorem onChip_tel (s : State) (g : Chip → Chip) : (s.onChip g).tel = s.tel := rfl
@[simp] theorem onChip_mgmt (s : State) (g : Chip → Chip) : (s.onChip g).mgmt = s.mgmt := rfl
@[simp] theorem onChip_flash (s : State) (g : Chip → Chip) : (s.onChip g).flash = s.flash := rfl
@[simp] theorem onChip_sw (s : State) (g : Chip → Chip) : (s.onChip g).sw = s.sw := rfl
@[simp] theorem onChip_tab (s : State) (g : Chip → Chip) : (s.onChip g).tab = s.tab := rfl
@[simp] theorem onChip_ports (s : State) (g : Chip → Chip) : (s.onChip g).ports = s.ports := rfl
@[simp] theorem onChip_gate (s : State) (g : Chip → Chip) : (s.onChip g).gate = s.gate := rfl
@[simp] theorem onChip_fen (s : State) (g : Chip → Chip) : (s.onChip g).fen = s.fen := rfl
@[simp] theorem onChip_gw (s : State) (g : Chip → Chip) : (s.onChip g).gw = s.gw := rfl
@[simp] theorem onChip_opt (s : State) (g : Chip → Chip) : (s.onChip g).opt = s.opt := rfl
@[simp] theorem onChip_eng (s : State) (g : Chip → Chip) : (s.onChip g).eng = s.eng := rfl
@[simp] theorem onChip_svc (s : State) (g : Chip → Chip) : (s.onChip g).svc = s.svc := rfl
@[simp] theorem onChip_red (s : State) (g : Chip → Chip) : (s.onChip g).red = s.red := rfl
@[simp] theorem onChip_cmn (s : State) (g : Chip → Chip) : (s.onChip g).cmn = s.cmn := rfl
@[simp] theorem onChip_prom (s : State) (g : Chip → Chip) : (s.onChip g).prom = s.prom := rfl
@[simp] theorem onChip_pwr (s : State) (g : Chip → Chip) : (s.onChip g).pwr = s.pwr := rfl
@[simp] theorem onChip_chip (s : State) (g : Chip → Chip) : (s.onChip g).chip = g s.chip := rfl
@[simp] theorem onChip_out (s : State) (g : Chip → Chip) : (s.onChip g).out = s.out := rfl
@[simp] theorem onChip_freeCtr (s : State) (g : Chip → Chip) : (s.onChip g).freeCtr = s.freeCtr := rfl
@[simp] theorem rd_onChip (s : State) (g : Chip → Chip) (a : Fld) (b : Nat) : (s.onChip g).rd a b = s.rd a b := rfl

/-! onRed -/

@[simp] theorem onRed_pending (s : State) (g : Red → Red) : (s.onRed g).pending = s.pending := rfl
@[simp] theorem onRed_tb (s : State) (g : Red → Red) : (s.onRed g).tb = s.tb := rfl
@[simp] theorem onRed_i3c (s : State) (g : Red → Red) : (s.onRed g).i3c = s.i3c := rfl
@[simp] theorem onRed_jtag (s : State) (g : Red → Red) : (s.onRed g).jtag = s.jtag := rfl
@[simp] theorem onRed_regs (s : State) (g : Red → Red) : (s.onRed g).regs = s.regs := rfl
@[simp] theorem onRed_off (s : State) (g : Red → Red) : (s.onRed g).off = s.off := rfl
@[simp] theorem onRed_started (s : State) (g : Red → Red) : (s.onRed g).started = s.started := rfl
@[simp] theorem onRed_fw (s : State) (g : Red → Red) : (s.onRed g).fw = s.fw := rfl
@[simp] theorem onRed_acc (s : State) (g : Red → Red) : (s.onRed g).acc = s.acc := rfl
@[simp] theorem onRed_tel (s : State) (g : Red → Red) : (s.onRed g).tel = s.tel := rfl
@[simp] theorem onRed_mgmt (s : State) (g : Red → Red) : (s.onRed g).mgmt = s.mgmt := rfl
@[simp] theorem onRed_flash (s : State) (g : Red → Red) : (s.onRed g).flash = s.flash := rfl
@[simp] theorem onRed_sw (s : State) (g : Red → Red) : (s.onRed g).sw = s.sw := rfl
@[simp] theorem onRed_tab (s : State) (g : Red → Red) : (s.onRed g).tab = s.tab := rfl
@[simp] theorem onRed_ports (s : State) (g : Red → Red) : (s.onRed g).ports = s.ports := rfl
@[simp] theorem onRed_gate (s : State) (g : Red → Red) : (s.onRed g).gate = s.gate := rfl
@[simp] theorem onRed_fen (s : State) (g : Red → Red) : (s.onRed g).fen = s.fen := rfl
@[simp] theorem onRed_gw (s : State) (g : Red → Red) : (s.onRed g).gw = s.gw := rfl
@[simp] theorem onRed_opt (s : State) (g : Red → Red) : (s.onRed g).opt = s.opt := rfl
@[simp] theorem onRed_eng (s : State) (g : Red → Red) : (s.onRed g).eng = s.eng := rfl
@[simp] theorem onRed_svc (s : State) (g : Red → Red) : (s.onRed g).svc = s.svc := rfl
@[simp] theorem onRed_red (s : State) (g : Red → Red) : (s.onRed g).red = g s.red := rfl
@[simp] theorem onRed_cmn (s : State) (g : Red → Red) : (s.onRed g).cmn = s.cmn := rfl
@[simp] theorem onRed_prom (s : State) (g : Red → Red) : (s.onRed g).prom = s.prom := rfl
@[simp] theorem onRed_pwr (s : State) (g : Red → Red) : (s.onRed g).pwr = s.pwr := rfl
@[simp] theorem onRed_chip (s : State) (g : Red → Red) : (s.onRed g).chip = s.chip := rfl
@[simp] theorem onRed_out (s : State) (g : Red → Red) : (s.onRed g).out = s.out := rfl
@[simp] theorem onRed_freeCtr (s : State) (g : Red → Red) : (s.onRed g).freeCtr = s.freeCtr := rfl
@[simp] theorem rd_onRed (s : State) (g : Red → Red) (a : Fld) (b : Nat) : (s.onRed g).rd a b = s.rd a b := rfl

/-! onCmn -/

@[simp] theorem onCmn_pending (s : State) (g : Cmn → Cmn) : (s.onCmn g).pending = s.pending := rfl
@[simp] theorem onCmn_tb (s : State) (g : Cmn → Cmn) : (s.onCmn g).tb = s.tb := rfl
@[simp] theorem onCmn_i3c (s : State) (g : Cmn → Cmn) : (s.onCmn g).i3c = s.i3c := rfl
@[simp] theorem onCmn_jtag (s : State) (g : Cmn → Cmn) : (s.onCmn g).jtag = s.jtag := rfl
@[simp] theorem onCmn_regs (s : State) (g : Cmn → Cmn) : (s.onCmn g).regs = s.regs := rfl
@[simp] theorem onCmn_off (s : State) (g : Cmn → Cmn) : (s.onCmn g).off = s.off := rfl
@[simp] theorem onCmn_started (s : State) (g : Cmn → Cmn) : (s.onCmn g).started = s.started := rfl
@[simp] theorem onCmn_fw (s : State) (g : Cmn → Cmn) : (s.onCmn g).fw = s.fw := rfl
@[simp] theorem onCmn_acc (s : State) (g : Cmn → Cmn) : (s.onCmn g).acc = s.acc := rfl
@[simp] theorem onCmn_tel (s : State) (g : Cmn → Cmn) : (s.onCmn g).tel = s.tel := rfl
@[simp] theorem onCmn_mgmt (s : State) (g : Cmn → Cmn) : (s.onCmn g).mgmt = s.mgmt := rfl
@[simp] theorem onCmn_flash (s : State) (g : Cmn → Cmn) : (s.onCmn g).flash = s.flash := rfl
@[simp] theorem onCmn_sw (s : State) (g : Cmn → Cmn) : (s.onCmn g).sw = s.sw := rfl
@[simp] theorem onCmn_tab (s : State) (g : Cmn → Cmn) : (s.onCmn g).tab = s.tab := rfl
@[simp] theorem onCmn_ports (s : State) (g : Cmn → Cmn) : (s.onCmn g).ports = s.ports := rfl
@[simp] theorem onCmn_gate (s : State) (g : Cmn → Cmn) : (s.onCmn g).gate = s.gate := rfl
@[simp] theorem onCmn_fen (s : State) (g : Cmn → Cmn) : (s.onCmn g).fen = s.fen := rfl
@[simp] theorem onCmn_gw (s : State) (g : Cmn → Cmn) : (s.onCmn g).gw = s.gw := rfl
@[simp] theorem onCmn_opt (s : State) (g : Cmn → Cmn) : (s.onCmn g).opt = s.opt := rfl
@[simp] theorem onCmn_eng (s : State) (g : Cmn → Cmn) : (s.onCmn g).eng = s.eng := rfl
@[simp] theorem onCmn_svc (s : State) (g : Cmn → Cmn) : (s.onCmn g).svc = s.svc := rfl
@[simp] theorem onCmn_red (s : State) (g : Cmn → Cmn) : (s.onCmn g).red = s.red := rfl
@[simp] theorem onCmn_cmn (s : State) (g : Cmn → Cmn) : (s.onCmn g).cmn = g s.cmn := rfl
@[simp] theorem onCmn_prom (s : State) (g : Cmn → Cmn) : (s.onCmn g).prom = s.prom := rfl
@[simp] theorem onCmn_pwr (s : State) (g : Cmn → Cmn) : (s.onCmn g).pwr = s.pwr := rfl
@[simp] theorem onCmn_chip (s : State) (g : Cmn → Cmn) : (s.onCmn g).chip = s.chip := rfl
@[simp] theorem onCmn_out (s : State) (g : Cmn → Cmn) : (s.onCmn g).out = s.out := rfl
@[simp] theorem onCmn_freeCtr (s : State) (g : Cmn → Cmn) : (s.onCmn g).freeCtr = s.freeCtr := rfl
@[simp] theorem rd_onCmn (s : State) (g : Cmn → Cmn) (a : Fld) (b : Nat) : (s.onCmn g).rd a b = s.rd a b := rfl

/-! onFen -/

@[simp] theorem onFen_pending (s : State) (g : Fen → Fen) : (s.onFen g).pending = s.pending := rfl
@[simp] theorem onFen_tb (s : State) (g : Fen → Fen) : (s.onFen g).tb = s.tb := rfl
@[simp] theorem onFen_i3c (s : State) (g : Fen → Fen) : (s.onFen g).i3c = s.i3c := rfl
@[simp] theorem onFen_jtag (s : State) (g : Fen → Fen) : (s.onFen g).jtag = s.jtag := rfl
@[simp] theorem onFen_regs (s : State) (g : Fen → Fen) : (s.onFen g).regs = s.regs := rfl
@[simp] theorem onFen_off (s : State) (g : Fen → Fen) : (s.onFen g).off = s.off := rfl
@[simp] theorem onFen_started (s : State) (g : Fen → Fen) : (s.onFen g).started = s.started := rfl
@[simp] theorem onFen_fw (s : State) (g : Fen → Fen) : (s.onFen g).fw = s.fw := rfl
@[simp] theorem onFen_acc (s : State) (g : Fen → Fen) : (s.onFen g).acc = s.acc := rfl
@[simp] theorem onFen_tel (s : State) (g : Fen → Fen) : (s.onFen g).tel = s.tel := rfl
@[simp] theorem onFen_mgmt (s : State) (g : Fen → Fen) : (s.onFen g).mgmt = s.mgmt := rfl
@[simp] theorem onFen_flash (s : State) (g : Fen → Fen) : (s.onFen g).flash = s.flash := rfl
@[simp] theorem onFen_sw (s : State) (g : Fen → Fen) : (s.onFen g).sw = s.sw := rfl
@[simp] theorem onFen_tab (s : State) (g : Fen → Fen) : (s.onFen g).tab = s.tab := rfl
@[simp] theorem onFen_ports (s : State) (g : Fen → Fen) : (s.onFen g).ports = s.ports := rfl
@[simp] theorem onFen_gate (s : State) (g : Fen → Fen) : (s.onFen g).gate = s.gate := rfl
@[simp] theorem onFen_fen (s : State) (g : Fen → Fen) : (s.onFen g).fen = g s.fen := rfl
@[simp] theorem onFen_gw (s : State) (g : Fen → Fen) : (s.onFen g).gw = s.gw := rfl
@[simp] theorem onFen_opt (s : State) (g : Fen → Fen) : (s.onFen g).opt = s.opt := rfl
@[simp] theorem onFen_eng (s : State) (g : Fen → Fen) : (s.onFen g).eng = s.eng := rfl
@[simp] theorem onFen_svc (s : State) (g : Fen → Fen) : (s.onFen g).svc = s.svc := rfl
@[simp] theorem onFen_red (s : State) (g : Fen → Fen) : (s.onFen g).red = s.red := rfl
@[simp] theorem onFen_cmn (s : State) (g : Fen → Fen) : (s.onFen g).cmn = s.cmn := rfl
@[simp] theorem onFen_prom (s : State) (g : Fen → Fen) : (s.onFen g).prom = s.prom := rfl
@[simp] theorem onFen_pwr (s : State) (g : Fen → Fen) : (s.onFen g).pwr = s.pwr := rfl
@[simp] theorem onFen_chip (s : State) (g : Fen → Fen) : (s.onFen g).chip = s.chip := rfl
@[simp] theorem onFen_out (s : State) (g : Fen → Fen) : (s.onFen g).out = s.out := rfl
@[simp] theorem onFen_freeCtr (s : State) (g : Fen → Fen) : (s.onFen g).freeCtr = s.freeCtr := rfl
@[simp] theorem rd_onFen (s : State) (g : Fen → Fen) (a : Fld) (b : Nat) : (s.onFen g).rd a b = s.rd a b := rfl

/-! onGate -/

@[simp] theorem onGate_pending (s : State) (g : Gate → Gate) : (s.onGate g).pending = s.pending := rfl
@[simp] theorem onGate_tb (s : State) (g : Gate → Gate) : (s.onGate g).tb = s.tb := rfl
@[simp] theorem onGate_i3c (s : State) (g : Gate → Gate) : (s.onGate g).i3c = s.i3c := rfl
@[simp] theorem onGate_jtag (s : State) (g : Gate → Gate) : (s.onGate g).jtag = s.jtag := rfl
@[simp] theorem onGate_regs (s : State) (g : Gate → Gate) : (s.onGate g).regs = s.regs := rfl
@[simp] theorem onGate_off (s : State) (g : Gate → Gate) : (s.onGate g).off = s.off := rfl
@[simp] theorem onGate_started (s : State) (g : Gate → Gate) : (s.onGate g).started = s.started := rfl
@[simp] theorem onGate_fw (s : State) (g : Gate → Gate) : (s.onGate g).fw = s.fw := rfl
@[simp] theorem onGate_acc (s : State) (g : Gate → Gate) : (s.onGate g).acc = s.acc := rfl
@[simp] theorem onGate_tel (s : State) (g : Gate → Gate) : (s.onGate g).tel = s.tel := rfl
@[simp] theorem onGate_mgmt (s : State) (g : Gate → Gate) : (s.onGate g).mgmt = s.mgmt := rfl
@[simp] theorem onGate_flash (s : State) (g : Gate → Gate) : (s.onGate g).flash = s.flash := rfl
@[simp] theorem onGate_sw (s : State) (g : Gate → Gate) : (s.onGate g).sw = s.sw := rfl
@[simp] theorem onGate_tab (s : State) (g : Gate → Gate) : (s.onGate g).tab = s.tab := rfl
@[simp] theorem onGate_ports (s : State) (g : Gate → Gate) : (s.onGate g).ports = s.ports := rfl
@[simp] theorem onGate_gate (s : State) (g : Gate → Gate) : (s.onGate g).gate = g s.gate := rfl
@[simp] theorem onGate_fen (s : State) (g : Gate → Gate) : (s.onGate g).fen = s.fen := rfl
@[simp] theorem onGate_gw (s : State) (g : Gate → Gate) : (s.onGate g).gw = s.gw := rfl
@[simp] theorem onGate_opt (s : State) (g : Gate → Gate) : (s.onGate g).opt = s.opt := rfl
@[simp] theorem onGate_eng (s : State) (g : Gate → Gate) : (s.onGate g).eng = s.eng := rfl
@[simp] theorem onGate_svc (s : State) (g : Gate → Gate) : (s.onGate g).svc = s.svc := rfl
@[simp] theorem onGate_red (s : State) (g : Gate → Gate) : (s.onGate g).red = s.red := rfl
@[simp] theorem onGate_cmn (s : State) (g : Gate → Gate) : (s.onGate g).cmn = s.cmn := rfl
@[simp] theorem onGate_prom (s : State) (g : Gate → Gate) : (s.onGate g).prom = s.prom := rfl
@[simp] theorem onGate_pwr (s : State) (g : Gate → Gate) : (s.onGate g).pwr = s.pwr := rfl
@[simp] theorem onGate_chip (s : State) (g : Gate → Gate) : (s.onGate g).chip = s.chip := rfl
@[simp] theorem onGate_out (s : State) (g : Gate → Gate) : (s.onGate g).out = s.out := rfl
@[simp] theorem onGate_freeCtr (s : State) (g : Gate → Gate) : (s.onGate g).freeCtr = s.freeCtr := rfl
@[simp] theorem rd_onGate (s : State) (g : Gate → Gate) (a : Fld) (b : Nat) : (s.onGate g).rd a b = s.rd a b := rfl

/-! onGw -/

@[simp] theorem onGw_pending (s : State) (g : Gw → Gw) : (s.onGw g).pending = s.pending := rfl
@[simp] theorem onGw_tb (s : State) (g : Gw → Gw) : (s.onGw g).tb = s.tb := rfl
@[simp] theorem onGw_i3c (s : State) (g : Gw → Gw) : (s.onGw g).i3c = s.i3c := rfl
@[simp] theorem onGw_jtag (s : State) (g : Gw → Gw) : (s.onGw g).jtag = s.jtag := rfl
@[simp] theorem onGw_regs (s : State) (g : Gw → Gw) : (s.onGw g).regs = s.regs := rfl
@[simp] theorem onGw_off (s : State) (g : Gw → Gw) : (s.onGw g).off = s.off := rfl
@[simp] theorem onGw_started (s : State) (g : Gw → Gw) : (s.onGw g).started = s.started := rfl
@[simp] theorem onGw_fw (s : State) (g : Gw → Gw) : (s.onGw g).fw = s.fw := rfl
@[simp] theorem onGw_acc (s : State) (g : Gw → Gw) : (s.onGw g).acc = s.acc := rfl
@[simp] theorem onGw_tel (s : State) (g : Gw → Gw) : (s.onGw g).tel = s.tel := rfl
@[simp] theorem onGw_mgmt (s : State) (g : Gw → Gw) : (s.onGw g).mgmt = s.mgmt := rfl
@[simp] theorem onGw_flash (s : State) (g : Gw → Gw) : (s.onGw g).flash = s.flash := rfl
@[simp] theorem onGw_sw (s : State) (g : Gw → Gw) : (s.onGw g).sw = s.sw := rfl
@[simp] theorem onGw_tab (s : State) (g : Gw → Gw) : (s.onGw g).tab = s.tab := rfl
@[simp] theorem onGw_ports (s : State) (g : Gw → Gw) : (s.onGw g).ports = s.ports := rfl
@[simp] theorem onGw_gate (s : State) (g : Gw → Gw) : (s.onGw g).gate = s.gate := rfl
@[simp] theorem onGw_fen (s : State) (g : Gw → Gw) : (s.onGw g).fen = s.fen := rfl
@[simp] theorem onGw_gw (s : State) (g : Gw → Gw) : (s.onGw g).gw = g s.gw := rfl
@[simp] theorem onGw_opt (s : State) (g : Gw → Gw) : (s.onGw g).opt = s.opt := rfl
@[simp] theorem onGw_eng (s : State) (g : Gw → Gw) : (s.onGw g).eng = s.eng := rfl
@[simp] theorem onGw_svc (s : State) (g : Gw → Gw) : (s.onGw g).svc = s.svc := rfl
@[simp] theorem onGw_red (s : State) (g : Gw → Gw) : (s.onGw g).red = s.red := rfl
@[simp] theorem onGw_cmn (s : State) (g : Gw → Gw) : (s.onGw g).cmn = s.cmn := rfl
@[simp] theorem onGw_prom (s : State) (g : Gw → Gw) : (s.onGw g).prom = s.prom := rfl
@[simp] theorem onGw_pwr (s : State) (g : Gw → Gw) : (s.onGw g).pwr = s.pwr := rfl
@[simp] theorem onGw_chip (s : State) (g : Gw → Gw) : (s.onGw g).chip = s.chip := rfl
@[simp] theorem onGw_out (s : State) (g : Gw → Gw) : (s.onGw g).out = s.out := rfl
@[simp] theorem onGw_freeCtr (s : State) (g : Gw → Gw) : (s.onGw g).freeCtr = s.freeCtr := rfl
@[simp] theorem rd_onGw (s : State) (g : Gw → Gw) (a : Fld) (b : Nat) : (s.onGw g).rd a b = s.rd a b := rfl

/-! onMgmt -/

@[simp] theorem onMgmt_pending (s : State) (g : Mgmt → Mgmt) : (s.onMgmt g).pending = s.pending := rfl
@[simp] theorem onMgmt_tb (s : State) (g : Mgmt → Mgmt) : (s.onMgmt g).tb = s.tb := rfl
@[simp] theorem onMgmt_i3c (s : State) (g : Mgmt → Mgmt) : (s.onMgmt g).i3c = s.i3c := rfl
@[simp] theorem onMgmt_jtag (s : State) (g : Mgmt → Mgmt) : (s.onMgmt g).jtag = s.jtag := rfl
@[simp] theorem onMgmt_regs (s : State) (g : Mgmt → Mgmt) : (s.onMgmt g).regs = s.regs := rfl
@[simp] theorem onMgmt_off (s : State) (g : Mgmt → Mgmt) : (s.onMgmt g).off = s.off := rfl
@[simp] theorem onMgmt_started (s : State) (g : Mgmt → Mgmt) : (s.onMgmt g).started = s.started := rfl
@[simp] theorem onMgmt_fw (s : State) (g : Mgmt → Mgmt) : (s.onMgmt g).fw = s.fw := rfl
@[simp] theorem onMgmt_acc (s : State) (g : Mgmt → Mgmt) : (s.onMgmt g).acc = s.acc := rfl
@[simp] theorem onMgmt_tel (s : State) (g : Mgmt → Mgmt) : (s.onMgmt g).tel = s.tel := rfl
@[simp] theorem onMgmt_mgmt (s : State) (g : Mgmt → Mgmt) : (s.onMgmt g).mgmt = g s.mgmt := rfl
@[simp] theorem onMgmt_flash (s : State) (g : Mgmt → Mgmt) : (s.onMgmt g).flash = s.flash := rfl
@[simp] theorem onMgmt_sw (s : State) (g : Mgmt → Mgmt) : (s.onMgmt g).sw = s.sw := rfl
@[simp] theorem onMgmt_tab (s : State) (g : Mgmt → Mgmt) : (s.onMgmt g).tab = s.tab := rfl
@[simp] theorem onMgmt_ports (s : State) (g : Mgmt → Mgmt) : (s.onMgmt g).ports = s.ports := rfl
@[simp] theorem onMgmt_gate (s : State) (g : Mgmt → Mgmt) : (s.onMgmt g).gate = s.gate := rfl
@[simp] theorem onMgmt_fen (s : State) (g : Mgmt → Mgmt) : (s.onMgmt g).fen = s.fen := rfl
@[simp] theorem onMgmt_gw (s : State) (g : Mgmt → Mgmt) : (s.onMgmt g).gw = s.gw := rfl
@[simp] theorem onMgmt_opt (s : State) (g : Mgmt → Mgmt) : (s.onMgmt g).opt = s.opt := rfl
@[simp] theorem onMgmt_eng (s : State) (g : Mgmt → Mgmt) : (s.onMgmt g).eng = s.eng := rfl
@[simp] theorem onMgmt_svc (s : State) (g : Mgmt → Mgmt) : (s.onMgmt g).svc = s.svc := rfl
@[simp] theorem onMgmt_red (s : State) (g : Mgmt → Mgmt) : (s.onMgmt g).red = s.red := rfl
@[simp] theorem onMgmt_cmn (s : State) (g : Mgmt → Mgmt) : (s.onMgmt g).cmn = s.cmn := rfl
@[simp] theorem onMgmt_prom (s : State) (g : Mgmt → Mgmt) : (s.onMgmt g).prom = s.prom := rfl
@[simp] theorem onMgmt_pwr (s : State) (g : Mgmt → Mgmt) : (s.onMgmt g).pwr = s.pwr := rfl
@[simp] theorem onMgmt_chip (s : State) (g : Mgmt → Mgmt) : (s.onMgmt g).chip = s.chip := rfl
@[simp] theorem onMgmt_out (s : State) (g : Mgmt → Mgmt) : (s.onMgmt g).out = s.out := rfl
@[simp] theorem onMgmt_freeCtr (s : State) (g : Mgmt → Mgmt) : (s.onMgmt g).freeCtr = s.freeCtr := rfl
@[simp] theorem rd_onMgmt (s : State) (g : Mgmt → Mgmt) (a : Fld) (b : Nat) : (s.onMgmt g).rd a b = s.rd a b := rfl

/-! onAcc -/

@[simp] theorem onAcc_pending (s : State) (g : Acc → Acc) : (s.onAcc g).pending = s.pending := rfl
@[simp] theorem onAcc_tb (s : State) (g : Acc → Acc) : (s.onAcc g).tb = s.tb := rfl
@[simp] theorem onAcc_i3c (s : State) (g : Acc → Acc) : (s.onAcc g).i3c = s.i3c := rfl
@[simp] theorem onAcc_jtag (s : State) (g : Acc → Acc) : (s.onAcc g).jtag = s.jtag := rfl
@[simp] theorem onAcc_regs (s : State) (g : Acc → Acc) : (s.onAcc g).regs = s.regs := rfl
@[simp] theorem onAcc_off (s : State) (g : Acc → Acc) : (s.onAcc g).off = s.off := rfl
@[simp] theorem onAcc_started (s : State) (g : Acc → Acc) : (s.onAcc g).started = s.started := rfl
@[simp] theorem onAcc_fw (s : State) (g : Acc → Acc) : (s.onAcc g).fw = s.fw := rfl
@[simp] theorem onAcc_acc (s : State) (g : Acc → Acc) : (s.onAcc g).acc = g s.acc := rfl
@[simp] theorem onAcc_tel (s : State) (g : Acc → Acc) : (s.onAcc g).tel = s.tel := rfl
@[simp] theorem onAcc_mgmt (s : State) (g : Acc → Acc) : (s.onAcc g).mgmt = s.mgmt := rfl
@[simp] theorem onAcc_flash (s : State) (g : Acc → Acc) : (s.onAcc g).flash = s.flash := rfl
@[simp] theorem onAcc_sw (s : State) (g : Acc → Acc) : (s.onAcc g).sw = s.sw := rfl
@[simp] theorem onAcc_tab (s : State) (g : Acc → Acc) : (s.onAcc g).tab = s.tab := rfl
@[simp] theorem onAcc_ports (s : State) (g : Acc → Acc) : (s.onAcc g).ports = s.ports := rfl
@[simp] theorem onAcc_gate (s : State) (g : Acc → Acc) : (s.onAcc g).gate = s.gate := rfl
@[simp] theorem onAcc_fen (s : State) (g : Acc → Acc) : (s.onAcc g).fen = s.fen := rfl
@[simp] theorem onAcc_gw (s : State) (g : Acc → Acc) : (s.onAcc g).gw = s.gw := rfl
@[simp] theorem onAcc_opt (s : State) (g : Acc → Acc) : (s.onAcc g).opt = s.opt := rfl
@[simp] theorem onAcc_eng (s : State) (g : Acc → Acc) : (s.onAcc g).eng = s.eng := rfl
@[simp] theorem onAcc_svc (s : State) (g : Acc → Acc) : (s.onAcc g).svc = s.svc := rfl
@[simp] theorem onAcc_red (s : State) (g : Acc → Acc) : (s.onAcc g).red = s.red := rfl
@[simp] theorem onAcc_cmn (s : State) (g : Acc → Acc) : (s.onAcc g).cmn = s.cmn := rfl
@[simp] theorem onAcc_prom (s : State) (g : Acc → Acc) : (s.onAcc g).prom = s.prom := rfl
@[simp] theorem onAcc_pwr (s : State) (g : Acc → Acc) : (s.onAcc g).pwr = s.pwr := rfl
@[simp] theorem onAcc_chip (s : State) (g : Acc → Acc) : (s.onAcc g).chip = s.chip := rfl
@[simp] theorem onAcc_out (s : State) (g : Acc → Acc) : (s.onAcc g).out = s.out := rfl
@[simp] theorem onAcc_freeCtr (s : State) (g : Acc → Acc) : (s.onAcc g).freeCtr = s.freeCtr := rfl
@[simp] theorem rd_onAcc (s : State) (g : Acc → Acc) (a : Fld) (b : Nat) : (s.onAcc g).rd a b = s.rd a b := rfl

/-! onOpt -/

@[simp] theorem onOpt_pending (s : State) (g : Opt → Opt) : (s.onOpt g).pending = s.pending := rfl
@[simp] theorem onOpt_tb (s : State) (g : Opt → Opt) : (s.onOpt g).tb = s.tb := rfl
@[simp] theorem onOpt_i3c (s : State) (g : Opt → Opt) : (s.onOpt g).i3c = s.i3c := rfl
@[simp] theorem onOpt_jtag (s : State) (g : Opt → Opt) : (s.onOpt g).jtag = s.jtag := rfl
@[simp] theorem onOpt_regs (s : State) (g : Opt → Opt) : (s.onOpt g).regs = s.regs := rfl
@[simp] theorem onOpt_off (s : State) (g : Opt → Opt) : (s.onOpt g).off = s.off := rfl
@[simp] theorem onOpt_started (s : State) (g : Opt → Opt) : (s.onOpt g).started = s.started := rfl
@[simp] theorem onOpt_fw (s : State) (g : Opt → Opt) : (s.onOpt g).fw = s.fw := rfl
@[simp] theorem onOpt_acc (s : State) (g : Opt → Opt) : (s.onOpt g).acc = s.acc := rfl
@[simp] theorem onOpt_tel (s : State) (g : Opt → Opt) : (s.onOpt g).tel = s.tel := rfl
@[simp] theorem onOpt_mgmt (s : State) (g : Opt → Opt) : (s.onOpt g).mgmt = s.mgmt := rfl
@[simp] theorem onOpt_flash (s : State) (g : Opt → Opt) : (s.onOpt g).flash = s.flash := rfl
@[simp] theorem onOpt_sw (s : State) (g : Opt → Opt) : (s.onOpt g).sw = s.sw := rfl
@[simp] theorem onOpt_tab (s : State) (g : Opt → Opt) : (s.onOpt g).tab = s.tab := rfl
@[simp] theorem onOpt_ports (s : State) (g : Opt → Opt) : (s.onOpt g).ports = s.ports := rfl
@[simp] theorem onOpt_gate (s : State) (g : Opt → Opt) : (s.onOpt g).gate = s.gate := rfl
@[simp] theorem onOpt_fen (s : State) (g : Opt → Opt) : (s.onOpt g).fen = s.fen := rfl
@[simp] theorem onOpt_gw (s : State) (g : Opt → Opt) : (s.onOpt g).gw = s.gw := rfl
@[simp] theorem onOpt_opt (s : State) (g : Opt → Opt) : (s.onOpt g).opt = g s.opt := rfl
@[simp] theorem onOpt_eng (s : State) (g : Opt → Opt) : (s.onOpt g).eng = s.eng := rfl
@[simp] theorem onOpt_svc (s : State) (g : Opt → Opt) : (s.onOpt g).svc = s.svc := rfl
@[simp] theorem onOpt_red (s : State) (g : Opt → Opt) : (s.onOpt g).red = s.red := rfl
@[simp] theorem onOpt_cmn (s : State) (g : Opt → Opt) : (s.onOpt g).cmn = s.cmn := rfl
@[simp] theorem onOpt_prom (s : State) (g : Opt → Opt) : (s.onOpt g).prom = s.prom := rfl
@[simp] theorem onOpt_pwr (s : State) (g : Opt → Opt) : (s.onOpt g).pwr = s.pwr := rfl
@[simp] theorem onOpt_chip (s : State) (g : Opt → Opt) : (s.onOpt g).chip = s.chip := rfl
@[simp] theorem onOpt_out (s : State) (g : Opt → Opt) : (s.onOpt g).out = s.out := rfl
@[simp] theorem onOpt_freeCtr (s : State) (g : Opt → Opt) : (s.onOpt g).freeCtr = s.freeCtr := rfl
@[simp] theorem rd_onOpt (s : State) (g : Opt → Opt) (a : Fld) (b : Nat) : (s.onOpt g).rd a b = s.rd a b := rfl

/-! onPorts -/

@[simp] theorem onPorts_pending (s : State) (g : Ports → Ports) : (s.onPorts g).pending = s.pending := rfl
@[simp] theorem onPorts_tb (s : State) (g : Ports → Ports) : (s.onPorts g).tb = s.tb := rfl
@[simp] theorem onPorts_i3c (s : State) (g : Ports → Ports) : (s.onPorts g).i3c = s.i3c := rfl
@[simp] theorem onPorts_jtag (s : State) (g : Ports → Ports) : (s.onPorts g).jtag = s.jtag := rfl
@[simp] theorem onPorts_regs (s : State) (g : Ports → Ports) : (s.onPorts g).regs = s.regs := rfl
@[simp] theorem onPorts_off (s : State) (g : Ports → Ports) : (s.onPorts g).off = s.off := rfl
@[simp] theorem onPorts_started (s : State) (g : Ports → Ports) : (s.onPorts g).started = s.started := rfl
@[simp] theorem onPorts_fw (s : State) (g : Ports → Ports) : (s.onPorts g).fw = s.fw := rfl
@[simp] theorem onPorts_acc (s : State) (g : Ports → Ports) : (s.onPorts g).acc = s.acc := rfl
@[simp] theorem onPorts_tel (s : State) (g : Ports → Ports) : (s.onPorts g).tel = s.tel := rfl
@[simp] theorem onPorts_mgmt (s : State) (g : Ports → Ports) : (s.onPorts g).mgmt = s.mgmt := rfl
@[simp] theorem onPorts_flash (s : State) (g : Ports → Ports) : (s.onPorts g).flash = s.flash := rfl
@[simp] theorem onPorts_sw (s : State) (g : Ports → Ports) : (s.onPorts g).sw = s.sw := rfl
@[simp] theorem onPorts_tab (s : State) (g : Ports → Ports) : (s.onPorts g).tab = s.tab := rfl
@[simp] theorem onPorts_ports (s : State) (g : Ports → Ports) : (s.onPorts g).ports = g s.ports := rfl
@[simp] theorem onPorts_gate (s : State) (g : Ports → Ports) : (s.onPorts g).gate = s.gate := rfl
@[simp] theorem onPorts_fen (s : State) (g : Ports → Ports) : (s.onPorts g).fen = s.fen := rfl
@[simp] theorem onPorts_gw (s : State) (g : Ports → Ports) : (s.onPorts g).gw = s.gw := rfl
@[simp] theorem onPorts_opt (s : State) (g : Ports → Ports) : (s.onPorts g).opt = s.opt := rfl
@[simp] theorem onPorts_eng (s : State) (g : Ports → Ports) : (s.onPorts g).eng = s.eng := rfl
@[simp] theorem onPorts_svc (s : State) (g : Ports → Ports) : (s.onPorts g).svc = s.svc := rfl
@[simp] theorem onPorts_red (s : State) (g : Ports → Ports) : (s.onPorts g).red = s.red := rfl
@[simp] theorem onPorts_cmn (s : State) (g : Ports → Ports) : (s.onPorts g).cmn = s.cmn := rfl
@[simp] theorem onPorts_prom (s : State) (g : Ports → Ports) : (s.onPorts g).prom = s.prom := rfl
@[simp] theorem onPorts_pwr (s : State) (g : Ports → Ports) : (s.onPorts g).pwr = s.pwr := rfl
@[simp] theorem onPorts_chip (s : State) (g : Ports → Ports) : (s.onPorts g).chip = s.chip := rfl
@[simp] theorem onPorts_out (s : State) (g : Ports → Ports) : (s.onPorts g).out = s.out := rfl
@[simp] theorem onPorts_freeCtr (s : State) (g : Ports → Ports) : (s.onPorts g).freeCtr = s.freeCtr := rfl
@[simp] theorem rd_onPorts (s : State) (g : Ports → Ports) (a : Fld) (b : Nat) : (s.onPorts g).rd a b = s.rd a b := rfl

/-! onPwr -/

@[simp] theorem onPwr_pending (s : State) (g : Pwr → Pwr) : (s.onPwr g).pending = s.pending := rfl
@[simp] theorem onPwr_tb (s : State) (g : Pwr → Pwr) : (s.onPwr g).tb = s.tb := rfl
@[simp] theorem onPwr_i3c (s : State) (g : Pwr → Pwr) : (s.onPwr g).i3c = s.i3c := rfl
@[simp] theorem onPwr_jtag (s : State) (g : Pwr → Pwr) : (s.onPwr g).jtag = s.jtag := rfl
@[simp] theorem onPwr_regs (s : State) (g : Pwr → Pwr) : (s.onPwr g).regs = s.regs := rfl
@[simp] theorem onPwr_off (s : State) (g : Pwr → Pwr) : (s.onPwr g).off = s.off := rfl
@[simp] theorem onPwr_started (s : State) (g : Pwr → Pwr) : (s.onPwr g).started = s.started := rfl
@[simp] theorem onPwr_fw (s : State) (g : Pwr → Pwr) : (s.onPwr g).fw = s.fw := rfl
@[simp] theorem onPwr_acc (s : State) (g : Pwr → Pwr) : (s.onPwr g).acc = s.acc := rfl
@[simp] theorem onPwr_tel (s : State) (g : Pwr → Pwr) : (s.onPwr g).tel = s.tel := rfl
@[simp] theorem onPwr_mgmt (s : State) (g : Pwr → Pwr) : (s.onPwr g).mgmt = s.mgmt := rfl
@[simp] theorem onPwr_flash (s : State) (g : Pwr → Pwr) : (s.onPwr g).flash = s.flash := rfl
@[simp] theorem onPwr_sw (s : State) (g : Pwr → Pwr) : (s.onPwr g).sw = s.sw := rfl
@[simp] theorem onPwr_tab (s : State) (g : Pwr → Pwr) : (s.onPwr g).tab = s.tab := rfl
@[simp] theorem onPwr_ports (s : State) (g : Pwr → Pwr) : (s.onPwr g).ports = s.ports := rfl
@[simp] theorem onPwr_gate (s : State) (g : Pwr → Pwr) : (s.onPwr g).gate = s.gate := rfl
@[simp] theorem onPwr_fen (s : State) (g : Pwr → Pwr) : (s.onPwr g).fen = s.fen := rfl
@[simp] theorem onPwr_gw (s : State) (g : Pwr → Pwr) : (s.onPwr g).gw = s.gw := rfl
@[simp] theorem onPwr_opt (s : State) (g : Pwr → Pwr) : (s.onPwr g).opt = s.opt := rfl
@[simp] theorem onPwr_eng (s : State) (g : Pwr → Pwr) : (s.onPwr g).eng = s.eng := rfl
@[simp] theorem onPwr_svc (s : State) (g : Pwr → Pwr) : (s.onPwr g).svc = s.svc := rfl
@[simp] theorem onPwr_red (s : State) (g : Pwr → Pwr) : (s.onPwr g).red = s.red := rfl
@[simp] theorem onPwr_cmn (s : State) (g : Pwr → Pwr) : (s.onPwr g).cmn = s.cmn := rfl
@[simp] theorem onPwr_prom (s : State) (g : Pwr → Pwr) : (s.onPwr g).prom = s.prom := rfl
@[simp] theorem onPwr_pwr (s : State) (g : Pwr → Pwr) : (s.onPwr g).pwr = g s.pwr := rfl
@[simp] theorem onPwr_chip (s : State) (g : Pwr → Pwr) : (s.onPwr g).chip = s.chip := rfl
@[simp] theorem onPwr_out (s : State) (g : Pwr → Pwr) : (s.onPwr g).out = s.out := rfl
@[simp] theorem onPwr_freeCtr (s : State) (g : Pwr → Pwr) : (s.onPwr g).freeCtr = s.freeCtr := rfl
@[simp] theorem rd_onPwr (s : State) (g : Pwr → Pwr) (a : Fld) (b : Nat) : (s.onPwr g).rd a b = s.rd a b := rfl

/-! onProm -/

@[simp] theorem onProm_pending (s : State) (g : Prom → Prom) : (s.onProm g).pending = s.pending := rfl
@[simp] theorem onProm_tb (s : State) (g : Prom → Prom) : (s.onProm g).tb = s.tb := rfl
@[simp] theorem onProm_i3c (s : State) (g : Prom → Prom) : (s.onProm g).i3c = s.i3c := rfl
@[simp] theorem onProm_jtag (s : State) (g : Prom → Prom) : (s.onProm g).jtag = s.jtag := rfl
@[simp] theorem onProm_regs (s : State) (g : Prom → Prom) : (s.onProm g).regs = s.regs := rfl
@[simp] theorem onProm_off (s : State) (g : Prom → Prom) : (s.onProm g).off = s.off := rfl
@[simp] theorem onProm_started (s : State) (g : Prom → Prom) : (s.onProm g).started = s.started := rfl
@[simp] theorem onProm_fw (s : State) (g : Prom → Prom) : (s.onProm g).fw = s.fw := rfl
@[simp] theorem onProm_acc (s : State) (g : Prom → Prom) : (s.onProm g).acc = s.acc := rfl
@[simp] theorem onProm_tel (s : State) (g : Prom → Prom) : (s.onProm g).tel = s.tel := rfl
@[simp] theorem onProm_mgmt (s : State) (g : Prom → Prom) : (s.onProm g).mgmt = s.mgmt := rfl
@[simp] theorem onProm_flash (s : State) (g : Prom → Prom) : (s.onProm g).flash = s.flash := rfl
@[simp] theorem onProm_sw (s : State) (g : Prom → Prom) : (s.onProm g).sw = s.sw := rfl
@[simp] theorem onProm_tab (s : State) (g : Prom → Prom) : (s.onProm g).tab = s.tab := rfl
@[simp] theorem onProm_ports (s : State) (g : Prom → Prom) : (s.onProm g).ports = s.ports := rfl
@[simp] theorem onProm_gate (s : State) (g : Prom → Prom) : (s.onProm g).gate = s.gate := rfl
@[simp] theorem onProm_fen (s : State) (g : Prom → Prom) : (s.onProm g).fen = s.fen := rfl
@[simp] theorem onProm_gw (s : State) (g : Prom → Prom) : (s.onProm g).gw = s.gw := rfl
@[simp] theorem onProm_opt (s : State) (g : Prom → Prom) : (s.onProm g).opt = s.opt := rfl
@[simp] theorem onProm_eng (s : State) (g : Prom → Prom) : (s.onProm g).eng = s.eng := rfl
@[simp] theorem onProm_svc (s : State) (g : Prom → Prom) : (s.onProm g).svc = s.svc := rfl
@[simp] theorem onProm_red (s : State) (g : Prom → Prom) : (s.onProm g).red = s.red := rfl
@[simp] theorem onProm_cmn (s : State) (g : Prom → Prom) : (s.onProm g).cmn = s.cmn := rfl
@[simp] theorem onProm_prom (s : State) (g : Prom → Prom) : (s.onProm g).prom = g s.prom := rfl
@[simp] theorem onProm_pwr (s : State) (g : Prom → Prom) : (s.onProm g).pwr = s.pwr := rfl
@[simp] theorem onProm_chip (s : State) (g : Prom → Prom) : (s.onProm g).chip = s.chip := rfl
@[simp] theorem onProm_out (s : State) (g : Prom → Prom) : (s.onProm g).out = s.out := rfl
@[simp] theorem onProm_freeCtr (s : State) (g : Prom → Prom) : (s.onProm g).freeCtr = s.freeCtr := rfl
@[simp] theorem rd_onProm (s : State) (g : Prom → Prom) (a : Fld) (b : Nat) : (s.onProm g).rd a b = s.rd a b := rfl

/-! onI3c -/

@[simp] theorem onI3c_pending (s : State) (g : I3c → I3c) : (s.onI3c g).pending = s.pending := rfl
@[simp] theorem onI3c_tb (s : State) (g : I3c → I3c) : (s.onI3c g).tb = s.tb := rfl
@[simp] theorem onI3c_i3c (s : State) (g : I3c → I3c) : (s.onI3c g).i3c = g s.i3c := rfl
@[simp] theorem onI3c_jtag (s : State) (g : I3c → I3c) : (s.onI3c g).jtag = s.jtag := rfl
@[simp] theorem onI3c_regs (s : State) (g : I3c → I3c) : (s.onI3c g).regs = s.regs := rfl
@[simp] theorem onI3c_off (s : State) (g : I3c → I3c) : (s.onI3c g).off = s.off := rfl
@[simp] theorem onI3c_started (s : State) (g : I3c → I3c) : (s.onI3c g).started = s.started := rfl
@[simp] theorem onI3c_fw (s : State) (g : I3c → I3c) : (s.onI3c g).fw = s.fw := rfl
@[simp] theorem onI3c_acc (s : State) (g : I3c → I3c) : (s.onI3c g).acc = s.acc := rfl
@[simp] theorem onI3c_tel (s : State) (g : I3c → I3c) : (s.onI3c g).tel = s.tel := rfl
@[simp] theorem onI3c_mgmt (s : State) (g : I3c → I3c) : (s.onI3c g).mgmt = s.mgmt := rfl
@[simp] theorem onI3c_flash (s : State) (g : I3c → I3c) : (s.onI3c g).flash = s.flash := rfl
@[simp] theorem onI3c_sw (s : State) (g : I3c → I3c) : (s.onI3c g).sw = s.sw := rfl
@[simp] theorem onI3c_tab (s : State) (g : I3c → I3c) : (s.onI3c g).tab = s.tab := rfl
@[simp] theorem onI3c_ports (s : State) (g : I3c → I3c) : (s.onI3c g).ports = s.ports := rfl
@[simp] theorem onI3c_gate (s : State) (g : I3c → I3c) : (s.onI3c g).gate = s.gate := rfl
@[simp] theorem onI3c_fen (s : State) (g : I3c → I3c) : (s.onI3c g).fen = s.fen := rfl
@[simp] theorem onI3c_gw (s : State) (g : I3c → I3c) : (s.onI3c g).gw = s.gw := rfl
@[simp] theorem onI3c_opt (s : State) (g : I3c → I3c) : (s.onI3c g).opt = s.opt := rfl
@[simp] theorem onI3c_eng (s : State) (g : I3c → I3c) : (s.onI3c g).eng = s.eng := rfl
@[simp] theorem onI3c_svc (s : State) (g : I3c → I3c) : (s.onI3c g).svc = s.svc := rfl
@[simp] theorem onI3c_red (s : State) (g : I3c → I3c) : (s.onI3c g).red = s.red := rfl
@[simp] theorem onI3c_cmn (s : State) (g : I3c → I3c) : (s.onI3c g).cmn = s.cmn := rfl
@[simp] theorem onI3c_prom (s : State) (g : I3c → I3c) : (s.onI3c g).prom = s.prom := rfl
@[simp] theorem onI3c_pwr (s : State) (g : I3c → I3c) : (s.onI3c g).pwr = s.pwr := rfl
@[simp] theorem onI3c_chip (s : State) (g : I3c → I3c) : (s.onI3c g).chip = s.chip := rfl
@[simp] theorem onI3c_out (s : State) (g : I3c → I3c) : (s.onI3c g).out = s.out := rfl
@[simp] theorem onI3c_freeCtr (s : State) (g : I3c → I3c) : (s.onI3c g).freeCtr = s.freeCtr := rfl
@[simp] theorem rd_onI3c (s : State) (g : I3c → I3c) (a : Fld) (b : Nat) : (s.onI3c g).rd a b = s.rd a b := rfl

/-! onSvc -/

@[simp] theorem onSvc_pending (s : State) (g : Svc → Svc) : (s.onSvc g).pending = s.pending := rfl
@[simp] theorem onSvc_tb (s : State) (g : Svc → Svc) : (s.onSvc g).tb = s.tb := rfl
@[simp] theorem onSvc_i3c (s : State) (g : Svc → Svc) : (s.onSvc g).i3c = s.i3c := rfl
@[simp] theorem onSvc_jtag (s : State) (g : Svc → Svc) : (s.onSvc g).jtag = s.jtag := rfl
@[simp] theorem onSvc_regs (s : State) (g : Svc → Svc) : (s.onSvc g).regs = s.regs := rfl
@[simp] theorem onSvc_off (s : State) (g : Svc → Svc) : (s.onSvc g).off = s.off := rfl
@[simp] theorem onSvc_started (s : State) (g : Svc → Svc) : (s.onSvc g).started = s.started := rfl
@[simp] theorem onSvc_fw (s : State) (g : Svc → Svc) : (s.onSvc g).fw = s.fw := rfl
@[simp] theorem onSvc_acc (s : State) (g : Svc → Svc) : (s.onSvc g).acc = s.acc := rfl
@[simp] theorem onSvc_tel (s : State) (g : Svc → Svc) : (s.onSvc g).tel = s.tel := rfl
@[simp] theorem onSvc_mgmt (s : State) (g : Svc → Svc) : (s.onSvc g).mgmt = s.mgmt := rfl
@[simp] theorem onSvc_flash (s : State) (g : Svc → Svc) : (s.onSvc g).flash = s.flash := rfl
@[simp] theorem onSvc_sw (s : State) (g : Svc → Svc) : (s.onSvc g).sw = s.sw := rfl
@[simp] theorem onSvc_tab (s : State) (g : Svc → Svc) : (s.onSvc g).tab = s.tab := rfl
@[simp] theorem onSvc_ports (s : State) (g : Svc → Svc) : (s.onSvc g).ports = s.ports := rfl
@[simp] theorem onSvc_gate (s : State) (g : Svc → Svc) : (s.onSvc g).gate = s.gate := rfl
@[simp] theorem onSvc_fen (s : State) (g : Svc → Svc) : (s.onSvc g).fen = s.fen := rfl
@[simp] theorem onSvc_gw (s : State) (g : Svc → Svc) : (s.onSvc g).gw = s.gw := rfl
@[simp] theorem onSvc_opt (s : State) (g : Svc → Svc) : (s.onSvc g).opt = s.opt := rfl
@[simp] theorem onSvc_eng (s : State) (g : Svc → Svc) : (s.onSvc g).eng = s.eng := rfl
@[simp] theorem onSvc_svc (s : State) (g : Svc → Svc) : (s.onSvc g).svc = g s.svc := rfl
@[simp] theorem onSvc_red (s : State) (g : Svc → Svc) : (s.onSvc g).red = s.red := rfl
@[simp] theorem onSvc_cmn (s : State) (g : Svc → Svc) : (s.onSvc g).cmn = s.cmn := rfl
@[simp] theorem onSvc_prom (s : State) (g : Svc → Svc) : (s.onSvc g).prom = s.prom := rfl
@[simp] theorem onSvc_pwr (s : State) (g : Svc → Svc) : (s.onSvc g).pwr = s.pwr := rfl
@[simp] theorem onSvc_chip (s : State) (g : Svc → Svc) : (s.onSvc g).chip = s.chip := rfl
@[simp] theorem onSvc_out (s : State) (g : Svc → Svc) : (s.onSvc g).out = s.out := rfl
@[simp] theorem onSvc_freeCtr (s : State) (g : Svc → Svc) : (s.onSvc g).freeCtr = s.freeCtr := rfl
@[simp] theorem rd_onSvc (s : State) (g : Svc → Svc) (a : Fld) (b : Nat) : (s.onSvc g).rd a b = s.rd a b := rfl

/-! onEng -/

@[simp] theorem onEng_pending (s : State) (g : Eng → Eng) : (s.onEng g).pending = s.pending := rfl
@[simp] theorem onEng_tb (s : State) (g : Eng → Eng) : (s.onEng g).tb = s.tb := rfl
@[simp] theorem onEng_i3c (s : State) (g : Eng → Eng) : (s.onEng g).i3c = s.i3c := rfl
@[simp] theorem onEng_jtag (s : State) (g : Eng → Eng) : (s.onEng g).jtag = s.jtag := rfl
@[simp] theorem onEng_regs (s : State) (g : Eng → Eng) : (s.onEng g).regs = s.regs := rfl
@[simp] theorem onEng_off (s : State) (g : Eng → Eng) : (s.onEng g).off = s.off := rfl
@[simp] theorem onEng_started (s : State) (g : Eng → Eng) : (s.onEng g).started = s.started := rfl
@[simp] theorem onEng_fw (s : State) (g : Eng → Eng) : (s.onEng g).fw = s.fw := rfl
@[simp] theorem onEng_acc (s : State) (g : Eng → Eng) : (s.onEng g).acc = s.acc := rfl
@[simp] theorem onEng_tel (s : State) (g : Eng → Eng) : (s.onEng g).tel = s.tel := rfl
@[simp] theorem onEng_mgmt (s : State) (g : Eng → Eng) : (s.onEng g).mgmt = s.mgmt := rfl
@[simp] theorem onEng_flash (s : State) (g : Eng → Eng) : (s.onEng g).flash = s.flash := rfl
@[simp] theorem onEng_sw (s : State) (g : Eng → Eng) : (s.onEng g).sw = s.sw := rfl
@[simp] theorem onEng_tab (s : State) (g : Eng → Eng) : (s.onEng g).tab = s.tab := rfl
@[simp] theorem onEng_ports (s : State) (g : Eng → Eng) : (s.onEng g).ports = s.ports := rfl
@[simp] theorem onEng_gate (s : State) (g : Eng → Eng) : (s.onEng g).gate = s.gate := rfl
@[simp] theorem onEng_fen (s : State) (g : Eng → Eng) : (s.onEng g).fen = s.fen := rfl
@[simp] theorem onEng_gw (s : State) (g : Eng → Eng) : (s.onEng g).gw = s.gw := rfl
@[simp] theorem onEng_opt (s : State) (g : Eng → Eng) : (s.onEng g).opt = s.opt := rfl
@[simp] theorem onEng_eng (s : State) (g : Eng → Eng) : (s.onEng g).eng = g s.eng := rfl
@[simp] theorem onEng_svc (s : State) (g : Eng → Eng) : (s.onEng g).svc = s.svc := rfl
@[simp] theorem onEng_red (s : State) (g : Eng → Eng) : (s.onEng g).red = s.red := rfl
@[simp] theorem onEng_cmn (s : State) (g : Eng → Eng) : (s.onEng g).cmn = s.cmn := rfl
@[simp] theorem onEng_prom (s : State) (g : Eng → Eng) : (s.onEng g).prom = s.prom := rfl
@[simp] theorem onEng_pwr (s : State) (g : Eng → Eng) : (s.onEng g).pwr = s.pwr := rfl
@[simp] theorem onEng_chip (s : State) (g : Eng → Eng) : (s.onEng g).chip = s.chip := rfl
@[simp] theorem onEng_out (s : State) (g : Eng → Eng) : (s.onEng g).out = s.out := rfl
@[simp] theorem onEng_freeCtr (s : State) (g : Eng → Eng) : (s.onEng g).freeCtr = s.freeCtr := rfl
@[simp] theorem rd_onEng (s : State) (g : Eng → Eng) (a : Fld) (b : Nat) : (s.onEng g).rd a b = s.rd a b := rfl

/-! onSw -/

@[simp] theorem onSw_pending (s : State) (g : Sw → Sw) : (s.onSw g).pending = s.pending := rfl
@[simp] theorem onSw_tb (s : State) (g : Sw → Sw) : (s.onSw g).tb = s.tb := rfl
@[simp] theorem onSw_i3c (s : State) (g : Sw → Sw) : (s.onSw g).i3c = s.i3c := rfl
@[simp] theorem onSw_jtag (s : State) (g : Sw → Sw) : (s.onSw g).jtag = s.jtag := rfl
@[simp] theorem onSw_regs (s : State) (g : Sw → Sw) : (s.onSw g).regs = s.regs := rfl
@[simp] theorem onSw_off (s : State) (g : Sw → Sw) : (s.onSw g).off = s.off := rfl
@[simp] theorem onSw_started (s : State) (g : Sw → Sw) : (s.onSw g).started = s.started := rfl
@[simp] theorem onSw_fw (s : State) (g : Sw → Sw) : (s.onSw g).fw = s.fw := rfl
@[simp] theorem onSw_acc (s : State) (g : Sw → Sw) : (s.onSw g).acc = s.acc := rfl
@[simp] theorem onSw_tel (s : State) (g : Sw → Sw) : (s.onSw g).tel = s.tel := rfl
@[simp] theorem onSw_mgmt (s : State) (g : Sw → Sw) : (s.onSw g).mgmt = s.mgmt := rfl
@[simp] theorem onSw_flash (s : State) (g : Sw → Sw) : (s.onSw g).flash = s.flash := rfl
@[simp] theorem onSw_sw (s : State) (g : Sw → Sw) : (s.onSw g).sw = g s.sw := rfl
@[simp] theorem onSw_tab (s : State) (g : Sw → Sw) : (s.onSw g).tab = s.tab := rfl
@[simp] theorem onSw_ports (s : State) (g : Sw → Sw) : (s.onSw g).ports = s.ports := rfl
@[simp] theorem onSw_gate (s : State) (g : Sw → Sw) : (s.onSw g).gate = s.gate := rfl
@[simp] theorem onSw_fen (s : State) (g : Sw → Sw) : (s.onSw g).fen = s.fen := rfl
@[simp] theorem onSw_gw (s : State) (g : Sw → Sw) : (s.onSw g).gw = s.gw := rfl
@[simp] theorem onSw_opt (s : State) (g : Sw → Sw) : (s.onSw g).opt = s.opt := rfl
@[simp] theorem onSw_eng (s : State) (g : Sw → Sw) : (s.onSw g).eng = s.eng := rfl
@[simp] theorem onSw_svc (s : State) (g : Sw → Sw) : (s.onSw g).svc = s.svc := rfl
@[simp] theorem onSw_red (s : State) (g : Sw → Sw) : (s.onSw g).red = s.red := rfl
@[simp] theorem onSw_cmn (s : State) (g : Sw → Sw) : (s.onSw g).cmn = s.cmn := rfl
@[simp] theorem onSw_prom (s : State) (g : Sw → Sw) : (s.onSw g).prom = s.prom := rfl
@[simp] theorem onSw_pwr (s : State) (g : Sw → Sw) : (s.onSw g).pwr = s.pwr := rfl
@[simp] theorem onSw_chip (s : State) (g : Sw → Sw) : (s.onSw g).chip = s.chip := rfl
@[simp] theorem onSw_out (s : State) (g : Sw → Sw) : (s.onSw g).out = s.out := rfl
@[simp] theorem onSw_freeCtr (s : State) (g : Sw → Sw) : (s.onSw g).freeCtr = s.freeCtr := rfl
@[simp] theorem rd_onSw (s : State) (g : Sw → Sw) (a : Fld) (b : Nat) : (s.onSw g).rd a b = s.rd a b := rfl

/-! onTab -/

@[simp] theorem onTab_pending (s : State) (g : Tab → Tab) : (s.onTab g).pending = s.pending := rfl
@[simp] theorem onTab_tb (s : State) (g : Tab → Tab) : (s.onTab g).tb = s.tb := rfl
@[simp] theorem onTab_i3c (s : State) (g : Tab → Tab) : (s.onTab g).i3c = s.i3c := rfl
@[simp] theorem onTab_jtag (s : State) (g : Tab → Tab) : (s.onTab g).jtag = s.jtag := rfl
@[simp] theorem onTab_regs (s : State) (g : Tab → Tab) : (s.onTab g).regs = s.regs := rfl
@[simp] theorem onTab_off (s : State) (g : Tab → Tab) : (s.onTab g).off = s.off := rfl
@[simp] theorem onTab_started (s : State) (g : Tab → Tab) : (s.onTab g).started = s.started := rfl
@[simp] theorem onTab_fw (s : State) (g : Tab → Tab) : (s.onTab g).fw = s.fw := rfl
@[simp] theorem onTab_acc (s : State) (g : Tab → Tab) : (s.onTab g).acc = s.acc := rfl
@[simp] theorem onTab_tel (s : State) (g : Tab → Tab) : (s.onTab g).tel = s.tel := rfl
@[simp] theorem onTab_mgmt (s : State) (g : Tab → Tab) : (s.onTab g).mgmt = s.mgmt := rfl
@[simp] theorem onTab_flash (s : State) (g : Tab → Tab) : (s.onTab g).flash = s.flash := rfl
@[simp] theorem onTab_sw (s : State) (g : Tab → Tab) : (s.onTab g).sw = s.sw := rfl
@[simp] theorem onTab_tab (s : State) (g : Tab → Tab) : (s.onTab g).tab = g s.tab := rfl
@[simp] theorem onTab_ports (s : State) (g : Tab → Tab) : (s.onTab g).ports = s.ports := rfl
@[simp] theorem onTab_gate (s : State) (g : Tab → Tab) : (s.onTab g).gate = s.gate := rfl
@[simp] theorem onTab_fen (s : State) (g : Tab → Tab) : (s.onTab g).fen = s.fen := rfl
@[simp] theorem onTab_gw (s : State) (g : Tab → Tab) : (s.onTab g).gw = s.gw := rfl
@[simp] theorem onTab_opt (s : State) (g : Tab → Tab) : (s.onTab g).opt = s.opt := rfl
@[simp] theorem onTab_eng (s : State) (g : Tab → Tab) : (s.onTab g).eng = s.eng := rfl
@[simp] theorem onTab_svc (s : State) (g : Tab → Tab) : (s.onTab g).svc = s.svc := rfl
@[simp] theorem onTab_red (s : State) (g : Tab → Tab) : (s.onTab g).red = s.red := rfl
@[simp] theorem onTab_cmn (s : State) (g : Tab → Tab) : (s.onTab g).cmn = s.cmn := rfl
@[simp] theorem onTab_prom (s : State) (g : Tab → Tab) : (s.onTab g).prom = s.prom := rfl
@[simp] theorem onTab_pwr (s : State) (g : Tab → Tab) : (s.onTab g).pwr = s.pwr := rfl
@[simp] theorem onTab_chip (s : State) (g : Tab → Tab) : (s.onTab g).chip = s.chip := rfl
@[simp] theorem onTab_out (s : State) (g : Tab → Tab) : (s.onTab g).out = s.out := rfl
@[simp] theorem onTab_freeCtr (s : State) (g : Tab → Tab) : (s.onTab g).freeCtr = s.freeCtr := rfl
@[simp] theorem rd_onTab (s : State) (g : Tab → Tab) (a : Fld) (b : Nat) : (s.onTab g).rd a b = s.rd a b := rfl

/-! onTel -/

@[simp] theorem onTel_pending (s : State) (g : Tel → Tel) : (s.onTel g).pending = s.pending := rfl
@[simp] theorem onTel_tb (s : State) (g : Tel → Tel) : (s.onTel g).tb = s.tb := rfl
@[simp] theorem onTel_i3c (s : State) (g : Tel → Tel) : (s.onTel g).i3c = s.i3c := rfl
@[simp] theorem onTel_jtag (s : State) (g : Tel → Tel) : (s.onTel g).jtag = s.jtag := rfl
@[simp] theorem onTel_regs (s : State) (g : Tel → Tel) : (s.onTel g).regs = s.regs := rfl
@[simp] theorem onTel_off (s : State) (g : Tel → Tel) : (s.onTel g).off = s.off := rfl
@[simp] theorem onTel_started (s : State) (g : Tel → Tel) : (s.onTel g).started = s.started := rfl
@[simp] theorem onTel_fw (s : State) (g : Tel → Tel) : (s.onTel g).fw = s.fw := rfl
@[simp] theorem onTel_acc (s : State) (g : Tel → Tel) : (s.onTel g).acc = s.acc := rfl
@[simp] theorem onTel_tel (s : State) (g : Tel → Tel) : (s.onTel g).tel = g s.tel := rfl
@[simp] theorem onTel_mgmt (s : State) (g : Tel → Tel) : (s.onTel g).mgmt = s.mgmt := rfl
@[simp] theorem onTel_flash (s : State) (g : Tel → Tel) : (s.onTel g).flash = s.flash := rfl
@[simp] theorem onTel_sw (s : State) (g : Tel → Tel) : (s.onTel g).sw = s.sw := rfl
@[simp] theorem onTel_tab (s : State) (g : Tel → Tel) : (s.onTel g).tab = s.tab := rfl
@[simp] theorem onTel_ports (s : State) (g : Tel → Tel) : (s.onTel g).ports = s.ports := rfl
@[simp] theorem onTel_gate (s : State) (g : Tel → Tel) : (s.onTel g).gate = s.gate := rfl
@[simp] theorem onTel_fen (s : State) (g : Tel → Tel) : (s.onTel g).fen = s.fen := rfl
@[simp] theorem onTel_gw (s : State) (g : Tel → Tel) : (s.onTel g).gw = s.gw := rfl
@[simp] theorem onTel_opt (s : State) (g : Tel → Tel) : (s.onTel g).opt = s.opt := rfl
@[simp] theorem onTel_eng (s : State) (g : Tel → Tel) : (s.onTel g).eng = s.eng := rfl
@[simp] theorem onTel_svc (s : State) (g : Tel → Tel) : (s.onTel g).svc = s.svc := rfl
@[simp] theorem onTel_red (s : State) (g : Tel → Tel) : (s.onTel g).red = s.red := rfl
@[simp] theorem onTel_cmn (s : State) (g : Tel → Tel) : (s.onTel g).cmn = s.cmn := rfl
@[simp] theorem onTel_prom (s : State) (g : Tel → Tel) : (s.onTel g).prom = s.prom := rfl
@[simp] theorem onTel_pwr (s : State) (g : Tel → Tel) : (s.onTel g).pwr = s.pwr := rfl
@[simp] theorem onTel_chip (s : State) (g : Tel → Tel) : (s.onTel g).chip = s.chip := rfl
@[simp] theorem onTel_out (s : State) (g : Tel → Tel) : (s.onTel g).out = s.out := rfl
@[simp] theorem onTel_freeCtr (s : State) (g : Tel → Tel) : (s.onTel g).freeCtr = s.freeCtr := rfl
@[simp] theorem rd_onTel (s : State) (g : Tel → Tel) (a : Fld) (b : Nat) : (s.onTel g).rd a b = s.rd a b := rfl

@[simp] theorem emit_out (s : State) (o : Output) : (s.emit o).out = o :: s.out := rfl
@[simp] theorem free_fst (s : State) (tag n : Nat) : (s.free tag n).1 = Config.freeNat tag s.freeCtr % n := rfl

/-! when -/

@[simp] theorem when_pending (s : State) (c : Bool) (g : State → State) : (s.when c g).pending = if c then (g s).pending else s.pending := by cases c <;> rfl
@[simp] theorem when_tb (s : State) (c : Bool) (g : State → State) : (s.when c g).tb = if c then (g s).tb else s.tb := by cases c <;> rfl
@[simp] theorem when_i3c (s : State) (c : Bool) (g : State → State) : (s.when c g).i3c = if c then (g s).i3c else s.i3c := by cases c <;> rfl
@[simp] theorem when_jtag (s : State) (c : Bool) (g : State → State) : (s.when c g).jtag = if c then (g s).jtag else s.jtag := by cases c <;> rfl
@[simp] theorem when_regs (s : State) (c : Bool) (g : State → State) : (s.when c g).regs = if c then (g s).regs else s.regs := by cases c <;> rfl
@[simp] theorem when_off (s : State) (c : Bool) (g : State → State) : (s.when c g).off = if c then (g s).off else s.off := by cases c <;> rfl
@[simp] theorem when_started (s : State) (c : Bool) (g : State → State) : (s.when c g).started = if c then (g s).started else s.started := by cases c <;> rfl
@[simp] theorem when_fw (s : State) (c : Bool) (g : State → State) : (s.when c g).fw = if c then (g s).fw else s.fw := by cases c <;> rfl
@[simp] theorem when_acc (s : State) (c : Bool) (g : State → State) : (s.when c g).acc = if c then (g s).acc else s.acc := by cases c <;> rfl
@[simp] theorem when_tel (s : State) (c : Bool) (g : State → State) : (s.when c g).tel = if c then (g s).tel else s.tel := by cases c <;> rfl
@[simp] theorem when_mgmt (s : State) (c : Bool) (g : State → State) : (s.when c g).mgmt = if c then (g s).mgmt else s.mgmt := by cases c <;> rfl
@[simp] theorem when_flash (s : State) (c : Bool) (g : State → State) : (s.when c g).flash = if c then (g s).flash else s.flash := by cases c <;> rfl
@[simp] theorem when_sw (s : State) (c : Bool) (g : State → State) : (s.when c g).sw = if c then (g s).sw else s.sw := by cases c <;> rfl
@[simp] theorem when_tab (s : State) (c : Bool) (g : State → State) : (s.when c g).tab = if c then (g s).tab else s.tab := by cases c <;> rfl
@[simp] theorem when_ports (s : State) (c : Bool) (g : State → State) : (s.when c g).ports = if c then (g s).ports else s.ports := by cases c <;> rfl
@[simp] theorem when_gate (s : State) (c : Bool) (g : State → State) : (s.when c g).gate = if c then (g s).gate else s.gate := by cases c <;> rfl
@[simp] theorem when_fen (s : State) (c : Bool) (g : State → State) : (s.when c g).fen = if c then (g s).fen else s.fen := by cases c <;> rfl
@[simp] theorem when_gw (s : State) (c : Bool) (g : State → State) : (s.when c g).gw = if c then (g s).gw else s.gw := by cases c <;> rfl
@[simp] theorem when_opt (s : State) (c : Bool) (g : State → State) : (s.when c g).opt = if c then (g s).opt else s.opt := by cases c <;> rfl
@[simp] theorem when_eng (s : State) (c : Bool) (g : State → State) : (s.when c g).eng = if c then (g s).eng else s.eng := by cases c <;> rfl
@[simp] theorem when_svc (s : State) (c : Bool) (g : State → State) : (s.when c g).svc = if c then (g s).svc else s.svc := by cases c <;> rfl
@[simp] theorem when_red (s : State) (c : Bool) (g : State → State) : (s.when c g).red = if c then (g s).red else s.red := by cases c <;> rfl
@[simp] theorem when_cmn (s : State) (c : Bool) (g : State → State) : (s.when c g).cmn = if c then (g s).cmn else s.cmn := by cases c <;> rfl
@[simp] theorem when_prom (s : State) (c : Bool) (g : State → State) : (s.when c g).prom = if c then (g s).prom else s.prom := by cases c <;> rfl
@[simp] theorem when_pwr (s : State) (c : Bool) (g : State → State) : (s.when c g).pwr = if c then (g s).pwr else s.pwr := by cases c <;> rfl
@[simp] theorem when_chip (s : State) (c : Bool) (g : State → State) : (s.when c g).chip = if c then (g s).chip else s.chip := by cases c <;> rfl
@[simp] theorem when_out (s : State) (c : Bool) (g : State → State) : (s.when c g).out = if c then (g s).out else s.out := by cases c <;> rfl
@[simp] theorem when_freeCtr (s : State) (c : Bool) (g : State → State) : (s.when c g).freeCtr = if c then (g s).freeCtr else s.freeCtr := by cases c <;> rfl

end Sys2Proof.Laws
end

