-- ==== Sys2Proof/Laws/Ops.lean ====
section
/-! SUPPORT. What each shared operation leaves alone: its components, and its register fields. -/

namespace Sys2Proof.Laws
open Sys2Proof Sys2Proof.Machine

/-! bumpN -/

@[simp] theorem bumpN_pending (s : State) (g i n : Nat) : (s.bumpN g i n).pending = s.pending := by
  unfold State.bumpN; (try dsimp only); (repeat' split) <;> simp
@[simp] theorem bumpN_tb (s : State) (g i n : Nat) : (s.bumpN g i n).tb = s.tb := by
  unfold State.bumpN; (try dsimp only); (repeat' split) <;> simp
@[simp] theorem bumpN_i3c (s : State) (g i n : Nat) : (s.bumpN g i n).i3c = s.i3c := by
  unfold State.bumpN; (try dsimp only); (repeat' split) <;> simp
@[simp] theorem bumpN_jtag (s : State) (g i n : Nat) : (s.bumpN g i n).jtag = s.jtag := by
  unfold State.bumpN; (try dsimp only); (repeat' split) <;> simp
@[simp] theorem bumpN_off (s : State) (g i n : Nat) : (s.bumpN g i n).off = s.off := by
  unfold State.bumpN; (try dsimp only); (repeat' split) <;> simp
@[simp] theorem bumpN_started (s : State) (g i n : Nat) : (s.bumpN g i n).started = s.started := by
  unfold State.bumpN; (try dsimp only); (repeat' split) <;> simp
@[simp] theorem bumpN_fw (s : State) (g i n : Nat) : (s.bumpN g i n).fw = s.fw := by
  unfold State.bumpN; (try dsimp only); (repeat' split) <;> simp
@[simp] theorem bumpN_acc (s : State) (g i n : Nat) : (s.bumpN g i n).acc = s.acc := by
  unfold State.bumpN; (try dsimp only); (repeat' split) <;> simp
@[simp] theorem bumpN_mgmt (s : State) (g i n : Nat) : (s.bumpN g i n).mgmt = s.mgmt := by
  unfold State.bumpN; (try dsimp only); (repeat' split) <;> simp
@[simp] theorem bumpN_flash (s : State) (g i n : Nat) : (s.bumpN g i n).flash = s.flash := by
  unfold State.bumpN; (try dsimp only); (repeat' split) <;> simp
@[simp] theorem bumpN_sw (s : State) (g i n : Nat) : (s.bumpN g i n).sw = s.sw := by
  unfold State.bumpN; (try dsimp only); (repeat' split) <;> simp
@[simp] theorem bumpN_tab (s : State) (g i n : Nat) : (s.bumpN g i n).tab = s.tab := by
  unfold State.bumpN; (try dsimp only); (repeat' split) <;> simp
@[simp] theorem bumpN_ports (s : State) (g i n : Nat) : (s.bumpN g i n).ports = s.ports := by
  unfold State.bumpN; (try dsimp only); (repeat' split) <;> simp
@[simp] theorem bumpN_gate (s : State) (g i n : Nat) : (s.bumpN g i n).gate = s.gate := by
  unfold State.bumpN; (try dsimp only); (repeat' split) <;> simp
@[simp] theorem bumpN_fen (s : State) (g i n : Nat) : (s.bumpN g i n).fen = s.fen := by
  unfold State.bumpN; (try dsimp only); (repeat' split) <;> simp
@[simp] theorem bumpN_gw (s : State) (g i n : Nat) : (s.bumpN g i n).gw = s.gw := by
  unfold State.bumpN; (try dsimp only); (repeat' split) <;> simp
@[simp] theorem bumpN_opt (s : State) (g i n : Nat) : (s.bumpN g i n).opt = s.opt := by
  unfold State.bumpN; (try dsimp only); (repeat' split) <;> simp
@[simp] theorem bumpN_eng (s : State) (g i n : Nat) : (s.bumpN g i n).eng = s.eng := by
  unfold State.bumpN; (try dsimp only); (repeat' split) <;> simp
@[simp] theorem bumpN_svc (s : State) (g i n : Nat) : (s.bumpN g i n).svc = s.svc := by
  unfold State.bumpN; (try dsimp only); (repeat' split) <;> simp
@[simp] theorem bumpN_red (s : State) (g i n : Nat) : (s.bumpN g i n).red = s.red := by
  unfold State.bumpN; (try dsimp only); (repeat' split) <;> simp
@[simp] theorem bumpN_cmn (s : State) (g i n : Nat) : (s.bumpN g i n).cmn = s.cmn := by
  unfold State.bumpN; (try dsimp only); (repeat' split) <;> simp
@[simp] theorem bumpN_prom (s : State) (g i n : Nat) : (s.bumpN g i n).prom = s.prom := by
  unfold State.bumpN; (try dsimp only); (repeat' split) <;> simp
@[simp] theorem bumpN_pwr (s : State) (g i n : Nat) : (s.bumpN g i n).pwr = s.pwr := by
  unfold State.bumpN; (try dsimp only); (repeat' split) <;> simp
@[simp] theorem bumpN_chip (s : State) (g i n : Nat) : (s.bumpN g i n).chip = s.chip := by
  unfold State.bumpN; (try dsimp only); (repeat' split) <;> simp
@[simp] theorem bumpN_out (s : State) (g i n : Nat) : (s.bumpN g i n).out = s.out := by
  unfold State.bumpN; (try dsimp only); (repeat' split) <;> simp
@[simp] theorem bumpN_freeCtr (s : State) (g i n : Nat) : (s.bumpN g i n).freeCtr = s.freeCtr := by
  unfold State.bumpN; (try dsimp only); (repeat' split) <;> simp
theorem rd_bumpN (s : State) (g i n : Nat) {a : Fld} (b : Nat) (h : a ∉ ([.telWrap_wrap] : List Fld)) : (s.bumpN g i n).rd a b = s.rd a b := by
  simp only [List.mem_singleton] at h
  unfold State.bumpN
  split
  · rfl
  · dsimp only
    split
    · rw [rd_wr_other _ _ (.inl h)]; rfl
    · rfl

/-! bumpPort -/

@[simp] theorem bumpPort_pending (s : State) (n : Nat) (e : PortEv) : (s.bumpPort n e).pending = s.pending := by
  unfold State.bumpPort; (try dsimp only); (repeat' split) <;> simp
@[simp] theorem bumpPort_tb (s : State) (n : Nat) (e : PortEv) : (s.bumpPort n e).tb = s.tb := by
  unfold State.bumpPort; (try dsimp only); (repeat' split) <;> simp
@[simp] theorem bumpPort_i3c (s : State) (n : Nat) (e : PortEv) : (s.bumpPort n e).i3c = s.i3c := by
  unfold State.bumpPort; (try dsimp only); (repeat' split) <;> simp
@[simp] theorem bumpPort_jtag (s : State) (n : Nat) (e : PortEv) : (s.bumpPort n e).jtag = s.jtag := by
  unfold State.bumpPort; (try dsimp only); (repeat' split) <;> simp
@[simp] theorem bumpPort_off (s : State) (n : Nat) (e : PortEv) : (s.bumpPort n e).off = s.off := by
  unfold State.bumpPort; (try dsimp only); (repeat' split) <;> simp
@[simp] theorem bumpPort_started (s : State) (n : Nat) (e : PortEv) : (s.bumpPort n e).started = s.started := by
  unfold State.bumpPort; (try dsimp only); (repeat' split) <;> simp
@[simp] theorem bumpPort_fw (s : State) (n : Nat) (e : PortEv) : (s.bumpPort n e).fw = s.fw := by
  unfold State.bumpPort; (try dsimp only); (repeat' split) <;> simp
@[simp] theorem bumpPort_acc (s : State) (n : Nat) (e : PortEv) : (s.bumpPort n e).acc = s.acc := by
  unfold State.bumpPort; (try dsimp only); (repeat' split) <;> simp
@[simp] theorem bumpPort_mgmt (s : State) (n : Nat) (e : PortEv) : (s.bumpPort n e).mgmt = s.mgmt := by
  unfold State.bumpPort; (try dsimp only); (repeat' split) <;> simp
@[simp] theorem bumpPort_flash (s : State) (n : Nat) (e : PortEv) : (s.bumpPort n e).flash = s.flash := by
  unfold State.bumpPort; (try dsimp only); (repeat' split) <;> simp
@[simp] theorem bumpPort_sw (s : State) (n : Nat) (e : PortEv) : (s.bumpPort n e).sw = s.sw := by
  unfold State.bumpPort; (try dsimp only); (repeat' split) <;> simp
@[simp] theorem bumpPort_tab (s : State) (n : Nat) (e : PortEv) : (s.bumpPort n e).tab = s.tab := by
  unfold State.bumpPort; (try dsimp only); (repeat' split) <;> simp
@[simp] theorem bumpPort_ports (s : State) (n : Nat) (e : PortEv) : (s.bumpPort n e).ports = s.ports := by
  unfold State.bumpPort; (try dsimp only); (repeat' split) <;> simp
@[simp] theorem bumpPort_gate (s : State) (n : Nat) (e : PortEv) : (s.bumpPort n e).gate = s.gate := by
  unfold State.bumpPort; (try dsimp only); (repeat' split) <;> simp
@[simp] theorem bumpPort_fen (s : State) (n : Nat) (e : PortEv) : (s.bumpPort n e).fen = s.fen := by
  unfold State.bumpPort; (try dsimp only); (repeat' split) <;> simp
@[simp] theorem bumpPort_gw (s : State) (n : Nat) (e : PortEv) : (s.bumpPort n e).gw = s.gw := by
  unfold State.bumpPort; (try dsimp only); (repeat' split) <;> simp
@[simp] theorem bumpPort_opt (s : State) (n : Nat) (e : PortEv) : (s.bumpPort n e).opt = s.opt := by
  unfold State.bumpPort; (try dsimp only); (repeat' split) <;> simp
@[simp] theorem bumpPort_eng (s : State) (n : Nat) (e : PortEv) : (s.bumpPort n e).eng = s.eng := by
  unfold State.bumpPort; (try dsimp only); (repeat' split) <;> simp
@[simp] theorem bumpPort_svc (s : State) (n : Nat) (e : PortEv) : (s.bumpPort n e).svc = s.svc := by
  unfold State.bumpPort; (try dsimp only); (repeat' split) <;> simp
@[simp] theorem bumpPort_red (s : State) (n : Nat) (e : PortEv) : (s.bumpPort n e).red = s.red := by
  unfold State.bumpPort; (try dsimp only); (repeat' split) <;> simp
@[simp] theorem bumpPort_cmn (s : State) (n : Nat) (e : PortEv) : (s.bumpPort n e).cmn = s.cmn := by
  unfold State.bumpPort; (try dsimp only); (repeat' split) <;> simp
@[simp] theorem bumpPort_prom (s : State) (n : Nat) (e : PortEv) : (s.bumpPort n e).prom = s.prom := by
  unfold State.bumpPort; (try dsimp only); (repeat' split) <;> simp
@[simp] theorem bumpPort_pwr (s : State) (n : Nat) (e : PortEv) : (s.bumpPort n e).pwr = s.pwr := by
  unfold State.bumpPort; (try dsimp only); (repeat' split) <;> simp
@[simp] theorem bumpPort_chip (s : State) (n : Nat) (e : PortEv) : (s.bumpPort n e).chip = s.chip := by
  unfold State.bumpPort; (try dsimp only); (repeat' split) <;> simp
@[simp] theorem bumpPort_out (s : State) (n : Nat) (e : PortEv) : (s.bumpPort n e).out = s.out := by
  unfold State.bumpPort; (try dsimp only); (repeat' split) <;> simp
@[simp] theorem bumpPort_freeCtr (s : State) (n : Nat) (e : PortEv) : (s.bumpPort n e).freeCtr = s.freeCtr := by
  unfold State.bumpPort; (try dsimp only); (repeat' split) <;> simp
theorem rd_bumpPort (s : State) (n : Nat) (e : PortEv) {a : Fld} (b : Nat) (h : a ∉ ([.telWrap_wrap] : List Fld)) : (s.bumpPort n e).rd a b = s.rd a b := by
  simp only [State.bumpPort, rd_when, rd_bumpN _ _ _ _ _ h, ite_self]

/-! bumpClass -/

@[simp] theorem bumpClass_pending (s : State) (n c : Nat) (e : ClassEv) : (s.bumpClass n c e).pending = s.pending := by
  unfold State.bumpClass; (try dsimp only); (repeat' split) <;> simp
@[simp] theorem bumpClass_tb (s : State) (n c : Nat) (e : ClassEv) : (s.bumpClass n c e).tb = s.tb := by
  unfold State.bumpClass; (try dsimp only); (repeat' split) <;> simp
@[simp] theorem bumpClass_i3c (s : State) (n c : Nat) (e : ClassEv) : (s.bumpClass n c e).i3c = s.i3c := by
  unfold State.bumpClass; (try dsimp only); (repeat' split) <;> simp
@[simp] theorem bumpClass_jtag (s : State) (n c : Nat) (e : ClassEv) : (s.bumpClass n c e).jtag = s.jtag := by
  unfold State.bumpClass; (try dsimp only); (repeat' split) <;> simp
@[simp] theorem bumpClass_off (s : State) (n c : Nat) (e : ClassEv) : (s.bumpClass n c e).off = s.off := by
  unfold State.bumpClass; (try dsimp only); (repeat' split) <;> simp
@[simp] theorem bumpClass_started (s : State) (n c : Nat) (e : ClassEv) : (s.bumpClass n c e).started = s.started := by
  unfold State.bumpClass; (try dsimp only); (repeat' split) <;> simp
@[simp] theorem bumpClass_fw (s : State) (n c : Nat) (e : ClassEv) : (s.bumpClass n c e).fw = s.fw := by
  unfold State.bumpClass; (try dsimp only); (repeat' split) <;> simp
@[simp] theorem bumpClass_acc (s : State) (n c : Nat) (e : ClassEv) : (s.bumpClass n c e).acc = s.acc := by
  unfold State.bumpClass; (try dsimp only); (repeat' split) <;> simp
@[simp] theorem bumpClass_mgmt (s : State) (n c : Nat) (e : ClassEv) : (s.bumpClass n c e).mgmt = s.mgmt := by
  unfold State.bumpClass; (try dsimp only); (repeat' split) <;> simp
@[simp] theorem bumpClass_flash (s : State) (n c : Nat) (e : ClassEv) : (s.bumpClass n c e).flash = s.flash := by
  unfold State.bumpClass; (try dsimp only); (repeat' split) <;> simp
@[simp] theorem bumpClass_sw (s : State) (n c : Nat) (e : ClassEv) : (s.bumpClass n c e).sw = s.sw := by
  unfold State.bumpClass; (try dsimp only); (repeat' split) <;> simp
@[simp] theorem bumpClass_tab (s : State) (n c : Nat) (e : ClassEv) : (s.bumpClass n c e).tab = s.tab := by
  unfold State.bumpClass; (try dsimp only); (repeat' split) <;> simp
@[simp] theorem bumpClass_ports (s : State) (n c : Nat) (e : ClassEv) : (s.bumpClass n c e).ports = s.ports := by
  unfold State.bumpClass; (try dsimp only); (repeat' split) <;> simp
@[simp] theorem bumpClass_gate (s : State) (n c : Nat) (e : ClassEv) : (s.bumpClass n c e).gate = s.gate := by
  unfold State.bumpClass; (try dsimp only); (repeat' split) <;> simp
@[simp] theorem bumpClass_fen (s : State) (n c : Nat) (e : ClassEv) : (s.bumpClass n c e).fen = s.fen := by
  unfold State.bumpClass; (try dsimp only); (repeat' split) <;> simp
@[simp] theorem bumpClass_gw (s : State) (n c : Nat) (e : ClassEv) : (s.bumpClass n c e).gw = s.gw := by
  unfold State.bumpClass; (try dsimp only); (repeat' split) <;> simp
@[simp] theorem bumpClass_opt (s : State) (n c : Nat) (e : ClassEv) : (s.bumpClass n c e).opt = s.opt := by
  unfold State.bumpClass; (try dsimp only); (repeat' split) <;> simp
@[simp] theorem bumpClass_eng (s : State) (n c : Nat) (e : ClassEv) : (s.bumpClass n c e).eng = s.eng := by
  unfold State.bumpClass; (try dsimp only); (repeat' split) <;> simp
@[simp] theorem bumpClass_svc (s : State) (n c : Nat) (e : ClassEv) : (s.bumpClass n c e).svc = s.svc := by
  unfold State.bumpClass; (try dsimp only); (repeat' split) <;> simp
@[simp] theorem bumpClass_red (s : State) (n c : Nat) (e : ClassEv) : (s.bumpClass n c e).red = s.red := by
  unfold State.bumpClass; (try dsimp only); (repeat' split) <;> simp
@[simp] theorem bumpClass_cmn (s : State) (n c : Nat) (e : ClassEv) : (s.bumpClass n c e).cmn = s.cmn := by
  unfold State.bumpClass; (try dsimp only); (repeat' split) <;> simp
@[simp] theorem bumpClass_prom (s : State) (n c : Nat) (e : ClassEv) : (s.bumpClass n c e).prom = s.prom := by
  unfold State.bumpClass; (try dsimp only); (repeat' split) <;> simp
@[simp] theorem bumpClass_pwr (s : State) (n c : Nat) (e : ClassEv) : (s.bumpClass n c e).pwr = s.pwr := by
  unfold State.bumpClass; (try dsimp only); (repeat' split) <;> simp
@[simp] theorem bumpClass_chip (s : State) (n c : Nat) (e : ClassEv) : (s.bumpClass n c e).chip = s.chip := by
  unfold State.bumpClass; (try dsimp only); (repeat' split) <;> simp
@[simp] theorem bumpClass_out (s : State) (n c : Nat) (e : ClassEv) : (s.bumpClass n c e).out = s.out := by
  unfold State.bumpClass; (try dsimp only); (repeat' split) <;> simp
@[simp] theorem bumpClass_freeCtr (s : State) (n c : Nat) (e : ClassEv) : (s.bumpClass n c e).freeCtr = s.freeCtr := by
  unfold State.bumpClass; (try dsimp only); (repeat' split) <;> simp
theorem rd_bumpClass (s : State) (n c : Nat) (e : ClassEv) {a : Fld} (b : Nat) (h : a ∉ ([.telWrap_wrap] : List Fld)) : (s.bumpClass n c e).rd a b = s.rd a b := by
  simp only [State.bumpClass, rd_when, rd_bumpN _ _ _ _ _ h, ite_self]

/-! bumpTraffic -/

@[simp] theorem bumpTraffic_pending (s : State) (g n c b : Nat) : (s.bumpTraffic g n c b).pending = s.pending := by
  unfold State.bumpTraffic; (try dsimp only); (repeat' split) <;> simp
@[simp] theorem bumpTraffic_tb (s : State) (g n c b : Nat) : (s.bumpTraffic g n c b).tb = s.tb := by
  unfold State.bumpTraffic; (try dsimp only); (repeat' split) <;> simp
@[simp] theorem bumpTraffic_i3c (s : State) (g n c b : Nat) : (s.bumpTraffic g n c b).i3c = s.i3c := by
  unfold State.bumpTraffic; (try dsimp only); (repeat' split) <;> simp
@[simp] theorem bumpTraffic_jtag (s : State) (g n c b : Nat) : (s.bumpTraffic g n c b).jtag = s.jtag := by
  unfold State.bumpTraffic; (try dsimp only); (repeat' split) <;> simp
@[simp] theorem bumpTraffic_off (s : State) (g n c b : Nat) : (s.bumpTraffic g n c b).off = s.off := by
  unfold State.bumpTraffic; (try dsimp only); (repeat' split) <;> simp
@[simp] theorem bumpTraffic_started (s : State) (g n c b : Nat) : (s.bumpTraffic g n c b).started = s.started := by
  unfold State.bumpTraffic; (try dsimp only); (repeat' split) <;> simp
@[simp] theorem bumpTraffic_fw (s : State) (g n c b : Nat) : (s.bumpTraffic g n c b).fw = s.fw := by
  unfold State.bumpTraffic; (try dsimp only); (repeat' split) <;> simp
@[simp] theorem bumpTraffic_acc (s : State) (g n c b : Nat) : (s.bumpTraffic g n c b).acc = s.acc := by
  unfold State.bumpTraffic; (try dsimp only); (repeat' split) <;> simp
@[simp] theorem bumpTraffic_mgmt (s : State) (g n c b : Nat) : (s.bumpTraffic g n c b).mgmt = s.mgmt := by
  unfold State.bumpTraffic; (try dsimp only); (repeat' split) <;> simp
@[simp] theorem bumpTraffic_flash (s : State) (g n c b : Nat) : (s.bumpTraffic g n c b).flash = s.flash := by
  unfold State.bumpTraffic; (try dsimp only); (repeat' split) <;> simp
@[simp] theorem bumpTraffic_sw (s : State) (g n c b : Nat) : (s.bumpTraffic g n c b).sw = s.sw := by
  unfold State.bumpTraffic; (try dsimp only); (repeat' split) <;> simp
@[simp] theorem bumpTraffic_tab (s : State) (g n c b : Nat) : (s.bumpTraffic g n c b).tab = s.tab := by
  unfold State.bumpTraffic; (try dsimp only); (repeat' split) <;> simp
@[simp] theorem bumpTraffic_ports (s : State) (g n c b : Nat) : (s.bumpTraffic g n c b).ports = s.ports := by
  unfold State.bumpTraffic; (try dsimp only); (repeat' split) <;> simp
@[simp] theorem bumpTraffic_gate (s : State) (g n c b : Nat) : (s.bumpTraffic g n c b).gate = s.gate := by
  unfold State.bumpTraffic; (try dsimp only); (repeat' split) <;> simp
@[simp] theorem bumpTraffic_fen (s : State) (g n c b : Nat) : (s.bumpTraffic g n c b).fen = s.fen := by
  unfold State.bumpTraffic; (try dsimp only); (repeat' split) <;> simp
@[simp] theorem bumpTraffic_gw (s : State) (g n c b : Nat) : (s.bumpTraffic g n c b).gw = s.gw := by
  unfold State.bumpTraffic; (try dsimp only); (repeat' split) <;> simp
@[simp] theorem bumpTraffic_opt (s : State) (g n c b : Nat) : (s.bumpTraffic g n c b).opt = s.opt := by
  unfold State.bumpTraffic; (try dsimp only); (repeat' split) <;> simp
@[simp] theorem bumpTraffic_eng (s : State) (g n c b : Nat) : (s.bumpTraffic g n c b).eng = s.eng := by
  unfold State.bumpTraffic; (try dsimp only); (repeat' split) <;> simp
@[simp] theorem bumpTraffic_svc (s : State) (g n c b : Nat) : (s.bumpTraffic g n c b).svc = s.svc := by
  unfold State.bumpTraffic; (try dsimp only); (repeat' split) <;> simp
@[simp] theorem bumpTraffic_red (s : State) (g n c b : Nat) : (s.bumpTraffic g n c b).red = s.red := by
  unfold State.bumpTraffic; (try dsimp only); (repeat' split) <;> simp
@[simp] theorem bumpTraffic_cmn (s : State) (g n c b : Nat) : (s.bumpTraffic g n c b).cmn = s.cmn := by
  unfold State.bumpTraffic; (try dsimp only); (repeat' split) <;> simp
@[simp] theorem bumpTraffic_prom (s : State) (g n c b : Nat) : (s.bumpTraffic g n c b).prom = s.prom := by
  unfold State.bumpTraffic; (try dsimp only); (repeat' split) <;> simp
@[simp] theorem bumpTraffic_pwr (s : State) (g n c b : Nat) : (s.bumpTraffic g n c b).pwr = s.pwr := by
  unfold State.bumpTraffic; (try dsimp only); (repeat' split) <;> simp
@[simp] theorem bumpTraffic_chip (s : State) (g n c b : Nat) : (s.bumpTraffic g n c b).chip = s.chip := by
  unfold State.bumpTraffic; (try dsimp only); (repeat' split) <;> simp
@[simp] theorem bumpTraffic_out (s : State) (g n c b : Nat) : (s.bumpTraffic g n c b).out = s.out := by
  unfold State.bumpTraffic; (try dsimp only); (repeat' split) <;> simp
@[simp] theorem bumpTraffic_freeCtr (s : State) (g n c b : Nat) : (s.bumpTraffic g n c b).freeCtr = s.freeCtr := by
  unfold State.bumpTraffic; (try dsimp only); (repeat' split) <;> simp
theorem rd_bumpTraffic (s : State) (g n c b : Nat) {a : Fld} (b : Nat) (h : a ∉ ([.telWrap_wrap] : List Fld)) : (s.bumpTraffic g n c b).rd a b = s.rd a b := by
  simp only [State.bumpTraffic, rd_when, rd_bumpN _ _ _ _ _ h, ite_self]

/-! bumpCore -/

@[simp] theorem bumpCore_pending (s : State) (k c : Nat) (e : CoreEv) (n : Nat) : (s.bumpCore k c e n).pending = s.pending := by
  unfold State.bumpCore; (try dsimp only); (repeat' split) <;> simp
@[simp] theorem bumpCore_tb (s : State) (k c : Nat) (e : CoreEv) (n : Nat) : (s.bumpCore k c e n).tb = s.tb := by
  unfold State.bumpCore; (try dsimp only); (repeat' split) <;> simp
@[simp] theorem bumpCore_i3c (s : State) (k c : Nat) (e : CoreEv) (n : Nat) : (s.bumpCore k c e n).i3c = s.i3c := by
  unfold State.bumpCore; (try dsimp only); (repeat' split) <;> simp
@[simp] theorem bumpCore_jtag (s : State) (k c : Nat) (e : CoreEv) (n : Nat) : (s.bumpCore k c e n).jtag = s.jtag := by
  unfold State.bumpCore; (try dsimp only); (repeat' split) <;> simp
@[simp] theorem bumpCore_off (s : State) (k c : Nat) (e : CoreEv) (n : Nat) : (s.bumpCore k c e n).off = s.off := by
  unfold State.bumpCore; (try dsimp only); (repeat' split) <;> simp
@[simp] theorem bumpCore_started (s : State) (k c : Nat) (e : CoreEv) (n : Nat) : (s.bumpCore k c e n).started = s.started := by
  unfold State.bumpCore; (try dsimp only); (repeat' split) <;> simp
@[simp] theorem bumpCore_fw (s : State) (k c : Nat) (e : CoreEv) (n : Nat) : (s.bumpCore k c e n).fw = s.fw := by
  unfold State.bumpCore; (try dsimp only); (repeat' split) <;> simp
@[simp] theorem bumpCore_acc (s : State) (k c : Nat) (e : CoreEv) (n : Nat) : (s.bumpCore k c e n).acc = s.acc := by
  unfold State.bumpCore; (try dsimp only); (repeat' split) <;> simp
@[simp] theorem bumpCore_mgmt (s : State) (k c : Nat) (e : CoreEv) (n : Nat) : (s.bumpCore k c e n).mgmt = s.mgmt := by
  unfold State.bumpCore; (try dsimp only); (repeat' split) <;> simp
@[simp] theorem bumpCore_flash (s : State) (k c : Nat) (e : CoreEv) (n : Nat) : (s.bumpCore k c e n).flash = s.flash := by
  unfold State.bumpCore; (try dsimp only); (repeat' split) <;> simp
@[simp] theorem bumpCore_sw (s : State) (k c : Nat) (e : CoreEv) (n : Nat) : (s.bumpCore k c e n).sw = s.sw := by
  unfold State.bumpCore; (try dsimp only); (repeat' split) <;> simp
@[simp] theorem bumpCore_tab (s : State) (k c : Nat) (e : CoreEv) (n : Nat) : (s.bumpCore k c e n).tab = s.tab := by
  unfold State.bumpCore; (try dsimp only); (repeat' split) <;> simp
@[simp] theorem bumpCore_ports (s : State) (k c : Nat) (e : CoreEv) (n : Nat) : (s.bumpCore k c e n).ports = s.ports := by
  unfold State.bumpCore; (try dsimp only); (repeat' split) <;> simp
@[simp] theorem bumpCore_gate (s : State) (k c : Nat) (e : CoreEv) (n : Nat) : (s.bumpCore k c e n).gate = s.gate := by
  unfold State.bumpCore; (try dsimp only); (repeat' split) <;> simp
@[simp] theorem bumpCore_fen (s : State) (k c : Nat) (e : CoreEv) (n : Nat) : (s.bumpCore k c e n).fen = s.fen := by
  unfold State.bumpCore; (try dsimp only); (repeat' split) <;> simp
@[simp] theorem bumpCore_gw (s : State) (k c : Nat) (e : CoreEv) (n : Nat) : (s.bumpCore k c e n).gw = s.gw := by
  unfold State.bumpCore; (try dsimp only); (repeat' split) <;> simp
@[simp] theorem bumpCore_opt (s : State) (k c : Nat) (e : CoreEv) (n : Nat) : (s.bumpCore k c e n).opt = s.opt := by
  unfold State.bumpCore; (try dsimp only); (repeat' split) <;> simp
@[simp] theorem bumpCore_eng (s : State) (k c : Nat) (e : CoreEv) (n : Nat) : (s.bumpCore k c e n).eng = s.eng := by
  unfold State.bumpCore; (try dsimp only); (repeat' split) <;> simp
@[simp] theorem bumpCore_svc (s : State) (k c : Nat) (e : CoreEv) (n : Nat) : (s.bumpCore k c e n).svc = s.svc := by
  unfold State.bumpCore; (try dsimp only); (repeat' split) <;> simp
@[simp] theorem bumpCore_red (s : State) (k c : Nat) (e : CoreEv) (n : Nat) : (s.bumpCore k c e n).red = s.red := by
  unfold State.bumpCore; (try dsimp only); (repeat' split) <;> simp
@[simp] theorem bumpCore_cmn (s : State) (k c : Nat) (e : CoreEv) (n : Nat) : (s.bumpCore k c e n).cmn = s.cmn := by
  unfold State.bumpCore; (try dsimp only); (repeat' split) <;> simp
@[simp] theorem bumpCore_prom (s : State) (k c : Nat) (e : CoreEv) (n : Nat) : (s.bumpCore k c e n).prom = s.prom := by
  unfold State.bumpCore; (try dsimp only); (repeat' split) <;> simp
@[simp] theorem bumpCore_pwr (s : State) (k c : Nat) (e : CoreEv) (n : Nat) : (s.bumpCore k c e n).pwr = s.pwr := by
  unfold State.bumpCore; (try dsimp only); (repeat' split) <;> simp
@[simp] theorem bumpCore_chip (s : State) (k c : Nat) (e : CoreEv) (n : Nat) : (s.bumpCore k c e n).chip = s.chip := by
  unfold State.bumpCore; (try dsimp only); (repeat' split) <;> simp
@[simp] theorem bumpCore_out (s : State) (k c : Nat) (e : CoreEv) (n : Nat) : (s.bumpCore k c e n).out = s.out := by
  unfold State.bumpCore; (try dsimp only); (repeat' split) <;> simp
@[simp] theorem bumpCore_freeCtr (s : State) (k c : Nat) (e : CoreEv) (n : Nat) : (s.bumpCore k c e n).freeCtr = s.freeCtr := by
  unfold State.bumpCore; (try dsimp only); (repeat' split) <;> simp
theorem rd_bumpCore (s : State) (k c : Nat) (e : CoreEv) (n : Nat) {a : Fld} (b : Nat) (h : a ∉ ([.telWrap_wrap] : List Fld)) : (s.bumpCore k c e n).rd a b = s.rd a b := by
  exact rd_bumpN _ _ _ _ _ h

/-! bumpTab -/

@[simp] theorem bumpTab_pending (s : State) (e : TabEv) (n : Nat) : (s.bumpTab e n).pending = s.pending := by
  unfold State.bumpTab; (try dsimp only); (repeat' split) <;> simp
@[simp] theorem bumpTab_tb (s : State) (e : TabEv) (n : Nat) : (s.bumpTab e n).tb = s.tb := by
  unfold State.bumpTab; (try dsimp only); (repeat' split) <;> simp
@[simp] theorem bumpTab_i3c (s : State) (e : TabEv) (n : Nat) : (s.bumpTab e n).i3c = s.i3c := by
  unfold State.bumpTab; (try dsimp only); (repeat' split) <;> simp
@[simp] theorem bumpTab_jtag (s : State) (e : TabEv) (n : Nat) : (s.bumpTab e n).jtag = s.jtag := by
  unfold State.bumpTab; (try dsimp only); (repeat' split) <;> simp
@[simp] theorem bumpTab_off (s : State) (e : TabEv) (n : Nat) : (s.bumpTab e n).off = s.off := by
  unfold State.bumpTab; (try dsimp only); (repeat' split) <;> simp
@[simp] theorem bumpTab_started (s : State) (e : TabEv) (n : Nat) : (s.bumpTab e n).started = s.started := by
  unfold State.bumpTab; (try dsimp only); (repeat' split) <;> simp
@[simp] theorem bumpTab_fw (s : State) (e : TabEv) (n : Nat) : (s.bumpTab e n).fw = s.fw := by
  unfold State.bumpTab; (try dsimp only); (repeat' split) <;> simp
@[simp] theorem bumpTab_acc (s : State) (e : TabEv) (n : Nat) : (s.bumpTab e n).acc = s.acc := by
  unfold State.bumpTab; (try dsimp only); (repeat' split) <;> simp
@[simp] theorem bumpTab_mgmt (s : State) (e : TabEv) (n : Nat) : (s.bumpTab e n).mgmt = s.mgmt := by
  unfold State.bumpTab; (try dsimp only); (repeat' split) <;> simp
@[simp] theorem bumpTab_flash (s : State) (e : TabEv) (n : Nat) : (s.bumpTab e n).flash = s.flash := by
  unfold State.bumpTab; (try dsimp only); (repeat' split) <;> simp
@[simp] theorem bumpTab_sw (s : State) (e : TabEv) (n : Nat) : (s.bumpTab e n).sw = s.sw := by
  unfold State.bumpTab; (try dsimp only); (repeat' split) <;> simp
@[simp] theorem bumpTab_tab (s : State) (e : TabEv) (n : Nat) : (s.bumpTab e n).tab = s.tab := by
  unfold State.bumpTab; (try dsimp only); (repeat' split) <;> simp
@[simp] theorem bumpTab_ports (s : State) (e : TabEv) (n : Nat) : (s.bumpTab e n).ports = s.ports := by
  unfold State.bumpTab; (try dsimp only); (repeat' split) <;> simp
@[simp] theorem bumpTab_gate (s : State) (e : TabEv) (n : Nat) : (s.bumpTab e n).gate = s.gate := by
  unfold State.bumpTab; (try dsimp only); (repeat' split) <;> simp
@[simp] theorem bumpTab_fen (s : State) (e : TabEv) (n : Nat) : (s.bumpTab e n).fen = s.fen := by
  unfold State.bumpTab; (try dsimp only); (repeat' split) <;> simp
@[simp] theorem bumpTab_gw (s : State) (e : TabEv) (n : Nat) : (s.bumpTab e n).gw = s.gw := by
  unfold State.bumpTab; (try dsimp only); (repeat' split) <;> simp
@[simp] theorem bumpTab_opt (s : State) (e : TabEv) (n : Nat) : (s.bumpTab e n).opt = s.opt := by
  unfold State.bumpTab; (try dsimp only); (repeat' split) <;> simp
@[simp] theorem bumpTab_eng (s : State) (e : TabEv) (n : Nat) : (s.bumpTab e n).eng = s.eng := by
  unfold State.bumpTab; (try dsimp only); (repeat' split) <;> simp
@[simp] theorem bumpTab_svc (s : State) (e : TabEv) (n : Nat) : (s.bumpTab e n).svc = s.svc := by
  unfold State.bumpTab; (try dsimp only); (repeat' split) <;> simp
@[simp] theorem bumpTab_red (s : State) (e : TabEv) (n : Nat) : (s.bumpTab e n).red = s.red := by
  unfold State.bumpTab; (try dsimp only); (repeat' split) <;> simp
@[simp] theorem bumpTab_cmn (s : State) (e : TabEv) (n : Nat) : (s.bumpTab e n).cmn = s.cmn := by
  unfold State.bumpTab; (try dsimp only); (repeat' split) <;> simp
@[simp] theorem bumpTab_prom (s : State) (e : TabEv) (n : Nat) : (s.bumpTab e n).prom = s.prom := by
  unfold State.bumpTab; (try dsimp only); (repeat' split) <;> simp
@[simp] theorem bumpTab_pwr (s : State) (e : TabEv) (n : Nat) : (s.bumpTab e n).pwr = s.pwr := by
  unfold State.bumpTab; (try dsimp only); (repeat' split) <;> simp
@[simp] theorem bumpTab_chip (s : State) (e : TabEv) (n : Nat) : (s.bumpTab e n).chip = s.chip := by
  unfold State.bumpTab; (try dsimp only); (repeat' split) <;> simp
@[simp] theorem bumpTab_out (s : State) (e : TabEv) (n : Nat) : (s.bumpTab e n).out = s.out := by
  unfold State.bumpTab; (try dsimp only); (repeat' split) <;> simp
@[simp] theorem bumpTab_freeCtr (s : State) (e : TabEv) (n : Nat) : (s.bumpTab e n).freeCtr = s.freeCtr := by
  unfold State.bumpTab; (try dsimp only); (repeat' split) <;> simp
theorem rd_bumpTab (s : State) (e : TabEv) (n : Nat) {a : Fld} (b : Nat) (h : a ∉ ([.telWrap_wrap] : List Fld)) : (s.bumpTab e n).rd a b = s.rd a b := by
  exact rd_bumpN _ _ _ _ _ h

/-! bumpOpt -/

@[simp] theorem bumpOpt_pending (s : State) (n : Nat) (e : OptEv) : (s.bumpOpt n e).pending = s.pending := by
  unfold State.bumpOpt; (try dsimp only); (repeat' split) <;> simp
@[simp] theorem bumpOpt_tb (s : State) (n : Nat) (e : OptEv) : (s.bumpOpt n e).tb = s.tb := by
  unfold State.bumpOpt; (try dsimp only); (repeat' split) <;> simp
@[simp] theorem bumpOpt_i3c (s : State) (n : Nat) (e : OptEv) : (s.bumpOpt n e).i3c = s.i3c := by
  unfold State.bumpOpt; (try dsimp only); (repeat' split) <;> simp
@[simp] theorem bumpOpt_jtag (s : State) (n : Nat) (e : OptEv) : (s.bumpOpt n e).jtag = s.jtag := by
  unfold State.bumpOpt; (try dsimp only); (repeat' split) <;> simp
@[simp] theorem bumpOpt_off (s : State) (n : Nat) (e : OptEv) : (s.bumpOpt n e).off = s.off := by
  unfold State.bumpOpt; (try dsimp only); (repeat' split) <;> simp
@[simp] theorem bumpOpt_started (s : State) (n : Nat) (e : OptEv) : (s.bumpOpt n e).started = s.started := by
  unfold State.bumpOpt; (try dsimp only); (repeat' split) <;> simp
@[simp] theorem bumpOpt_fw (s : State) (n : Nat) (e : OptEv) : (s.bumpOpt n e).fw = s.fw := by
  unfold State.bumpOpt; (try dsimp only); (repeat' split) <;> simp
@[simp] theorem bumpOpt_acc (s : State) (n : Nat) (e : OptEv) : (s.bumpOpt n e).acc = s.acc := by
  unfold State.bumpOpt; (try dsimp only); (repeat' split) <;> simp
@[simp] theorem bumpOpt_mgmt (s : State) (n : Nat) (e : OptEv) : (s.bumpOpt n e).mgmt = s.mgmt := by
  unfold State.bumpOpt; (try dsimp only); (repeat' split) <;> simp
@[simp] theorem bumpOpt_flash (s : State) (n : Nat) (e : OptEv) : (s.bumpOpt n e).flash = s.flash := by
  unfold State.bumpOpt; (try dsimp only); (repeat' split) <;> simp
@[simp] theorem bumpOpt_sw (s : State) (n : Nat) (e : OptEv) : (s.bumpOpt n e).sw = s.sw := by
  unfold State.bumpOpt; (try dsimp only); (repeat' split) <;> simp
@[simp] theorem bumpOpt_tab (s : State) (n : Nat) (e : OptEv) : (s.bumpOpt n e).tab = s.tab := by
  unfold State.bumpOpt; (try dsimp only); (repeat' split) <;> simp
@[simp] theorem bumpOpt_ports (s : State) (n : Nat) (e : OptEv) : (s.bumpOpt n e).ports = s.ports := by
  unfold State.bumpOpt; (try dsimp only); (repeat' split) <;> simp
@[simp] theorem bumpOpt_gate (s : State) (n : Nat) (e : OptEv) : (s.bumpOpt n e).gate = s.gate := by
  unfold State.bumpOpt; (try dsimp only); (repeat' split) <;> simp
@[simp] theorem bumpOpt_fen (s : State) (n : Nat) (e : OptEv) : (s.bumpOpt n e).fen = s.fen := by
  unfold State.bumpOpt; (try dsimp only); (repeat' split) <;> simp
@[simp] theorem bumpOpt_gw (s : State) (n : Nat) (e : OptEv) : (s.bumpOpt n e).gw = s.gw := by
  unfold State.bumpOpt; (try dsimp only); (repeat' split) <;> simp
@[simp] theorem bumpOpt_opt (s : State) (n : Nat) (e : OptEv) : (s.bumpOpt n e).opt = s.opt := by
  unfold State.bumpOpt; (try dsimp only); (repeat' split) <;> simp
@[simp] theorem bumpOpt_eng (s : State) (n : Nat) (e : OptEv) : (s.bumpOpt n e).eng = s.eng := by
  unfold State.bumpOpt; (try dsimp only); (repeat' split) <;> simp
@[simp] theorem bumpOpt_svc (s : State) (n : Nat) (e : OptEv) : (s.bumpOpt n e).svc = s.svc := by
  unfold State.bumpOpt; (try dsimp only); (repeat' split) <;> simp
@[simp] theorem bumpOpt_red (s : State) (n : Nat) (e : OptEv) : (s.bumpOpt n e).red = s.red := by
  unfold State.bumpOpt; (try dsimp only); (repeat' split) <;> simp
@[simp] theorem bumpOpt_cmn (s : State) (n : Nat) (e : OptEv) : (s.bumpOpt n e).cmn = s.cmn := by
  unfold State.bumpOpt; (try dsimp only); (repeat' split) <;> simp
@[simp] theorem bumpOpt_prom (s : State) (n : Nat) (e : OptEv) : (s.bumpOpt n e).prom = s.prom := by
  unfold State.bumpOpt; (try dsimp only); (repeat' split) <;> simp
@[simp] theorem bumpOpt_pwr (s : State) (n : Nat) (e : OptEv) : (s.bumpOpt n e).pwr = s.pwr := by
  unfold State.bumpOpt; (try dsimp only); (repeat' split) <;> simp
@[simp] theorem bumpOpt_chip (s : State) (n : Nat) (e : OptEv) : (s.bumpOpt n e).chip = s.chip := by
  unfold State.bumpOpt; (try dsimp only); (repeat' split) <;> simp
@[simp] theorem bumpOpt_out (s : State) (n : Nat) (e : OptEv) : (s.bumpOpt n e).out = s.out := by
  unfold State.bumpOpt; (try dsimp only); (repeat' split) <;> simp
@[simp] theorem bumpOpt_freeCtr (s : State) (n : Nat) (e : OptEv) : (s.bumpOpt n e).freeCtr = s.freeCtr := by
  unfold State.bumpOpt; (try dsimp only); (repeat' split) <;> simp
theorem rd_bumpOpt (s : State) (n : Nat) (e : OptEv) {a : Fld} (b : Nat) (h : a ∉ ([.telWrap_wrap] : List Fld)) : (s.bumpOpt n e).rd a b = s.rd a b := by
  exact rd_bumpN _ _ _ _ _ h

/-! bumpCvt -/

@[simp] theorem bumpCvt_pending (s : State) (st : Nat) (e : CvtEv) (n : Nat) : (s.bumpCvt st e n).pending = s.pending := by
  unfold State.bumpCvt; (try dsimp only); (repeat' split) <;> simp
@[simp] theorem bumpCvt_tb (s : State) (st : Nat) (e : CvtEv) (n : Nat) : (s.bumpCvt st e n).tb = s.tb := by
  unfold State.bumpCvt; (try dsimp only); (repeat' split) <;> simp
@[simp] theorem bumpCvt_i3c (s : State) (st : Nat) (e : CvtEv) (n : Nat) : (s.bumpCvt st e n).i3c = s.i3c := by
  unfold State.bumpCvt; (try dsimp only); (repeat' split) <;> simp
@[simp] theorem bumpCvt_jtag (s : State) (st : Nat) (e : CvtEv) (n : Nat) : (s.bumpCvt st e n).jtag = s.jtag := by
  unfold State.bumpCvt; (try dsimp only); (repeat' split) <;> simp
@[simp] theorem bumpCvt_off (s : State) (st : Nat) (e : CvtEv) (n : Nat) : (s.bumpCvt st e n).off = s.off := by
  unfold State.bumpCvt; (try dsimp only); (repeat' split) <;> simp
@[simp] theorem bumpCvt_started (s : State) (st : Nat) (e : CvtEv) (n : Nat) : (s.bumpCvt st e n).started = s.started := by
  unfold State.bumpCvt; (try dsimp only); (repeat' split) <;> simp
@[simp] theorem bumpCvt_fw (s : State) (st : Nat) (e : CvtEv) (n : Nat) : (s.bumpCvt st e n).fw = s.fw := by
  unfold State.bumpCvt; (try dsimp only); (repeat' split) <;> simp
@[simp] theorem bumpCvt_acc (s : State) (st : Nat) (e : CvtEv) (n : Nat) : (s.bumpCvt st e n).acc = s.acc := by
  unfold State.bumpCvt; (try dsimp only); (repeat' split) <;> simp
@[simp] theorem bumpCvt_mgmt (s : State) (st : Nat) (e : CvtEv) (n : Nat) : (s.bumpCvt st e n).mgmt = s.mgmt := by
  unfold State.bumpCvt; (try dsimp only); (repeat' split) <;> simp
@[simp] theorem bumpCvt_flash (s : State) (st : Nat) (e : CvtEv) (n : Nat) : (s.bumpCvt st e n).flash = s.flash := by
  unfold State.bumpCvt; (try dsimp only); (repeat' split) <;> simp
@[simp] theorem bumpCvt_sw (s : State) (st : Nat) (e : CvtEv) (n : Nat) : (s.bumpCvt st e n).sw = s.sw := by
  unfold State.bumpCvt; (try dsimp only); (repeat' split) <;> simp
@[simp] theorem bumpCvt_tab (s : State) (st : Nat) (e : CvtEv) (n : Nat) : (s.bumpCvt st e n).tab = s.tab := by
  unfold State.bumpCvt; (try dsimp only); (repeat' split) <;> simp
@[simp] theorem bumpCvt_ports (s : State) (st : Nat) (e : CvtEv) (n : Nat) : (s.bumpCvt st e n).ports = s.ports := by
  unfold State.bumpCvt; (try dsimp only); (repeat' split) <;> simp
@[simp] theorem bumpCvt_gate (s : State) (st : Nat) (e : CvtEv) (n : Nat) : (s.bumpCvt st e n).gate = s.gate := by
  unfold State.bumpCvt; (try dsimp only); (repeat' split) <;> simp
@[simp] theorem bumpCvt_fen (s : State) (st : Nat) (e : CvtEv) (n : Nat) : (s.bumpCvt st e n).fen = s.fen := by
  unfold State.bumpCvt; (try dsimp only); (repeat' split) <;> simp
@[simp] theorem bumpCvt_gw (s : State) (st : Nat) (e : CvtEv) (n : Nat) : (s.bumpCvt st e n).gw = s.gw := by
  unfold State.bumpCvt; (try dsimp only); (repeat' split) <;> simp
@[simp] theorem bumpCvt_opt (s : State) (st : Nat) (e : CvtEv) (n : Nat) : (s.bumpCvt st e n).opt = s.opt := by
  unfold State.bumpCvt; (try dsimp only); (repeat' split) <;> simp
@[simp] theorem bumpCvt_eng (s : State) (st : Nat) (e : CvtEv) (n : Nat) : (s.bumpCvt st e n).eng = s.eng := by
  unfold State.bumpCvt; (try dsimp only); (repeat' split) <;> simp
@[simp] theorem bumpCvt_svc (s : State) (st : Nat) (e : CvtEv) (n : Nat) : (s.bumpCvt st e n).svc = s.svc := by
  unfold State.bumpCvt; (try dsimp only); (repeat' split) <;> simp
@[simp] theorem bumpCvt_red (s : State) (st : Nat) (e : CvtEv) (n : Nat) : (s.bumpCvt st e n).red = s.red := by
  unfold State.bumpCvt; (try dsimp only); (repeat' split) <;> simp
@[simp] theorem bumpCvt_cmn (s : State) (st : Nat) (e : CvtEv) (n : Nat) : (s.bumpCvt st e n).cmn = s.cmn := by
  unfold State.bumpCvt; (try dsimp only); (repeat' split) <;> simp
@[simp] theorem bumpCvt_prom (s : State) (st : Nat) (e : CvtEv) (n : Nat) : (s.bumpCvt st e n).prom = s.prom := by
  unfold State.bumpCvt; (try dsimp only); (repeat' split) <;> simp
@[simp] theorem bumpCvt_pwr (s : State) (st : Nat) (e : CvtEv) (n : Nat) : (s.bumpCvt st e n).pwr = s.pwr := by
  unfold State.bumpCvt; (try dsimp only); (repeat' split) <;> simp
@[simp] theorem bumpCvt_chip (s : State) (st : Nat) (e : CvtEv) (n : Nat) : (s.bumpCvt st e n).chip = s.chip := by
  unfold State.bumpCvt; (try dsimp only); (repeat' split) <;> simp
@[simp] theorem bumpCvt_out (s : State) (st : Nat) (e : CvtEv) (n : Nat) : (s.bumpCvt st e n).out = s.out := by
  unfold State.bumpCvt; (try dsimp only); (repeat' split) <;> simp
@[simp] theorem bumpCvt_freeCtr (s : State) (st : Nat) (e : CvtEv) (n : Nat) : (s.bumpCvt st e n).freeCtr = s.freeCtr := by
  unfold State.bumpCvt; (try dsimp only); (repeat' split) <;> simp
theorem rd_bumpCvt (s : State) (st : Nat) (e : CvtEv) (n : Nat) {a : Fld} (b : Nat) (h : a ∉ ([.telWrap_wrap] : List Fld)) : (s.bumpCvt st e n).rd a b = s.rd a b := by
  exact rd_bumpN _ _ _ _ _ h

/-! bumpSvc -/

@[simp] theorem bumpSvc_pending (s : State) (sv : Nat) (e : SvcEv) : (s.bumpSvc sv e).pending = s.pending := by
  unfold State.bumpSvc; (try dsimp only); (repeat' split) <;> simp
@[simp] theorem bumpSvc_tb (s : State) (sv : Nat) (e : SvcEv) : (s.bumpSvc sv e).tb = s.tb := by
  unfold State.bumpSvc; (try dsimp only); (repeat' split) <;> simp
@[simp] theorem bumpSvc_i3c (s : State) (sv : Nat) (e : SvcEv) : (s.bumpSvc sv e).i3c = s.i3c := by
  unfold State.bumpSvc; (try dsimp only); (repeat' split) <;> simp
@[simp] theorem bumpSvc_jtag (s : State) (sv : Nat) (e : SvcEv) : (s.bumpSvc sv e).jtag = s.jtag := by
  unfold State.bumpSvc; (try dsimp only); (repeat' split) <;> simp
@[simp] theorem bumpSvc_off (s : State) (sv : Nat) (e : SvcEv) : (s.bumpSvc sv e).off = s.off := by
  unfold State.bumpSvc; (try dsimp only); (repeat' split) <;> simp
@[simp] theorem bumpSvc_started (s : State) (sv : Nat) (e : SvcEv) : (s.bumpSvc sv e).started = s.started := by
  unfold State.bumpSvc; (try dsimp only); (repeat' split) <;> simp
@[simp] theorem bumpSvc_fw (s : State) (sv : Nat) (e : SvcEv) : (s.bumpSvc sv e).fw = s.fw := by
  unfold State.bumpSvc; (try dsimp only); (repeat' split) <;> simp
@[simp] theorem bumpSvc_acc (s : State) (sv : Nat) (e : SvcEv) : (s.bumpSvc sv e).acc = s.acc := by
  unfold State.bumpSvc; (try dsimp only); (repeat' split) <;> simp
@[simp] theorem bumpSvc_mgmt (s : State) (sv : Nat) (e : SvcEv) : (s.bumpSvc sv e).mgmt = s.mgmt := by
  unfold State.bumpSvc; (try dsimp only); (repeat' split) <;> simp
@[simp] theorem bumpSvc_flash (s : State) (sv : Nat) (e : SvcEv) : (s.bumpSvc sv e).flash = s.flash := by
  unfold State.bumpSvc; (try dsimp only); (repeat' split) <;> simp
@[simp] theorem bumpSvc_sw (s : State) (sv : Nat) (e : SvcEv) : (s.bumpSvc sv e).sw = s.sw := by
  unfold State.bumpSvc; (try dsimp only); (repeat' split) <;> simp
@[simp] theorem bumpSvc_tab (s : State) (sv : Nat) (e : SvcEv) : (s.bumpSvc sv e).tab = s.tab := by
  unfold State.bumpSvc; (try dsimp only); (repeat' split) <;> simp
@[simp] theorem bumpSvc_ports (s : State) (sv : Nat) (e : SvcEv) : (s.bumpSvc sv e).ports = s.ports := by
  unfold State.bumpSvc; (try dsimp only); (repeat' split) <;> simp
@[simp] theorem bumpSvc_gate (s : State) (sv : Nat) (e : SvcEv) : (s.bumpSvc sv e).gate = s.gate := by
  unfold State.bumpSvc; (try dsimp only); (repeat' split) <;> simp
@[simp] theorem bumpSvc_fen (s : State) (sv : Nat) (e : SvcEv) : (s.bumpSvc sv e).fen = s.fen := by
  unfold State.bumpSvc; (try dsimp only); (repeat' split) <;> simp
@[simp] theorem bumpSvc_gw (s : State) (sv : Nat) (e : SvcEv) : (s.bumpSvc sv e).gw = s.gw := by
  unfold State.bumpSvc; (try dsimp only); (repeat' split) <;> simp
@[simp] theorem bumpSvc_opt (s : State) (sv : Nat) (e : SvcEv) : (s.bumpSvc sv e).opt = s.opt := by
  unfold State.bumpSvc; (try dsimp only); (repeat' split) <;> simp
@[simp] theorem bumpSvc_eng (s : State) (sv : Nat) (e : SvcEv) : (s.bumpSvc sv e).eng = s.eng := by
  unfold State.bumpSvc; (try dsimp only); (repeat' split) <;> simp
@[simp] theorem bumpSvc_svc (s : State) (sv : Nat) (e : SvcEv) : (s.bumpSvc sv e).svc = s.svc := by
  unfold State.bumpSvc; (try dsimp only); (repeat' split) <;> simp
@[simp] theorem bumpSvc_red (s : State) (sv : Nat) (e : SvcEv) : (s.bumpSvc sv e).red = s.red := by
  unfold State.bumpSvc; (try dsimp only); (repeat' split) <;> simp
@[simp] theorem bumpSvc_cmn (s : State) (sv : Nat) (e : SvcEv) : (s.bumpSvc sv e).cmn = s.cmn := by
  unfold State.bumpSvc; (try dsimp only); (repeat' split) <;> simp
@[simp] theorem bumpSvc_prom (s : State) (sv : Nat) (e : SvcEv) : (s.bumpSvc sv e).prom = s.prom := by
  unfold State.bumpSvc; (try dsimp only); (repeat' split) <;> simp
@[simp] theorem bumpSvc_pwr (s : State) (sv : Nat) (e : SvcEv) : (s.bumpSvc sv e).pwr = s.pwr := by
  unfold State.bumpSvc; (try dsimp only); (repeat' split) <;> simp
@[simp] theorem bumpSvc_chip (s : State) (sv : Nat) (e : SvcEv) : (s.bumpSvc sv e).chip = s.chip := by
  unfold State.bumpSvc; (try dsimp only); (repeat' split) <;> simp
@[simp] theorem bumpSvc_out (s : State) (sv : Nat) (e : SvcEv) : (s.bumpSvc sv e).out = s.out := by
  unfold State.bumpSvc; (try dsimp only); (repeat' split) <;> simp
@[simp] theorem bumpSvc_freeCtr (s : State) (sv : Nat) (e : SvcEv) : (s.bumpSvc sv e).freeCtr = s.freeCtr := by
  unfold State.bumpSvc; (try dsimp only); (repeat' split) <;> simp
theorem rd_bumpSvc (s : State) (sv : Nat) (e : SvcEv) {a : Fld} (b : Nat) (h : a ∉ ([.telWrap_wrap] : List Fld)) : (s.bumpSvc sv e).rd a b = s.rd a b := by
  exact rd_bumpN _ _ _ _ _ h

/-! bumpRed -/

@[simp] theorem bumpRed_pending (s : State) (lb : Nat) (e : RedEv) (n : Nat) : (s.bumpRed lb e n).pending = s.pending := by
  unfold State.bumpRed; (try dsimp only); (repeat' split) <;> simp
@[simp] theorem bumpRed_tb (s : State) (lb : Nat) (e : RedEv) (n : Nat) : (s.bumpRed lb e n).tb = s.tb := by
  unfold State.bumpRed; (try dsimp only); (repeat' split) <;> simp
@[simp] theorem bumpRed_i3c (s : State) (lb : Nat) (e : RedEv) (n : Nat) : (s.bumpRed lb e n).i3c = s.i3c := by
  unfold State.bumpRed; (try dsimp only); (repeat' split) <;> simp
@[simp] theorem bumpRed_jtag (s : State) (lb : Nat) (e : RedEv) (n : Nat) : (s.bumpRed lb e n).jtag = s.jtag := by
  unfold State.bumpRed; (try dsimp only); (repeat' split) <;> simp
@[simp] theorem bumpRed_off (s : State) (lb : Nat) (e : RedEv) (n : Nat) : (s.bumpRed lb e n).off = s.off := by
  unfold State.bumpRed; (try dsimp only); (repeat' split) <;> simp
@[simp] theorem bumpRed_started (s : State) (lb : Nat) (e : RedEv) (n : Nat) : (s.bumpRed lb e n).started = s.started := by
  unfold State.bumpRed; (try dsimp only); (repeat' split) <;> simp
@[simp] theorem bumpRed_fw (s : State) (lb : Nat) (e : RedEv) (n : Nat) : (s.bumpRed lb e n).fw = s.fw := by
  unfold State.bumpRed; (try dsimp only); (repeat' split) <;> simp
@[simp] theorem bumpRed_acc (s : State) (lb : Nat) (e : RedEv) (n : Nat) : (s.bumpRed lb e n).acc = s.acc := by
  unfold State.bumpRed; (try dsimp only); (repeat' split) <;> simp
@[simp] theorem bumpRed_mgmt (s : State) (lb : Nat) (e : RedEv) (n : Nat) : (s.bumpRed lb e n).mgmt = s.mgmt := by
  unfold State.bumpRed; (try dsimp only); (repeat' split) <;> simp
@[simp] theorem bumpRed_flash (s : State) (lb : Nat) (e : RedEv) (n : Nat) : (s.bumpRed lb e n).flash = s.flash := by
  unfold State.bumpRed; (try dsimp only); (repeat' split) <;> simp
@[simp] theorem bumpRed_sw (s : State) (lb : Nat) (e : RedEv) (n : Nat) : (s.bumpRed lb e n).sw = s.sw := by
  unfold State.bumpRed; (try dsimp only); (repeat' split) <;> simp
@[simp] theorem bumpRed_tab (s : State) (lb : Nat) (e : RedEv) (n : Nat) : (s.bumpRed lb e n).tab = s.tab := by
  unfold State.bumpRed; (try dsimp only); (repeat' split) <;> simp
@[simp] theorem bumpRed_ports (s : State) (lb : Nat) (e : RedEv) (n : Nat) : (s.bumpRed lb e n).ports = s.ports := by
  unfold State.bumpRed; (try dsimp only); (repeat' split) <;> simp
@[simp] theorem bumpRed_gate (s : State) (lb : Nat) (e : RedEv) (n : Nat) : (s.bumpRed lb e n).gate = s.gate := by
  unfold State.bumpRed; (try dsimp only); (repeat' split) <;> simp
@[simp] theorem bumpRed_fen (s : State) (lb : Nat) (e : RedEv) (n : Nat) : (s.bumpRed lb e n).fen = s.fen := by
  unfold State.bumpRed; (try dsimp only); (repeat' split) <;> simp
@[simp] theorem bumpRed_gw (s : State) (lb : Nat) (e : RedEv) (n : Nat) : (s.bumpRed lb e n).gw = s.gw := by
  unfold State.bumpRed; (try dsimp only); (repeat' split) <;> simp
@[simp] theorem bumpRed_opt (s : State) (lb : Nat) (e : RedEv) (n : Nat) : (s.bumpRed lb e n).opt = s.opt := by
  unfold State.bumpRed; (try dsimp only); (repeat' split) <;> simp
@[simp] theorem bumpRed_eng (s : State) (lb : Nat) (e : RedEv) (n : Nat) : (s.bumpRed lb e n).eng = s.eng := by
  unfold State.bumpRed; (try dsimp only); (repeat' split) <;> simp
@[simp] theorem bumpRed_svc (s : State) (lb : Nat) (e : RedEv) (n : Nat) : (s.bumpRed lb e n).svc = s.svc := by
  unfold State.bumpRed; (try dsimp only); (repeat' split) <;> simp
@[simp] theorem bumpRed_red (s : State) (lb : Nat) (e : RedEv) (n : Nat) : (s.bumpRed lb e n).red = s.red := by
  unfold State.bumpRed; (try dsimp only); (repeat' split) <;> simp
@[simp] theorem bumpRed_cmn (s : State) (lb : Nat) (e : RedEv) (n : Nat) : (s.bumpRed lb e n).cmn = s.cmn := by
  unfold State.bumpRed; (try dsimp only); (repeat' split) <;> simp
@[simp] theorem bumpRed_prom (s : State) (lb : Nat) (e : RedEv) (n : Nat) : (s.bumpRed lb e n).prom = s.prom := by
  unfold State.bumpRed; (try dsimp only); (repeat' split) <;> simp
@[simp] theorem bumpRed_pwr (s : State) (lb : Nat) (e : RedEv) (n : Nat) : (s.bumpRed lb e n).pwr = s.pwr := by
  unfold State.bumpRed; (try dsimp only); (repeat' split) <;> simp
@[simp] theorem bumpRed_chip (s : State) (lb : Nat) (e : RedEv) (n : Nat) : (s.bumpRed lb e n).chip = s.chip := by
  unfold State.bumpRed; (try dsimp only); (repeat' split) <;> simp
@[simp] theorem bumpRed_out (s : State) (lb : Nat) (e : RedEv) (n : Nat) : (s.bumpRed lb e n).out = s.out := by
  unfold State.bumpRed; (try dsimp only); (repeat' split) <;> simp
@[simp] theorem bumpRed_freeCtr (s : State) (lb : Nat) (e : RedEv) (n : Nat) : (s.bumpRed lb e n).freeCtr = s.freeCtr := by
  unfold State.bumpRed; (try dsimp only); (repeat' split) <;> simp
theorem rd_bumpRed (s : State) (lb : Nat) (e : RedEv) (n : Nat) {a : Fld} (b : Nat) (h : a ∉ ([.telWrap_wrap] : List Fld)) : (s.bumpRed lb e n).rd a b = s.rd a b := by
  exact rd_bumpN _ _ _ _ _ h

/-! bumpCmn -/

@[simp] theorem bumpCmn_pending (s : State) (k : Nat) (e : CmnEv) : (s.bumpCmn k e).pending = s.pending := by
  unfold State.bumpCmn; (try dsimp only); (repeat' split) <;> simp
@[simp] theorem bumpCmn_tb (s : State) (k : Nat) (e : CmnEv) : (s.bumpCmn k e).tb = s.tb := by
  unfold State.bumpCmn; (try dsimp only); (repeat' split) <;> simp
@[simp] theorem bumpCmn_i3c (s : State) (k : Nat) (e : CmnEv) : (s.bumpCmn k e).i3c = s.i3c := by
  unfold State.bumpCmn; (try dsimp only); (repeat' split) <;> simp
@[simp] theorem bumpCmn_jtag (s : State) (k : Nat) (e : CmnEv) : (s.bumpCmn k e).jtag = s.jtag := by
  unfold State.bumpCmn; (try dsimp only); (repeat' split) <;> simp
@[simp] theorem bumpCmn_off (s : State) (k : Nat) (e : CmnEv) : (s.bumpCmn k e).off = s.off := by
  unfold State.bumpCmn; (try dsimp only); (repeat' split) <;> simp
@[simp] theorem bumpCmn_started (s : State) (k : Nat) (e : CmnEv) : (s.bumpCmn k e).started = s.started := by
  unfold State.bumpCmn; (try dsimp only); (repeat' split) <;> simp
@[simp] theorem bumpCmn_fw (s : State) (k : Nat) (e : CmnEv) : (s.bumpCmn k e).fw = s.fw := by
  unfold State.bumpCmn; (try dsimp only); (repeat' split) <;> simp
@[simp] theorem bumpCmn_acc (s : State) (k : Nat) (e : CmnEv) : (s.bumpCmn k e).acc = s.acc := by
  unfold State.bumpCmn; (try dsimp only); (repeat' split) <;> simp
@[simp] theorem bumpCmn_mgmt (s : State) (k : Nat) (e : CmnEv) : (s.bumpCmn k e).mgmt = s.mgmt := by
  unfold State.bumpCmn; (try dsimp only); (repeat' split) <;> simp
@[simp] theorem bumpCmn_flash (s : State) (k : Nat) (e : CmnEv) : (s.bumpCmn k e).flash = s.flash := by
  unfold State.bumpCmn; (try dsimp only); (repeat' split) <;> simp
@[simp] theorem bumpCmn_sw (s : State) (k : Nat) (e : CmnEv) : (s.bumpCmn k e).sw = s.sw := by
  unfold State.bumpCmn; (try dsimp only); (repeat' split) <;> simp
@[simp] theorem bumpCmn_tab (s : State) (k : Nat) (e : CmnEv) : (s.bumpCmn k e).tab = s.tab := by
  unfold State.bumpCmn; (try dsimp only); (repeat' split) <;> simp
@[simp] theorem bumpCmn_ports (s : State) (k : Nat) (e : CmnEv) : (s.bumpCmn k e).ports = s.ports := by
  unfold State.bumpCmn; (try dsimp only); (repeat' split) <;> simp
@[simp] theorem bumpCmn_gate (s : State) (k : Nat) (e : CmnEv) : (s.bumpCmn k e).gate = s.gate := by
  unfold State.bumpCmn; (try dsimp only); (repeat' split) <;> simp
@[simp] theorem bumpCmn_fen (s : State) (k : Nat) (e : CmnEv) : (s.bumpCmn k e).fen = s.fen := by
  unfold State.bumpCmn; (try dsimp only); (repeat' split) <;> simp
@[simp] theorem bumpCmn_gw (s : State) (k : Nat) (e : CmnEv) : (s.bumpCmn k e).gw = s.gw := by
  unfold State.bumpCmn; (try dsimp only); (repeat' split) <;> simp
@[simp] theorem bumpCmn_opt (s : State) (k : Nat) (e : CmnEv) : (s.bumpCmn k e).opt = s.opt := by
  unfold State.bumpCmn; (try dsimp only); (repeat' split) <;> simp
@[simp] theorem bumpCmn_eng (s : State) (k : Nat) (e : CmnEv) : (s.bumpCmn k e).eng = s.eng := by
  unfold State.bumpCmn; (try dsimp only); (repeat' split) <;> simp
@[simp] theorem bumpCmn_svc (s : State) (k : Nat) (e : CmnEv) : (s.bumpCmn k e).svc = s.svc := by
  unfold State.bumpCmn; (try dsimp only); (repeat' split) <;> simp
@[simp] theorem bumpCmn_red (s : State) (k : Nat) (e : CmnEv) : (s.bumpCmn k e).red = s.red := by
  unfold State.bumpCmn; (try dsimp only); (repeat' split) <;> simp
@[simp] theorem bumpCmn_cmn (s : State) (k : Nat) (e : CmnEv) : (s.bumpCmn k e).cmn = s.cmn := by
  unfold State.bumpCmn; (try dsimp only); (repeat' split) <;> simp
@[simp] theorem bumpCmn_prom (s : State) (k : Nat) (e : CmnEv) : (s.bumpCmn k e).prom = s.prom := by
  unfold State.bumpCmn; (try dsimp only); (repeat' split) <;> simp
@[simp] theorem bumpCmn_pwr (s : State) (k : Nat) (e : CmnEv) : (s.bumpCmn k e).pwr = s.pwr := by
  unfold State.bumpCmn; (try dsimp only); (repeat' split) <;> simp
@[simp] theorem bumpCmn_chip (s : State) (k : Nat) (e : CmnEv) : (s.bumpCmn k e).chip = s.chip := by
  unfold State.bumpCmn; (try dsimp only); (repeat' split) <;> simp
@[simp] theorem bumpCmn_out (s : State) (k : Nat) (e : CmnEv) : (s.bumpCmn k e).out = s.out := by
  unfold State.bumpCmn; (try dsimp only); (repeat' split) <;> simp
@[simp] theorem bumpCmn_freeCtr (s : State) (k : Nat) (e : CmnEv) : (s.bumpCmn k e).freeCtr = s.freeCtr := by
  unfold State.bumpCmn; (try dsimp only); (repeat' split) <;> simp
theorem rd_bumpCmn (s : State) (k : Nat) (e : CmnEv) {a : Fld} (b : Nat) (h : a ∉ ([.telWrap_wrap] : List Fld)) : (s.bumpCmn k e).rd a b = s.rd a b := by
  exact rd_bumpN _ _ _ _ _ h

/-! bumpProm -/

@[simp] theorem bumpProm_pending (s : State) (e : PromEv) (n : Nat) : (s.bumpProm e n).pending = s.pending := by
  unfold State.bumpProm; (try dsimp only); (repeat' split) <;> simp
@[simp] theorem bumpProm_tb (s : State) (e : PromEv) (n : Nat) : (s.bumpProm e n).tb = s.tb := by
  unfold State.bumpProm; (try dsimp only); (repeat' split) <;> simp
@[simp] theorem bumpProm_i3c (s : State) (e : PromEv) (n : Nat) : (s.bumpProm e n).i3c = s.i3c := by
  unfold State.bumpProm; (try dsimp only); (repeat' split) <;> simp
@[simp] theorem bumpProm_jtag (s : State) (e : PromEv) (n : Nat) : (s.bumpProm e n).jtag = s.jtag := by
  unfold State.bumpProm; (try dsimp only); (repeat' split) <;> simp
@[simp] theorem bumpProm_off (s : State) (e : PromEv) (n : Nat) : (s.bumpProm e n).off = s.off := by
  unfold State.bumpProm; (try dsimp only); (repeat' split) <;> simp
@[simp] theorem bumpProm_started (s : State) (e : PromEv) (n : Nat) : (s.bumpProm e n).started = s.started := by
  unfold State.bumpProm; (try dsimp only); (repeat' split) <;> simp
@[simp] theorem bumpProm_fw (s : State) (e : PromEv) (n : Nat) : (s.bumpProm e n).fw = s.fw := by
  unfold State.bumpProm; (try dsimp only); (repeat' split) <;> simp
@[simp] theorem bumpProm_acc (s : State) (e : PromEv) (n : Nat) : (s.bumpProm e n).acc = s.acc := by
  unfold State.bumpProm; (try dsimp only); (repeat' split) <;> simp
@[simp] theorem bumpProm_mgmt (s : State) (e : PromEv) (n : Nat) : (s.bumpProm e n).mgmt = s.mgmt := by
  unfold State.bumpProm; (try dsimp only); (repeat' split) <;> simp
@[simp] theorem bumpProm_flash (s : State) (e : PromEv) (n : Nat) : (s.bumpProm e n).flash = s.flash := by
  unfold State.bumpProm; (try dsimp only); (repeat' split) <;> simp
@[simp] theorem bumpProm_sw (s : State) (e : PromEv) (n : Nat) : (s.bumpProm e n).sw = s.sw := by
  unfold State.bumpProm; (try dsimp only); (repeat' split) <;> simp
@[simp] theorem bumpProm_tab (s : State) (e : PromEv) (n : Nat) : (s.bumpProm e n).tab = s.tab := by
  unfold State.bumpProm; (try dsimp only); (repeat' split) <;> simp
@[simp] theorem bumpProm_ports (s : State) (e : PromEv) (n : Nat) : (s.bumpProm e n).ports = s.ports := by
  unfold State.bumpProm; (try dsimp only); (repeat' split) <;> simp
@[simp] theorem bumpProm_gate (s : State) (e : PromEv) (n : Nat) : (s.bumpProm e n).gate = s.gate := by
  unfold State.bumpProm; (try dsimp only); (repeat' split) <;> simp
@[simp] theorem bumpProm_fen (s : State) (e : PromEv) (n : Nat) : (s.bumpProm e n).fen = s.fen := by
  unfold State.bumpProm; (try dsimp only); (repeat' split) <;> simp
@[simp] theorem bumpProm_gw (s : State) (e : PromEv) (n : Nat) : (s.bumpProm e n).gw = s.gw := by
  unfold State.bumpProm; (try dsimp only); (repeat' split) <;> simp
@[simp] theorem bumpProm_opt (s : State) (e : PromEv) (n : Nat) : (s.bumpProm e n).opt = s.opt := by
  unfold State.bumpProm; (try dsimp only); (repeat' split) <;> simp
@[simp] theorem bumpProm_eng (s : State) (e : PromEv) (n : Nat) : (s.bumpProm e n).eng = s.eng := by
  unfold State.bumpProm; (try dsimp only); (repeat' split) <;> simp
@[simp] theorem bumpProm_svc (s : State) (e : PromEv) (n : Nat) : (s.bumpProm e n).svc = s.svc := by
  unfold State.bumpProm; (try dsimp only); (repeat' split) <;> simp
@[simp] theorem bumpProm_red (s : State) (e : PromEv) (n : Nat) : (s.bumpProm e n).red = s.red := by
  unfold State.bumpProm; (try dsimp only); (repeat' split) <;> simp
@[simp] theorem bumpProm_cmn (s : State) (e : PromEv) (n : Nat) : (s.bumpProm e n).cmn = s.cmn := by
  unfold State.bumpProm; (try dsimp only); (repeat' split) <;> simp
@[simp] theorem bumpProm_prom (s : State) (e : PromEv) (n : Nat) : (s.bumpProm e n).prom = s.prom := by
  unfold State.bumpProm; (try dsimp only); (repeat' split) <;> simp
@[simp] theorem bumpProm_pwr (s : State) (e : PromEv) (n : Nat) : (s.bumpProm e n).pwr = s.pwr := by
  unfold State.bumpProm; (try dsimp only); (repeat' split) <;> simp
@[simp] theorem bumpProm_chip (s : State) (e : PromEv) (n : Nat) : (s.bumpProm e n).chip = s.chip := by
  unfold State.bumpProm; (try dsimp only); (repeat' split) <;> simp
@[simp] theorem bumpProm_out (s : State) (e : PromEv) (n : Nat) : (s.bumpProm e n).out = s.out := by
  unfold State.bumpProm; (try dsimp only); (repeat' split) <;> simp
@[simp] theorem bumpProm_freeCtr (s : State) (e : PromEv) (n : Nat) : (s.bumpProm e n).freeCtr = s.freeCtr := by
  unfold State.bumpProm; (try dsimp only); (repeat' split) <;> simp
theorem rd_bumpProm (s : State) (e : PromEv) (n : Nat) {a : Fld} (b : Nat) (h : a ∉ ([.telWrap_wrap] : List Fld)) : (s.bumpProm e n).rd a b = s.rd a b := by
  exact rd_bumpN _ _ _ _ _ h

/-! bumpGw -/

@[simp] theorem bumpGw_pending (s : State) (k : Nat) (e : GwEv) : (s.bumpGw k e).pending = s.pending := by
  unfold State.bumpGw; (try dsimp only); (repeat' split) <;> simp
@[simp] theorem bumpGw_tb (s : State) (k : Nat) (e : GwEv) : (s.bumpGw k e).tb = s.tb := by
  unfold State.bumpGw; (try dsimp only); (repeat' split) <;> simp
@[simp] theorem bumpGw_i3c (s : State) (k : Nat) (e : GwEv) : (s.bumpGw k e).i3c = s.i3c := by
  unfold State.bumpGw; (try dsimp only); (repeat' split) <;> simp
@[simp] theorem bumpGw_jtag (s : State) (k : Nat) (e : GwEv) : (s.bumpGw k e).jtag = s.jtag := by
  unfold State.bumpGw; (try dsimp only); (repeat' split) <;> simp
@[simp] theorem bumpGw_off (s : State) (k : Nat) (e : GwEv) : (s.bumpGw k e).off = s.off := by
  unfold State.bumpGw; (try dsimp only); (repeat' split) <;> simp
@[simp] theorem bumpGw_started (s : State) (k : Nat) (e : GwEv) : (s.bumpGw k e).started = s.started := by
  unfold State.bumpGw; (try dsimp only); (repeat' split) <;> simp
@[simp] theorem bumpGw_fw (s : State) (k : Nat) (e : GwEv) : (s.bumpGw k e).fw = s.fw := by
  unfold State.bumpGw; (try dsimp only); (repeat' split) <;> simp
@[simp] theorem bumpGw_acc (s : State) (k : Nat) (e : GwEv) : (s.bumpGw k e).acc = s.acc := by
  unfold State.bumpGw; (try dsimp only); (repeat' split) <;> simp
@[simp] theorem bumpGw_mgmt (s : State) (k : Nat) (e : GwEv) : (s.bumpGw k e).mgmt = s.mgmt := by
  unfold State.bumpGw; (try dsimp only); (repeat' split) <;> simp
@[simp] theorem bumpGw_flash (s : State) (k : Nat) (e : GwEv) : (s.bumpGw k e).flash = s.flash := by
  unfold State.bumpGw; (try dsimp only); (repeat' split) <;> simp
@[simp] theorem bumpGw_sw (s : State) (k : Nat) (e : GwEv) : (s.bumpGw k e).sw = s.sw := by
  unfold State.bumpGw; (try dsimp only); (repeat' split) <;> simp
@[simp] theorem bumpGw_tab (s : State) (k : Nat) (e : GwEv) : (s.bumpGw k e).tab = s.tab := by
  unfold State.bumpGw; (try dsimp only); (repeat' split) <;> simp
@[simp] theorem bumpGw_ports (s : State) (k : Nat) (e : GwEv) : (s.bumpGw k e).ports = s.ports := by
  unfold State.bumpGw; (try dsimp only); (repeat' split) <;> simp
@[simp] theorem bumpGw_gate (s : State) (k : Nat) (e : GwEv) : (s.bumpGw k e).gate = s.gate := by
  unfold State.bumpGw; (try dsimp only); (repeat' split) <;> simp
@[simp] theorem bumpGw_fen (s : State) (k : Nat) (e : GwEv) : (s.bumpGw k e).fen = s.fen := by
  unfold State.bumpGw; (try dsimp only); (repeat' split) <;> simp
@[simp] theorem bumpGw_gw (s : State) (k : Nat) (e : GwEv) : (s.bumpGw k e).gw = s.gw := by
  unfold State.bumpGw; (try dsimp only); (repeat' split) <;> simp
@[simp] theorem bumpGw_opt (s : State) (k : Nat) (e : GwEv) : (s.bumpGw k e).opt = s.opt := by
  unfold State.bumpGw; (try dsimp only); (repeat' split) <;> simp
@[simp] theorem bumpGw_eng (s : State) (k : Nat) (e : GwEv) : (s.bumpGw k e).eng = s.eng := by
  unfold State.bumpGw; (try dsimp only); (repeat' split) <;> simp
@[simp] theorem bumpGw_svc (s : State) (k : Nat) (e : GwEv) : (s.bumpGw k e).svc = s.svc := by
  unfold State.bumpGw; (try dsimp only); (repeat' split) <;> simp
@[simp] theorem bumpGw_red (s : State) (k : Nat) (e : GwEv) : (s.bumpGw k e).red = s.red := by
  unfold State.bumpGw; (try dsimp only); (repeat' split) <;> simp
@[simp] theorem bumpGw_cmn (s : State) (k : Nat) (e : GwEv) : (s.bumpGw k e).cmn = s.cmn := by
  unfold State.bumpGw; (try dsimp only); (repeat' split) <;> simp
@[simp] theorem bumpGw_prom (s : State) (k : Nat) (e : GwEv) : (s.bumpGw k e).prom = s.prom := by
  unfold State.bumpGw; (try dsimp only); (repeat' split) <;> simp
@[simp] theorem bumpGw_pwr (s : State) (k : Nat) (e : GwEv) : (s.bumpGw k e).pwr = s.pwr := by
  unfold State.bumpGw; (try dsimp only); (repeat' split) <;> simp
@[simp] theorem bumpGw_chip (s : State) (k : Nat) (e : GwEv) : (s.bumpGw k e).chip = s.chip := by
  unfold State.bumpGw; (try dsimp only); (repeat' split) <;> simp
@[simp] theorem bumpGw_out (s : State) (k : Nat) (e : GwEv) : (s.bumpGw k e).out = s.out := by
  unfold State.bumpGw; (try dsimp only); (repeat' split) <;> simp
@[simp] theorem bumpGw_freeCtr (s : State) (k : Nat) (e : GwEv) : (s.bumpGw k e).freeCtr = s.freeCtr := by
  unfold State.bumpGw; (try dsimp only); (repeat' split) <;> simp
theorem rd_bumpGw (s : State) (k : Nat) (e : GwEv) {a : Fld} (b : Nat) (h : a ∉ ([.telWrap_wrap] : List Fld)) : (s.bumpGw k e).rd a b = s.rd a b := by
  exact rd_bumpN _ _ _ _ _ h

/-! bumpChip -/

@[simp] theorem bumpChip_pending (s : State) (e : ChipEv) : (s.bumpChip e).pending = s.pending := by
  unfold State.bumpChip; (try dsimp only); (repeat' split) <;> simp
@[simp] theorem bumpChip_tb (s : State) (e : ChipEv) : (s.bumpChip e).tb = s.tb := by
  unfold State.bumpChip; (try dsimp only); (repeat' split) <;> simp
@[simp] theorem bumpChip_i3c (s : State) (e : ChipEv) : (s.bumpChip e).i3c = s.i3c := by
  unfold State.bumpChip; (try dsimp only); (repeat' split) <;> simp
@[simp] theorem bumpChip_jtag (s : State) (e : ChipEv) : (s.bumpChip e).jtag = s.jtag := by
  unfold State.bumpChip; (try dsimp only); (repeat' split) <;> simp
@[simp] theorem bumpChip_off (s : State) (e : ChipEv) : (s.bumpChip e).off = s.off := by
  unfold State.bumpChip; (try dsimp only); (repeat' split) <;> simp
@[simp] theorem bumpChip_started (s : State) (e : ChipEv) : (s.bumpChip e).started = s.started := by
  unfold State.bumpChip; (try dsimp only); (repeat' split) <;> simp
@[simp] theorem bumpChip_fw (s : State) (e : ChipEv) : (s.bumpChip e).fw = s.fw := by
  unfold State.bumpChip; (try dsimp only); (repeat' split) <;> simp
@[simp] theorem bumpChip_acc (s : State) (e : ChipEv) : (s.bumpChip e).acc = s.acc := by
  unfold State.bumpChip; (try dsimp only); (repeat' split) <;> simp
@[simp] theorem bumpChip_mgmt (s : State) (e : ChipEv) : (s.bumpChip e).mgmt = s.mgmt := by
  unfold State.bumpChip; (try dsimp only); (repeat' split) <;> simp
@[simp] theorem bumpChip_flash (s : State) (e : ChipEv) : (s.bumpChip e).flash = s.flash := by
  unfold State.bumpChip; (try dsimp only); (repeat' split) <;> simp
@[simp] theorem bumpChip_sw (s : State) (e : ChipEv) : (s.bumpChip e).sw = s.sw := by
  unfold State.bumpChip; (try dsimp only); (repeat' split) <;> simp
@[simp] theorem bumpChip_tab (s : State) (e : ChipEv) : (s.bumpChip e).tab = s.tab := by
  unfold State.bumpChip; (try dsimp only); (repeat' split) <;> simp
@[simp] theorem bumpChip_ports (s : State) (e : ChipEv) : (s.bumpChip e).ports = s.ports := by
  unfold State.bumpChip; (try dsimp only); (repeat' split) <;> simp
@[simp] theorem bumpChip_gate (s : State) (e : ChipEv) : (s.bumpChip e).gate = s.gate := by
  unfold State.bumpChip; (try dsimp only); (repeat' split) <;> simp
@[simp] theorem bumpChip_fen (s : State) (e : ChipEv) : (s.bumpChip e).fen = s.fen := by
  unfold State.bumpChip; (try dsimp only); (repeat' split) <;> simp
@[simp] theorem bumpChip_gw (s : State) (e : ChipEv) : (s.bumpChip e).gw = s.gw := by
  unfold State.bumpChip; (try dsimp only); (repeat' split) <;> simp
@[simp] theorem bumpChip_opt (s : State) (e : ChipEv) : (s.bumpChip e).opt = s.opt := by
  unfold State.bumpChip; (try dsimp only); (repeat' split) <;> simp
@[simp] theorem bumpChip_eng (s : State) (e : ChipEv) : (s.bumpChip e).eng = s.eng := by
  unfold State.bumpChip; (try dsimp only); (repeat' split) <;> simp
@[simp] theorem bumpChip_svc (s : State) (e : ChipEv) : (s.bumpChip e).svc = s.svc := by
  unfold State.bumpChip; (try dsimp only); (repeat' split) <;> simp
@[simp] theorem bumpChip_red (s : State) (e : ChipEv) : (s.bumpChip e).red = s.red := by
  unfold State.bumpChip; (try dsimp only); (repeat' split) <;> simp
@[simp] theorem bumpChip_cmn (s : State) (e : ChipEv) : (s.bumpChip e).cmn = s.cmn := by
  unfold State.bumpChip; (try dsimp only); (repeat' split) <;> simp
@[simp] theorem bumpChip_prom (s : State) (e : ChipEv) : (s.bumpChip e).prom = s.prom := by
  unfold State.bumpChip; (try dsimp only); (repeat' split) <;> simp
@[simp] theorem bumpChip_pwr (s : State) (e : ChipEv) : (s.bumpChip e).pwr = s.pwr := by
  unfold State.bumpChip; (try dsimp only); (repeat' split) <;> simp
@[simp] theorem bumpChip_chip (s : State) (e : ChipEv) : (s.bumpChip e).chip = s.chip := by
  unfold State.bumpChip; (try dsimp only); (repeat' split) <;> simp
@[simp] theorem bumpChip_out (s : State) (e : ChipEv) : (s.bumpChip e).out = s.out := by
  unfold State.bumpChip; (try dsimp only); (repeat' split) <;> simp
@[simp] theorem bumpChip_freeCtr (s : State) (e : ChipEv) : (s.bumpChip e).freeCtr = s.freeCtr := by
  unfold State.bumpChip; (try dsimp only); (repeat' split) <;> simp
theorem rd_bumpChip (s : State) (e : ChipEv) {a : Fld} (b : Nat) (h : a ∉ ([.telWrap_wrap] : List Fld)) : (s.bumpChip e).rd a b = s.rd a b := by
  exact rd_bumpN _ _ _ _ _ h

/-! bumpMem -/

@[simp] theorem bumpMem_pending (s : State) (k m : Nat) (e : MemEv) : (s.bumpMem k m e).pending = s.pending := by
  unfold State.bumpMem; (try dsimp only); (repeat' split) <;> simp
@[simp] theorem bumpMem_tb (s : State) (k m : Nat) (e : MemEv) : (s.bumpMem k m e).tb = s.tb := by
  unfold State.bumpMem; (try dsimp only); (repeat' split) <;> simp
@[simp] theorem bumpMem_i3c (s : State) (k m : Nat) (e : MemEv) : (s.bumpMem k m e).i3c = s.i3c := by
  unfold State.bumpMem; (try dsimp only); (repeat' split) <;> simp
@[simp] theorem bumpMem_jtag (s : State) (k m : Nat) (e : MemEv) : (s.bumpMem k m e).jtag = s.jtag := by
  unfold State.bumpMem; (try dsimp only); (repeat' split) <;> simp
@[simp] theorem bumpMem_off (s : State) (k m : Nat) (e : MemEv) : (s.bumpMem k m e).off = s.off := by
  unfold State.bumpMem; (try dsimp only); (repeat' split) <;> simp
@[simp] theorem bumpMem_started (s : State) (k m : Nat) (e : MemEv) : (s.bumpMem k m e).started = s.started := by
  unfold State.bumpMem; (try dsimp only); (repeat' split) <;> simp
@[simp] theorem bumpMem_fw (s : State) (k m : Nat) (e : MemEv) : (s.bumpMem k m e).fw = s.fw := by
  unfold State.bumpMem; (try dsimp only); (repeat' split) <;> simp
@[simp] theorem bumpMem_acc (s : State) (k m : Nat) (e : MemEv) : (s.bumpMem k m e).acc = s.acc := by
  unfold State.bumpMem; (try dsimp only); (repeat' split) <;> simp
@[simp] theorem bumpMem_mgmt (s : State) (k m : Nat) (e : MemEv) : (s.bumpMem k m e).mgmt = s.mgmt := by
  unfold State.bumpMem; (try dsimp only); (repeat' split) <;> simp
@[simp] theorem bumpMem_flash (s : State) (k m : Nat) (e : MemEv) : (s.bumpMem k m e).flash = s.flash := by
  unfold State.bumpMem; (try dsimp only); (repeat' split) <;> simp
@[simp] theorem bumpMem_sw (s : State) (k m : Nat) (e : MemEv) : (s.bumpMem k m e).sw = s.sw := by
  unfold State.bumpMem; (try dsimp only); (repeat' split) <;> simp
@[simp] theorem bumpMem_tab (s : State) (k m : Nat) (e : MemEv) : (s.bumpMem k m e).tab = s.tab := by
  unfold State.bumpMem; (try dsimp only); (repeat' split) <;> simp
@[simp] theorem bumpMem_ports (s : State) (k m : Nat) (e : MemEv) : (s.bumpMem k m e).ports = s.ports := by
  unfold State.bumpMem; (try dsimp only); (repeat' split) <;> simp
@[simp] theorem bumpMem_gate (s : State) (k m : Nat) (e : MemEv) : (s.bumpMem k m e).gate = s.gate := by
  unfold State.bumpMem; (try dsimp only); (repeat' split) <;> simp
@[simp] theorem bumpMem_fen (s : State) (k m : Nat) (e : MemEv) : (s.bumpMem k m e).fen = s.fen := by
  unfold State.bumpMem; (try dsimp only); (repeat' split) <;> simp
@[simp] theorem bumpMem_gw (s : State) (k m : Nat) (e : MemEv) : (s.bumpMem k m e).gw = s.gw := by
  unfold State.bumpMem; (try dsimp only); (repeat' split) <;> simp
@[simp] theorem bumpMem_opt (s : State) (k m : Nat) (e : MemEv) : (s.bumpMem k m e).opt = s.opt := by
  unfold State.bumpMem; (try dsimp only); (repeat' split) <;> simp
@[simp] theorem bumpMem_eng (s : State) (k m : Nat) (e : MemEv) : (s.bumpMem k m e).eng = s.eng := by
  unfold State.bumpMem; (try dsimp only); (repeat' split) <;> simp
@[simp] theorem bumpMem_svc (s : State) (k m : Nat) (e : MemEv) : (s.bumpMem k m e).svc = s.svc := by
  unfold State.bumpMem; (try dsimp only); (repeat' split) <;> simp
@[simp] theorem bumpMem_red (s : State) (k m : Nat) (e : MemEv) : (s.bumpMem k m e).red = s.red := by
  unfold State.bumpMem; (try dsimp only); (repeat' split) <;> simp
@[simp] theorem bumpMem_cmn (s : State) (k m : Nat) (e : MemEv) : (s.bumpMem k m e).cmn = s.cmn := by
  unfold State.bumpMem; (try dsimp only); (repeat' split) <;> simp
@[simp] theorem bumpMem_prom (s : State) (k m : Nat) (e : MemEv) : (s.bumpMem k m e).prom = s.prom := by
  unfold State.bumpMem; (try dsimp only); (repeat' split) <;> simp
@[simp] theorem bumpMem_pwr (s : State) (k m : Nat) (e : MemEv) : (s.bumpMem k m e).pwr = s.pwr := by
  unfold State.bumpMem; (try dsimp only); (repeat' split) <;> simp
@[simp] theorem bumpMem_chip (s : State) (k m : Nat) (e : MemEv) : (s.bumpMem k m e).chip = s.chip := by
  unfold State.bumpMem; (try dsimp only); (repeat' split) <;> simp
@[simp] theorem bumpMem_out (s : State) (k m : Nat) (e : MemEv) : (s.bumpMem k m e).out = s.out := by
  unfold State.bumpMem; (try dsimp only); (repeat' split) <;> simp
@[simp] theorem bumpMem_freeCtr (s : State) (k m : Nat) (e : MemEv) : (s.bumpMem k m e).freeCtr = s.freeCtr := by
  unfold State.bumpMem; (try dsimp only); (repeat' split) <;> simp
theorem rd_bumpMem (s : State) (k m : Nat) (e : MemEv) {a : Fld} (b : Nat) (h : a ∉ ([.telWrap_wrap] : List Fld)) : (s.bumpMem k m e).rd a b = s.rd a b := by
  exact rd_bumpN _ _ _ _ _ h

/-! msixSend -/

@[simp] theorem msixSend_pending (s : State) (fn v : Nat) : (s.msixSend fn v).pending = s.pending := by
  unfold State.msixSend; (try dsimp only); (repeat' split) <;> simp
@[simp] theorem msixSend_tb (s : State) (fn v : Nat) : (s.msixSend fn v).tb = s.tb := by
  unfold State.msixSend; (try dsimp only); (repeat' split) <;> simp
@[simp] theorem msixSend_i3c (s : State) (fn v : Nat) : (s.msixSend fn v).i3c = s.i3c := by
  unfold State.msixSend; (try dsimp only); (repeat' split) <;> simp
@[simp] theorem msixSend_jtag (s : State) (fn v : Nat) : (s.msixSend fn v).jtag = s.jtag := by
  unfold State.msixSend; (try dsimp only); (repeat' split) <;> simp
@[simp] theorem msixSend_regs (s : State) (fn v : Nat) : (s.msixSend fn v).regs = s.regs := by
  unfold State.msixSend; (try dsimp only); (repeat' split) <;> simp
@[simp] theorem msixSend_off (s : State) (fn v : Nat) : (s.msixSend fn v).off = s.off := by
  unfold State.msixSend; (try dsimp only); (repeat' split) <;> simp
@[simp] theorem msixSend_started (s : State) (fn v : Nat) : (s.msixSend fn v).started = s.started := by
  unfold State.msixSend; (try dsimp only); (repeat' split) <;> simp
@[simp] theorem msixSend_fw (s : State) (fn v : Nat) : (s.msixSend fn v).fw = s.fw := by
  unfold State.msixSend; (try dsimp only); (repeat' split) <;> simp
@[simp] theorem msixSend_acc (s : State) (fn v : Nat) : (s.msixSend fn v).acc = s.acc := by
  unfold State.msixSend; (try dsimp only); (repeat' split) <;> simp
@[simp] theorem msixSend_tel (s : State) (fn v : Nat) : (s.msixSend fn v).tel = s.tel := by
  unfold State.msixSend; (try dsimp only); (repeat' split) <;> simp
@[simp] theorem msixSend_flash (s : State) (fn v : Nat) : (s.msixSend fn v).flash = s.flash := by
  unfold State.msixSend; (try dsimp only); (repeat' split) <;> simp
@[simp] theorem msixSend_sw (s : State) (fn v : Nat) : (s.msixSend fn v).sw = s.sw := by
  unfold State.msixSend; (try dsimp only); (repeat' split) <;> simp
@[simp] theorem msixSend_tab (s : State) (fn v : Nat) : (s.msixSend fn v).tab = s.tab := by
  unfold State.msixSend; (try dsimp only); (repeat' split) <;> simp
@[simp] theorem msixSend_ports (s : State) (fn v : Nat) : (s.msixSend fn v).ports = s.ports := by
  unfold State.msixSend; (try dsimp only); (repeat' split) <;> simp
@[simp] theorem msixSend_gate (s : State) (fn v : Nat) : (s.msixSend fn v).gate = s.gate := by
  unfold State.msixSend; (try dsimp only); (repeat' split) <;> simp
@[simp] theorem msixSend_fen (s : State) (fn v : Nat) : (s.msixSend fn v).fen = s.fen := by
  unfold State.msixSend; (try dsimp only); (repeat' split) <;> simp
@[simp] theorem msixSend_gw (s : State) (fn v : Nat) : (s.msixSend fn v).gw = s.gw := by
  unfold State.msixSend; (try dsimp only); (repeat' split) <;> simp
@[simp] theorem msixSend_opt (s : State) (fn v : Nat) : (s.msixSend fn v).opt = s.opt := by
  unfold State.msixSend; (try dsimp only); (repeat' split) <;> simp
@[simp] theorem msixSend_eng (s : State) (fn v : Nat) : (s.msixSend fn v).eng = s.eng := by
  unfold State.msixSend; (try dsimp only); (repeat' split) <;> simp
@[simp] theorem msixSend_svc (s : State) (fn v : Nat) : (s.msixSend fn v).svc = s.svc := by
  unfold State.msixSend; (try dsimp only); (repeat' split) <;> simp
@[simp] theorem msixSend_red (s : State) (fn v : Nat) : (s.msixSend fn v).red = s.red := by
  unfold State.msixSend; (try dsimp only); (repeat' split) <;> simp
@[simp] theorem msixSend_cmn (s : State) (fn v : Nat) : (s.msixSend fn v).cmn = s.cmn := by
  unfold State.msixSend; (try dsimp only); (repeat' split) <;> simp
@[simp] theorem msixSend_prom (s : State) (fn v : Nat) : (s.msixSend fn v).prom = s.prom := by
  unfold State.msixSend; (try dsimp only); (repeat' split) <;> simp
@[simp] theorem msixSend_pwr (s : State) (fn v : Nat) : (s.msixSend fn v).pwr = s.pwr := by
  unfold State.msixSend; (try dsimp only); (repeat' split) <;> simp
@[simp] theorem msixSend_chip (s : State) (fn v : Nat) : (s.msixSend fn v).chip = s.chip := by
  unfold State.msixSend; (try dsimp only); (repeat' split) <;> simp
@[simp] theorem msixSend_freeCtr (s : State) (fn v : Nat) : (s.msixSend fn v).freeCtr = s.freeCtr := by
  unfold State.msixSend; (try dsimp only); (repeat' split) <;> simp
@[simp] theorem rd_msixSend (s : State) (fn v : Nat) (a : Fld) (b : Nat) : (s.msixSend fn v).rd a b = s.rd a b := by
  have := msixSend_regs s fn v; unfold State.rd; rw [this]

/-! msixCause -/

@[simp] theorem msixCause_pending (s : State) (fn v : Nat) : (s.msixCause fn v).pending = s.pending := by
  unfold State.msixCause; (try dsimp only); (repeat' split) <;> simp
@[simp] theorem msixCause_tb (s : State) (fn v : Nat) : (s.msixCause fn v).tb = s.tb := by
  unfold State.msixCause; (try dsimp only); (repeat' split) <;> simp
@[simp] theorem msixCause_i3c (s : State) (fn v : Nat) : (s.msixCause fn v).i3c = s.i3c := by
  unfold State.msixCause; (try dsimp only); (repeat' split) <;> simp
@[simp] theorem msixCause_jtag (s : State) (fn v : Nat) : (s.msixCause fn v).jtag = s.jtag := by
  unfold State.msixCause; (try dsimp only); (repeat' split) <;> simp
@[simp] theorem msixCause_regs (s : State) (fn v : Nat) : (s.msixCause fn v).regs = s.regs := by
  unfold State.msixCause; (try dsimp only); (repeat' split) <;> simp
@[simp] theorem msixCause_off (s : State) (fn v : Nat) : (s.msixCause fn v).off = s.off := by
  unfold State.msixCause; (try dsimp only); (repeat' split) <;> simp
@[simp] theorem msixCause_started (s : State) (fn v : Nat) : (s.msixCause fn v).started = s.started := by
  unfold State.msixCause; (try dsimp only); (repeat' split) <;> simp
@[simp] theorem msixCause_fw (s : State) (fn v : Nat) : (s.msixCause fn v).fw = s.fw := by
  unfold State.msixCause; (try dsimp only); (repeat' split) <;> simp
@[simp] theorem msixCause_acc (s : State) (fn v : Nat) : (s.msixCause fn v).acc = s.acc := by
  unfold State.msixCause; (try dsimp only); (repeat' split) <;> simp
@[simp] theorem msixCause_tel (s : State) (fn v : Nat) : (s.msixCause fn v).tel = s.tel := by
  unfold State.msixCause; (try dsimp only); (repeat' split) <;> simp
@[simp] theorem msixCause_flash (s : State) (fn v : Nat) : (s.msixCause fn v).flash = s.flash := by
  unfold State.msixCause; (try dsimp only); (repeat' split) <;> simp
@[simp] theorem msixCause_sw (s : State) (fn v : Nat) : (s.msixCause fn v).sw = s.sw := by
  unfold State.msixCause; (try dsimp only); (repeat' split) <;> simp
@[simp] theorem msixCause_tab (s : State) (fn v : Nat) : (s.msixCause fn v).tab = s.tab := by
  unfold State.msixCause; (try dsimp only); (repeat' split) <;> simp
@[simp] theorem msixCause_ports (s : State) (fn v : Nat) : (s.msixCause fn v).ports = s.ports := by
  unfold State.msixCause; (try dsimp only); (repeat' split) <;> simp
@[simp] theorem msixCause_gate (s : State) (fn v : Nat) : (s.msixCause fn v).gate = s.gate := by
  unfold State.msixCause; (try dsimp only); (repeat' split) <;> simp
@[simp] theorem msixCause_fen (s : State) (fn v : Nat) : (s.msixCause fn v).fen = s.fen := by
  unfold State.msixCause; (try dsimp only); (repeat' split) <;> simp
@[simp] theorem msixCause_gw (s : State) (fn v : Nat) : (s.msixCause fn v).gw = s.gw := by
  unfold State.msixCause; (try dsimp only); (repeat' split) <;> simp
@[simp] theorem msixCause_opt (s : State) (fn v : Nat) : (s.msixCause fn v).opt = s.opt := by
  unfold State.msixCause; (try dsimp only); (repeat' split) <;> simp
@[simp] theorem msixCause_eng (s : State) (fn v : Nat) : (s.msixCause fn v).eng = s.eng := by
  unfold State.msixCause; (try dsimp only); (repeat' split) <;> simp
@[simp] theorem msixCause_svc (s : State) (fn v : Nat) : (s.msixCause fn v).svc = s.svc := by
  unfold State.msixCause; (try dsimp only); (repeat' split) <;> simp
@[simp] theorem msixCause_red (s : State) (fn v : Nat) : (s.msixCause fn v).red = s.red := by
  unfold State.msixCause; (try dsimp only); (repeat' split) <;> simp
@[simp] theorem msixCause_cmn (s : State) (fn v : Nat) : (s.msixCause fn v).cmn = s.cmn := by
  unfold State.msixCause; (try dsimp only); (repeat' split) <;> simp
@[simp] theorem msixCause_prom (s : State) (fn v : Nat) : (s.msixCause fn v).prom = s.prom := by
  unfold State.msixCause; (try dsimp only); (repeat' split) <;> simp
@[simp] theorem msixCause_pwr (s : State) (fn v : Nat) : (s.msixCause fn v).pwr = s.pwr := by
  unfold State.msixCause; (try dsimp only); (repeat' split) <;> simp
@[simp] theorem msixCause_chip (s : State) (fn v : Nat) : (s.msixCause fn v).chip = s.chip := by
  unfold State.msixCause; (try dsimp only); (repeat' split) <;> simp
@[simp] theorem msixCause_freeCtr (s : State) (fn v : Nat) : (s.msixCause fn v).freeCtr = s.freeCtr := by
  unfold State.msixCause; (try dsimp only); (repeat' split) <;> simp
@[simp] theorem rd_msixCause (s : State) (fn v : Nat) (a : Fld) (b : Nat) : (s.msixCause fn v).rd a b = s.rd a b := by
  have := msixCause_regs s fn v; unfold State.rd; rw [this]

/-! putEntry -/

@[simp] theorem putEntry_pending (s : State) (fn r ty cells : Nat) (b8 body : List Byte) : (s.putEntry fn r ty cells b8 body).pending = s.pending := by
  unfold State.putEntry; (try dsimp only); (repeat' split) <;> simp
@[simp] theorem putEntry_tb (s : State) (fn r ty cells : Nat) (b8 body : List Byte) : (s.putEntry fn r ty cells b8 body).tb = s.tb := by
  unfold State.putEntry; (try dsimp only); (repeat' split) <;> simp
@[simp] theorem putEntry_i3c (s : State) (fn r ty cells : Nat) (b8 body : List Byte) : (s.putEntry fn r ty cells b8 body).i3c = s.i3c := by
  unfold State.putEntry; (try dsimp only); (repeat' split) <;> simp
@[simp] theorem putEntry_jtag (s : State) (fn r ty cells : Nat) (b8 body : List Byte) : (s.putEntry fn r ty cells b8 body).jtag = s.jtag := by
  unfold State.putEntry; (try dsimp only); (repeat' split) <;> simp
@[simp] theorem putEntry_off (s : State) (fn r ty cells : Nat) (b8 body : List Byte) : (s.putEntry fn r ty cells b8 body).off = s.off := by
  unfold State.putEntry; (try dsimp only); (repeat' split) <;> simp
@[simp] theorem putEntry_started (s : State) (fn r ty cells : Nat) (b8 body : List Byte) : (s.putEntry fn r ty cells b8 body).started = s.started := by
  unfold State.putEntry; (try dsimp only); (repeat' split) <;> simp
@[simp] theorem putEntry_fw (s : State) (fn r ty cells : Nat) (b8 body : List Byte) : (s.putEntry fn r ty cells b8 body).fw = s.fw := by
  unfold State.putEntry; (try dsimp only); (repeat' split) <;> simp
@[simp] theorem putEntry_acc (s : State) (fn r ty cells : Nat) (b8 body : List Byte) : (s.putEntry fn r ty cells b8 body).acc = s.acc := by
  unfold State.putEntry; (try dsimp only); (repeat' split) <;> simp
@[simp] theorem putEntry_tel (s : State) (fn r ty cells : Nat) (b8 body : List Byte) : (s.putEntry fn r ty cells b8 body).tel = s.tel := by
  unfold State.putEntry; (try dsimp only); (repeat' split) <;> simp
@[simp] theorem putEntry_flash (s : State) (fn r ty cells : Nat) (b8 body : List Byte) : (s.putEntry fn r ty cells b8 body).flash = s.flash := by
  unfold State.putEntry; (try dsimp only); (repeat' split) <;> simp
@[simp] theorem putEntry_sw (s : State) (fn r ty cells : Nat) (b8 body : List Byte) : (s.putEntry fn r ty cells b8 body).sw = s.sw := by
  unfold State.putEntry; (try dsimp only); (repeat' split) <;> simp
@[simp] theorem putEntry_tab (s : State) (fn r ty cells : Nat) (b8 body : List Byte) : (s.putEntry fn r ty cells b8 body).tab = s.tab := by
  unfold State.putEntry; (try dsimp only); (repeat' split) <;> simp
@[simp] theorem putEntry_ports (s : State) (fn r ty cells : Nat) (b8 body : List Byte) : (s.putEntry fn r ty cells b8 body).ports = s.ports := by
  unfold State.putEntry; (try dsimp only); (repeat' split) <;> simp
@[simp] theorem putEntry_gate (s : State) (fn r ty cells : Nat) (b8 body : List Byte) : (s.putEntry fn r ty cells b8 body).gate = s.gate := by
  unfold State.putEntry; (try dsimp only); (repeat' split) <;> simp
@[simp] theorem putEntry_fen (s : State) (fn r ty cells : Nat) (b8 body : List Byte) : (s.putEntry fn r ty cells b8 body).fen = s.fen := by
  unfold State.putEntry; (try dsimp only); (repeat' split) <;> simp
@[simp] theorem putEntry_gw (s : State) (fn r ty cells : Nat) (b8 body : List Byte) : (s.putEntry fn r ty cells b8 body).gw = s.gw := by
  unfold State.putEntry; (try dsimp only); (repeat' split) <;> simp
@[simp] theorem putEntry_opt (s : State) (fn r ty cells : Nat) (b8 body : List Byte) : (s.putEntry fn r ty cells b8 body).opt = s.opt := by
  unfold State.putEntry; (try dsimp only); (repeat' split) <;> simp
@[simp] theorem putEntry_eng (s : State) (fn r ty cells : Nat) (b8 body : List Byte) : (s.putEntry fn r ty cells b8 body).eng = s.eng := by
  unfold State.putEntry; (try dsimp only); (repeat' split) <;> simp
@[simp] theorem putEntry_svc (s : State) (fn r ty cells : Nat) (b8 body : List Byte) : (s.putEntry fn r ty cells b8 body).svc = s.svc := by
  unfold State.putEntry; (try dsimp only); (repeat' split) <;> simp
@[simp] theorem putEntry_red (s : State) (fn r ty cells : Nat) (b8 body : List Byte) : (s.putEntry fn r ty cells b8 body).red = s.red := by
  unfold State.putEntry; (try dsimp only); (repeat' split) <;> simp
@[simp] theorem putEntry_cmn (s : State) (fn r ty cells : Nat) (b8 body : List Byte) : (s.putEntry fn r ty cells b8 body).cmn = s.cmn := by
  unfold State.putEntry; (try dsimp only); (repeat' split) <;> simp
@[simp] theorem putEntry_prom (s : State) (fn r ty cells : Nat) (b8 body : List Byte) : (s.putEntry fn r ty cells b8 body).prom = s.prom := by
  unfold State.putEntry; (try dsimp only); (repeat' split) <;> simp
@[simp] theorem putEntry_pwr (s : State) (fn r ty cells : Nat) (b8 body : List Byte) : (s.putEntry fn r ty cells b8 body).pwr = s.pwr := by
  unfold State.putEntry; (try dsimp only); (repeat' split) <;> simp
@[simp] theorem putEntry_chip (s : State) (fn r ty cells : Nat) (b8 body : List Byte) : (s.putEntry fn r ty cells b8 body).chip = s.chip := by
  unfold State.putEntry; (try dsimp only); (repeat' split) <;> simp
@[simp] theorem putEntry_freeCtr (s : State) (fn r ty cells : Nat) (b8 body : List Byte) : (s.putEntry fn r ty cells b8 body).freeCtr = s.freeCtr := by
  unfold State.putEntry; (try dsimp only); (repeat' split) <;> simp
theorem rd_putEntry (s : State) (fn r ty cells : Nat) (b8 body : List Byte) {a : Fld} (b : Nat) (h : a ∉ ([.pcieRingPartIdx_idx] : List Fld)) : (s.putEntry fn r ty cells b8 body).rd a b = s.rd a b := by
  simp only [List.mem_singleton] at h
  unfold State.putEntry
  rw [rd_wr_other _ _ (.inl h)]; rfl

/-! writeEntry -/

@[simp] theorem writeEntry_pending (s : State) (fn r ty : Nat) (b8 body : List Byte) : (s.writeEntry fn r ty b8 body).pending = s.pending := by
  unfold State.writeEntry; (try dsimp only); (repeat' split) <;> simp
@[simp] theorem writeEntry_tb (s : State) (fn r ty : Nat) (b8 body : List Byte) : (s.writeEntry fn r ty b8 body).tb = s.tb := by
  unfold State.writeEntry; (try dsimp only); (repeat' split) <;> simp
@[simp] theorem writeEntry_i3c (s : State) (fn r ty : Nat) (b8 body : List Byte) : (s.writeEntry fn r ty b8 body).i3c = s.i3c := by
  unfold State.writeEntry; (try dsimp only); (repeat' split) <;> simp
@[simp] theorem writeEntry_jtag (s : State) (fn r ty : Nat) (b8 body : List Byte) : (s.writeEntry fn r ty b8 body).jtag = s.jtag := by
  unfold State.writeEntry; (try dsimp only); (repeat' split) <;> simp
@[simp] theorem writeEntry_off (s : State) (fn r ty : Nat) (b8 body : List Byte) : (s.writeEntry fn r ty b8 body).off = s.off := by
  unfold State.writeEntry; (try dsimp only); (repeat' split) <;> simp
@[simp] theorem writeEntry_started (s : State) (fn r ty : Nat) (b8 body : List Byte) : (s.writeEntry fn r ty b8 body).started = s.started := by
  unfold State.writeEntry; (try dsimp only); (repeat' split) <;> simp
@[simp] theorem writeEntry_fw (s : State) (fn r ty : Nat) (b8 body : List Byte) : (s.writeEntry fn r ty b8 body).fw = s.fw := by
  unfold State.writeEntry; (try dsimp only); (repeat' split) <;> simp
@[simp] theorem writeEntry_acc (s : State) (fn r ty : Nat) (b8 body : List Byte) : (s.writeEntry fn r ty b8 body).acc = s.acc := by
  unfold State.writeEntry; (try dsimp only); (repeat' split) <;> simp
@[simp] theorem writeEntry_tel (s : State) (fn r ty : Nat) (b8 body : List Byte) : (s.writeEntry fn r ty b8 body).tel = s.tel := by
  unfold State.writeEntry; (try dsimp only); (repeat' split) <;> simp
@[simp] theorem writeEntry_flash (s : State) (fn r ty : Nat) (b8 body : List Byte) : (s.writeEntry fn r ty b8 body).flash = s.flash := by
  unfold State.writeEntry; (try dsimp only); (repeat' split) <;> simp
@[simp] theorem writeEntry_sw (s : State) (fn r ty : Nat) (b8 body : List Byte) : (s.writeEntry fn r ty b8 body).sw = s.sw := by
  unfold State.writeEntry; (try dsimp only); (repeat' split) <;> simp
@[simp] theorem writeEntry_tab (s : State) (fn r ty : Nat) (b8 body : List Byte) : (s.writeEntry fn r ty b8 body).tab = s.tab := by
  unfold State.writeEntry; (try dsimp only); (repeat' split) <;> simp
@[simp] theorem writeEntry_ports (s : State) (fn r ty : Nat) (b8 body : List Byte) : (s.writeEntry fn r ty b8 body).ports = s.ports := by
  unfold State.writeEntry; (try dsimp only); (repeat' split) <;> simp
@[simp] theorem writeEntry_gate (s : State) (fn r ty : Nat) (b8 body : List Byte) : (s.writeEntry fn r ty b8 body).gate = s.gate := by
  unfold State.writeEntry; (try dsimp only); (repeat' split) <;> simp
@[simp] theorem writeEntry_fen (s : State) (fn r ty : Nat) (b8 body : List Byte) : (s.writeEntry fn r ty b8 body).fen = s.fen := by
  unfold State.writeEntry; (try dsimp only); (repeat' split) <;> simp
@[simp] theorem writeEntry_gw (s : State) (fn r ty : Nat) (b8 body : List Byte) : (s.writeEntry fn r ty b8 body).gw = s.gw := by
  unfold State.writeEntry; (try dsimp only); (repeat' split) <;> simp
@[simp] theorem writeEntry_opt (s : State) (fn r ty : Nat) (b8 body : List Byte) : (s.writeEntry fn r ty b8 body).opt = s.opt := by
  unfold State.writeEntry; (try dsimp only); (repeat' split) <;> simp
@[simp] theorem writeEntry_eng (s : State) (fn r ty : Nat) (b8 body : List Byte) : (s.writeEntry fn r ty b8 body).eng = s.eng := by
  unfold State.writeEntry; (try dsimp only); (repeat' split) <;> simp
@[simp] theorem writeEntry_svc (s : State) (fn r ty : Nat) (b8 body : List Byte) : (s.writeEntry fn r ty b8 body).svc = s.svc := by
  unfold State.writeEntry; (try dsimp only); (repeat' split) <;> simp
@[simp] theorem writeEntry_red (s : State) (fn r ty : Nat) (b8 body : List Byte) : (s.writeEntry fn r ty b8 body).red = s.red := by
  unfold State.writeEntry; (try dsimp only); (repeat' split) <;> simp
@[simp] theorem writeEntry_cmn (s : State) (fn r ty : Nat) (b8 body : List Byte) : (s.writeEntry fn r ty b8 body).cmn = s.cmn := by
  unfold State.writeEntry; (try dsimp only); (repeat' split) <;> simp
@[simp] theorem writeEntry_prom (s : State) (fn r ty : Nat) (b8 body : List Byte) : (s.writeEntry fn r ty b8 body).prom = s.prom := by
  unfold State.writeEntry; (try dsimp only); (repeat' split) <;> simp
@[simp] theorem writeEntry_pwr (s : State) (fn r ty : Nat) (b8 body : List Byte) : (s.writeEntry fn r ty b8 body).pwr = s.pwr := by
  unfold State.writeEntry; (try dsimp only); (repeat' split) <;> simp
@[simp] theorem writeEntry_chip (s : State) (fn r ty : Nat) (b8 body : List Byte) : (s.writeEntry fn r ty b8 body).chip = s.chip := by
  unfold State.writeEntry; (try dsimp only); (repeat' split) <;> simp
@[simp] theorem writeEntry_freeCtr (s : State) (fn r ty : Nat) (b8 body : List Byte) : (s.writeEntry fn r ty b8 body).freeCtr = s.freeCtr := by
  unfold State.writeEntry; (try dsimp only); (repeat' split) <;> simp
theorem rd_writeEntry (s : State) (fn r ty : Nat) (b8 body : List Byte) {a : Fld} (b : Nat) (h : a ∉ ([.pcieRingPartIdx_idx] : List Fld)) : (s.writeEntry fn r ty b8 body).rd a b = s.rd a b := by
  simp only [State.writeEntry, rd_msixCause, rd_putEntry _ _ _ _ _ _ _ _ h, rd_when, ite_self]

/-! postEvent -/

@[simp] theorem postEvent_pending (s : State) (fn ty : Nat) (b8 body : List Byte) : (s.postEvent fn ty b8 body).pending = s.pending := by
  unfold State.postEvent; (try dsimp only); (repeat' split) <;> simp
@[simp] theorem postEvent_tb (s : State) (fn ty : Nat) (b8 body : List Byte) : (s.postEvent fn ty b8 body).tb = s.tb := by
  unfold State.postEvent; (try dsimp only); (repeat' split) <;> simp
@[simp] theorem postEvent_i3c (s : State) (fn ty : Nat) (b8 body : List Byte) : (s.postEvent fn ty b8 body).i3c = s.i3c := by
  unfold State.postEvent; (try dsimp only); (repeat' split) <;> simp
@[simp] theorem postEvent_jtag (s : State) (fn ty : Nat) (b8 body : List Byte) : (s.postEvent fn ty b8 body).jtag = s.jtag := by
  unfold State.postEvent; (try dsimp only); (repeat' split) <;> simp
@[simp] theorem postEvent_off (s : State) (fn ty : Nat) (b8 body : List Byte) : (s.postEvent fn ty b8 body).off = s.off := by
  unfold State.postEvent; (try dsimp only); (repeat' split) <;> simp
@[simp] theorem postEvent_started (s : State) (fn ty : Nat) (b8 body : List Byte) : (s.postEvent fn ty b8 body).started = s.started := by
  unfold State.postEvent; (try dsimp only); (repeat' split) <;> simp
@[simp] theorem postEvent_fw (s : State) (fn ty : Nat) (b8 body : List Byte) : (s.postEvent fn ty b8 body).fw = s.fw := by
  unfold State.postEvent; (try dsimp only); (repeat' split) <;> simp
@[simp] theorem postEvent_acc (s : State) (fn ty : Nat) (b8 body : List Byte) : (s.postEvent fn ty b8 body).acc = s.acc := by
  unfold State.postEvent; (try dsimp only); (repeat' split) <;> simp
@[simp] theorem postEvent_tel (s : State) (fn ty : Nat) (b8 body : List Byte) : (s.postEvent fn ty b8 body).tel = s.tel := by
  unfold State.postEvent; (try dsimp only); (repeat' split) <;> simp
@[simp] theorem postEvent_flash (s : State) (fn ty : Nat) (b8 body : List Byte) : (s.postEvent fn ty b8 body).flash = s.flash := by
  unfold State.postEvent; (try dsimp only); (repeat' split) <;> simp
@[simp] theorem postEvent_sw (s : State) (fn ty : Nat) (b8 body : List Byte) : (s.postEvent fn ty b8 body).sw = s.sw := by
  unfold State.postEvent; (try dsimp only); (repeat' split) <;> simp
@[simp] theorem postEvent_tab (s : State) (fn ty : Nat) (b8 body : List Byte) : (s.postEvent fn ty b8 body).tab = s.tab := by
  unfold State.postEvent; (try dsimp only); (repeat' split) <;> simp
@[simp] theorem postEvent_ports (s : State) (fn ty : Nat) (b8 body : List Byte) : (s.postEvent fn ty b8 body).ports = s.ports := by
  unfold State.postEvent; (try dsimp only); (repeat' split) <;> simp
@[simp] theorem postEvent_gate (s : State) (fn ty : Nat) (b8 body : List Byte) : (s.postEvent fn ty b8 body).gate = s.gate := by
  unfold State.postEvent; (try dsimp only); (repeat' split) <;> simp
@[simp] theorem postEvent_fen (s : State) (fn ty : Nat) (b8 body : List Byte) : (s.postEvent fn ty b8 body).fen = s.fen := by
  unfold State.postEvent; (try dsimp only); (repeat' split) <;> simp
@[simp] theorem postEvent_gw (s : State) (fn ty : Nat) (b8 body : List Byte) : (s.postEvent fn ty b8 body).gw = s.gw := by
  unfold State.postEvent; (try dsimp only); (repeat' split) <;> simp
@[simp] theorem postEvent_opt (s : State) (fn ty : Nat) (b8 body : List Byte) : (s.postEvent fn ty b8 body).opt = s.opt := by
  unfold State.postEvent; (try dsimp only); (repeat' split) <;> simp
@[simp] theorem postEvent_eng (s : State) (fn ty : Nat) (b8 body : List Byte) : (s.postEvent fn ty b8 body).eng = s.eng := by
  unfold State.postEvent; (try dsimp only); (repeat' split) <;> simp
@[simp] theorem postEvent_svc (s : State) (fn ty : Nat) (b8 body : List Byte) : (s.postEvent fn ty b8 body).svc = s.svc := by
  unfold State.postEvent; (try dsimp only); (repeat' split) <;> simp
@[simp] theorem postEvent_red (s : State) (fn ty : Nat) (b8 body : List Byte) : (s.postEvent fn ty b8 body).red = s.red := by
  unfold State.postEvent; (try dsimp only); (repeat' split) <;> simp
@[simp] theorem postEvent_cmn (s : State) (fn ty : Nat) (b8 body : List Byte) : (s.postEvent fn ty b8 body).cmn = s.cmn := by
  unfold State.postEvent; (try dsimp only); (repeat' split) <;> simp
@[simp] theorem postEvent_prom (s : State) (fn ty : Nat) (b8 body : List Byte) : (s.postEvent fn ty b8 body).prom = s.prom := by
  unfold State.postEvent; (try dsimp only); (repeat' split) <;> simp
@[simp] theorem postEvent_pwr (s : State) (fn ty : Nat) (b8 body : List Byte) : (s.postEvent fn ty b8 body).pwr = s.pwr := by
  unfold State.postEvent; (try dsimp only); (repeat' split) <;> simp
@[simp] theorem postEvent_chip (s : State) (fn ty : Nat) (b8 body : List Byte) : (s.postEvent fn ty b8 body).chip = s.chip := by
  unfold State.postEvent; (try dsimp only); (repeat' split) <;> simp
@[simp] theorem postEvent_freeCtr (s : State) (fn ty : Nat) (b8 body : List Byte) : (s.postEvent fn ty b8 body).freeCtr = s.freeCtr := by
  unfold State.postEvent; (try dsimp only); (repeat' split) <;> simp
theorem rd_postEvent (s : State) (fn ty : Nat) (b8 body : List Byte) {a : Fld} (b : Nat) (h : a ∉ (ringFields : List Fld)) : (s.postEvent fn ty b8 body).rd a b = s.rd a b := by
  simp only [ringFields, List.mem_cons, List.not_mem_nil, or_false, not_or] at h
  unfold State.postEvent
  split
  · exact rd_writeEntry _ _ _ _ _ _ _ (by simpa using h.1)
  · simp only [rd_setRing]
    rw [rd_wr_other _ _ (.inl h.2.2), rd_wr_other _ _ (.inl h.2.1)]

/-! postOverflow -/

@[simp] theorem postOverflow_pending (s : State) (fn : Nat) : (s.postOverflow fn).pending = s.pending := by
  unfold State.postOverflow; (try dsimp only); (repeat' split) <;> simp
@[simp] theorem postOverflow_tb (s : State) (fn : Nat) : (s.postOverflow fn).tb = s.tb := by
  unfold State.postOverflow; (try dsimp only); (repeat' split) <;> simp
@[simp] theorem postOverflow_i3c (s : State) (fn : Nat) : (s.postOverflow fn).i3c = s.i3c := by
  unfold State.postOverflow; (try dsimp only); (repeat' split) <;> simp
@[simp] theorem postOverflow_jtag (s : State) (fn : Nat) : (s.postOverflow fn).jtag = s.jtag := by
  unfold State.postOverflow; (try dsimp only); (repeat' split) <;> simp
@[simp] theorem postOverflow_off (s : State) (fn : Nat) : (s.postOverflow fn).off = s.off := by
  unfold State.postOverflow; (try dsimp only); (repeat' split) <;> simp
@[simp] theorem postOverflow_started (s : State) (fn : Nat) : (s.postOverflow fn).started = s.started := by
  unfold State.postOverflow; (try dsimp only); (repeat' split) <;> simp
@[simp] theorem postOverflow_fw (s : State) (fn : Nat) : (s.postOverflow fn).fw = s.fw := by
  unfold State.postOverflow; (try dsimp only); (repeat' split) <;> simp
@[simp] theorem postOverflow_acc (s : State) (fn : Nat) : (s.postOverflow fn).acc = s.acc := by
  unfold State.postOverflow; (try dsimp only); (repeat' split) <;> simp
@[simp] theorem postOverflow_tel (s : State) (fn : Nat) : (s.postOverflow fn).tel = s.tel := by
  unfold State.postOverflow; (try dsimp only); (repeat' split) <;> simp
@[simp] theorem postOverflow_flash (s : State) (fn : Nat) : (s.postOverflow fn).flash = s.flash := by
  unfold State.postOverflow; (try dsimp only); (repeat' split) <;> simp
@[simp] theorem postOverflow_sw (s : State) (fn : Nat) : (s.postOverflow fn).sw = s.sw := by
  unfold State.postOverflow; (try dsimp only); (repeat' split) <;> simp
@[simp] theorem postOverflow_tab (s : State) (fn : Nat) : (s.postOverflow fn).tab = s.tab := by
  unfold State.postOverflow; (try dsimp only); (repeat' split) <;> simp
@[simp] theorem postOverflow_ports (s : State) (fn : Nat) : (s.postOverflow fn).ports = s.ports := by
  unfold State.postOverflow; (try dsimp only); (repeat' split) <;> simp
@[simp] theorem postOverflow_gate (s : State) (fn : Nat) : (s.postOverflow fn).gate = s.gate := by
  unfold State.postOverflow; (try dsimp only); (repeat' split) <;> simp
@[simp] theorem postOverflow_fen (s : State) (fn : Nat) : (s.postOverflow fn).fen = s.fen := by
  unfold State.postOverflow; (try dsimp only); (repeat' split) <;> simp
@[simp] theorem postOverflow_gw (s : State) (fn : Nat) : (s.postOverflow fn).gw = s.gw := by
  unfold State.postOverflow; (try dsimp only); (repeat' split) <;> simp
@[simp] theorem postOverflow_opt (s : State) (fn : Nat) : (s.postOverflow fn).opt = s.opt := by
  unfold State.postOverflow; (try dsimp only); (repeat' split) <;> simp
@[simp] theorem postOverflow_eng (s : State) (fn : Nat) : (s.postOverflow fn).eng = s.eng := by
  unfold State.postOverflow; (try dsimp only); (repeat' split) <;> simp
@[simp] theorem postOverflow_svc (s : State) (fn : Nat) : (s.postOverflow fn).svc = s.svc := by
  unfold State.postOverflow; (try dsimp only); (repeat' split) <;> simp
@[simp] theorem postOverflow_red (s : State) (fn : Nat) : (s.postOverflow fn).red = s.red := by
  unfold State.postOverflow; (try dsimp only); (repeat' split) <;> simp
@[simp] theorem postOverflow_cmn (s : State) (fn : Nat) : (s.postOverflow fn).cmn = s.cmn := by
  unfold State.postOverflow; (try dsimp only); (repeat' split) <;> simp
@[simp] theorem postOverflow_prom (s : State) (fn : Nat) : (s.postOverflow fn).prom = s.prom := by
  unfold State.postOverflow; (try dsimp only); (repeat' split) <;> simp
@[simp] theorem postOverflow_pwr (s : State) (fn : Nat) : (s.postOverflow fn).pwr = s.pwr := by
  unfold State.postOverflow; (try dsimp only); (repeat' split) <;> simp
@[simp] theorem postOverflow_chip (s : State) (fn : Nat) : (s.postOverflow fn).chip = s.chip := by
  unfold State.postOverflow; (try dsimp only); (repeat' split) <;> simp
@[simp] theorem postOverflow_freeCtr (s : State) (fn : Nat) : (s.postOverflow fn).freeCtr = s.freeCtr := by
  unfold State.postOverflow; (try dsimp only); (repeat' split) <;> simp
theorem rd_postOverflow (s : State) (fn : Nat) {a : Fld} (b : Nat) (h : a ∉ (ringFields : List Fld)) : (s.postOverflow fn).rd a b = s.rd a b := by
  simp only [ringFields, List.mem_cons, List.not_mem_nil, or_false, not_or] at h
  unfold State.postOverflow
  split
  · rw [rd_writeEntry _ _ _ _ _ _ _ (by simpa using h.1), rd_setRing]
  · rfl

/-! hostEvent -/

@[simp] theorem hostEvent_pending (s : State) (off bit : Nat) : (s.hostEvent off bit).pending = s.pending := by
  unfold State.hostEvent; (try dsimp only); (repeat' split) <;> simp
@[simp] theorem hostEvent_tb (s : State) (off bit : Nat) : (s.hostEvent off bit).tb = s.tb := by
  unfold State.hostEvent; (try dsimp only); (repeat' split) <;> simp
@[simp] theorem hostEvent_i3c (s : State) (off bit : Nat) : (s.hostEvent off bit).i3c = s.i3c := by
  unfold State.hostEvent; (try dsimp only); (repeat' split) <;> simp
@[simp] theorem hostEvent_jtag (s : State) (off bit : Nat) : (s.hostEvent off bit).jtag = s.jtag := by
  unfold State.hostEvent; (try dsimp only); (repeat' split) <;> simp
@[simp] theorem hostEvent_off (s : State) (off bit : Nat) : (s.hostEvent off bit).off = s.off := by
  unfold State.hostEvent; (try dsimp only); (repeat' split) <;> simp
@[simp] theorem hostEvent_started (s : State) (off bit : Nat) : (s.hostEvent off bit).started = s.started := by
  unfold State.hostEvent; (try dsimp only); (repeat' split) <;> simp
@[simp] theorem hostEvent_fw (s : State) (off bit : Nat) : (s.hostEvent off bit).fw = s.fw := by
  unfold State.hostEvent; (try dsimp only); (repeat' split) <;> simp
@[simp] theorem hostEvent_acc (s : State) (off bit : Nat) : (s.hostEvent off bit).acc = s.acc := by
  unfold State.hostEvent; (try dsimp only); (repeat' split) <;> simp
@[simp] theorem hostEvent_tel (s : State) (off bit : Nat) : (s.hostEvent off bit).tel = s.tel := by
  unfold State.hostEvent; (try dsimp only); (repeat' split) <;> simp
@[simp] theorem hostEvent_flash (s : State) (off bit : Nat) : (s.hostEvent off bit).flash = s.flash := by
  unfold State.hostEvent; (try dsimp only); (repeat' split) <;> simp
@[simp] theorem hostEvent_sw (s : State) (off bit : Nat) : (s.hostEvent off bit).sw = s.sw := by
  unfold State.hostEvent; (try dsimp only); (repeat' split) <;> simp
@[simp] theorem hostEvent_tab (s : State) (off bit : Nat) : (s.hostEvent off bit).tab = s.tab := by
  unfold State.hostEvent; (try dsimp only); (repeat' split) <;> simp
@[simp] theorem hostEvent_ports (s : State) (off bit : Nat) : (s.hostEvent off bit).ports = s.ports := by
  unfold State.hostEvent; (try dsimp only); (repeat' split) <;> simp
@[simp] theorem hostEvent_gate (s : State) (off bit : Nat) : (s.hostEvent off bit).gate = s.gate := by
  unfold State.hostEvent; (try dsimp only); (repeat' split) <;> simp
@[simp] theorem hostEvent_fen (s : State) (off bit : Nat) : (s.hostEvent off bit).fen = s.fen := by
  unfold State.hostEvent; (try dsimp only); (repeat' split) <;> simp
@[simp] theorem hostEvent_gw (s : State) (off bit : Nat) : (s.hostEvent off bit).gw = s.gw := by
  unfold State.hostEvent; (try dsimp only); (repeat' split) <;> simp
@[simp] theorem hostEvent_opt (s : State) (off bit : Nat) : (s.hostEvent off bit).opt = s.opt := by
  unfold State.hostEvent; (try dsimp only); (repeat' split) <;> simp
@[simp] theorem hostEvent_eng (s : State) (off bit : Nat) : (s.hostEvent off bit).eng = s.eng := by
  unfold State.hostEvent; (try dsimp only); (repeat' split) <;> simp
@[simp] theorem hostEvent_svc (s : State) (off bit : Nat) : (s.hostEvent off bit).svc = s.svc := by
  unfold State.hostEvent; (try dsimp only); (repeat' split) <;> simp
@[simp] theorem hostEvent_red (s : State) (off bit : Nat) : (s.hostEvent off bit).red = s.red := by
  unfold State.hostEvent; (try dsimp only); (repeat' split) <;> simp
@[simp] theorem hostEvent_cmn (s : State) (off bit : Nat) : (s.hostEvent off bit).cmn = s.cmn := by
  unfold State.hostEvent; (try dsimp only); (repeat' split) <;> simp
@[simp] theorem hostEvent_prom (s : State) (off bit : Nat) : (s.hostEvent off bit).prom = s.prom := by
  unfold State.hostEvent; (try dsimp only); (repeat' split) <;> simp
@[simp] theorem hostEvent_pwr (s : State) (off bit : Nat) : (s.hostEvent off bit).pwr = s.pwr := by
  unfold State.hostEvent; (try dsimp only); (repeat' split) <;> simp
@[simp] theorem hostEvent_chip (s : State) (off bit : Nat) : (s.hostEvent off bit).chip = s.chip := by
  unfold State.hostEvent; (try dsimp only); (repeat' split) <;> simp
@[simp] theorem hostEvent_freeCtr (s : State) (off bit : Nat) : (s.hostEvent off bit).freeCtr = s.freeCtr := by
  unfold State.hostEvent; (try dsimp only); (repeat' split) <;> simp
theorem rd_hostEvent (s : State) (off bit : Nat) {a : Fld} (b : Nat) (h : a ∉ (ringFields : List Fld)) : (s.hostEvent off bit).rd a b = s.rd a b := by
  simp only [State.hostEvent, rd_postEvent _ _ _ _ _ _ h]

/-! event -/

@[simp] theorem event_pending (s : State) (r : Reg) (f : Fld) (i b : Nat) : (s.event r f i b).pending = s.pending := by
  unfold State.event; (try dsimp only); (repeat' split) <;> simp
@[simp] theorem event_tb (s : State) (r : Reg) (f : Fld) (i b : Nat) : (s.event r f i b).tb = s.tb := by
  unfold State.event; (try dsimp only); (repeat' split) <;> simp
@[simp] theorem event_i3c (s : State) (r : Reg) (f : Fld) (i b : Nat) : (s.event r f i b).i3c = s.i3c := by
  unfold State.event; (try dsimp only); (repeat' split) <;> simp
@[simp] theorem event_jtag (s : State) (r : Reg) (f : Fld) (i b : Nat) : (s.event r f i b).jtag = s.jtag := by
  unfold State.event; (try dsimp only); (repeat' split) <;> simp
@[simp] theorem event_off (s : State) (r : Reg) (f : Fld) (i b : Nat) : (s.event r f i b).off = s.off := by
  unfold State.event; (try dsimp only); (repeat' split) <;> simp
@[simp] theorem event_started (s : State) (r : Reg) (f : Fld) (i b : Nat) : (s.event r f i b).started = s.started := by
  unfold State.event; (try dsimp only); (repeat' split) <;> simp
@[simp] theorem event_fw (s : State) (r : Reg) (f : Fld) (i b : Nat) : (s.event r f i b).fw = s.fw := by
  unfold State.event; (try dsimp only); (repeat' split) <;> simp
@[simp] theorem event_acc (s : State) (r : Reg) (f : Fld) (i b : Nat) : (s.event r f i b).acc = s.acc := by
  unfold State.event; (try dsimp only); (repeat' split) <;> simp
@[simp] theorem event_tel (s : State) (r : Reg) (f : Fld) (i b : Nat) : (s.event r f i b).tel = s.tel := by
  unfold State.event; (try dsimp only); (repeat' split) <;> simp
@[simp] theorem event_flash (s : State) (r : Reg) (f : Fld) (i b : Nat) : (s.event r f i b).flash = s.flash := by
  unfold State.event; (try dsimp only); (repeat' split) <;> simp
@[simp] theorem event_sw (s : State) (r : Reg) (f : Fld) (i b : Nat) : (s.event r f i b).sw = s.sw := by
  unfold State.event; (try dsimp only); (repeat' split) <;> simp
@[simp] theorem event_tab (s : State) (r : Reg) (f : Fld) (i b : Nat) : (s.event r f i b).tab = s.tab := by
  unfold State.event; (try dsimp only); (repeat' split) <;> simp
@[simp] theorem event_ports (s : State) (r : Reg) (f : Fld) (i b : Nat) : (s.event r f i b).ports = s.ports := by
  unfold State.event; (try dsimp only); (repeat' split) <;> simp
@[simp] theorem event_gate (s : State) (r : Reg) (f : Fld) (i b : Nat) : (s.event r f i b).gate = s.gate := by
  unfold State.event; (try dsimp only); (repeat' split) <;> simp
@[simp] theorem event_fen (s : State) (r : Reg) (f : Fld) (i b : Nat) : (s.event r f i b).fen = s.fen := by
  unfold State.event; (try dsimp only); (repeat' split) <;> simp
@[simp] theorem event_gw (s : State) (r : Reg) (f : Fld) (i b : Nat) : (s.event r f i b).gw = s.gw := by
  unfold State.event; (try dsimp only); (repeat' split) <;> simp
@[simp] theorem event_opt (s : State) (r : Reg) (f : Fld) (i b : Nat) : (s.event r f i b).opt = s.opt := by
  unfold State.event; (try dsimp only); (repeat' split) <;> simp
@[simp] theorem event_eng (s : State) (r : Reg) (f : Fld) (i b : Nat) : (s.event r f i b).eng = s.eng := by
  unfold State.event; (try dsimp only); (repeat' split) <;> simp
@[simp] theorem event_svc (s : State) (r : Reg) (f : Fld) (i b : Nat) : (s.event r f i b).svc = s.svc := by
  unfold State.event; (try dsimp only); (repeat' split) <;> simp
@[simp] theorem event_red (s : State) (r : Reg) (f : Fld) (i b : Nat) : (s.event r f i b).red = s.red := by
  unfold State.event; (try dsimp only); (repeat' split) <;> simp
@[simp] theorem event_cmn (s : State) (r : Reg) (f : Fld) (i b : Nat) : (s.event r f i b).cmn = s.cmn := by
  unfold State.event; (try dsimp only); (repeat' split) <;> simp
@[simp] theorem event_prom (s : State) (r : Reg) (f : Fld) (i b : Nat) : (s.event r f i b).prom = s.prom := by
  unfold State.event; (try dsimp only); (repeat' split) <;> simp
@[simp] theorem event_pwr (s : State) (r : Reg) (f : Fld) (i b : Nat) : (s.event r f i b).pwr = s.pwr := by
  unfold State.event; (try dsimp only); (repeat' split) <;> simp
@[simp] theorem event_chip (s : State) (r : Reg) (f : Fld) (i b : Nat) : (s.event r f i b).chip = s.chip := by
  unfold State.event; (try dsimp only); (repeat' split) <;> simp
@[simp] theorem event_freeCtr (s : State) (r : Reg) (f : Fld) (i b : Nat) : (s.event r f i b).freeCtr = s.freeCtr := by
  unfold State.event; (try dsimp only); (repeat' split) <;> simp
theorem rd_event (s : State) (r : Reg) (f : Fld) (i b : Nat) {a : Fld} (b : Nat) (h : a ∉ ((f :: ringFields) : List Fld)) : (s.event r f i b).rd a b = s.rd a b := by
  simp only [List.mem_cons, not_or] at h
  unfold State.event
  rw [rd_hostEvent _ _ _ _ h.2, rd_wr_other _ _ (.inl h.1)]

/-! commitOne -/

@[simp] theorem commitOne_pending (s : State) : (s.commitOne).pending = s.pending := by
  unfold State.commitOne; (try dsimp only); (repeat' split) <;> simp
@[simp] theorem commitOne_tb (s : State) : (s.commitOne).tb = s.tb := by
  unfold State.commitOne; (try dsimp only); (repeat' split) <;> simp
@[simp] theorem commitOne_i3c (s : State) : (s.commitOne).i3c = s.i3c := by
  unfold State.commitOne; (try dsimp only); (repeat' split) <;> simp
@[simp] theorem commitOne_jtag (s : State) : (s.commitOne).jtag = s.jtag := by
  unfold State.commitOne; (try dsimp only); (repeat' split) <;> simp
@[simp] theorem commitOne_off (s : State) : (s.commitOne).off = s.off := by
  unfold State.commitOne; (try dsimp only); (repeat' split) <;> simp
@[simp] theorem commitOne_started (s : State) : (s.commitOne).started = s.started := by
  unfold State.commitOne; (try dsimp only); (repeat' split) <;> simp
@[simp] theorem commitOne_fw (s : State) : (s.commitOne).fw = s.fw := by
  unfold State.commitOne; (try dsimp only); (repeat' split) <;> simp
@[simp] theorem commitOne_acc (s : State) : (s.commitOne).acc = s.acc := by
  unfold State.commitOne; (try dsimp only); (repeat' split) <;> simp
@[simp] theorem commitOne_mgmt (s : State) : (s.commitOne).mgmt = s.mgmt := by
  unfold State.commitOne; (try dsimp only); (repeat' split) <;> simp
@[simp] theorem commitOne_sw (s : State) : (s.commitOne).sw = s.sw := by
  unfold State.commitOne; (try dsimp only); (repeat' split) <;> simp
@[simp] theorem commitOne_tab (s : State) : (s.commitOne).tab = s.tab := by
  unfold State.commitOne; (try dsimp only); (repeat' split) <;> simp
@[simp] theorem commitOne_ports (s : State) : (s.commitOne).ports = s.ports := by
  unfold State.commitOne; (try dsimp only); (repeat' split) <;> simp
@[simp] theorem commitOne_gate (s : State) : (s.commitOne).gate = s.gate := by
  unfold State.commitOne; (try dsimp only); (repeat' split) <;> simp
@[simp] theorem commitOne_fen (s : State) : (s.commitOne).fen = s.fen := by
  unfold State.commitOne; (try dsimp only); (repeat' split) <;> simp
@[simp] theorem commitOne_gw (s : State) : (s.commitOne).gw = s.gw := by
  unfold State.commitOne; (try dsimp only); (repeat' split) <;> simp
@[simp] theorem commitOne_opt (s : State) : (s.commitOne).opt = s.opt := by
  unfold State.commitOne; (try dsimp only); (repeat' split) <;> simp
@[simp] theorem commitOne_eng (s : State) : (s.commitOne).eng = s.eng := by
  unfold State.commitOne; (try dsimp only); (repeat' split) <;> simp
@[simp] theorem commitOne_svc (s : State) : (s.commitOne).svc = s.svc := by
  unfold State.commitOne; (try dsimp only); (repeat' split) <;> simp
@[simp] theorem commitOne_red (s : State) : (s.commitOne).red = s.red := by
  unfold State.commitOne; (try dsimp only); (repeat' split) <;> simp
@[simp] theorem commitOne_cmn (s : State) : (s.commitOne).cmn = s.cmn := by
  unfold State.commitOne; (try dsimp only); (repeat' split) <;> simp
@[simp] theorem commitOne_prom (s : State) : (s.commitOne).prom = s.prom := by
  unfold State.commitOne; (try dsimp only); (repeat' split) <;> simp
@[simp] theorem commitOne_pwr (s : State) : (s.commitOne).pwr = s.pwr := by
  unfold State.commitOne; (try dsimp only); (repeat' split) <;> simp
@[simp] theorem commitOne_chip (s : State) : (s.commitOne).chip = s.chip := by
  unfold State.commitOne; (try dsimp only); (repeat' split) <;> simp
@[simp] theorem commitOne_out (s : State) : (s.commitOne).out = s.out := by
  unfold State.commitOne; (try dsimp only); (repeat' split) <;> simp
@[simp] theorem commitOne_freeCtr (s : State) : (s.commitOne).freeCtr = s.freeCtr := by
  unfold State.commitOne; (try dsimp only); (repeat' split) <;> simp
theorem rd_commitOne (s : State) {a : Fld} (b : Nat) (h : a ∉ ([.telLogStatus_next, .telLogStatus_pending] : List Fld)) : (s.commitOne).rd a b = s.rd a b := by
  simp only [List.mem_cons, List.not_mem_nil, or_false, not_or] at h
  unfold State.commitOne
  split
  · rfl
  · rw [rd_wr_other _ _ (.inl h.2), rd_wr_other _ _ (.inl h.1)]; rfl

/-! commitLog -/

@[simp] theorem commitLog_pending (s : State) : (s.commitLog).pending = s.pending := by
  unfold State.commitLog; generalize s.tel.log.length = k; induction k with
  | zero => rfl
  | succ k ih => simpa using ih
@[simp] theorem commitLog_tb (s : State) : (s.commitLog).tb = s.tb := by
  unfold State.commitLog; generalize s.tel.log.length = k; induction k with
  | zero => rfl
  | succ k ih => simpa using ih
@[simp] theorem commitLog_i3c (s : State) : (s.commitLog).i3c = s.i3c := by
  unfold State.commitLog; generalize s.tel.log.length = k; induction k with
  | zero => rfl
  | succ k ih => simpa using ih
@[simp] theorem commitLog_jtag (s : State) : (s.commitLog).jtag = s.jtag := by
  unfold State.commitLog; generalize s.tel.log.length = k; induction k with
  | zero => rfl
  | succ k ih => simpa using ih
@[simp] theorem commitLog_off (s : State) : (s.commitLog).off = s.off := by
  unfold State.commitLog; generalize s.tel.log.length = k; induction k with
  | zero => rfl
  | succ k ih => simpa using ih
@[simp] theorem commitLog_started (s : State) : (s.commitLog).started = s.started := by
  unfold State.commitLog; generalize s.tel.log.length = k; induction k with
  | zero => rfl
  | succ k ih => simpa using ih
@[simp] theorem commitLog_fw (s : State) : (s.commitLog).fw = s.fw := by
  unfold State.commitLog; generalize s.tel.log.length = k; induction k with
  | zero => rfl
  | succ k ih => simpa using ih
@[simp] theorem commitLog_acc (s : State) : (s.commitLog).acc = s.acc := by
  unfold State.commitLog; generalize s.tel.log.length = k; induction k with
  | zero => rfl
  | succ k ih => simpa using ih
@[simp] theorem commitLog_mgmt (s : State) : (s.commitLog).mgmt = s.mgmt := by
  unfold State.commitLog; generalize s.tel.log.length = k; induction k with
  | zero => rfl
  | succ k ih => simpa using ih
@[simp] theorem commitLog_sw (s : State) : (s.commitLog).sw = s.sw := by
  unfold State.commitLog; generalize s.tel.log.length = k; induction k with
  | zero => rfl
  | succ k ih => simpa using ih
@[simp] theorem commitLog_tab (s : State) : (s.commitLog).tab = s.tab := by
  unfold State.commitLog; generalize s.tel.log.length = k; induction k with
  | zero => rfl
  | succ k ih => simpa using ih
@[simp] theorem commitLog_ports (s : State) : (s.commitLog).ports = s.ports := by
  unfold State.commitLog; generalize s.tel.log.length = k; induction k with
  | zero => rfl
  | succ k ih => simpa using ih
@[simp] theorem commitLog_gate (s : State) : (s.commitLog).gate = s.gate := by
  unfold State.commitLog; generalize s.tel.log.length = k; induction k with
  | zero => rfl
  | succ k ih => simpa using ih
@[simp] theorem commitLog_fen (s : State) : (s.commitLog).fen = s.fen := by
  unfold State.commitLog; generalize s.tel.log.length = k; induction k with
  | zero => rfl
  | succ k ih => simpa using ih
@[simp] theorem commitLog_gw (s : State) : (s.commitLog).gw = s.gw := by
  unfold State.commitLog; generalize s.tel.log.length = k; induction k with
  | zero => rfl
  | succ k ih => simpa using ih
@[simp] theorem commitLog_opt (s : State) : (s.commitLog).opt = s.opt := by
  unfold State.commitLog; generalize s.tel.log.length = k; induction k with
  | zero => rfl
  | succ k ih => simpa using ih
@[simp] theorem commitLog_eng (s : State) : (s.commitLog).eng = s.eng := by
  unfold State.commitLog; generalize s.tel.log.length = k; induction k with
  | zero => rfl
  | succ k ih => simpa using ih
@[simp] theorem commitLog_svc (s : State) : (s.commitLog).svc = s.svc := by
  unfold State.commitLog; generalize s.tel.log.length = k; induction k with
  | zero => rfl
  | succ k ih => simpa using ih
@[simp] theorem commitLog_red (s : State) : (s.commitLog).red = s.red := by
  unfold State.commitLog; generalize s.tel.log.length = k; induction k with
  | zero => rfl
  | succ k ih => simpa using ih
@[simp] theorem commitLog_cmn (s : State) : (s.commitLog).cmn = s.cmn := by
  unfold State.commitLog; generalize s.tel.log.length = k; induction k with
  | zero => rfl
  | succ k ih => simpa using ih
@[simp] theorem commitLog_prom (s : State) : (s.commitLog).prom = s.prom := by
  unfold State.commitLog; generalize s.tel.log.length = k; induction k with
  | zero => rfl
  | succ k ih => simpa using ih
@[simp] theorem commitLog_pwr (s : State) : (s.commitLog).pwr = s.pwr := by
  unfold State.commitLog; generalize s.tel.log.length = k; induction k with
  | zero => rfl
  | succ k ih => simpa using ih
@[simp] theorem commitLog_chip (s : State) : (s.commitLog).chip = s.chip := by
  unfold State.commitLog; generalize s.tel.log.length = k; induction k with
  | zero => rfl
  | succ k ih => simpa using ih
@[simp] theorem commitLog_out (s : State) : (s.commitLog).out = s.out := by
  unfold State.commitLog; generalize s.tel.log.length = k; induction k with
  | zero => rfl
  | succ k ih => simpa using ih
@[simp] theorem commitLog_freeCtr (s : State) : (s.commitLog).freeCtr = s.freeCtr := by
  unfold State.commitLog; generalize s.tel.log.length = k; induction k with
  | zero => rfl
  | succ k ih => simpa using ih
theorem rd_commitLog (s : State) {a : Fld} (b : Nat) (h : a ∉ ([.telLogStatus_next, .telLogStatus_pending] : List Fld)) : (s.commitLog).rd a b = s.rd a b := by
  unfold State.commitLog; generalize s.tel.log.length = k; induction k with
  | zero => rfl
  | succ k ih => rw [← ih]; exact rd_commitOne _ b h

/-! fault -/

@[simp] theorem fault_pending (s : State) (code sev : Nat) (detail : List Nat) : (s.fault code sev detail).pending = s.pending := by
  unfold State.fault; (try dsimp only); (repeat' split) <;> simp
@[simp] theorem fault_tb (s : State) (code sev : Nat) (detail : List Nat) : (s.fault code sev detail).tb = s.tb := by
  unfold State.fault; (try dsimp only); (repeat' split) <;> simp
@[simp] theorem fault_i3c (s : State) (code sev : Nat) (detail : List Nat) : (s.fault code sev detail).i3c = s.i3c := by
  unfold State.fault; (try dsimp only); (repeat' split) <;> simp
@[simp] theorem fault_jtag (s : State) (code sev : Nat) (detail : List Nat) : (s.fault code sev detail).jtag = s.jtag := by
  unfold State.fault; (try dsimp only); (repeat' split) <;> simp
@[simp] theorem fault_off (s : State) (code sev : Nat) (detail : List Nat) : (s.fault code sev detail).off = s.off := by
  unfold State.fault; (try dsimp only); (repeat' split) <;> simp
@[simp] theorem fault_started (s : State) (code sev : Nat) (detail : List Nat) : (s.fault code sev detail).started = s.started := by
  unfold State.fault; (try dsimp only); (repeat' split) <;> simp
@[simp] theorem fault_fw (s : State) (code sev : Nat) (detail : List Nat) : (s.fault code sev detail).fw = s.fw := by
  unfold State.fault; (try dsimp only); (repeat' split) <;> simp
@[simp] theorem fault_acc (s : State) (code sev : Nat) (detail : List Nat) : (s.fault code sev detail).acc = s.acc := by
  unfold State.fault; (try dsimp only); (repeat' split) <;> simp
@[simp] theorem fault_sw (s : State) (code sev : Nat) (detail : List Nat) : (s.fault code sev detail).sw = s.sw := by
  unfold State.fault; (try dsimp only); (repeat' split) <;> simp
@[simp] theorem fault_tab (s : State) (code sev : Nat) (detail : List Nat) : (s.fault code sev detail).tab = s.tab := by
  unfold State.fault; (try dsimp only); (repeat' split) <;> simp
@[simp] theorem fault_ports (s : State) (code sev : Nat) (detail : List Nat) : (s.fault code sev detail).ports = s.ports := by
  unfold State.fault; (try dsimp only); (repeat' split) <;> simp
@[simp] theorem fault_gate (s : State) (code sev : Nat) (detail : List Nat) : (s.fault code sev detail).gate = s.gate := by
  unfold State.fault; (try dsimp only); (repeat' split) <;> simp
@[simp] theorem fault_fen (s : State) (code sev : Nat) (detail : List Nat) : (s.fault code sev detail).fen = s.fen := by
  unfold State.fault; (try dsimp only); (repeat' split) <;> simp
@[simp] theorem fault_gw (s : State) (code sev : Nat) (detail : List Nat) : (s.fault code sev detail).gw = s.gw := by
  unfold State.fault; (try dsimp only); (repeat' split) <;> simp
@[simp] theorem fault_opt (s : State) (code sev : Nat) (detail : List Nat) : (s.fault code sev detail).opt = s.opt := by
  unfold State.fault; (try dsimp only); (repeat' split) <;> simp
@[simp] theorem fault_eng (s : State) (code sev : Nat) (detail : List Nat) : (s.fault code sev detail).eng = s.eng := by
  unfold State.fault; (try dsimp only); (repeat' split) <;> simp
@[simp] theorem fault_svc (s : State) (code sev : Nat) (detail : List Nat) : (s.fault code sev detail).svc = s.svc := by
  unfold State.fault; (try dsimp only); (repeat' split) <;> simp
@[simp] theorem fault_red (s : State) (code sev : Nat) (detail : List Nat) : (s.fault code sev detail).red = s.red := by
  unfold State.fault; (try dsimp only); (repeat' split) <;> simp
@[simp] theorem fault_cmn (s : State) (code sev : Nat) (detail : List Nat) : (s.fault code sev detail).cmn = s.cmn := by
  unfold State.fault; (try dsimp only); (repeat' split) <;> simp
@[simp] theorem fault_prom (s : State) (code sev : Nat) (detail : List Nat) : (s.fault code sev detail).prom = s.prom := by
  unfold State.fault; (try dsimp only); (repeat' split) <;> simp
@[simp] theorem fault_pwr (s : State) (code sev : Nat) (detail : List Nat) : (s.fault code sev detail).pwr = s.pwr := by
  unfold State.fault; (try dsimp only); (repeat' split) <;> simp
@[simp] theorem fault_chip (s : State) (code sev : Nat) (detail : List Nat) : (s.fault code sev detail).chip = s.chip := by
  unfold State.fault; (try dsimp only); (repeat' split) <;> simp
@[simp] theorem fault_freeCtr (s : State) (code sev : Nat) (detail : List Nat) : (s.fault code sev detail).freeCtr = s.freeCtr := by
  unfold State.fault; (try dsimp only); (repeat' split) <;> simp
theorem rd_fault (s : State) (code sev : Nat) (detail : List Nat) {a : Fld} (b : Nat) (h : a ∉ (faultFields : List Fld)) : (s.fault code sev detail).rd a b = s.rd a b := by
  simp only [faultFields, List.mem_append, List.mem_cons, List.not_mem_nil, or_false, not_or] at h
  obtain ⟨⟨h1, h2, h3, h4⟩, h5⟩ := h
  unfold State.fault
  dsimp only
  rw [rd_postEvent _ _ _ _ _ _ h5, rd_postEvent _ _ _ _ _ _ h5, rd_when, rd_commitLog _ _ (by simp [h2, h3]), ite_self]
  split
  · rw [rd_wr_other _ _ (.inl h3)]
    exact rd_wr_other _ _ (.inl h1)
  · rw [rd_bumpChip _ _ _ (by simpa using h4)]
    exact rd_wr_other _ _ (.inl h1)

/-! raiseIbi -/

@[simp] theorem raiseIbi_pending (s : State) (c : Nat) : (s.raiseIbi c).pending = s.pending := by
  unfold State.raiseIbi; (try dsimp only); (repeat' split) <;> simp
@[simp] theorem raiseIbi_tb (s : State) (c : Nat) : (s.raiseIbi c).tb = s.tb := by
  unfold State.raiseIbi; (try dsimp only); (repeat' split) <;> simp
@[simp] theorem raiseIbi_i3c (s : State) (c : Nat) : (s.raiseIbi c).i3c = s.i3c := by
  unfold State.raiseIbi; (try dsimp only); (repeat' split) <;> simp
@[simp] theorem raiseIbi_jtag (s : State) (c : Nat) : (s.raiseIbi c).jtag = s.jtag := by
  unfold State.raiseIbi; (try dsimp only); (repeat' split) <;> simp
@[simp] theorem raiseIbi_regs (s : State) (c : Nat) : (s.raiseIbi c).regs = s.regs := by
  unfold State.raiseIbi; (try dsimp only); (repeat' split) <;> simp
@[simp] theorem raiseIbi_off (s : State) (c : Nat) : (s.raiseIbi c).off = s.off := by
  unfold State.raiseIbi; (try dsimp only); (repeat' split) <;> simp
@[simp] theorem raiseIbi_started (s : State) (c : Nat) : (s.raiseIbi c).started = s.started := by
  unfold State.raiseIbi; (try dsimp only); (repeat' split) <;> simp
@[simp] theorem raiseIbi_fw (s : State) (c : Nat) : (s.raiseIbi c).fw = s.fw := by
  unfold State.raiseIbi; (try dsimp only); (repeat' split) <;> simp
@[simp] theorem raiseIbi_acc (s : State) (c : Nat) : (s.raiseIbi c).acc = s.acc := by
  unfold State.raiseIbi; (try dsimp only); (repeat' split) <;> simp
@[simp] theorem raiseIbi_tel (s : State) (c : Nat) : (s.raiseIbi c).tel = s.tel := by
  unfold State.raiseIbi; (try dsimp only); (repeat' split) <;> simp
@[simp] theorem raiseIbi_flash (s : State) (c : Nat) : (s.raiseIbi c).flash = s.flash := by
  unfold State.raiseIbi; (try dsimp only); (repeat' split) <;> simp
@[simp] theorem raiseIbi_sw (s : State) (c : Nat) : (s.raiseIbi c).sw = s.sw := by
  unfold State.raiseIbi; (try dsimp only); (repeat' split) <;> simp
@[simp] theorem raiseIbi_tab (s : State) (c : Nat) : (s.raiseIbi c).tab = s.tab := by
  unfold State.raiseIbi; (try dsimp only); (repeat' split) <;> simp
@[simp] theorem raiseIbi_ports (s : State) (c : Nat) : (s.raiseIbi c).ports = s.ports := by
  unfold State.raiseIbi; (try dsimp only); (repeat' split) <;> simp
@[simp] theorem raiseIbi_gate (s : State) (c : Nat) : (s.raiseIbi c).gate = s.gate := by
  unfold State.raiseIbi; (try dsimp only); (repeat' split) <;> simp
@[simp] theorem raiseIbi_fen (s : State) (c : Nat) : (s.raiseIbi c).fen = s.fen := by
  unfold State.raiseIbi; (try dsimp only); (repeat' split) <;> simp
@[simp] theorem raiseIbi_gw (s : State) (c : Nat) : (s.raiseIbi c).gw = s.gw := by
  unfold State.raiseIbi; (try dsimp only); (repeat' split) <;> simp
@[simp] theorem raiseIbi_opt (s : State) (c : Nat) : (s.raiseIbi c).opt = s.opt := by
  unfold State.raiseIbi; (try dsimp only); (repeat' split) <;> simp
@[simp] theorem raiseIbi_eng (s : State) (c : Nat) : (s.raiseIbi c).eng = s.eng := by
  unfold State.raiseIbi; (try dsimp only); (repeat' split) <;> simp
@[simp] theorem raiseIbi_svc (s : State) (c : Nat) : (s.raiseIbi c).svc = s.svc := by
  unfold State.raiseIbi; (try dsimp only); (repeat' split) <;> simp
@[simp] theorem raiseIbi_red (s : State) (c : Nat) : (s.raiseIbi c).red = s.red := by
  unfold State.raiseIbi; (try dsimp only); (repeat' split) <;> simp
@[simp] theorem raiseIbi_cmn (s : State) (c : Nat) : (s.raiseIbi c).cmn = s.cmn := by
  unfold State.raiseIbi; (try dsimp only); (repeat' split) <;> simp
@[simp] theorem raiseIbi_prom (s : State) (c : Nat) : (s.raiseIbi c).prom = s.prom := by
  unfold State.raiseIbi; (try dsimp only); (repeat' split) <;> simp
@[simp] theorem raiseIbi_pwr (s : State) (c : Nat) : (s.raiseIbi c).pwr = s.pwr := by
  unfold State.raiseIbi; (try dsimp only); (repeat' split) <;> simp
@[simp] theorem raiseIbi_chip (s : State) (c : Nat) : (s.raiseIbi c).chip = s.chip := by
  unfold State.raiseIbi; (try dsimp only); (repeat' split) <;> simp
@[simp] theorem raiseIbi_out (s : State) (c : Nat) : (s.raiseIbi c).out = s.out := by
  unfold State.raiseIbi; (try dsimp only); (repeat' split) <;> simp
@[simp] theorem raiseIbi_freeCtr (s : State) (c : Nat) : (s.raiseIbi c).freeCtr = s.freeCtr := by
  unfold State.raiseIbi; (try dsimp only); (repeat' split) <;> simp
@[simp] theorem rd_raiseIbi (s : State) (c : Nat) (a : Fld) (b : Nat) : (s.raiseIbi c).rd a b = s.rd a b := by
  unfold State.raiseIbi; (repeat' split) <;> rfl

/-! pin -/

@[simp] theorem pin_pending (s : State) (n : String) (l : Bool) : (s.pin n l).pending = s.pending := by
  unfold State.pin; (try dsimp only); (repeat' split) <;> simp
@[simp] theorem pin_tb (s : State) (n : String) (l : Bool) : (s.pin n l).tb = s.tb := by
  unfold State.pin; (try dsimp only); (repeat' split) <;> simp
@[simp] theorem pin_i3c (s : State) (n : String) (l : Bool) : (s.pin n l).i3c = s.i3c := by
  unfold State.pin; (try dsimp only); (repeat' split) <;> simp
@[simp] theorem pin_jtag (s : State) (n : String) (l : Bool) : (s.pin n l).jtag = s.jtag := by
  unfold State.pin; (try dsimp only); (repeat' split) <;> simp
@[simp] theorem pin_regs (s : State) (n : String) (l : Bool) : (s.pin n l).regs = s.regs := by
  unfold State.pin; (try dsimp only); (repeat' split) <;> simp
@[simp] theorem pin_off (s : State) (n : String) (l : Bool) : (s.pin n l).off = s.off := by
  unfold State.pin; (try dsimp only); (repeat' split) <;> simp
@[simp] theorem pin_started (s : State) (n : String) (l : Bool) : (s.pin n l).started = s.started := by
  unfold State.pin; (try dsimp only); (repeat' split) <;> simp
@[simp] theorem pin_fw (s : State) (n : String) (l : Bool) : (s.pin n l).fw = s.fw := by
  unfold State.pin; (try dsimp only); (repeat' split) <;> simp
@[simp] theorem pin_acc (s : State) (n : String) (l : Bool) : (s.pin n l).acc = s.acc := by
  unfold State.pin; (try dsimp only); (repeat' split) <;> simp
@[simp] theorem pin_tel (s : State) (n : String) (l : Bool) : (s.pin n l).tel = s.tel := by
  unfold State.pin; (try dsimp only); (repeat' split) <;> simp
@[simp] theorem pin_mgmt (s : State) (n : String) (l : Bool) : (s.pin n l).mgmt = s.mgmt := by
  unfold State.pin; (try dsimp only); (repeat' split) <;> simp
@[simp] theorem pin_flash (s : State) (n : String) (l : Bool) : (s.pin n l).flash = s.flash := by
  unfold State.pin; (try dsimp only); (repeat' split) <;> simp
@[simp] theorem pin_sw (s : State) (n : String) (l : Bool) : (s.pin n l).sw = s.sw := by
  unfold State.pin; (try dsimp only); (repeat' split) <;> simp
@[simp] theorem pin_tab (s : State) (n : String) (l : Bool) : (s.pin n l).tab = s.tab := by
  unfold State.pin; (try dsimp only); (repeat' split) <;> simp
@[simp] theorem pin_ports (s : State) (n : String) (l : Bool) : (s.pin n l).ports = s.ports := by
  unfold State.pin; (try dsimp only); (repeat' split) <;> simp
@[simp] theorem pin_gate (s : State) (n : String) (l : Bool) : (s.pin n l).gate = s.gate := by
  unfold State.pin; (try dsimp only); (repeat' split) <;> simp
@[simp] theorem pin_fen (s : State) (n : String) (l : Bool) : (s.pin n l).fen = s.fen := by
  unfold State.pin; (try dsimp only); (repeat' split) <;> simp
@[simp] theorem pin_gw (s : State) (n : String) (l : Bool) : (s.pin n l).gw = s.gw := by
  unfold State.pin; (try dsimp only); (repeat' split) <;> simp
@[simp] theorem pin_opt (s : State) (n : String) (l : Bool) : (s.pin n l).opt = s.opt := by
  unfold State.pin; (try dsimp only); (repeat' split) <;> simp
@[simp] theorem pin_eng (s : State) (n : String) (l : Bool) : (s.pin n l).eng = s.eng := by
  unfold State.pin; (try dsimp only); (repeat' split) <;> simp
@[simp] theorem pin_svc (s : State) (n : String) (l : Bool) : (s.pin n l).svc = s.svc := by
  unfold State.pin; (try dsimp only); (repeat' split) <;> simp
@[simp] theorem pin_red (s : State) (n : String) (l : Bool) : (s.pin n l).red = s.red := by
  unfold State.pin; (try dsimp only); (repeat' split) <;> simp
@[simp] theorem pin_cmn (s : State) (n : String) (l : Bool) : (s.pin n l).cmn = s.cmn := by
  unfold State.pin; (try dsimp only); (repeat' split) <;> simp
@[simp] theorem pin_prom (s : State) (n : String) (l : Bool) : (s.pin n l).prom = s.prom := by
  unfold State.pin; (try dsimp only); (repeat' split) <;> simp
@[simp] theorem pin_pwr (s : State) (n : String) (l : Bool) : (s.pin n l).pwr = s.pwr := by
  unfold State.pin; (try dsimp only); (repeat' split) <;> simp
@[simp] theorem pin_chip (s : State) (n : String) (l : Bool) : (s.pin n l).chip = s.chip := by
  unfold State.pin; (try dsimp only); (repeat' split) <;> simp
@[simp] theorem pin_freeCtr (s : State) (n : String) (l : Bool) : (s.pin n l).freeCtr = s.freeCtr := by
  unfold State.pin; (try dsimp only); (repeat' split) <;> simp
@[simp] theorem rd_pin (s : State) (n : String) (l : Bool) (a : Fld) (b : Nat) : (s.pin n l).rd a b = s.rd a b := by
  unfold State.pin; (repeat' split) <;> rfl

end Sys2Proof.Laws
end

