-- ==== Sys2Proof/WellFormed.lean ====
section
/-! DEFINITION. The commands that the outside world can present: operands that no access, packet or event can carry are ruled
out. The meanings are total and do not rest on these checks. -/

namespace Sys2Proof

/-- A packet's payload is no longer than the header's LEN can say (Table 2.1). -/
def packetOk (p : Packet) : Bool := decide (p.payload.length ≤ 8191)

/-- A register write is aligned to its width and carries no more bits than it has (R11). -/
def regWOk (w : RegW) : Bool := decide (w.off.toNat % (if w.is64 then 8 else 4) = 0) && (w.is64 || decide (w.val.toNat < 2 ^ 32))

/-- A module application covers 1, 2, 4 or 8 lanes (R101). -/
def modAppOk (a : ModApp) : Bool := a.width == 1 || a.width == 2 || a.width == 4 || a.width == 8

/-- The command bytes of Table 18.7, which have rows of their own. -/
def knownI3cCmd (c : Nat) : Bool := decide (1 ≤ c) && decide (c ≤ 4)

/-- The common command codes the part supports (R454), which have rows of their own. -/
def knownCcc (c : Nat) : Bool := [0x80, 0x81, 0x89, 0x8A, 0x8B, 0x8C, 0x8D, 0x8E, 0x8F, 0x90, 0x9A].contains c

/-- An operand combination that can occur. -/
def Instr.wf (i : Instr) : Bool :=
  match i with
  | .registerWrite _ off is64 val => decide (off.toNat % (if is64 then 8 else 4) = 0) && (is64 || decide (val.toNat < 2 ^ 32))
  | .writeTakesEffect picks => decide picks.Nodup
  | .lowerHalfRead _ r => decide (r.off.toNat % (if r.is64 then 8 else 4) = 0)
  | .cfgSync _ => true
  | .cfgSyncComplete => true
  | .ctlFailover _ => true
  | .blockFailed _ _ _ => true
  | .blockWatchdogExpiry _ _ => true
  | .regionFailed _ _ => true
  | .hbmStackFailed _ => true
  | .chipFatal _ => true
  | .uncorrectableCodeword _ => true
  | .tableEntryReload _ _ _ => true
  | .packetHeaderReceived _ p _ => packetOk p
  | .packetReceiveComplete _ _ rxLen _ => decide (rxLen ≤ 8191)
  | .segmentBytesArrived _ _ => true
  | .ethFrameReceived _ bytes _ => decide (0 < bytes.length)
  | .ethEncapReceived _ => true
  | .responseReceived _ => true
  | .mgmtReceived _ => true
  | .puntDeliver => true
  | .portCfgWrite _ _ _ => true
  | .lanePowerupWaitExpiry _ => true
  | .trainingBackoffExpiry _ => true
  | .trainingPhaseTimeout _ _ _ => true
  | .trainingSuccess _ _ _ => true
  | .lossOfLink _ _ => true
  | .laneFailed _ _ => true
  | .helloTxTimer _ => true
  | .helloReceived _ => true
  | .helloTimeout _ => true
  | .fastRetrain _ => true
  | .drainComplete _ => true
  | .drainTimeout _ => true
  | .laneTestStart _ _ => true
  | .laneTestComplete _ => true
  | .moduleInserted _ _ _ _ => true
  | .moduleReady _ apps => apps.all modAppOk
  | .moduleReadyTimeout _ => true
  | .moduleRemoved _ => true
  | .modulePoll _ _ _ => true
  | .moduleInterrupt _ _ => true
  | .moduleAccess _ _ => true
  | .moduleAccessComplete _ _ => true
  | .moduleAccessTimeout => true
  | .srefLost _ => true
  | .srefRestored _ => true
  | .tblRead _ _ _ => true
  | .tblWrite _ _ _ => true
  | .tblInvalidate _ _ _ => true
  | .tblSearch _ _ _ => true
  | .tblInsertSorted _ _ _ => true
  | .tblDeleteSorted _ _ _ => true
  | .tblLearnFlush _ _ _ _ => true
  | .tableCommandComplete => true
  | .learnApply => true
  | .learnWindowBoundary => true
  | .lpmScrubSlot _ _ => true
  | .reelSlot => true
  | .segmentArriveIntermediate _ => true
  | .segmentArriveResequencer _ => true
  | .skipNoticeReceived _ => true
  | .reseqTimeout _ _ _ _ => true
  | .spillRefill _ _ _ => true
  | .ageSweep => true
  | .schedulerDecision _ => true
  | .packetTxEnd _ => true
  | .expressCutPoint _ => true
  | .underrun _ => true
  | .gateCycleArm _ => true
  | .gateCycleStop _ _ => true
  | .gateCycleBoundary => true
  | .syncOutPulseEnd => true
  | .gateEntryChange _ => true
  | .gateCommit _ _ _ => true
  | .gateListWrite _ _ _ _ _ => true
  | .syncInEdge => true
  | .timeClkTick => true
  | .timeStep _ _ => true
  | .oclFrame _ up => !up.answered || decide (up.rings.length = 16)
  | .ringLoopUpdate _ _ => true
  | .pilotWindow _ _ _ => true
  | .ringSweepComplete _ _ _ => true
  | .chanCfgWrite _ _ _ => true
  | .calibrationStart => true
  | .calHoldExpiry _ => true
  | .calibrationEnd codes _ seen => decide (codes.length ≤ 32) && decide (seen.length ≤ 4)
  | .peerWaitExpiry _ => true
  | .peerSignalArrival _ => true
  | .planArm _ => true
  | .planDrainLead => true
  | .planActivate => true
  | .retuneSettled _ => true
  | .linePowerWindow _ _ => true
  | .recapture _ _ => true
  | .spareSettled _ _ => true
  | .cvtStep _ _ => true
  | .amaxExchange _ => true
  | .cvtQclr _ _ => true
  | .accuracyCheck _ => true
  | .instStart _ _ => true
  | .instAbort _ _ => true
  | .instRead _ _ => true
  | .instClearFlags _ _ => true
  | .instSignal _ _ _ => true
  | .descriptorIssue _ => true
  | .engineSeekWork _ => true
  | .tileComplete _ => true
  | .xfeRetryTimeout _ _ => true
  | .utilWindow _ _ _ _ _ _ => true
  | .svcGidWrite _ _ _ => true
  | .svcReqReceived _ => true
  | .assemblyTimeout _ _ _ => true
  | .refusalRecordExpiry _ _ _ => true
  | .joinWindowExpiry _ => true
  | .groupStart _ => true
  | .runLimitExpiry _ => true
  | .svcLoad _ _ => true
  | .svcLoadComplete => true
  | .serviceBuildComplete _ => true
  | .steer _ => true
  | .claim _ => true
  | .gateAnswer _ => true
  | .gateTimeout _ => true
  | .redContribAtHome _ => true
  | .redTimeout _ _ _ => true
  | .redResultLeft _ _ _ => true
  | .redGraceExpiry _ _ _ => true
  | .redFenceScan => true
  | .commonsWrite _ => true
  | .commonsRead _ => true
  | .commonsAtomic _ => true
  | .commonsBatchApply _ => true
  | .cmnClear _ _ => true
  | .cmnClearComplete => true
  | .promChunkReceived _ => true
  | .promRepairReceived _ => true
  | .promQuery _ _ => true
  | .promFetch _ _ => true
  | .promFetchRepeat => true
  | .promFetchDone => true
  | .promDrop _ _ => true
  | .promDropAll _ => true
  | .gwModeWrite _ _ => true
  | .memLoad _ => true
  | .memStore _ => true
  | .gwCoalesceExpiry _ _ => true
  | .gwRequestComplete _ _ => true
  | .gwNack _ _ => true
  | .gwTimeout _ _ => true
  | .scoreRecover => true
  | .voteRound => true
  | .healthReceived _ => true
  | .voteExpiry _ _ => true
  | .rackReportExpiry _ _ => true
  | .fenceWindowExpiry => true
  | .fenceReceived _ => true
  | .fenceReqReceived _ => true
  | .fenQuery _ _ => true
  | .fenFence _ _ => true
  | .fenReadmit _ _ => true
  | .fenSuspectRead _ _ => true
  | .fenSuspectDrop _ _ => true
  | .stormClear _ => true
  | .readmitHoldExpiry _ => true
  | .fenPortClear _ _ => true
  | .powerGoodLoss _ => true
  | .resetNRelease _ => true
  | .joinExit _ => true
  | .reboot _ _ _ => true
  | .cfgGidWrite _ _ => true
  | .flashRead _ _ => true
  | .flashProgram _ _ => true
  | .flashErase _ => true
  | .flashCommandComplete _ => true
  | .selftestStart _ _ => true
  | .selftestComplete _ _ _ _ => true
  | .ownerBind _ => true
  | .debugSubmit _ => true
  | .getVersion _ => true
  | .getCapabilities _ => true
  | .negotiateAlgorithms _ _ _ => true
  | .getDigests _ => true
  | .getCertificate _ _ _ _ => true
  | .challenge _ _ _ => true
  | .getMeasurements _ _ _ _ => true
  | .perstAssert _ => true
  | .arbiterInterval _ _ _ req => decide (req.length = 64)
  | .thermalTick readings => decide (readings.length = 9)
  | .thermtrip _ => true
  | .idleC2Timer _ => true
  | .idleC3Timer _ => true
  | .idleC4Timer _ => true
  | .wakeComplete _ => true
  | .hbmSelfRefresh _ => true
  | .telSnap _ => true
  | .autoSnapshot => true
  | .snapshotComplete => true
  | .telClear _ _ => true
  | .telemetryWindowRead _ => true
  | .scrubRead _ _ _ => true
  | .logCommit => true
  | .leaseAcquire _ => true
  | .leaseRenew _ => true
  | .leaseRelease _ => true
  | .leaseTermExpiry => true
  | .pcieLinkDown _ => true
  | .functionLevelReset _ => true
  | .bar2Write _ _ data => decide (0 < data.length) && decide (data.length ≤ 4096)
  | .bar2Read _ _ len _ => decide (0 < len.toNat) && decide (len.toNat ≤ 4096)
  | .ringEnable _ _ _ => true
  | .ringHostIdxWrite _ _ _ => true
  | .cmdRegWrite _ _ _ writes => writes.all regWOk
  | .cmdTable _ _ _ _ _ => true
  | .cmdSync _ _ _ => true
  | .cmdUnknown _ _ _ _ => true
  | .msixHoldExpiry _ _ => true
  | .entdaa _ => true
  | .rstdaa => true
  | .enec _ => true
  | .disec _ => true
  | .getpid => true
  | .getbcr => true
  | .getdcr => true
  | .getstatus => true
  | .getmwl => true
  | .getmrl => true
  | .setmwl _ _ => true
  | .setmrl _ _ => true
  | .rstact _ _ => true
  | .i3cReadReg _ => true
  | .i3cHealth => true
  | .i3cSetGid _ => true
  | .i3cReboot _ _ => true
  | .i3cPrivateRead => true
  | .jtagBypass => true
  | .jtagIdcode => true
  | .jtagSamplePreload _ _ => true
  | .jtagExtest => true
  | .jtagClamp => true
  | .jtagHighz => true
  | .jtagInternal instr => decide (0x80 ≤ instr.toNat) && decide (instr.toNat ≤ 0xFE)
  | .laneCodewordUncorrectable _ => true
  | .sensorFail _ => true
  | .powerManagementState _ _ => true
  | .i3cBadCmd cmd => !knownI3cCmd cmd.toNat
  | .i3cUnsupportedCcc ccc => !knownCcc ccc.toNat
  | .promRepairComplete => true

end Sys2Proof
end

