-- ==== Sys2Proof/Tests/Slice0.lean ====
section
/-! SUPPORT. Tests: for each obligation states and operands that meet the hypotheses of its clauses, ill-formed commands that
the well-formedness check refuses, and the worked examples of the specification. -/

namespace Sys2Proof.Tests
open Sys2Proof Sys2Proof.Machine

def live : State := { State.reset with fw := true, started := true, tb := ⟨1000, 0, true, 1000, 0, none⟩ }
def put (s : State) (l : List (Fld × Nat × Nat)) : State := l.foldl (fun s x => s.wr x.1 x.2.1 x.2.2) s
def pkt0 : Packet := { ver := 1, kind := 0x30, tc := 6, cm := 0, spray := false, last := true, echo := false, hops := 9, dgid := 0xFFFFF, sgid := 0x333, psn := 0, msgid := 0, len := 0, w1k := 0, w2 := 0, key := 0, ctx := 0, hcrc := 0, payload := [], ecrc := 0 }
def dl0 : Deliv := ⟨pkt0, none, 0, 0, .own, 0, 0⟩
def tk (x : Option (Deliv × State)) (s : State) : Deliv × State := x.getD (dl0, s)

namespace Core

def offOf (r : Reg) (i : Nat) : BitVec 26 := BitVec.ofNat 26 (r.offset i)
def sw1 : State := { live with acc := { live.acc with inflight := [⟨.ctl0, .schPortCfg, 5, 0x12345678, 2^32-1⟩] } }
def i1 : State := { live with fw := false }
def ssy : State := { sw1 with acc := { sw1.acc with syncs := [.ctl0] } }
def addr : State := { live with i3c := { live.i3c with da := some 9, resp := some [0, 7] } , mgmt := { live.mgmt with ibi := some 4 } }
def addrG := put addr [(.cfgGid_valid, 0, 1)]
def i2 : State := {live with tb := ⟨0xFFFFFFFF, 3, true, 0, 0, none⟩}
def gl := put live [(.gateCycleCfg_en, 0, 1), (.gateNextCycleStart_start, 0, 500)]
def gr : State := put { gl with gate := { gl.gate with cycle := 5000, next := 900, last := 100, pulse := some 0, armed := none } } [(.gateCycleCtrl_running, 0, 1), (.gatePortCtrl_commit, 7, 1), (.gatePortCtrl_active, 7, 1), (.gatePortCtrl_en, 7, 1), (.gateSyncCfg_syncOutEn,0,1)]
def tl : State := { live with tel := { live.tel with cnt := [(Nat.pair 0 5, 9), (Nat.pair 8 2, 4), (Nat.pair 2 70, 3)], shadow := [(Nat.pair 0 5, 1)] } }
def tlw := put tl [(.telWrap_wrap, 0, 6), (.telWrap_wrap, 256, 6), (.telCfg_autoMs, 0, 3)]
def i3 : State := { tlw with tel := { tlw.tel with latch := some ([(3,4)], 77) } }
def ow := put tlw [(.cfgLeaseStatus_owner, 0, 1)]
def q1 : FaultRec := ⟨1, 2, 0, 5, 1, 4, [1]⟩
def i4 : State := { live with tel := { live.tel with log := [q1, q1] } }
def tlrP (w1k w2 : Nat) : Packet := { pkt0 with ver := 2, kind := 2, tc := 5, dgid := 0x500, sgid := 0x222, w1k := BitVec.ofNat 11 w1k, w2 := BitVec.ofNat 64 w2 }
def tlr (e w1k w2 : Nat) : State := { (put live [(.telExpose_groups, 0, e), (.cfgGid_valid, 0, 1), (.cfgGid_gid, 0, 0x500)]) with
  sw := { live.sw with localQ := [⟨tlrP w1k w2, some 8, 1, 900, .own, 0, 0⟩] } }
def tlD (s : State) : Deliv := (tk (s.takeLocal 0 isWindowRead) s).1
def tlU (s : State) : State := (tk (s.takeLocal 0 isWindowRead) s).2
def stepped : State := match exec (.timeStep .ctl0 7) live with | .next t => t | _ => live

def wrt (r : Reg) (i v : Nat) (m : Nat := 2^32-1) (s : State := live) : State := { s with acc := { s.acc with inflight := [⟨.ctl0, r, i, v, m⟩] } }
def objs1 : State := wrt .promCfg 0 5 (s := { live with prom := { live.prom with objs := [(7, ⟨1, 2, [(0, ⟨1, 2, 0, 1, [9]⟩)]⟩)] } })
def spl1 : State := wrt .voqSpillCfg 0 0x80000003 (s := put live [(.voqSpillCfg_en, 0, 1)])
def lat : State := { live with acc := { live.acc with latched := [(Nat.pair 1 0x740008, 6)] } }
def tlw3 : State := { tlw with tb := ⟨1000, 0, true, 3000000, 0, none⟩ }
def uv (s : State) (fn off : Nat) : Nat := ((s.unitAt fn off).1.getD (0, 0)).2
def tbd : State := wrt .tblData 5 7 (s := put live [(.tblCmd_start, 0, 1)])

/-- Hypotheses of `RegisterWriteIsAcceptedOrIgnored`, clause by clause, met. -/
theorem wit_RegisterWriteIsAcceptedOrIgnored :
    (inMsix (offOf Reg.timeRate 0).toNat = false ∧
      srcPlace? Src.ctl0 (offOf Reg.timeRate 0).toNat = some { reg := Reg.timeRate, idx := 0, upper := false } ∧
      Reg.timeRate.is64 = false ∧
      live.accepts Src.ctl0 Reg.timeRate 0 = true ∧
      actsNow Reg.timeRate (77 % 2 ^ 32) (2 ^ 32 - 1) = false) ∧
    (inMsix (offOf Reg.timeRate 0).toNat = false ∧
      srcPlace? Src.fn0 (offOf Reg.timeRate 0).toNat = some { reg := Reg.timeRate, idx := 0, upper := false } ∧
      Reg.timeRate.is64 = false ∧
      live.accepts Src.fn0 Reg.timeRate 0 = false ∧
      Reg.timeRate ≠ Reg.gatePortCtrl) := by
  (repeat' with_reducible apply And.intro) <;> decide +kernel

/-- Hypotheses of `WriteTakesEffectOnEveryField`, clause by clause, met. -/
theorem wit_WriteTakesEffectOnEveryField :
    (sw1.acc.inflight = [{ src := Src.ctl0, reg := Reg.schPortCfg, idx := 5, val := 305419896, mask := 2 ^ 32 - 1 }] ∧
      sw1.off = false ∧
      sw1.regDead Reg.schPortCfg 5 = false ∧
      Reg.schPortCfg ∉ [Reg.promCfg, Reg.voqSpillCfg, Reg.cvtAmax] ∧
      sw1.writeHeld { src := Src.ctl0, reg := Reg.schPortCfg, idx := 5, val := 305419896, mask := 2 ^ 32 - 1 } = false) ∧
    ((wrt Reg.telCfg 0 196608).acc.inflight = [{ src := Src.ctl0, reg := Reg.telCfg, idx := 0, val := 196608, mask := 2 ^ 32 - 1 }] ∧
      (wrt Reg.telCfg 0 196608).off = false ∧
      (wrt Reg.telCfg 0 196608).regDead Reg.telCfg 0 = false ∧
      Reg.telCfg ∉ [Reg.promCfg, Reg.voqSpillCfg, Reg.cvtAmax] ∧
      (wrt Reg.telCfg 0 196608).writeHeld { src := Src.ctl0, reg := Reg.telCfg, idx := 0, val := 196608, mask := 2 ^ 32 - 1 } = false) ∧
    (tbd.acc.inflight = [{ src := Src.ctl0, reg := Reg.tblData, idx := 5, val := 7, mask := 2 ^ 32 - 1 }] ∧
      tbd.off = false ∧
      tbd.writeHeld { src := Src.ctl0, reg := Reg.tblData, idx := 5, val := 7, mask := 2 ^ 32 - 1 } = true) ∧
    (objs1.acc.inflight = [{ src := Src.ctl0, reg := Reg.promCfg, idx := 0, val := 5, mask := 2 ^ 32 - 1 }] ∧
      objs1.off = false ∧
      objs1.regDead Reg.promCfg 0 = false ∧
      (List.any objs1.prom.objs fun o => !List.isEmpty o.2.chunks) = true) ∧
    (spl1.acc.inflight = [{ src := Src.ctl0, reg := Reg.voqSpillCfg, idx := 0, val := 2147483651, mask := 2 ^ 32 - 1 }] ∧
      spl1.off = false ∧
      spl1.regDead Reg.voqSpillCfg 0 = false ∧
      spl1.rd Fld.voqSpillCfg_en 0 = 1) ∧
    ((wrt Reg.telCfg 0 196608).acc.inflight = [{ src := Src.ctl0, reg := Reg.telCfg, idx := 0, val := 196608, mask := 2 ^ 32 - 1 }] ∧
      (wrt Reg.telCfg 0 196608).off = false ∧
      (wrt Reg.telCfg 0 196608).regDead Reg.telCfg 0 = false ∧
      accessValue Access.rw ((wrt Reg.telCfg 0 196608).rd Fld.telCfg_autoMs 0) (bits 196608 16 16) (bits (2 ^ 32 - 1) 16 16) ≠ (wrt Reg.telCfg 0 196608).rd Fld.telCfg_autoMs 0) ∧
    (sw1.acc.inflight = [{ src := Src.ctl0, reg := Reg.schPortCfg, idx := 5, val := 305419896, mask := 2 ^ 32 - 1 }] ∧
      sw1.off = false ∧
      sw1.regDead Reg.schPortCfg 5 = false ∧
      Reg.schPortCfg ∉ [Reg.schShape, Reg.schIpol, Reg.corePuntCfg, Reg.engHostCfg, Reg.promCfg, Reg.pwrCfg, Reg.telCfg, Reg.dbgSel, Reg.tblData, Reg.optPlanNext, Reg.cvtAmax, Reg.cvtEscNext, Reg.optLoopCfg, Reg.secOwnerHash, Reg.pcieRingBase, Reg.voqSpillCfg]) := by
  (repeat' with_reducible apply And.intro) <;> decide +kernel

/-- Hypotheses of `ReadsLatchAndSyncsWait`, clause by clause, met. -/
theorem wit_ReadsLatchAndSyncsWait :
    (live.served (offOf Reg.telSnapStatus 0).toNat = true ∧
      (offOf Reg.telSnapStatus 0).toNat % 4 = 0 ∧
      live.acc.inflight = [] ∧
      (live.unitAt 0 (offOf Reg.telSnapStatus 0).toNat).1 = some (7602184, uv live 0 7602184) ∧
      (offOf Reg.telSnapStatus 0).toNat = 7602184) ∧
    (lat.served (offOf Reg.telSnapStatus 0 + 4).toNat = true ∧
      (offOf Reg.telSnapStatus 0 + 4).toNat % 4 = 0 ∧
      lat.acc.inflight = [] ∧
      (lat.unitAt 1 (offOf Reg.telSnapStatus 0 + 4).toNat).1 = some (7602184, uv lat 1 7602188) ∧
      (offOf Reg.telSnapStatus 0 + 4).toNat ≠ 7602184 ∧
      kget lat.acc.latched (Nat.pair 1 7602184) = some 6) ∧
    (live.served (offOf Reg.telSnapStatus 0).toNat = true ∧
      (offOf Reg.telSnapStatus 0).toNat % 8 = 0 ∧
      live.acc.inflight = [] ∧
      (live.unitAt 0 (offOf Reg.telSnapStatus 0).toNat).1 = some (7602184, uv live 0 7602184)) ∧
    (i1.off = false ∧
      i1.fw = false ∧
      (offOf Reg.telSnapStatus 0).toNat % 4 = 0 ∧
      cfgOrSec (offOf Reg.telSnapStatus 0).toNat = false) ∧
    (live.accepts Src.ctl0 Reg.cfgSync 0 = true) ∧
    (live.acc.syncs.all live.synced = true) ∧
    (ssy.acc.syncs.all ssy.synced = false) := by
  (repeat' with_reducible apply And.intro) <;> decide +kernel

/-- Hypotheses of `SidebandStandardCommands`, clause by clause, met. -/
theorem wit_SidebandStandardCommands :
    (live.i3cUp = true ∧
      live.i3c.da = none) ∧
    (addr.i3cUp = true) ∧
    (addr.i3cUp = true ∧
      (true = true → addr.i3c.da.isSome = true)) ∧
    (addr.i3cUp = true ∧
      addr.i3c.da.isSome = true) := by
  (repeat' with_reducible apply And.intro) <;> decide +kernel

/-- Hypotheses of `SidebandPrivateCommands`, clause by clause, met. -/
theorem wit_SidebandPrivateCommands :
    (Instr.i3cHealth ∈ [Instr.getpid, Instr.getbcr, Instr.getdcr, Instr.getstatus, Instr.getmwl, Instr.getmrl, Instr.i3cHealth, Instr.i3cPrivateRead, Instr.enec true, Instr.disec true] ∧
      live.i3cUp = true ∧
      live.i3c.da = none) ∧
    (addr.i3cUp = true ∧
      149 ∉ directCccs) ∧
    (addr.i3cUp = true ∧
      addr.i3c.da.isSome = true ∧
      i3cReach 1048576 = true ∧
      1048576 ≠ 1048684 ∧
      1048576 ≠ 1048672) ∧
    (addr.i3cUp = true ∧
      addr.i3c.da.isSome = true ∧
      (1048684 = 1048684 ∨ 1048684 = 1048672)) ∧
    (addr.i3cUp = true ∧
      addr.i3c.da.isSome = true ∧
      (1048672 = 1048684 ∨ 1048672 = 1048672)) ∧
    (addr.i3cUp = true ∧
      addr.i3c.da.isSome = true ∧
      i3cReach 2097152 = false) ∧
    (addr.i3cUp = true ∧
      addr.i3c.da.isSome = true) ∧
    (addr.i3cUp = true ∧
      addr.i3c.da.isSome = true ∧
      addr.gidRefused (837 % 2 ^ 18) = false) ∧
    (addrG.i3cUp = true ∧
      addrG.i3c.da.isSome = true ∧
      addrG.gidRefused (837 % 2 ^ 18) = true) ∧
    (addrG.i3cUp = true ∧
      addrG.i3c.da.isSome = true ∧
      (837 : BitVec (16 : ℕ)) ≠ (23294 : BitVec (16 : ℕ))) ∧
    (addrG.i3cUp = true ∧
      addrG.i3c.da.isSome = true ∧
      (69 = 0 ∨ 4 < 69)) ∧
    (addrG.i3cUp = true ∧
      addrG.i3c.da.isSome = true ∧
      (0 = 0 ∨ 4 < 0)) ∧
    (addrG.i3cUp = true ∧
      addrG.i3c.da.isSome = true ∧
      addrG.i3c.resp = some [0, 7]) := by
  (repeat' with_reducible apply And.intro) <;> decide +kernel

/-- Hypotheses of `JtagInstructions`, clause by clause, met. -/
theorem wit_JtagInstructions :
    (128 ≤ 128 ∧
      128 ≤ 254 ∧
      bitAt (addr.rd Fld.secDbgCtrl_enable 0) 1 = false) ∧
    (128 ≤ 254 ∧
      254 ≤ 254 ∧
      bitAt (addr.rd Fld.secDbgCtrl_enable 0) 1 = false) ∧
    (128 ≤ 128 ∧
      128 ≤ 254 ∧
      bitAt ((put addr [(Fld.secDbgCtrl_enable, 0, 2)]).rd Fld.secDbgCtrl_enable 0) 1 = true) := by
  (repeat' with_reducible apply And.intro) <;> decide +kernel

/-- Hypotheses of `TimeTicksAndEdges`, clause by clause, met. -/
theorem wit_TimeTicksAndEdges :
    ((put live [(Fld.timeRate_rate, 0, 4294901760)]).tb.counting = true ∧
      (put live [(Fld.timeRate_rate, 0, 4294901760)]).off = false ∧
      (put live [(Fld.timeRate_rate, 0, 4294901760)]).tb.ok) ∧
    ((put i2 [(Fld.timeRate_rate, 0, 134217728)]).tb.counting = true ∧
      (put i2 [(Fld.timeRate_rate, 0, 134217728)]).off = false ∧
      (put i2 [(Fld.timeRate_rate, 0, 134217728)]).tb.ok) ∧
    ((State.reset.tb.counting = false ∨ State.reset.off = true)) ∧
    (gr.off = false ∧
      gr.landsHeld = false ∧
      (∀ (t0 : ℕ), gr.gate.edge = some t0 → t0 + 100 ≤ gr.tb.mono)) ∧
    (gr.off = false ∧
      gr.landsHeld = false ∧
      (∀ (t0 : ℕ), gr.gate.edge = some t0 → t0 + 100 ≤ gr.tb.mono) ∧
      (gr.rd Fld.gateSyncCfg_syncInEn 0 = 0 ∨ gr.gateRuns = false)) := by
  (repeat' with_reducible apply And.intro) <;> first | decide +kernel | (unfold TimeBase.ok; decide +kernel)

/-- Hypotheses of `TimeStepAddsSignedValue`, clause by clause, met. -/
theorem wit_TimeStepAddsSignedValue :
    (live.accepts Src.ctl0 Reg.timeStep 0 = true ∧
      (4294963200 : BitVec (32 : ℕ)) ≠ (0 : BitVec (32 : ℕ))) ∧
    (live.accepts Src.ctl0 Reg.timeStep 0 = true) ∧
    (live.accepts Src.ctl0 Reg.timeStep 0 = true ∧
      exec (Instr.timeStep Src.ctl0 7) live = Host.Outcome.next stepped ∧
      stepped.accepts Src.ctl0 Reg.timeStep 0 = true) := by
  (repeat' with_reducible apply And.intro) <;> first | decide +kernel | rfl

/-- Hypotheses of `GatesFollowTheCycle`, clause by clause, met. -/
theorem wit_GatesFollowTheCycle :
    (gl.accepts Src.ctl0 Reg.gateCycleCtrl 0 = true ∧
      (gl.ready Src.ctl0 Reg.gateCycleCtrl 0).rd Fld.gateCycleCfg_en 0 = 1) ∧
    (gr.accepts Src.ctl0 Reg.gateCycleCfg 0 = true) ∧
    (gr.gate.armed = none ∧
      gr.gateRuns = true ∧
      gr.reached gr.gate.next = true) ∧
    (gr.gate.pulse = some 0 ∧
      0 + 1000 ≤ gr.tb.mono) ∧
    (gr.follows 6 = false) ∧
    (gr.follows 7 = true ∧
      List.find? (fun w => decide (w.2.1 ≤ span32 gr.gate.last gr.now)) (gr.gateSpans 7).reverse = some (0, 0, 5000, 255)) ∧
    (gr.accepts Src.ctl0 Reg.gatePortCtrl 8 = true ∧
      bitAt 3221225987 30 = true) ∧
    (gr.accepts Src.ctl0 Reg.gateList (gateIdx 8 1 63) = true ∧
      (gr.ready Src.ctl0 Reg.gateList (gateIdx 8 1 63)).listGuarded 8 1 = false) ∧
    (gr.accepts Src.ctl0 Reg.gateList (gateIdx 7 1 63) = true ∧
      (gr.ready Src.ctl0 Reg.gateList (gateIdx 7 1 63)).listGuarded 7 1 = true) := by
  (repeat' with_reducible apply And.intro) <;> decide +kernel

/-- Hypotheses of `SnapshotsClearAndLog`, clause by clause, met. -/
theorem wit_SnapshotsClearAndLog :
    (Src.ctl0 ≠ Src.image ∧
      tlw.accepts Src.ctl0 Reg.telCtrl 0 = true ∧
      tlw.tel.latch = none) ∧
    (tlw3.off = false ∧
      tlw3.rd Fld.telCfg_autoMs 0 ≠ 0 ∧
      tlw3.tel.autoAt + 1000000 * tlw3.rd Fld.telCfg_autoMs 0 ≤ tlw3.tb.mono) ∧
    (i3.tel.latch = some ([(3, 4)], 77)) ∧
    (srcIsOwner Src.fn0 = true ∧
      ow.accepts Src.fn0 Reg.telCtrl 0 = true) ∧
    ((tlr 2 0 4295491584).takeLocal 0 isWindowRead = some (tlD (tlr 2 0 4295491584), tlU (tlr 2 0 4295491584)) ∧
      (4 * (tlD (tlr 2 0 4295491584)).pkt.w1k.toNat = 0 ∨ 4096 < 4 * (tlD (tlr 2 0 4295491584)).pkt.w1k.toNat ∨ (tlD (tlr 2 0 4295491584)).pkt.tc = 7 ∧ 2012 < 4 * (tlD (tlr 2 0 4295491584)).pkt.w1k.toNat)) ∧
    ((tlr 2 3 4295491592).takeLocal 0 isWindowRead = some (tlD (tlr 2 3 4295491592), tlU (tlr 2 3 4295491592)) ∧
      0 < 4 * (tlD (tlr 2 3 4295491592)).pkt.w1k.toNat ∧
      4 * (tlD (tlr 2 3 4295491592)).pkt.w1k.toNat ≤ 4096 ∧
      ((tlD (tlr 2 3 4295491592)).pkt.tc = 7 → 4 * (tlD (tlr 2 3 4295491592)).pkt.w1k.toNat ≤ 2012) ∧
      (tlD (tlr 2 3 4295491592)).pkt.w2.toNat - 4294967296 < 16777216 ∧
      ((tlD (tlr 2 3 4295491592)).pkt.w2.toNat - 4294967296) / 524288 = ((tlD (tlr 2 3 4295491592)).pkt.w2.toNat - 4294967296 + 4 * (tlD (tlr 2 3 4295491592)).pkt.w1k.toNat - 1) / 524288 ∧
      bitAt ((tlU (tlr 2 3 4295491592)).rd Fld.telExpose_groups 0) (((tlD (tlr 2 3 4295491592)).pkt.w2.toNat - 4294967296) / 524288) = true) ∧
    ((tlr 1 3 4295491592).takeLocal 0 isWindowRead = some (tlD (tlr 1 3 4295491592), tlU (tlr 1 3 4295491592)) ∧
      0 < 4 * (tlD (tlr 1 3 4295491592)).pkt.w1k.toNat ∧
      4 * (tlD (tlr 1 3 4295491592)).pkt.w1k.toNat ≤ 4096 ∧
      ((tlD (tlr 1 3 4295491592)).pkt.tc = 7 → 4 * (tlD (tlr 1 3 4295491592)).pkt.w1k.toNat ≤ 2012) ∧
      (tlD (tlr 1 3 4295491592)).pkt.w2.toNat - 4294967296 < 16777216 ∧
      ((tlD (tlr 1 3 4295491592)).pkt.w2.toNat - 4294967296) / 524288 = ((tlD (tlr 1 3 4295491592)).pkt.w2.toNat - 4294967296 + 4 * (tlD (tlr 1 3 4295491592)).pkt.w1k.toNat - 1) / 524288 ∧
      bitAt ((tlU (tlr 1 3 4295491592)).rd Fld.telExpose_groups 0) (((tlD (tlr 1 3 4295491592)).pkt.w2.toNat - 4294967296) / 524288) = false) ∧
    (i4.off = false ∧
      i4.chip.flash = none ∧
      i4.tel.log = [q1, q1] ∧
      i4.landsHeld = false) := by
  (repeat' with_reducible apply And.intro) <;> decide +kernel

/-- A command is waiting, or none is. -/
theorem wit_StepRunsFrontCommand : live.pending = [] := by decide +kernel

/-- A command that is not JTAG_INTERNAL. -/
theorem wit_EveryCommandAnswersNextState : ∀ i, Instr.rstdaa ≠ .jtagInternal i := by intro i h; cases h

/-- A state of which the invariant holds, and its step. -/
theorem wit_EveryStepKeepsTimeAndSidebandInvariant :
    live.tb.ok ∧ live.i3c.ok ∧ ∃ t, step { live with pending := [.getpid] } = .next t :=
  ⟨by unfold TimeBase.ok; decide +kernel, by unfold I3c.ok; decide +kernel, _, rfl⟩

/-- A command of each family that completes. -/
theorem wit_Frames :
    (familyOf (.reelSlot) = .switching ∧ ∃ t, exec .reelSlot live = .next t) ∧
    (familyOf (.gateEntryChange 7) = .links ∧ ∃ t, exec (.gateEntryChange 7) live = .next t) ∧
    (familyOf (.instClearFlags .ctl0 5) = .compute ∧ ∃ t, exec (.instClearFlags .ctl0 5) live = .next t) ∧
    (familyOf .promRepairComplete = .inNetwork ∧ ∃ t, exec .promRepairComplete live = .next t) ∧
    (familyOf .fenceWindowExpiry = .upkeep ∧ ∃ t, exec .fenceWindowExpiry live = .next t) ∧
    (familyOf .rstdaa = .management ∧ ∃ t, exec .rstdaa live = .next t) :=
  ⟨⟨rfl, _, rfl⟩, ⟨rfl, _, rfl⟩, ⟨rfl, _, rfl⟩, ⟨rfl, _, rfl⟩, ⟨rfl, _, rfl⟩, rfl, _, rfl⟩

end Core

namespace Upkeep

def busy : State := put { live with eng := { live.eng with inst := [(3, { Inst.init with state := 1, region := 2 })] } } [(.cfgState_state,0,4),(.corePortCfg_en, 8, 1), (.corePortStatus_state, 8, 3)]
def i1 : State := { busy with chip := { busy.chip with ctlDead := some 1 } }
def badt : State := { busy with tab := { busy.tab with bad := [(3, 77, 2), (0,5,1), (7, 3, 0), (7,3,1),(7,3,2),(7,3,3),(7,3,4),(7,3,5),(7,3,6),(7,3,7)] } }
def scr := put { busy with tel := { busy.tel with cnt := [(Nat.pair 15 (4*(8*2+1)), 0xFFFFFFFF)] } } [(.telScrubCfg_en, 0, 1)]
def grn := put (put busy [(.pwrCbGrant_grant, 3, 40), (.pwrCbGrant_grant, 4, 255),(.cfgRegionStatus_cbFail, 0, 4), (.pwrCbGrant_grant, 2, 9)]) []
def i2 : State := { grn with pwr := { grn.pwr with limit := some 900, nW := 3, sumW := 33 } }
def i3 : State := { grn with pwr := { grn.pwr with limit := some 900, nW := 3, sumW := 33 } }
def idl := put busy [(.pwrRegionStatus_c1, 1, 2), (.pwrRegionStatus_c2, 2, 255), (.pwrRegionStatus_state, 3, 3), (.pwrCfg_maxState, 0, 4)]
def i4 : State := { idl with eng := {idl.eng with inst := []} }
def wk : State := { idl with eng := { idl.eng with q := [(9, [⟨0,0,0,1⟩])] }, pwr := { idl.pwr with waking := [3] } }
def i5 : State := { busy with i3c := { live.i3c with da := some 9 } }
def prot := put busy [(.cfgFlashAddr_addr, 0, 0x3000010)]
def fl (op : Nat) : State := { busy with flash := [(0x10, 5)], chip := { busy.chip with flash := some ⟨op, 0x10, 4, [1,2,3,4], 0⟩ } }
def tst (b : Bool) : State := { busy with chip := { busy.chip with test := some (b, 3) } }
def bg := put busy [(.cfgGid_valid, 0, 1), (.cfgState_state, 0, 6)]
def mx : State := { busy with mgmt := { busy.mgmt with msix := [(Nat.pair 0 15, 0)] } }
def ag : State := { mx with chip := { mx.chip with agreed := [0] } }
def own := put busy [(.cfgLeaseStatus_owner, 0, 1)]
def hold (b : Bool) : State := { mx with mgmt := { mx.mgmt with hold := [(Nat.pair 0 3, (b, 500))] } }
def cr := put own [(.pcieRingCfg_en, 0, 1), (.pcieRingHostIdx_idx, 0, 4)]
def crb : State := { cr with tab := { cr.tab with jobs := [⟨0, 2, some 0, ⟨0,0,0,false,0⟩, none, none, 0⟩] } }
def ancS : State := { put live [(.secOwner_bound, 0, 1)] with chip := { live.chip with anchor := some [1, 2] } }

def ancT : State := match exec .rstdaa ancS with | .next t => t | _ => ancS
def late (s : State) : State := { s with tb := ⟨7, 0, true, 90000000000000, 0, none⟩ }
def joi (w : Bool) : State := let s := put busy [(.cfgState_state, 0, 3), (.cfgGid_valid, 0, 1)]; if w then { s with chip := { s.chip with joinAt := 5 }, tb := ⟨7, 0, true, 1000000005, 0, none⟩ } else s
def sev3 : State := { fl 1 with tel := { (fl 1).tel with log := [⟨1, 2, 0, 5, 3, 4, [1]⟩] } }

/-- Hypotheses of `FailedUnitsAreRecorded`, clause by clause, met. -/
theorem wit_FailedUnitsAreRecorded :
    (busy.off = false ∧
      busy.chip.ctlDead = none) ∧
    (busy.off = false ∧
      (Instr.blockFailed BlockKind.line 9 1 = Instr.blockFailed BlockKind.line 9 1 ∨ Instr.blockFailed BlockKind.line 9 1 = Instr.blockWatchdogExpiry BlockKind.line 9)) ∧
    (busy.off = false ∧
      (Instr.blockWatchdogExpiry BlockKind.compute 9 = Instr.blockFailed BlockKind.compute 9 2 ∨ Instr.blockWatchdogExpiry BlockKind.compute 9 = Instr.blockWatchdogExpiry BlockKind.compute 9)) ∧
    (busy.off = false ∧
      (Instr.blockFailed BlockKind.service 9 1 = Instr.blockFailed BlockKind.service 9 1 ∨ Instr.blockFailed BlockKind.service 9 1 = Instr.blockWatchdogExpiry BlockKind.service 9)) ∧
    (busy.off = false ∧
      busy.blockDead 63 = false) ∧
    (busy.off = false ∧
      busy.computeDead 63 = false) ∧
    (busy.off = false ∧
      busy.regionDead (63 % 8) = false) ∧
    (busy.off = false ∧
      busy.regionDead 2 = false) ∧
    (busy.off = false ∧
      busy.stackDead 2 = false) := by
  (repeat' with_reducible apply And.intro) <;> decide +kernel

/-- Hypotheses of `FatalErrorEntersSafe`, clause by clause, met. -/
theorem wit_FatalErrorEntersSafe :
    (busy.off = false) ∧
    (busy.off = false ∧
      busy.chip.tripped = false) ∧
    (i1.off = false ∧
      i1.chip.ctlDead = some 1 ∧
      (0 : Fin (2 : ℕ)) ≠ (1 : Fin (2 : ℕ))) := by
  (repeat' with_reducible apply And.intro) <;> decide +kernel

/-- Hypotheses of `UncorrectableCodewordsAreContained`, clause by clause, met. -/
theorem wit_UncorrectableCodewordsAreContained :
    (busy.off = false) ∧
    (((3 : ℕ), (77 : ℕ), (2 : ℕ)) ∈ badt.tab.bad ∧
      (4 : Fin (8 : ℕ)) ≠ (2 : Fin (8 : ℕ)) ∧
      badt.copyGood 3 77 4 = true) ∧
    (((7 : ℕ), (3 : ℕ), (2 : ℕ)) ∈ badt.tab.bad ∧
      (∀ (h : Fin 8), h ≠ 2 → badt.copyGood 7 3 (↑h : ℕ) = false)) ∧
    (scr.off = false ∧
      scr.rd Fld.telScrubCfg_en 0 = 1 ∧
      (1 < 5 → scr.regionDead 2 = false) ∧
      (1 = 5 → 2 < 4)) ∧
    ((late scr).off = false ∧
      (late scr).rd Fld.telScrubCfg_en 0 = 1 ∧
      (1 < 5 → (late scr).regionDead 2 = false) ∧
      (1 = 5 → 2 < 4) ∧
      (late scr).passed (sget 0 (late scr).tel.passAt (Nat.pair 1 2)) ((late scr).passNs 1) = true) ∧
    ((late scr).off = false ∧
      (late scr).rd Fld.telScrubCfg_en 0 = 1 ∧
      (5 < 5 → (late scr).regionDead 3 = false) ∧
      (5 = 5 → 3 < 4) ∧
      (late scr).passed (sget 0 (late scr).tel.passAt (Nat.pair 5 3)) ((late scr).passNs 5) = true) ∧
    (busy.off = false ∧
      (1 < 5 → busy.regionDead 2 = false) ∧
      (1 = 5 → 2 < 4)) := by
  (repeat' with_reducible apply And.intro) <;> decide +kernel

/-- Hypotheses of `ArbiterMovesGrantsByRamp`, clause by clause, met. -/
theorem wit_ArbiterMovesGrantsByRamp :
    (grn.off = false) := by
  (repeat' with_reducible apply And.intro) <;> decide +kernel

/-- Hypotheses of `ThermalLimitFollowsHottestSensor`, clause by clause, met. -/
theorem wit_ThermalLimitFollowsHottestSensor :
    (grn.off = false ∧
      70 = List.foldl max 0 (List.map (grn.sensorRead (List.replicate 9 70)) (List.range 9))) ∧
    (i2.off = false ∧
      99 = List.foldl max 0 (List.map (i2.sensorRead (List.replicate 9 99)) (List.range 9))) ∧
    (i3.off = false ∧
      90 = List.foldl max 0 (List.map (i3.sensorRead (List.replicate 9 90)) (List.range 9))) ∧
    (grn.off = false ∧
      grn.pwr.sensors.contains 3 = false) := by
  (repeat' with_reducible apply And.intro) <;> decide +kernel

/-- Hypotheses of `IdleStatesAndWakes`, clause by clause, met. -/
theorem wit_IdleStatesAndWakes :
    ((late idl).off = false ∧
      (late idl).computeDead 9 = false ∧
      (late idl).rd Fld.pwrRegionStatus_state (9 / 8) = 0 ∧
      bitAt ((late idl).rd Fld.pwrRegionStatus_c1 (9 / 8)) (9 % 8) = true ∧
      (late idl).tilesIn 9 = [] ∧
      2 ≤ (late idl).maxState ∧
      (late idl).wakeFits (9 / 8) 2 = true ∧
      sget 0 (late idl).pwr.c1At 9 + 1000 * (late idl).rd Fld.pwrIdleCfg_c2Us 0 ≤ (late idl).tb.mono) ∧
    ((late i4).off = false ∧
      (late i4).regionDead 2 = false ∧
      (late i4).rd Fld.pwrRegionStatus_state 2 = 0 ∧
      (∀ j < 8, (late i4).computeDead (8 * 2 + j) = true ∨ bitAt ((late i4).rd Fld.pwrRegionStatus_c2 2) j = true ∧ sget 0 (late i4).pwr.c2At (8 * 2 + j) + (late i4).c3Ns ≤ (late i4).tb.mono) ∧
      (∀ e ∈ (late i4).eng.inst, (late i4).hostFirst ≤ e.1 → e.2.region = 2 → e.2.state ≠ 1) ∧
      (late i4).regionIdle 2 = true ∧
      3 ≤ (late i4).maxState ∧
      (late i4).wakeFits 2 20 = true) ∧
    ((late idl).off = false ∧
      (late idl).regionDead 3 = false ∧
      (late idl).rd Fld.pwrRegionStatus_state 3 = 3 ∧
      (late idl).pwr.waking.contains 3 = false ∧
      (late idl).maxState = 4 ∧
      (late idl).holders 3 = [] ∧
      sget 0 (late idl).pwr.c3At 3 + (late idl).c4Ns ≤ (late idl).tb.mono) ∧
    ((late idl).off = false ∧
      (late idl).stackDead 3 = false ∧
      ((late idl).rd Fld.voqSpillCfg_en 0 = 0 ∨ (late idl).rd Fld.voqSpillCfg_size 0 = 0) ∧
      (late idl).pwr.refresh.contains 3 = false ∧
      (∀ e ∈ (late idl).sw.pkts, e.2.hseg = 0) ∧
      sget 0 (late idl).pwr.used 3 + 10000 ≤ (late idl).tb.mono) ∧
    (wk.off = false ∧
      wk.rd Fld.pwrRegionStatus_state (9 / 8) = 0 ∧
      wk.blockDozes 9 = true ∧
      wk.tilesIn 9 ≠ []) ∧
    (wk.off = false ∧
      wk.pwr.waking.contains 3 = true ∧
      wk.regionDead 3 = false ∧
      wk.rd Fld.pwrRegionStatus_state 3 ≠ 0) := by
  (repeat' with_reducible apply And.intro) <;> decide +kernel

/-- Hypotheses of `StartUpWithoutValidSlotEntersSafe`, clause by clause, met. -/
theorem wit_StartUpWithoutValidSlotEntersSafe :
    ((State.reset.off = true ∨ State.reset.started = false)) ∧
    ((State.reset.off = true ∨ State.reset.started = false) ∧
      (State.reset.romStep.viewSlot 0 false).reason ≠ 0 ∧
      (State.reset.romStep.viewSlot 1 true).reason ≠ 0) := by
  (repeat' with_reducible apply And.intro) <;> decide +kernel

/-- Hypotheses of `JoinIsLeftWithGid`, clause by clause, met. -/
theorem wit_JoinIsLeftWithGid :
    ((joi true).off = false ∧
      (joi true).devState = 3 ∧
      (joi true).gid?.isSome = true ∧
      (true = true ∧ (joi true).chip.joinAt + 1000000000 ≤ (joi true).tb.mono ∨ ((joi true).enabledPorts.all fun n => ((joi true).pst n).ended) = true)) ∧
    ((put (joi false) [(Fld.corePortStatus_state, 8, 3), (Fld.corePortCfg_en, 8, 0)]).off = false ∧
      (put (joi false) [(Fld.corePortStatus_state, 8, 3), (Fld.corePortCfg_en, 8, 0)]).devState = 3 ∧
      (put (joi false) [(Fld.corePortStatus_state, 8, 3), (Fld.corePortCfg_en, 8, 0)]).gid?.isSome = true ∧
      (false = true ∧ (put (joi false) [(Fld.corePortStatus_state, 8, 3), (Fld.corePortCfg_en, 8, 0)]).chip.joinAt + 1000000000 ≤ (put (joi false) [(Fld.corePortStatus_state, 8, 3), (Fld.corePortCfg_en, 8, 0)]).tb.mono ∨ ((put (joi false) [(Fld.corePortStatus_state, 8, 3), (Fld.corePortCfg_en, 8, 0)]).enabledPorts.all fun n => ((put (joi false) [(Fld.corePortStatus_state, 8, 3), (Fld.corePortCfg_en, 8, 0)]).pst n).ended) = true)) ∧
    (busy.gid? = none) ∧
    (((joi false).enabledPorts.all fun n => ((joi false).pst n).ended) = false ∧
      (false = false ∨ (joi false).tb.mono < (joi false).chip.joinAt + 1000000000)) ∧
    (((joi false).enabledPorts.all fun n => ((joi false).pst n).ended) = false ∧
      (true = false ∨ (joi false).tb.mono < (joi false).chip.joinAt + 1000000000)) := by
  (repeat' with_reducible apply And.intro) <;> decide +kernel

/-- Hypotheses of `RestartAndPowerLoss`, clause by clause, met. -/
theorem wit_RestartAndPowerLoss :
    (busy.accepts Src.ctl0 Reg.cfgCtrl 0 = true ∧
      rebootAsked 2147506942 = true) ∧
    (i5.i3cUp = true ∧
      i5.i3c.da.isSome = true) := by
  (repeat' with_reducible apply And.intro) <;> decide +kernel

/-- Hypotheses of `FlashAndSelfTest`, clause by clause, met. -/
theorem wit_FlashAndSelfTest :
    (busy.accepts Src.ctl0 Reg.cfgFlashCmd 0 = true) ∧
    (busy.accepts Src.ctl0 Reg.cfgFlashCmd 0 = true ∧
      (busy.ready Src.ctl0 Reg.cfgFlashCmd 0).flashProtected ((busy.ready Src.ctl0 Reg.cfgFlashCmd 0).rd Fld.cfgFlashAddr_addr 0) (7 + 1) = false ∧
      (busy.ready Src.ctl0 Reg.cfgFlashCmd 0).rd Fld.cfgFlashAddr_addr 0 % 256 + (7 + 1) ≤ 256) ∧
    (prot.accepts Src.ctl0 Reg.cfgFlashCmd 0 = true ∧
      (prot.ready Src.ctl0 Reg.cfgFlashCmd 0).flashProtected ((prot.ready Src.ctl0 Reg.cfgFlashCmd 0).rd Fld.cfgFlashAddr_addr 0) (7 + 1) = true) ∧
    (busy.accepts Src.ctl0 Reg.cfgFlashCmd 0 = true ∧
      (busy.ready Src.ctl0 Reg.cfgFlashCmd 0).flashProtected ((busy.ready Src.ctl0 Reg.cfgFlashCmd 0).rd Fld.cfgFlashAddr_addr 0 / 65536 * 65536) 65536 = false) ∧
    ((fl 0).chip.flash = some { op := 0, addr := 16, count := 4, data := [1, 2, 3, 4], result := 0 } ∧
      (fl 0).landsHeld = false ∧
      ((fl 0).tel.log.any fun q => q.sev == 3) = false) ∧
    ((fl 1).chip.flash = some { op := 1, addr := 16, count := 4, data := [1, 2, 3, 4], result := 0 } ∧
      (fl 1).landsHeld = false ∧
      ((fl 1).tel.log.any fun q => q.sev == 3) = false) ∧
    ((fl 2).chip.flash = some { op := 2, addr := 16, count := 4, data := [1, 2, 3, 4], result := 0 } ∧
      (fl 2).landsHeld = false ∧
      ((fl 2).tel.log.any fun q => q.sev == 3) = false) ∧
    ((fl 1).chip.flash = some { op := 1, addr := 16, count := 4, data := [1, 2, 3, 4], result := 0 }) ∧
    (sev3.chip.flash = some { op := 1, addr := 16, count := 4, data := [1, 2, 3, 4], result := 0 } ∧
      (sev3.tel.log.any fun q => q.sev == 3) = true) ∧
    (busy.accepts Src.ctl0 Reg.cfgSelftest 0 = true ∧
      bitAt 2197815296 31 = true ∧
      bitAt 2197815296 30 = false ∧
      bits 2197815296 24 6 ≠ 0 ∧
      busy.chip.test = none) ∧
    ((tst false).chip.test = some (false, 3)) ∧
    ((tst true).chip.test = some (true, 3)) := by
  (repeat' with_reducible apply And.intro) <;> decide +kernel

/-- Hypotheses of `GidAndDebugEnable`, clause by clause, met. -/
theorem wit_GidAndDebugEnable :
    (busy.accepts Src.ctl0 Reg.cfgGid 0 = true ∧
      bitAt 2147484485 31 = true ∧
      (busy.ready Src.ctl0 Reg.cfgGid 0).gidRefused (bits 2147484485 0 18) = false) ∧
    (bg.accepts Src.ctl0 Reg.cfgGid 0 = true ∧
      (bg.ready Src.ctl0 Reg.cfgGid 0).gidRefused (bits 2147484485 0 18) = true) ∧
    ((put busy [(Fld.svcGid_valid, 2, 1), (Fld.svcGid_gid, 2, 837)]).accepts Src.ctl0 Reg.cfgGid 0 = true ∧
      ((put busy [(Fld.svcGid_valid, 2, 1), (Fld.svcGid_gid, 2, 837)]).ready Src.ctl0 Reg.cfgGid 0).gidRefused (bits 837 0 18) = true) ∧
    (busy.accepts Src.ctl0 Reg.secDbgCtrl 0 = true) := by
  (repeat' with_reducible apply And.intro) <;> decide +kernel

/-- Hypotheses of `OwnerAnchorIsBoundOnce`, clause by clause, met. -/
theorem wit_OwnerAnchorIsBoundOnce :
    (bg.accepts Src.ctl0 Reg.secOwner 0 = true ∧
      (bg.ready Src.ctl0 Reg.secOwner 0).rd Fld.secOwner_bound 0 = 0 ∧
      (bg.ready Src.ctl0 Reg.secOwner 0).devState = 6) ∧
    (busy.accepts Src.ctl0 Reg.secOwner 0 = true ∧
      ((busy.ready Src.ctl0 Reg.secOwner 0).rd Fld.secOwner_bound 0 = 1 ∨ (busy.ready Src.ctl0 Reg.secOwner 0).devState ≠ 6)) ∧
    ((put bg [(Fld.secOwner_bound, 0, 1)]).accepts Src.ctl0 Reg.secOwner 0 = true ∧
      (((put bg [(Fld.secOwner_bound, 0, 1)]).ready Src.ctl0 Reg.secOwner 0).rd Fld.secOwner_bound 0 = 1 ∨ ((put bg [(Fld.secOwner_bound, 0, 1)]).ready Src.ctl0 Reg.secOwner 0).devState ≠ 6)) ∧
    (ancS.chip.anchor = some [1, 2] ∧
      ancS.rd Fld.secOwner_bound 0 = 1 ∧
      exec Instr.rstdaa ancS = Host.Outcome.next ancT) := by
  (repeat' with_reducible apply And.intro) <;> first | decide +kernel | rfl

/-- Hypotheses of `AttestationAnswers`, clause by clause, met. -/
theorem wit_AttestationAnswers :
    (mx.off = false) ∧
    (ag.off = false ∧
      ag.chip.agreed.contains 0 = true) ∧
    (ag.off = false ∧
      ag.chip.agreed.contains 1 = false ∧
      (Instr.challenge 1 1 1 = Instr.getDigests 1 ∨ (∃ slot nonce, Instr.challenge 1 1 1 = Instr.challenge 1 slot nonce) ∨ ∃ i sign nonce, Instr.challenge 1 1 1 = Instr.getMeasurements 1 i sign nonce)) ∧
    (ag.off = false ∧
      ag.chip.agreed.contains 1 = false ∧
      (Instr.getDigests 1 = Instr.getDigests 1 ∨ (∃ slot nonce, Instr.getDigests 1 = Instr.challenge 1 slot nonce) ∨ ∃ i sign nonce, Instr.getDigests 1 = Instr.getMeasurements 1 i sign nonce)) ∧
    (ag.off = false ∧
      ag.chip.agreed.contains 1 = false ∧
      (Instr.getMeasurements 1 0 true 1 = Instr.getDigests 1 ∨ (∃ slot nonce, Instr.getMeasurements 1 0 true 1 = Instr.challenge 1 slot nonce) ∨ ∃ i sign nonce, Instr.getMeasurements 1 0 true 1 = Instr.getMeasurements 1 i sign nonce)) := by
  (repeat' with_reducible apply And.intro) <;> first | exact .inr (.inl ⟨_, _, rfl⟩) | exact .inr (.inr ⟨_, _, _, rfl⟩) | exact .inl rfl | decide +kernel

/-- Hypotheses of `LeaseIsHeldByOneFunction`, clause by clause, met. -/
theorem wit_LeaseIsHeldByOneFunction :
    (busy.accepts (fnSrc 1) Reg.cfgLeaseCtrl 1 = true ∧
      (busy.ready (fnSrc 1) Reg.cfgLeaseCtrl 1).owner? = none) ∧
    (own.accepts (fnSrc 1) Reg.cfgLeaseCtrl 1 = true ∧
      (own.ready (fnSrc 1) Reg.cfgLeaseCtrl 1).owner? = some 0 ∧
      0 ≠ 1) ∧
    (own.accepts (fnSrc 0) Reg.cfgLeaseCtrl 0 = true ∧
      (own.ready (fnSrc 0) Reg.cfgLeaseCtrl 0).owner? = some 0) ∧
    (busy.accepts (fnSrc 1) Reg.cfgLeaseCtrl 1 = true ∧
      (busy.ready (fnSrc 1) Reg.cfgLeaseCtrl 1).owner? ≠ some 1) ∧
    ((late own).off = false ∧
      (late own).mgmt.termAt + 1000000 * (late own).rd Fld.cfgLeaseStatus_remainMs 0 ≤ (late own).tb.mono) ∧
    ((put own [(Fld.cfgLeaseStatus_remainMs, 0, 3)]).tb.mono < (put own [(Fld.cfgLeaseStatus_remainMs, 0, 3)]).mgmt.termAt + 1000000 * (put own [(Fld.cfgLeaseStatus_remainMs, 0, 3)]).rd Fld.cfgLeaseStatus_remainMs 0) ∧
    (own.off = false) ∧
    (kget (put (late (hold true)) [(Fld.pcieFnCfg_holdUs, 0, 4)]).mgmt.hold (Nat.pair 0 3) = some (true, 500) ∧
      500 + 1000 * (put (late (hold true)) [(Fld.pcieFnCfg_holdUs, 0, 4)]).rd Fld.pcieFnCfg_holdUs 0 ≤ (put (late (hold true)) [(Fld.pcieFnCfg_holdUs, 0, 4)]).tb.mono ∧
      (put (late (hold true)) [(Fld.pcieFnCfg_holdUs, 0, 4)]).fnStopped 0 = false ∧
      (put (late (hold true)) [(Fld.pcieFnCfg_holdUs, 0, 4)]).msixWord 0 (4 * 3 + 3) % 2 = 0) ∧
    (kget (put (late (hold false)) [(Fld.pcieFnCfg_holdUs, 0, 4)]).mgmt.hold (Nat.pair 0 3) = some (false, 500) ∧
      500 + 1000 * (put (late (hold false)) [(Fld.pcieFnCfg_holdUs, 0, 4)]).rd Fld.pcieFnCfg_holdUs 0 ≤ (put (late (hold false)) [(Fld.pcieFnCfg_holdUs, 0, 4)]).tb.mono) := by
  (repeat' with_reducible apply And.intro) <;> decide +kernel

/-- Hypotheses of `RingsStartAndAreServed`, clause by clause, met. -/
theorem wit_RingsStartAndAreServed :
    (own.accepts (fnSrc 0) Reg.pcieRingCfg (ringIdx 0 2) = true ∧
      (own.ready (fnSrc 0) Reg.pcieRingCfg (ringIdx 0 2)).rd Fld.pcieRingCfg_en (ringIdx 0 2) = 0 ∧
      Reg.pcieRingCfg.get Fld.pcieRingCfg_en 2147483653 = 1) ∧
    (own.accepts (fnSrc 0) Reg.pcieRingCfg (ringIdx 0 1) = true ∧
      (own.ready (fnSrc 0) Reg.pcieRingCfg (ringIdx 0 1)).rd Fld.pcieRingCfg_en (ringIdx 0 1) = 0 ∧
      Reg.pcieRingCfg.get Fld.pcieRingCfg_en 2147483653 = 1) ∧
    (own.accepts (fnSrc 0) Reg.pcieRingHostIdx (ringIdx 0 1) = true) ∧
    (cr.cmdFetch 0 = true ∧
      cr.ringBusy 0 = false) ∧
    (cr.cmdFetch 0 = true) ∧
    (crb.cmdFetch 0 = true) ∧
    (crb.cmdFetch 0 = true ∧
      (7 < 257 ∨ 259 < 7)) ∧
    (crb.cmdFetch 0 = true ∧
      inMsix 4980740 = false ∧
      srcPlace? (ringSrc 0) 4980740 = some { reg := Reg.timeRate, idx := 0, upper := false } ∧
      Reg.timeRate.is64 = false ∧
      (crb.cmdTaken 0).accepts (ringSrc 0) Reg.timeRate 0 = true ∧
      actsNow Reg.timeRate (77 % 2 ^ 32) (2 ^ 32 - 1) = false ∧
      Reg.timeRate ∉ [Reg.schShape, Reg.schIpol, Reg.corePuntCfg, Reg.engHostCfg, Reg.promCfg, Reg.tblData, Reg.optPlanNext, Reg.cvtAmax, Reg.secOwnerHash, Reg.pcieRingBase, Reg.voqSpillCfg]) := by
  (repeat' with_reducible apply And.intro) <;> decide +kernel

/-- Hypotheses of `Bar2Accesses`, clause by clause, met. -/
theorem wit_Bar2Accesses :
    (own.off = false ∧
      [1, 0, 3] ≠ [] ∧
      own.owner? = some 0 ∧
      own.mapped (own.bar2Addr 0 262144) [1, 0, 3].length = true ∧
      own.bar2Dead (own.bar2Addr 0 262144) [1, 0, 3].length = false ∧
      own.sleeping (own.bar2Addr 0 262144) [1, 0, 3].length = [] ∧
      (own.pwr.bar2.any fun b => b.fn == 0) = false) ∧
    (own.off = false ∧
      [1, 0, 3] ≠ [] ∧
      own.owner? ≠ some 1) ∧
    (own.off = false ∧
      (5 : BitVec (13 : ℕ)) ≠ (0 : BitVec (13 : ℕ)) ∧
      own.mapped (own.bar2Addr 1 262144) 5 = true ∧
      own.bar2Dead (own.bar2Addr 1 262144) 5 = false ∧
      own.sleeping (own.bar2Addr 1 262144) 5 = [] ∧
      (own.pwr.bar2.any fun b => b.fn == 1) = false) ∧
    (own.off = false ∧
      [1, 0, 3] ≠ [] ∧
      own.owner? = some 0 ∧
      own.mapped (own.bar2Addr 0 17179869183) [1, 0, 3].length = false) ∧
    (own.off = false ∧
      (5 : BitVec (13 : ℕ)) ≠ (0 : BitVec (13 : ℕ)) ∧
      own.mapped (own.bar2Addr 1 17179869183) 5 = false) ∧
    (own.off = false ∧
      (5 : BitVec (13 : ℕ)) ≠ (0 : BitVec (13 : ℕ)) ∧
      own.mapped (own.bar2Addr 1 262144) 5 = true ∧
      own.bar2Dead (own.bar2Addr 1 262144) 5 = false) := by
  (repeat' with_reducible apply And.intro) <;> decide +kernel

end Upkeep

namespace Link

def prt (st w mode : Nat) (at_ : TrainAt) : State :=
  let s := put live [(.cfgState_state, 0, 4), (.corePortCfg_en, 8, 1), (.corePortCfg_width, 8, w), (.corePortCfg_mode, 8, mode), (.corePortStatus_state, 8, st), (.corePortStatus_widthNow, 8, w), (.corePortCfg_trainRetries, 8, 3), (.fenCfg2_linkThr, 0, 100), (.fenPort_score, 8, 255)]
  { s with ports := { s.ports with port := [(8, { PortSt.init with at_ := at_, tries := 1, powered := at_ != .powerup, waits := [] })] } }
def nosref : State := let s := prt 1 2 0 .idle; { s with ports := { s.ports with sref := [0] } }
def hel : Packet := { pkt0 with payload := beBytes 1 1 ++ beBytes 1 1 ++ beBytes 2 77 ++ beBytes 1 4 ++ beBytes 1 0 ++ beBytes 2 0 ++ beBytes 4 0 ++ beBytes 1 0 ++ beBytes 3 0 ++ beBytes 8 0 ++ beBytes 4 (2^31) ++ beBytes 2 8 ++ beBytes 2 0 }
def helS : State := let s := prt 2 2 0 .idle; { s with sw := { s.sw with localQ := [⟨hel, some 8, 1, 0, .own, 0, 0⟩] } }
def d1 : Deliv := (tk (helS.takeLocal 0 (fun r => r.pkt.kind == 0x30 && isLinkLocal r.pkt.dgid)) helS).1
def u1 : State := (tk (helS.takeLocal 0 (fun r => r.pkt.kind == 0x30 && isLinkLocal r.pkt.dgid)) helS).2
def lt : LaneTest := ⟨[], some 9, true, none⟩
def ltS : State := let s := prt 0 2 0 .idle; { s with ports := { s.ports with test := some lt } }
def modS : State := let s := put (prt 3 2 0 .idle) [(.optModStatus_present, 1, 1), (.oclStatus_sync, 1, 1), (.optModAcc_start, 0, 0)]; { s with ports := { s.ports with waitReady := [1], slots := [1] } }
def dr : State := let s := prt 4 2 0 .idle; s.setPst 8 (fun x => { x with draining := true, waits := [.test] })
def ocS (a b : Nat) : State := let s := put (prt 4 2 0 .idle) [(.oclStatus_sync, 1, 1)]; { s with opt := { s.opt with ocl := [(1, (a, b))] } }
/-- Forty samples of a square wave, strongest in the bin given. -/
def sq (bin : Nat) : List Nat := (List.range 40).map (fun i => if bin * i % 256 < 128 then 4 else 0)
def rgS (b bin : Nat) : State := let s := put (ocS 3 3) [(.optRingStatus_lock, 16, 1), (.corePortCfg_bypass, 8, 1), (.optCfg_idMargin, 0, 0)]; s.onRing 16 (fun r => { r with mon := 100, cal := 100, table := List.replicate 32 700, bad := b, win := sq bin })
def peer : State := put (prt 1 0 0 .peer) [(.corePortCfg_bypass, 8, 1), (.optRingStatus_lock, 16, 1), (.optRingStatus_lock, 17, 1)]
def calS : State := put (prt 3 0 0 .idle) [(.corePortCfg_bypass, 8, 1), (.optRingStatus_lock, 16, 1), (.optRingStatus_lock, 17, 1), (.oclStatus_sync, 1, 1), (.optCfg_calEn, 0, 1), (.optModStatus_s8, 1, 1)]
def calT (w : CalWait) : State := let s := put calS [(.corePortStatus_state, 8, 5)]; { (s.setPst 8 (fun x => { x with waits := [w] })) with opt := { s.opt with cal := some 8, capN := [(1, 4)] } }
def plS : State := put calS [(.optPlanTime_act, 0, 5000), (.optPlanNext_pending, 8, 1), (.optPlanNext_nextTx, 8, 3), (.optPlanNext_nextRx, 8, 4)]
def plS2 : State := put plS ((List.range 8).map (fun j => (.optChanCfg_txLine, 8+j, j)) ++ (List.range 8).map (fun j => (.optChanCfg_rxLine, 8+j, j+9)))
def plS3 := put plS2 [(.optPlanNext_nextTx, 8, 30), (.optPlanNext_nextRx, 8, 31)]
def plS4 : State := { plS3 with opt := { plS3.opt with plan := some 900 } }

def late (s : State) : State := { s with tb := ⟨7, 0, true, 90000000000000, 0, none⟩ }
def bye (s : State) : State := put (s.setPst 8 (fun x => { x with nextFast := true })) [(.corePortCfg_bypass, 8, 1)]
def up0 : OclUp := ⟨true, 0, List.replicate 16 0x2A5, 0x123, 3, 7⟩
def upG : OclUp := { up0 with ucrc := BitVec.ofNat 8 (ucrcOf up0) }
def upB : OclUp := { upG with ucrc := upG.ucrc + 1 }
def swp (b : Nat) : State := (put (rgS 0 32) [(.optRingStatus_sweep, 16, 1)]).onRing 16 (fun r => { r with sweeps := b })
def calW (a b : Nat) : State := ((put (calT .cal) [(.optCfg_idMargin, 0, 0)]).onRing 16 (fun r => { r with win := sq a, table := List.replicate 32 700 })).onRing 17 (fun r => { r with win := sq b })
def cds : List (BitVec 12) := (List.range 32).map (fun k => BitVec.ofNat 12 (100 * k))

/-- Hypotheses of `PortConfigIsAppliedOrRefusedInFull`, clause by clause, met. -/
theorem wit_PortConfigIsAppliedOrRefusedInFull :
    ((prt 3 2 0 TrainAt.idle).accepts Src.ctl0 Reg.corePortCfg 8 = true ∧
      ((prt 3 2 0 TrainAt.idle).ready Src.ctl0 Reg.corePortCfg 8).portRefused 8 (bitAt 2214592512 31) (bits 2214592512 26 2) (bits 2214592512 24 2) (bitAt 2214592512 22) = true) ∧
    (live.accepts Src.ctl0 Reg.corePortCfg 9 = true ∧
      (live.ready Src.ctl0 Reg.corePortCfg 9).portRefused 9 (bitAt 2147516416 31) (bits 2147516416 26 2) (bits 2147516416 24 2) (bitAt 2147516416 22) = false) ∧
    ((prt 3 2 0 TrainAt.idle).accepts Src.ctl0 Reg.corePortCfg 8 = true ∧
      ((prt 3 2 0 TrainAt.idle).ready Src.ctl0 Reg.corePortCfg 8).portRefused 8 (bitAt 134217728 31) (bits 134217728 26 2) (bits 134217728 24 2) (bitAt 134217728 22) = false) := by
  (repeat' with_reducible apply And.intro) <;> decide +kernel

/-- Hypotheses of `TrainingAndLossOfLink`, clause by clause, met. -/
theorem wit_TrainingAndLossOfLink :
    ((prt 1 2 0 TrainAt.powerup).rd Fld.corePortCfg_en 8 = 1 ∧
      ((prt 1 2 0 TrainAt.powerup).pst 8).powered = false ∧
      (prt 1 2 0 TrainAt.powerup).lanesAllowed = true ∧
      (prt 1 2 0 TrainAt.powerup).portState 8 = 1 ∧
      ((prt 1 2 0 TrainAt.powerup).pst 8).at_ = TrainAt.powerup ∧
      (prt 1 2 0 TrainAt.powerup).ringsReady 8 = true ∧
      ((prt 1 2 0 TrainAt.powerup).isBypass 8 && ((prt 1 2 0 TrainAt.powerup).pst 8).nextFast) = false) ∧
    ((prt 1 2 0 TrainAt.backoff).portState 8 = 1 ∧
      ((prt 1 2 0 TrainAt.backoff).pst 8).at_ = TrainAt.backoff ∧
      ((prt 1 2 0 TrainAt.backoff).isBypass 8 && ((prt 1 2 0 TrainAt.backoff).pst 8).nextFast) = false ∧
      (prt 1 2 0 TrainAt.backoff).ringsReady 8 = true) ∧
    ((bye (prt 1 2 0 TrainAt.backoff)).portState 8 = 1 ∧
      ((bye (prt 1 2 0 TrainAt.backoff)).pst 8).at_ = TrainAt.backoff ∧
      ((bye (prt 1 2 0 TrainAt.backoff)).isBypass 8 && ((bye (prt 1 2 0 TrainAt.backoff)).pst 8).nextFast) = true) ∧
    ((prt 1 2 0 TrainAt.attempt).portState 8 = 1 ∧
      ((prt 1 2 0 TrainAt.attempt).pst 8).at_ = TrainAt.attempt ∧
      (((prt 1 2 0 TrainAt.attempt).pst 8).fast = false ∨ 2 ≤ 3)) ∧
    ((put (prt 1 2 0 TrainAt.attempt) [(Fld.corePortCfg_trainRetries, 8, 1)]).portState 8 = 1 ∧
      ((put (prt 1 2 0 TrainAt.attempt) [(Fld.corePortCfg_trainRetries, 8, 1)]).pst 8).at_ = TrainAt.attempt ∧
      (((put (prt 1 2 0 TrainAt.attempt) [(Fld.corePortCfg_trainRetries, 8, 1)]).pst 8).fast = false ∨ 2 ≤ 0)) ∧
    ((prt 1 2 1 TrainAt.attempt).portState 8 = 1 ∧
      ((prt 1 2 1 TrainAt.attempt).pst 8).at_ = TrainAt.attempt ∧
      (((prt 1 2 1 TrainAt.attempt).pst 8).fast = false ∨ 2 ≤ 3)) ∧
    ((prt 1 2 0 TrainAt.attempt).portState 8 = 1 ∧
      ((prt 1 2 0 TrainAt.attempt).pst 8).at_ = TrainAt.attempt ∧
      (∀ j < 2 ^ (prt 1 2 0 TrainAt.attempt).rd Fld.corePortStatus_widthNow 8, bitAt (if (prt 1 2 0 TrainAt.attempt).isNative 8 = true then 0 else ((prt 1 2 0 TrainAt.attempt).pst 8).far) (((prt 1 2 0 TrainAt.attempt).pst 8).runAt + j) = false)) ∧
    ((prt 1 2 1 TrainAt.attempt).portState 8 = 1 ∧
      ((prt 1 2 1 TrainAt.attempt).pst 8).at_ = TrainAt.attempt ∧
      (∀ j < 2 ^ (prt 1 2 1 TrainAt.attempt).rd Fld.corePortStatus_widthNow 8, bitAt (if (prt 1 2 1 TrainAt.attempt).isNative 8 = true then 255 else ((prt 1 2 1 TrainAt.attempt).pst 8).far) (((prt 1 2 1 TrainAt.attempt).pst 8).runAt + j) = false)) ∧
    ((put (prt 1 2 0 TrainAt.attempt) [(Fld.corePortCfg_drain, 8, 1)]).portState 8 = 1 ∧
      ((put (prt 1 2 0 TrainAt.attempt) [(Fld.corePortCfg_drain, 8, 1)]).pst 8).at_ = TrainAt.attempt ∧
      (∀ j < 2 ^ (put (prt 1 2 0 TrainAt.attempt) [(Fld.corePortCfg_drain, 8, 1)]).rd Fld.corePortStatus_widthNow 8, bitAt (if (put (prt 1 2 0 TrainAt.attempt) [(Fld.corePortCfg_drain, 8, 1)]).isNative 8 = true then 240 else ((put (prt 1 2 0 TrainAt.attempt) [(Fld.corePortCfg_drain, 8, 1)]).pst 8).far) (((put (prt 1 2 0 TrainAt.attempt) [(Fld.corePortCfg_drain, 8, 1)]).pst 8).runAt + j) = false)) ∧
    ((prt 1 2 0 TrainAt.attempt).portState 8 = 1 ∧
      ((prt 1 2 0 TrainAt.attempt).pst 8).at_ = TrainAt.attempt ∧
      3 < 2 ^ (prt 1 2 0 TrainAt.attempt).rd Fld.corePortStatus_widthNow 8 ∧
      (prt 1 2 0 TrainAt.attempt).isNative 8 = true ∧
      bitAt 8 (((prt 1 2 0 TrainAt.attempt).pst 8).runAt + 3) = true) ∧
    (lossFits (LossCause.noSignal 3 0) ((prt 3 2 0 TrainAt.idle).isNative 8) = true ∧
      (prt 3 2 0 TrainAt.idle).linked 8 = true) ∧
    (lossFits LossCause.alignment ((prt 3 2 1 TrainAt.idle).isNative 8) = true ∧
      (prt 3 2 1 TrainAt.idle).linked 8 = true) ∧
    ((prt 4 2 0 TrainAt.idle).isNative 8 = true ∧
      (prt 4 2 0 TrainAt.idle).linked 8 = true) ∧
    ((prt 4 2 0 TrainAt.idle).off = false ∧
      (prt 4 2 0 TrainAt.idle).rd Fld.coreLaneStatus_failed 9 = 0) ∧
    ((prt 4 2 0 TrainAt.idle).off = false ∧
      (prt 4 2 0 TrainAt.idle).ports.sref.contains 0 = false) ∧
    (nosref.off = false ∧
      nosref.ports.sref.contains 0 = true) := by
  (repeat' with_reducible apply And.intro) <;> decide +kernel

/-- Hypotheses of `HelloSentAndRecorded`, clause by clause, met. -/
theorem wit_HelloSentAndRecorded :
    ((prt 3 2 0 TrainAt.idle).linked 8 = true ∧
      (prt 3 2 0 TrainAt.idle).isNative 8 = true ∧
      (prt 3 2 0 TrainAt.idle).off = false) ∧
    ((helS.takeLocal 0 fun r => r.pkt.kind == 48 && isLinkLocal r.pkt.dgid) = some (d1, u1) ∧
      d1.inPort = some 8 ∧
      bitAt (beNat (slice d1.pkt.payload 5 1)) 5 = false ∧
      beNat (slice d1.pkt.payload 0 1) = 1 ∧
      beNat (slice d1.pkt.payload 8 4) = u1.rd Fld.coreHelloCfg_fabricId 0 ∧
      u1.rd Fld.coreNbrExpect_valid 8 = 0 ∧
      bitAt (beNat (slice d1.pkt.payload 24 4)) 31 = true ∧
      beNat (slice d1.pkt.payload 28 2) = 8 ∧
      (∀ (g : ℕ), u1.gid? = some g → beNat (slice d1.pkt.payload 24 4) % 2 ^ 18 = g) ∧
      u1.portState 8 ≠ 1) := by
  (repeat' with_reducible apply And.intro) <;> decide +kernel

/-- Hypotheses of `LaneTests`, clause by clause, met. -/
theorem wit_LaneTests :
    ((prt 2 2 0 TrainAt.idle).accepts Src.ctl0 Reg.coreLaneTest 0 = true ∧
      bitAt 2147483681 31 = true ∧
      bitAt 2147483681 30 = false ∧
      33 = bits 2147483681 0 9 ∧
      ((prt 2 2 0 TrainAt.idle).ready Src.ctl0 Reg.coreLaneTest 0).portOfLane 33 = none) ∧
    (ltS.ports.test = some lt ∧
      lt.lane = some 9 ∧
      lt.port = none ∧
      lt.todo = []) := by
  (repeat' with_reducible apply And.intro) <;> decide +kernel

/-- Hypotheses of `Modules`, clause by clause, met. -/
theorem wit_Modules :
    ((prt 3 2 0 TrainAt.idle).off = false ∧
      (prt 3 2 0 TrainAt.idle).rd Fld.optModStatus_present 1 = 0) ∧
    (modS.off = false ∧
      modS.ports.waitReady.contains 1 = true) ∧
    (modS.off = false ∧
      modS.rd Fld.optModStatus_present 1 = 1) ∧
    (modS.accepts Src.ctl0 Reg.optModAcc 0 = true ∧
      bitAt 9295429652367540224 63 = true ∧
      (modS.ready Src.ctl0 Reg.optModAcc 0).rd Fld.optModStatus_present (Reg.optModAcc.get Fld.optModAcc_slot 9295429652367540224) = 1 ∧
      (modS.ready Src.ctl0 Reg.optModAcc 0).rd Fld.oclStatus_sync (Reg.optModAcc.get Fld.optModAcc_slot 9295429652367540224) = 1 ∧
      (Reg.optModAcc.get Fld.optModAcc_write 9295429652367540224 = 0 ∨ protectedByte (Reg.optModAcc.get Fld.optModAcc_page 9295429652367540224) (Reg.optModAcc.get Fld.optModAcc_byte 9295429652367540224) = false)) ∧
    ((put modS [(Fld.optModAcc_start, 0, 1)]).rd Fld.optModAcc_start 0 = 1) := by
  (repeat' with_reducible apply And.intro) <;> decide +kernel

/-- Hypotheses of `DrainsAndControlLink`, clause by clause, met. -/
theorem wit_DrainsAndControlLink :
    (dr.portState 8 = 4 ∧
      (dr.pst 8).draining = true ∧
      dr.queuesEmpty 8 = true) ∧
    (dr.portState 8 = 4 ∧
      (dr.pst 8).draining = true) ∧
    ((late dr).portState 8 = 4 ∧
      ((late dr).pst 8).drainAt + 10000 * max 1 ((late dr).rd Fld.optCfg_calHold 0) ≤ (late dr).tb.mono) ∧
    ((ocS 7 2).off = false ∧
      oclGood upG = true ∧
      (kget (ocS 7 2).opt.ocl 1).getD (0, 0) = (7, 2)) ∧
    ((ocS 0 3).off = false ∧
      oclGood upB = false ∧
      (kget (ocS 0 3).opt.ocl 1).getD (0, 0) = (0, 3)) := by
  (repeat' with_reducible apply And.intro) <;> decide +kernel

/-- Hypotheses of `RingsAndChannelSettings`, clause by clause, met. -/
theorem wit_RingsAndChannelSettings :
    ((rgS 1 32).off = false ∧
      (rgS 1 32).rd Fld.oclStatus_sync (8 / 8) = 1 ∧
      (rgS 1 32).rd Fld.optRingStatus_sweep (ringKey 8 false) = 0 ∧
      (rgS 1 32).portState 8 ≠ 5) ∧
    ((8 : Fin (512 : ℕ)) = laneOf (1 : Fin (64 : ℕ)) (0 : Fin (8 : ℕ)) ∧
      (rgS 1 32).off = false ∧
      (rgS 1 32).rd Fld.optRingStatus_lock (ringKey 8 false) = 1 ∧
      (rgS 1 32).portState 8 ≠ 5 ∧
      ((rgS 1 32).ringSt (ringKey 8 false)).faint = false ∧
      (rgS 1 32).windowPasses (ringKey 8 false) = true) ∧
    ((8 : Fin (512 : ℕ)) = laneOf (1 : Fin (64 : ℕ)) (0 : Fin (8 : ℕ)) ∧
      (rgS 0 48).off = false ∧
      (rgS 0 48).rd Fld.optRingStatus_lock (ringKey 8 false) = 1 ∧
      (rgS 0 48).portState 8 ≠ 5 ∧
      ((rgS 0 48).ringSt (ringKey 8 false)).faint = false ∧
      (rgS 0 48).windowPasses (ringKey 8 false) = false ∧
      ((rgS 0 48).ringSt (ringKey 8 false)).bad = 0) ∧
    ((8 : Fin (512 : ℕ)) = laneOf (1 : Fin (64 : ℕ)) (0 : Fin (8 : ℕ)) ∧
      (rgS 1 48).off = false ∧
      (rgS 1 48).rd Fld.optRingStatus_lock (ringKey 8 false) = 1 ∧
      (rgS 1 48).portState 8 ≠ 5 ∧
      ((rgS 1 48).ringSt (ringKey 8 false)).faint = false ∧
      (rgS 1 48).windowPasses (ringKey 8 false) = false ∧
      ((rgS 1 48).ringSt (ringKey 8 false)).bad ≠ 0) ∧
    ((swp 0).off = false ∧
      (swp 0).rd Fld.optRingStatus_sweep (ringKey 8 false) = 1 ∧
      (swp 0).opt.cal ≠ some 8 ∧
      (swp 0).ringDark (ringKey 8 false) = false) ∧
    ((swp 2).off = false ∧
      (swp 2).rd Fld.optRingStatus_sweep (ringKey 8 false) = 1 ∧
      (swp 2).opt.cal ≠ some 8 ∧
      ((swp 2).ringSt (ringKey 8 false)).sweeps = 2) ∧
    ((rgS 1 32).accepts Src.ctl0 Reg.optChanCfg 8 = true ∧
      ((rgS 1 32).ready Src.ctl0 Reg.optChanCfg 8).chanRefused 8 (bits (BitVec.ofNat 32 (3 * 2 ^ 23 + 4 * 2 ^ 18 + 100 * 2 ^ 9 + 120)).toNat 23 5) (bits (BitVec.ofNat 32 (3 * 2 ^ 23 + 4 * 2 ^ 18 + 100 * 2 ^ 9 + 120)).toNat 18 5) (bits (BitVec.ofNat 32 (3 * 2 ^ 23 + 4 * 2 ^ 18 + 100 * 2 ^ 9 + 120)).toNat 9 9) (bits (BitVec.ofNat 32 (3 * 2 ^ 23 + 4 * 2 ^ 18 + 100 * 2 ^ 9 + 120)).toNat 0 9) = true) ∧
    ((rgS 1 32).accepts Src.ctl0 Reg.optChanCfg 9 = true ∧
      ((rgS 1 32).ready Src.ctl0 Reg.optChanCfg 9).chanRefused 9 (bits (BitVec.ofNat 32 (13 * 2 ^ 23 + 14 * 2 ^ 18 + 200 * 2 ^ 9 + 301)).toNat 23 5) (bits (BitVec.ofNat 32 (13 * 2 ^ 23 + 14 * 2 ^ 18 + 200 * 2 ^ 9 + 301)).toNat 18 5) (bits (BitVec.ofNat 32 (13 * 2 ^ 23 + 14 * 2 ^ 18 + 200 * 2 ^ 9 + 301)).toNat 9 9) (bits (BitVec.ofNat 32 (13 * 2 ^ 23 + 14 * 2 ^ 18 + 200 * 2 ^ 9 + 301)).toNat 0 9) = false) ∧
    ((late peer).portState 8 = 1 ∧
      ((late peer).pst 8).at_ = TrainAt.peer ∧
      (late peer).ringsReady 8 = true ∧
      ((late peer).pst 8).peerAt + 1000000 * max 1 ((late peer).rd Fld.optCfg_peerWait 0) ≤ (late peer).tb.mono) ∧
    (peer.portState 8 = 1 ∧
      (peer.pst 8).at_ = TrainAt.peer ∧
      peer.ringsReady 8 = true) ∧
    (peer.portState 8 = 1 ∧
      peer.isBypass 8 = true ∧
      (peer.pst 8).at_ ≠ TrainAt.attempt ∧
      (peer.pst 8).at_ ≠ TrainAt.powerup) ∧
    ((peer.setPst 8 fun x => { at_ := TrainAt.attempt, fast := x.fast, nextFast := x.nextFast, tries := x.tries, powered := x.powered, ended := x.ended, runAt := x.runAt, round := x.round, good := x.good, seen := x.seen, waits := x.waits, draining := x.draining, holdDone := x.holdDone, planDue := x.planDue, lrx := x.lrx, far := x.far, txEq := x.txEq, heard := x.heard, drainAt := x.drainAt, peerAt := x.peerAt }).portState 8 = 1 ∧
      (peer.setPst 8 fun x => { at_ := TrainAt.attempt, fast := x.fast, nextFast := x.nextFast, tries := x.tries, powered := x.powered, ended := x.ended, runAt := x.runAt, round := x.round, good := x.good, seen := x.seen, waits := x.waits, draining := x.draining, holdDone := x.holdDone, planDue := x.planDue, lrx := x.lrx, far := x.far, txEq := x.txEq, heard := x.heard, drainAt := x.drainAt, peerAt := x.peerAt }).isBypass 8 = true ∧
      (((peer.setPst 8 fun x => { at_ := TrainAt.attempt, fast := x.fast, nextFast := x.nextFast, tries := x.tries, powered := x.powered, ended := x.ended, runAt := x.runAt, round := x.round, good := x.good, seen := x.seen, waits := x.waits, draining := x.draining, holdDone := x.holdDone, planDue := x.planDue, lrx := x.lrx, far := x.far, txEq := x.txEq, heard := x.heard, drainAt := x.drainAt, peerAt := x.peerAt }).pst 8).at_ = TrainAt.attempt ∨ ((peer.setPst 8 fun x => { at_ := TrainAt.attempt, fast := x.fast, nextFast := x.nextFast, tries := x.tries, powered := x.powered, ended := x.ended, runAt := x.runAt, round := x.round, good := x.good, seen := x.seen, waits := x.waits, draining := x.draining, holdDone := x.holdDone, planDue := x.planDue, lrx := x.lrx, far := x.far, txEq := x.txEq, heard := x.heard, drainAt := x.drainAt, peerAt := x.peerAt }).pst 8).at_ = TrainAt.powerup)) ∧
    ((peer.setPst 8 fun x => { at_ := TrainAt.powerup, fast := x.fast, nextFast := x.nextFast, tries := x.tries, powered := x.powered, ended := x.ended, runAt := x.runAt, round := x.round, good := x.good, seen := x.seen, waits := x.waits, draining := x.draining, holdDone := x.holdDone, planDue := x.planDue, lrx := x.lrx, far := x.far, txEq := x.txEq, heard := x.heard, drainAt := x.drainAt, peerAt := x.peerAt }).portState 8 = 1 ∧
      (peer.setPst 8 fun x => { at_ := TrainAt.powerup, fast := x.fast, nextFast := x.nextFast, tries := x.tries, powered := x.powered, ended := x.ended, runAt := x.runAt, round := x.round, good := x.good, seen := x.seen, waits := x.waits, draining := x.draining, holdDone := x.holdDone, planDue := x.planDue, lrx := x.lrx, far := x.far, txEq := x.txEq, heard := x.heard, drainAt := x.drainAt, peerAt := x.peerAt }).isBypass 8 = true ∧
      (((peer.setPst 8 fun x => { at_ := TrainAt.powerup, fast := x.fast, nextFast := x.nextFast, tries := x.tries, powered := x.powered, ended := x.ended, runAt := x.runAt, round := x.round, good := x.good, seen := x.seen, waits := x.waits, draining := x.draining, holdDone := x.holdDone, planDue := x.planDue, lrx := x.lrx, far := x.far, txEq := x.txEq, heard := x.heard, drainAt := x.drainAt, peerAt := x.peerAt }).pst 8).at_ = TrainAt.attempt ∨ ((peer.setPst 8 fun x => { at_ := TrainAt.powerup, fast := x.fast, nextFast := x.nextFast, tries := x.tries, powered := x.powered, ended := x.ended, runAt := x.runAt, round := x.round, good := x.good, seen := x.seen, waits := x.waits, draining := x.draining, holdDone := x.holdDone, planDue := x.planDue, lrx := x.lrx, far := x.far, txEq := x.txEq, heard := x.heard, drainAt := x.drainAt, peerAt := x.peerAt }).pst 8).at_ = TrainAt.powerup)) := by
  (repeat' with_reducible apply And.intro) <;> decide +kernel

/-- Hypotheses of `CalibrationAndPlan`, clause by clause, met. -/
theorem wit_CalibrationAndPlan :
    (calS.off = false ∧
      calS.rd Fld.optCfg_calEn 0 = 1 ∧
      calS.rd Fld.optCalStatus_active 0 = 0 ∧
      calS.ports.test = none ∧
      (∀ (t0 : ℕ), calS.opt.last = some t0 → t0 + calS.calSpacing ≤ calS.tb.mono) ∧
      calS.calNext = some 8) ∧
    ((calW 32 32).off = false ∧
      (calW 32 32).opt.cal = some 8 ∧
      (calW 32 32).portState 8 = 5 ∧
      txTable ((calW 32 32).rd Fld.optChanCfg_txLine 8) cds (some 3) (some 19) = some ((txTable 0 cds (some 3) (some 19)).getD []) ∧
      rxTable ((calW 32 32).rd Fld.optChanCfg_rxLine 8) ((txTable 0 cds (some 3) (some 19)).getD []) [(0, 77)] = some ((rxTable 0 ((txTable 0 cds (some 3) (some 19)).getD []) [(0, 77)]).getD []) ∧
      (calW 32 32).windowPasses (2 * 8) = true ∧
      (calW 32 32).windowPasses (2 * 8 + 1) = true) ∧
    ((calW 32 48).off = false ∧
      (calW 32 48).opt.cal = some 8 ∧
      (calW 32 48).portState 8 = 5 ∧
      ((calW 32 48).windowPasses (2 * 8) = false ∨ (calW 32 48).windowPasses (2 * 8 + 1) = false)) ∧
    ((calT CalWait.plan).inCalFor 8 CalWait.plan = true) ∧
    ((calT CalWait.laser).inCalFor 8 CalWait.laser = true) ∧
    ((calT CalWait.laser).accepts Src.ctl0 Reg.optSlotCtrl 1 = true) ∧
    ((1 : Fin (64 : ℕ)) = slotOf (0 : Fin (8 : ℕ)) (1 : Fin (8 : ℕ)) ∧
      (calT CalWait.laser).off = false ∧
      ((calT CalWait.laser).rd Fld.optModStatus_s8 1 = 1 ∨ (calT CalWait.laser).rd Fld.optModStatus_trefy 1 = 1) ∧
      0 < sget 0 (calT CalWait.laser).opt.capN 1) ∧
    (plS3.accepts Src.ctl0 Reg.optPlanCtrl 0 = true ∧
      0 < span32 (plS3.ready Src.ctl0 Reg.optPlanCtrl 0).now ((plS3.ready Src.ctl0 Reg.optPlanCtrl 0).rd Fld.optPlanTime_act 0) ∧
      span32 (plS3.ready Src.ctl0 Reg.optPlanCtrl 0).now ((plS3.ready Src.ctl0 Reg.optPlanCtrl 0).rd Fld.optPlanTime_act 0) < 2 ^ 31 ∧
      (plS3.ready Src.ctl0 Reg.optPlanCtrl 0).planConflict = none) ∧
    ((put plS3 [(Fld.optPlanNext_nextTx, 8, 1)]).accepts Src.ctl0 Reg.optPlanCtrl 0 = true ∧
      0 < span32 ((put plS3 [(Fld.optPlanNext_nextTx, 8, 1)]).ready Src.ctl0 Reg.optPlanCtrl 0).now (((put plS3 [(Fld.optPlanNext_nextTx, 8, 1)]).ready Src.ctl0 Reg.optPlanCtrl 0).rd Fld.optPlanTime_act 0) ∧
      span32 ((put plS3 [(Fld.optPlanNext_nextTx, 8, 1)]).ready Src.ctl0 Reg.optPlanCtrl 0).now (((put plS3 [(Fld.optPlanNext_nextTx, 8, 1)]).ready Src.ctl0 Reg.optPlanCtrl 0).rd Fld.optPlanTime_act 0) < 2 ^ 31 ∧
      ((put plS3 [(Fld.optPlanNext_nextTx, 8, 1)]).ready Src.ctl0 Reg.optPlanCtrl 0).planConflict = some 8) ∧
    ((put plS3 [(Fld.optPlanTime_act, 0, 500)]).accepts Src.ctl0 Reg.optPlanCtrl 0 = true ∧
      (span32 ((put plS3 [(Fld.optPlanTime_act, 0, 500)]).ready Src.ctl0 Reg.optPlanCtrl 0).now (((put plS3 [(Fld.optPlanTime_act, 0, 500)]).ready Src.ctl0 Reg.optPlanCtrl 0).rd Fld.optPlanTime_act 0) = 0 ∨ 2 ^ 31 ≤ span32 ((put plS3 [(Fld.optPlanTime_act, 0, 500)]).ready Src.ctl0 Reg.optPlanCtrl 0).now (((put plS3 [(Fld.optPlanTime_act, 0, 500)]).ready Src.ctl0 Reg.optPlanCtrl 0).rd Fld.optPlanTime_act 0))) ∧
    (plS4.opt.plan = some 900 ∧
      plS4.opt.led = false ∧
      plS4.reached ((900 + 2 ^ 32 - plS4.drainLead) % 2 ^ 32) = true) ∧
    (plS4.opt.plan = some 900 ∧
      plS4.reached 900 = true) := by
  (repeat' with_reducible apply And.intro) <;> decide +kernel

end Link

namespace Switch

def port8 (st w : Nat) : State := put live [(.cfgState_state, 0, 4), (.corePortCfg_en, 8, 1), (.corePortCfg_width, 8, w), (.corePortStatus_state, 8, st), (.corePortStatus_widthNow, 8, w), (.coreAdmCfg_reserve, 5, 100), (.coreAdmCfg_reserve, 0, 100), (.coreAdmCfg_reserve, 4, 100), (.cfgGid_valid, 0, 1), (.cfgGid_gid, 0, 0x500)]
def pk5 : Packet := { pkt0 with ver := 2, kind := 0x01, tc := 5, dgid := 0x111, sgid := 0x222, hops := 9, len := 300 }
def pk5s : Packet := (pk5.withPayload (List.replicate 300 7)).sealed
def dtS : State := (put (port8 3 2) [(.corePortCfg_en, 16, 1), (.corePortStatus_state, 16, 3)])
def dtS2 : State := { dtS with tab := { dtS.tab with dt := [(0x111, 2^63 + 2^59 + 7)], lg := [(14, 2^511 + 2^501 + 16)] } }
def lk (d : State) := ((d.learnEvent 8 pk5s).bumpTraffic 0 8 pk5s.tc.toNat (36 + pk5s.len.toNat)).lookup 0 1 (some 8) pk5s
def t6 : Packet := ({ pk5 with tc := 6 }.withPayload [1]).sealed
def pkR : Pkt := { body := .porxel pk5s, inPort := some 8, blk := 1, dst := 2, cls := 5, itime := 1000, mono := 1000, steps := 0, dest := .port 16, inRate := 0, pport := 8, nseg := 2, arrived := 1, whole := false, err := false, begun := false, gone := [], nums := [], segT := [1000], ord := [4], rsv := 0, sent := 0, hseg := 0 }
def rxS (p : Pkt) : State := let s := port8 3 2; { s with sw := { s.sw with rx := [(16, 5)], pkts := [(5, p)], voq := [(voqKey 1 5 2, [5])], nextPid := 6 } }
def i1 : Pkt := {pkR with nseg := 3}
def i2 : Pkt := {pkR with nseg := 3}
def rl : State := let s := rxS pkR; { s with sw := { s.sw with rx := [] } }
def sg : Seg := ⟨5, 0, 1, 2, 5, false, 0, 0⟩
def t1S : State := { rl with sw := { rl.sw with slot := 20, t1 := [⟨3, 9, .rec_ 7⟩, ⟨4, 10, .uni sg⟩], t2 := [(9, sg), (10, sg)], skipT := [⟨4, 2, 1, 5, 4096, 1, 3⟩] } }
def t1S2 : State := t1S.setFlow (flowKey 2 1 5 false) ⟨4000, [], [], 0, none⟩
def t1S3 : State := t1S.setFlow (flowKey 2 1 5 false) ⟨5, [], [], 0, none⟩
def t1S4 : State := let s := { t1S with tb := ⟨1000, 0, true, 5000000, 0, none⟩ }; s.setFlow (flowKey 2 1 5 false) ⟨4000, [sg], [], 0, some 0⟩
def spS : State := let p := {pkR with cls := 1, nseg := 100, arrived := 100, hseg := 80, whole := true, ord := List.range 100}; let s := rl; { put s [(.corePoolStatus_spillUsed, 0, 80)] with sw := { s.sw with pkts := [(5,p)], voq := [(voqKey 1 1 2, [5])] } }
def i3 : Pkt := {pkR with cls := 1, nseg := 100, arrived := 100, hseg := 80, whole := true, ord := List.range 100}
def agS : State := { rl with sw := { rl.sw with voq := [(voqKey 1 5 2, [5, 9])], pkts := [(5, {pkR with itime := 5000})]  } }
def i4 : Pkt := {pkR with itime := 5000}
def lkv : State := (lk dtS2).1
def ethS : State := put dtS2 [(.corePortCfg_mode, 8, 1), (.corePortCfg_mode, 16, 1), (.coreEthPcpMap_untaggedTc, 0, 4), (.lpmRouterMac_mac, 0, 0x010203040506)]
def fr : List Byte := beBytes 6 0x010203040506 ++ beBytes 6 0x99 ++ beBytes 2 0x0800 ++ beBytes 1 0x45 ++ beBytes 1 0 ++ beBytes 2 46 ++ beBytes 4 0 ++ beBytes 1 64 ++ beBytes 1 17 ++ beBytes 2 0 ++ beBytes 4 0x0A000001 ++ beBytes 4 0x0A000002 ++ List.replicate 40 (5 : Byte)
def lpmE : Nat := 2^255 + 8 * 2^246 + 1 * 2^243 + 7 * 2^231 + 0x77 * 2^160 + 0x0A000000
def ethS2 : State := { ethS with tab := { ethS.tab with tcam := [(0, lpmE), (65536, lpmE)] } }
def fBody : FrameFate → List Byte
  | .v _ b => b
  | _ => []
def flk : State × FrameFate := (ethS2.bumpTraffic 0 8 4 (fr.length+4)).frameLookup 0 1 4 (some 8) fr
def flb : List Byte := fBody flk.2
def flv : State := flk.1
def encS : State := { ethS2 with sw := { ethS2.sw with localQ := [⟨pkt0, none, 66, 2, .own, 5, 1⟩, ⟨{pkt0 with kind := 0x3E}.withPayload fr, some 8, 66, 0, .own, 5, 1⟩], puntQ := [⟨1, 2, 8, 0, 7, [1,2,3]⟩, ⟨1, 2, 8, 0, 7, []⟩] } }
def ecd : Deliv × State := (encS.takeLocal 1 (fun r => r.pkt.kind == 0x3E && r.fn == .own)).getD (dl0, encS)
def ecc : Nat := ecd.2.frameClass ecd.1.pkt.payload
def eck : State × FrameFate := ecd.2.frameLookup (regionOfBlock (64 + ecd.2.answerRegion ecd.1)) (64 + ecd.2.answerRegion ecd.1) ecc none ecd.1.pkt.payload
def ecb : List Byte := fBody eck.2
def ecv : State := eck.1
def mgS : State := let s := put encS [(.cfgLeaseStatus_owner, 0, 2), (.pcieRingCfg_en, 4, 1), (.pcieRingCfg_en, 5, 1), (.pcieRingPartIdx_idx, 4, 3), (.pcieRingPartIdx_idx, 5, 9)]; { s with sw := { s.sw with localQ := [⟨{pkt0 with kind := 0x3F}.withPayload [1,2], some 8, 66, 0, .own, 5, 1⟩] }, mgmt := { s.mgmt with rings := [(4, ⟨4096, 12, 5, 0⟩), (5, ⟨8192, 12, 5, 0⟩)] } }
def d5 : Deliv := (tk (mgS.takeLocal 0 (fun r => r.pkt.kind == 0x3F && r.fn == .own)) mgS).1
def u5 : State := (tk (mgS.takeLocal 0 (fun r => r.pkt.kind == 0x3F && r.fn == .own)) mgS).2
def d6 : Deliv := (tk (mgS.takeLocal 0 (fun r => r.pkt.kind == 0x3F && r.fn == .own)) mgS).1
def u6 : State := (tk (mgS.takeLocal 0 (fun r => r.pkt.kind == 0x3F && r.fn == .own)) mgS).2
def ep (a : Nat) : EPkt := ⟨a, 2, 1000, 512⟩
def egS : State := let s := put (port8 3 2) [(.schDrrCfg_q2, 8, 4)]; { s with sw := { s.sw with pkts := [(5, {pkR with whole := true, arrived := 2}), (6, {pkR with whole := true, arrived := 2}), (7, {pkR with whole := true, arrived := 2})], egq := [(66, [ep 7, ep 5]), (70, [ep 5]), (71, [ep 6])], act := [(8, [2])], eh := [(Nat.pair 5 1, (1, 2)), (Nat.pair 6 1, (1,2)), (Nat.pair 7 1, (2,2))] } }
def egS6 : State := { egS with sw := { egS.sw with egq := [(66, [ep 7, ep 5]), (70, [ep 5])] } }
def egS2 : State := { egS with sw := { egS.sw with egq := [(66, [ep 7, ep 5])] } }
def txo : Tx := ⟨ep 7, 2, .porxel pk5s, false, false, 0⟩
def exS : State := { egS with sw := { egS.sw with tx := [(16, txo)] } }
def txu : Tx := ⟨⟨7,1,1000,0⟩, 2, .porxel pk5s, false, false, 0⟩
def exU : State := { egS with sw := { egS.sw with tx := [(16, txu)] } }
def tS : State := put live [(.tblData_data, 0, 77), (.tblData_data, 3, 5), (.dtLearnCfg_create, 0, 1), (.dtPortLearn_group, 9, 0x321), (.lpmScrubCfg_en, 0, 1)]
def j0 : TblJob := ⟨0, 1, none, ⟨0,0,5,false,0⟩, some ⟨0, some 9, some 12345678901234567890⟩, none, 0⟩
def i7 : State := { tS with tab := { tS.tab with jobs := [j0] } }
def lq (e : Nat) : State := { tS with tab := { tS.tab with learnQ := [(0x55, 9), (1,2)], dt := [(3, 2^63), (0x55, e)].filter (·.2 != 0) } }
def i8 : State := { lq (2^63+2^59+7*2^53+0x11) with tab := { (lq (2^63+2^59+7*2^53+0x11)).tab with window := 900 } }
def i9 : State := { tS with tab := { tS.tab with shadow := [(9, 5)] } }

def st5 : Option (BitVec 64) := some (startWord false 336)
def pk7 : Packet := ({ pk5 with tc := 7, len := 2013 }).sealed
def pk7s : Packet := ({ pk5 with tc := 7, len := 2012 }.withPayload (List.replicate 2012 7)).sealed
def lk7 (d : State) := ((d.learnEvent 8 pk7s).bumpTraffic 0 8 pk7s.tc.toNat (36 + pk7s.len.toNat)).lookup 0 1 (some 8) pk7s
def dtS7 : State := put dtS2 [(.coreAdmCfg_reserve, 7, 100)]
def lkv7 : State := (lk7 dtS7).1
def sb : State := put (port8 3 2) []
def iqS (f : List (Nat × Nat × Nat)) : State := { sb with sw := { sb.sw with slot := 1, iq := [(iqKey 1 2 5, [sg])], fresh := f } }
def helP : Pkt := { pkR with body := .porxel ({ pkt0 with ver := 2, len := 0 }).sealed, cls := 6, whole := true, nseg := 1, inPort := none }
def helW : State := let s := port8 2 2; { s with sw := { s.sw with pkts := [(9, helP)], egq := [(70, [⟨9, 1, 1000, 0⟩])], eh := [(Nat.pair 9 1, (1, 1))] } }
theorem egq_helW (c : Nat) : helW.egq 8 c = if c = 6 then [⟨9, 1, 1000, 0⟩] else [] := by
  by_cases h : c = 6
  · subst h; rfl
  · have h2 : 70 ≠ 8 * 8 + c := by omega
    simp [State.egq, helW, kget, h, h2]
def pe1 : PuntEntry := ⟨1, 2, 8, 0, 7, [1, 2, 3]⟩
def pe2 : PuntEntry := ⟨1, 2, 8, 0, 7, []⟩

/-- Hypotheses of `ReceptionFollowsTheChecks`, clause by clause, met. -/
theorem wit_ReceptionFollowsTheChecks :
    ((port8 3 2).off = false ∧
      (port8 3 2).regionDead (8 / 64) = false ∧
      (port8 3 2).flag Fld.corePortCfg_en 8 = true ∧
      (port8 3 2).isEth 8 = false ∧
      (port8 (3 : ℕ) (2 : ℕ)).rd Fld.corePortStatus_state (8 : ℕ) ∈ [(2 : ℕ), (3 : ℕ), (4 : ℕ)] ∧
      headerFault pk5 st5 = some PortEv.hcrcErr) ∧
    ((port8 3 2).off = false ∧
      (port8 3 2).regionDead (8 / 64) = false ∧
      (port8 3 2).flag Fld.corePortCfg_en 8 = true ∧
      (port8 3 2).isEth 8 = false ∧
      (port8 (3 : ℕ) (2 : ℕ)).rd Fld.corePortStatus_state (8 : ℕ) ∈ [(2 : ℕ), (3 : ℕ), (4 : ℕ)] ∧
      headerFault pk5s none = some PortEv.rxFrameErr) ∧
    ((port8 2 2).off = false ∧
      (port8 2 2).regionDead (8 / 64) = false ∧
      (port8 2 2).flag Fld.corePortCfg_en 8 = true ∧
      (port8 2 2).isEth 8 = false ∧
      (port8 (2 : ℕ) (2 : ℕ)).rd Fld.corePortStatus_state (8 : ℕ) ∈ [(2 : ℕ), (3 : ℕ), (4 : ℕ)] ∧
      headerFault pk5s (some (startWord true 336)) = some PortEv.rxFrameErr) ∧
    (dtS2.off = false ∧
      dtS2.regionDead (8 / 64) = false ∧
      dtS2.flag Fld.corePortCfg_en 8 = true ∧
      dtS2.isEth 8 = false ∧
      dtS2.rd Fld.corePortStatus_state (8 : ℕ) ∈ [(3 : ℕ), (4 : ℕ)] ∧
      headerFault pk5s st5 = none ∧
      (pk5s.tc = 7 → 36 + pk5s.len.toNat ≤ 2048) ∧
      (pk5s.tc = 6 → tc6Kind pk5s.kind = true) ∧
      isLinkLocal pk5s.dgid = false ∧
      dtS2.inSitOut pk5s.sgid.toNat = false ∧
      dtS2.inSitOut pk5s.dgid.toNat = false ∧
      pk5s.hops ≠ 0 ∧
      ((dtS2.learnEvent 8 pk5s).bumpTraffic 0 8 pk5s.tc.toNat (36 + pk5s.len.toNat)).lookup (8 / 64) (8 / 8) (some 8) pk5s = (lkv, Verdict.go (Dest.port 16)) ∧
      lkv.policerPasses 8 pk5s.tc.toNat = true ∧
      lkv.fits (8 / 64) pk5s.tc.toNat ((36 + pk5s.len.toNat + 255) / 256)) ∧
    (dtS7.off = false ∧
      dtS7.regionDead (8 / 64) = false ∧
      dtS7.flag Fld.corePortCfg_en 8 = true ∧
      dtS7.isEth 8 = false ∧
      dtS7.rd Fld.corePortStatus_state (8 : ℕ) ∈ [(3 : ℕ), (4 : ℕ)] ∧
      headerFault pk7s (some (startWord true 2048)) = none ∧
      (pk7s.tc = 7 → 36 + pk7s.len.toNat ≤ 2048) ∧
      (pk7s.tc = 6 → tc6Kind pk7s.kind = true) ∧
      isLinkLocal pk7s.dgid = false ∧
      dtS7.inSitOut pk7s.sgid.toNat = false ∧
      dtS7.inSitOut pk7s.dgid.toNat = false ∧
      pk7s.hops ≠ 0 ∧
      ((dtS7.learnEvent 8 pk7s).bumpTraffic 0 8 pk7s.tc.toNat (36 + pk7s.len.toNat)).lookup (8 / 64) (8 / 8) (some 8) pk7s = (lkv7, Verdict.go (Dest.port 16)) ∧
      lkv7.policerPasses 8 pk7s.tc.toNat = true ∧
      lkv7.fits (8 / 64) pk7s.tc.toNat ((36 + pk7s.len.toNat + 255) / 256)) ∧
    ((port8 3 2).off = false ∧
      (port8 3 2).regionDead (8 / 64) = false ∧
      (port8 3 2).flag Fld.corePortCfg_en 8 = true ∧
      (port8 3 2).isEth 8 = false ∧
      (port8 (3 : ℕ) (2 : ℕ)).rd Fld.corePortStatus_state (8 : ℕ) ∈ [(3 : ℕ), (4 : ℕ)] ∧
      headerFault t6 (some (startWord false 37)) = none ∧
      t6.tc = 6 ∧
      tc6Kind t6.kind = false) ∧
    ((port8 3 2).off = false ∧
      (port8 3 2).regionDead (8 / 64) = false ∧
      (port8 3 2).flag Fld.corePortCfg_en 8 = true ∧
      (port8 3 2).isEth 8 = false ∧
      (port8 (3 : ℕ) (2 : ℕ)).rd Fld.corePortStatus_state (8 : ℕ) ∈ [(3 : ℕ), (4 : ℕ)] ∧
      headerFault pk7 (some (startWord true 2049)) = none ∧
      pk7.tc = 7 ∧
      2048 < 36 + pk7.len.toNat) ∧
    (kget (rxS i2).sw.rx (2 * 8 + b2n false) = some 5 ∧
      (rxS i2).pkt? 5 = some i1 ∧
      i1.body = Body.porxel pk5s ∧
      i1.arrived + 1 < i1.nseg) ∧
    (kget (rxS pkR).sw.rx (2 * 8 + b2n false) = some 5 ∧
      (rxS pkR).pkt? 5 = some pkR ∧
      pkR.body = Body.porxel pk5s ∧
      pkR.dest = Dest.port 16 ∧
      pkR.dropped = false ∧
      pkR.arrived ≤ pkR.nseg ∧
      sget 0 (rxS pkR).sw.gather (Nat.pair 5 pkR.dst) = 0) ∧
    ((rxS pkR).off = false ∧
      (rxS pkR).flag Fld.corePortCfg_en 8 = true ∧
      kget (rxS pkR).sw.rx (2 * 8 + b2n false) = some 5 ∧
      (rxS pkR).pkt? 5 = some pkR ∧
      pkR.body = Body.porxel pk5s ∧
      pkR.dest = Dest.port 16 ∧
      pkR.dropped = false ∧
      tailFault pk5s 200 true = some PortEv.lenErr) ∧
    ((rxS pkR).off = false ∧
      (rxS pkR).flag Fld.corePortCfg_en 8 = true ∧
      kget (rxS pkR).sw.rx (2 * 8 + b2n false) = some 5 ∧
      (rxS pkR).pkt? 5 = some pkR ∧
      pkR.body = Body.porxel pk5s ∧
      pkR.dest = Dest.port 16 ∧
      pkR.dropped = false ∧
      tailFault pk5s 300 false = some PortEv.rxFrameErr) := by
  (repeat' with_reducible apply And.intro) <;> first | decide +kernel | exact ⟨by decide +kernel, by decide +kernel⟩ | rfl

/-- Hypotheses of `FramesAndHostPackets`, clause by clause, met. -/
theorem wit_FramesAndHostPackets :
    (ethS2.off = false ∧
      ethS2.regionDead (8 / 64) = false ∧
      ethS2.flag Fld.corePortCfg_en 8 = true ∧
      ethS2.isEth 8 = true ∧
      ethS2.rd Fld.corePortStatus_state (8 : ℕ) ∈ [(3 : ℕ), (4 : ℕ)] ∧
      ((if 9216 < fr.length + 4 then some PortEv.frameOversize else if fr.length + 4 < 64 ∨ false = false then some PortEv.rxFrameErr else if isPause fr = true then some PortEv.pauseRx else none) = some PortEv.rxFrameErr)) ∧
    (ethS2.off = false ∧
      ethS2.regionDead (8 / 64) = false ∧
      ethS2.flag Fld.corePortCfg_en 8 = true ∧
      ethS2.isEth 8 = true ∧
      ethS2.rd Fld.corePortStatus_state (8 : ℕ) ∈ [(3 : ℕ), (4 : ℕ)] ∧
      ((if 9216 < (List.replicate 9300 0).length + 4 then some PortEv.frameOversize else if (List.replicate 9300 0).length + 4 < 64 ∨ true = false then some PortEv.rxFrameErr else if isPause (List.replicate 9300 0) = true then some PortEv.pauseRx else none) = some PortEv.frameOversize)) ∧
    (ethS2.off = false ∧
      ethS2.regionDead (8 / 64) = false ∧
      ethS2.flag Fld.corePortCfg_en 8 = true ∧
      ethS2.isEth 8 = true ∧
      ethS2.rd Fld.corePortStatus_state (8 : ℕ) ∈ [(3 : ℕ), (4 : ℕ)] ∧
      ((if 9216 < (beBytes 12 0 ++ beBytes 2 34824 ++ beBytes 2 1 ++ List.replicate 48 0).length + 4 then some PortEv.frameOversize else if (beBytes 12 0 ++ beBytes 2 34824 ++ beBytes 2 1 ++ List.replicate 48 0).length + 4 < 64 ∨ true = false then some PortEv.rxFrameErr else if isPause (beBytes 12 0 ++ beBytes 2 34824 ++ beBytes 2 1 ++ List.replicate 48 0) = true then some PortEv.pauseRx else none) = some PortEv.pauseRx)) ∧
    (ethS2.off = false ∧
      ethS2.regionDead (8 / 64) = false ∧
      ethS2.flag Fld.corePortCfg_en 8 = true ∧
      ethS2.isEth 8 = true ∧
      ethS2.rd Fld.corePortStatus_state (8 : ℕ) ∈ [(3 : ℕ), (4 : ℕ)] ∧
      64 ≤ fr.length + 4 ∧
      fr.length + 4 ≤ 9216 ∧
      isPause fr = false ∧
      4 = ethS2.frameClass fr ∧
      (4 = 7 → fr.length + 4 ≤ 2048) ∧
      (ethS2.bumpTraffic 0 8 4 (fr.length + 4)).frameLookup (8 / 64) (8 / 8) 4 (some 8) fr = (flv, FrameFate.v (Verdict.go (Dest.port 16)) flb) ∧
      ethS2.policerPasses 8 4 = true ∧
      flv.fits (8 / 64) 4 36) ∧
    ((encS.takeLocal 1 fun r => r.pkt.kind == 62 && r.fn == LocFn.own) = some (ecd.1, ecd.2) ∧
      60 ≤ ecd.1.pkt.payload.length ∧
      ecd.1.pkt.payload.length ≤ 4096 ∧
      isPause ecd.1.pkt.payload = false ∧
      ecc = ecd.2.frameClass ecd.1.pkt.payload ∧
      (ecc = 7 → ecd.1.pkt.payload.length + 4 ≤ 2048) ∧
      ecd.2.frameLookup (regionOfBlock (64 + ecd.2.answerRegion ecd.1)) (64 + ecd.2.answerRegion ecd.1) ecc none ecd.1.pkt.payload = (ecv, FrameFate.v (Verdict.go (Dest.port 16)) ecb) ∧
      ecv.fits (regionOfBlock (64 + ecd.2.answerRegion ecd.1)) ecc (segsOf (Body.frame ecb))) ∧
    ((mgS.takeLocal 0 fun r => r.pkt.kind == 63 && r.fn == LocFn.own) = some (d5, u5) ∧
      u5.owner? = some 1 ∧
      u5.ringTakes 1 1 d5.pkt.bytes = true ∧
      u5.padCells 1 1 (entryCells d5.pkt.bytes) = 0) ∧
    (((put mgS [(Fld.cfgLeaseStatus_owner, 0, 0)]).takeLocal 0 fun r => r.pkt.kind == 63 && r.fn == LocFn.own) = some (d6, put u6 [(Fld.cfgLeaseStatus_owner, 0, 0)]) ∧
      (put u6 [(Fld.cfgLeaseStatus_owner, 0, 0)]).owner? = none) ∧
    (mgS.sw.puntQ = [pe1, pe2] ∧
      mgS.owner? = some 1 ∧
      mgS.ringTakes 1 2 (pe1.record ++ pe1.bytes) = true ∧
      mgS.padCells 1 2 (entryCells (pe1.record ++ pe1.bytes)) = 0) := by
  (repeat' with_reducible apply And.intro) <;> first | decide +kernel | exact ⟨by decide +kernel, by decide +kernel⟩

/-- Hypotheses of `ReelMovesSegments`, clause by clause, met. -/
theorem wit_ReelMovesSegments :
    ((rxS pkR).off = false) ∧
    (rl.off = false ∧
      rl.sw.voq = [(voqKey 1 5 2, [5])] ∧
      1 < 72 ∧
      5 < 8 ∧
      2 < 72 ∧
      rl.sw.streams = [] ∧
      rl.sw.iq = [] ∧
      rl.sw.copies = [] ∧
      rl.sw.wall = [] ∧
      rl.sw.skips = [] ∧
      rl.pkt? 5 = some pkR ∧
      rl.blockDead 1 = false ∧
      rl.blockDead ((1 + rl.sw.slot) % 72) = false ∧
      pkR.ready1 = true ∧
      pkR.ord[pkR.sent]?.isSome = true ∧
      rl.agedPkt pkR = false ∧
      rl.iqRoom ((1 + rl.sw.slot) % 72) 2 5 = true ∧
      rl.outstanding 2 1 5 false < 2048) ∧
    ((iqS []).off = false ∧
      (iqS []).sw.iq = [(iqKey 1 2 5, [sg])] ∧
      1 < 72 ∧
      5 < 8 ∧
      2 = (1 + (iqS []).sw.slot) % 72 ∧
      (iqS []).sw.voq = [] ∧
      (iqS []).sw.streams = [] ∧
      (iqS []).sw.copies = [] ∧
      (iqS []).sw.wall = [] ∧
      (iqS []).sw.skips = [] ∧
      (iqS []).blockDead 1 = false ∧
      (iqS []).blockDead 2 = false ∧
      (5 < 7 → (iqS []).stopped 2 5 = false) ∧
      (iqS []).isFresh 1 sg = false) ∧
    ((iqS [(1, 5, 0)]).off = false ∧
      (iqS [(1, 5, 0)]).sw.iq = [(iqKey 1 2 5, [sg])] ∧
      1 < 72 ∧
      5 < 8 ∧
      2 = (1 + (iqS [(1, 5, 0)]).sw.slot) % 72 ∧
      (iqS [(1, 5, 0)]).sw.voq = [] ∧
      (iqS [(1, 5, 0)]).sw.streams = [] ∧
      (iqS [(1, 5, 0)]).sw.copies = [] ∧
      (iqS [(1, 5, 0)]).sw.wall = [] ∧
      (iqS [(1, 5, 0)]).sw.skips = [] ∧
      (iqS [(1, 5, 0)]).blockDead 1 = false ∧
      (iqS [(1, 5, 0)]).blockDead 2 = false ∧
      (5 < 7 → (iqS [(1, 5, 0)]).stopped 2 5 = false) ∧
      (iqS [(1, 5, 0)]).isFresh 1 sg = true) ∧
    (t1S.sw.t1[1]? = some { k := 4, due := 10, item := Item1.uni sg } ∧
      10 ≤ t1S.sw.slot ∧
      t1S.blockDead 4 = false) ∧
    (t1S.sw.t2[0]? = some (9, sg) ∧
      9 ≤ t1S.sw.slot ∧
      t1S.off = false ∧
      t1S.blockDead sg.dst = false ∧
      t1S.flow (flowKey sg.dst sg.src sg.cls sg.mc) = { exp := 0, held := [], skip := [], ran := 0, since := none } ∧
      0 < 4096 ∧
      sg.seq = 0) ∧
    (t1S2.sw.t2[0]? = some (9, sg) ∧
      9 ≤ t1S2.sw.slot ∧
      t1S2.off = false ∧
      t1S2.blockDead sg.dst = false ∧
      t1S2.flow (flowKey sg.dst sg.src sg.cls sg.mc) = { exp := 4000, held := [], skip := [], ran := 0, since := none } ∧
      4000 < 4096 ∧
      0 < (sg.seq + 4096 - 4000) % 4096 ∧
      (sg.seq + 4096 - 4000) % 4096 < 2048 ∧
      [].contains sg.seq = false) ∧
    (t1S3.sw.t2[0]? = some (9, sg) ∧
      9 ≤ t1S3.sw.slot ∧
      t1S3.off = false ∧
      t1S3.blockDead sg.dst = false ∧
      t1S3.flow (flowKey sg.dst sg.src sg.cls sg.mc) = { exp := 5, held := [], skip := [], ran := 0, since := none } ∧
      5 < 4096 ∧
      2048 ≤ (sg.seq + 4096 - 5) % 4096 ∧
      sg.cls < 8) ∧
    (t1S.sw.skipT[0]? = some { k := 4, d := 2, src := 1, cls := 5, base := 4096, n := 1, due := 3 } ∧
      3 ≤ t1S.sw.slot ∧
      t1S.flow (flowKey 2 1 5 true) = { exp := 0, held := [], skip := [], ran := 0, since := none } ∧
      4096 % 4096 = 0) ∧
    (t1S4.off = false ∧
      t1S4.stopped 2 5 = false ∧
      (t1S4.flow (flowKey 2 1 5 false)).held = [sg] ∧
      (t1S4.flow (flowKey 2 1 5 false)).skip = [] ∧
      sg.seq < 4096 ∧
      t1S4.reseqLimit ≤ t1S4.gapTime (flowKey 2 1 5 false)) ∧
    (spS.stackDead (stackOf (regionOfBlock 1)) = false ∧
      spS.voq 1 1 2 = [5] ∧
      spS.pkt? 5 = some i3 ∧
      i3.sent + i3.hseg ≤ i3.nseg ∧
      i3.nseg ≤ i3.ord.length ∧
      min (min 80 (64 - 20)) (spS.poolFree 0) = min (min i3.hseg (64 - i3.sram)) (spS.poolFree (regionOfBlock 1))) ∧
    (agS.off = false ∧
      agS.sw.voq = [(voqKey i4.blk i4.cls i4.member, [5, 9])] ∧
      agS.sw.wall = [] ∧
      agS.sw.egq = [] ∧
      agS.pkt? 5 = some i4 ∧
      i4.sent = 0 ∧
      agS.agedPkt i4 = true) := by
  (repeat' with_reducible apply And.intro) <;> first | decide +kernel | rfl

/-- Hypotheses of `EgressFollowsTheScheduler`, clause by clause, met. -/
theorem wit_EgressFollowsTheScheduler :
    (egS.off = false ∧
      egS.rd Fld.corePortCfg_en 8 = 1 ∧
      egS.rd Fld.corePortStatus_state (8 : ℕ) ∈ [(3 : ℕ), (4 : ℕ)] ∧
      kget egS.sw.tx (2 * 8) = none ∧
      kget egS.sw.tx (2 * 8 + 1) = none ∧
      egS.headIf 8 7 = some (ep 6) ∧
      egS.mayStart 8 7 (ep 6) = true) ∧
    (egS6.off = false ∧
      egS6.rd Fld.corePortCfg_en 8 = 1 ∧
      egS6.rd Fld.corePortStatus_state (8 : ℕ) ∈ [(3 : ℕ), (4 : ℕ)] ∧
      kget egS6.sw.tx (2 * 8) = none ∧
      kget egS6.sw.tx (2 * 8 + 1) = none ∧
      egS6.headIf 8 7 = none ∧
      egS6.headIf 8 6 = some (ep 5) ∧
      egS6.mayStart 8 6 (ep 5) = true) ∧
    (egS2.off = false ∧
      egS2.rd Fld.corePortCfg_en 8 = 1 ∧
      egS2.rd Fld.corePortStatus_state (8 : ℕ) ∈ [(3 : ℕ), (4 : ℕ)] ∧
      kget egS2.sw.tx (2 * 8) = none ∧
      kget egS2.sw.tx (2 * 8 + 1) = none ∧
      2 ≤ 5 ∧
      egS2.headIf 8 7 = none ∧
      egS2.headIf 8 6 = none ∧
      egS2.round 8 = [2] ∧
      egS2.headIf 8 2 = some (ep 7) ∧
      egS2.mayStart 8 2 (ep 7) = true ∧
      egS2.sw.credited.contains (8 * 8 + 2) = false ∧
      egS2.costOf 8 (ep 7) ≤ sget 0 egS2.sw.deficit (8 * 8 + 2) + egS2.quantum 8 2) ∧
    (helW.off = false ∧
      helW.rd Fld.corePortCfg_en 8 = 1 ∧
      helW.rd Fld.corePortStatus_state 8 = 2 ∧
      kget helW.sw.tx (2 * 8) = none ∧
      kget helW.sw.tx (2 * 8 + 1) = none ∧
      (∀ (c : ℕ), helW.egq 8 c = if c = 6 then [{ pid := 9, rel := 1, ent := 1000, chg := 0 }] else []) ∧
      helW.firstHello 8 = some { pid := 9, rel := 1, ent := 1000, chg := 0 } ∧
      (∀ (p : Pkt), helW.pkt? 9 = some p → p.isMc = false) ∧
      helW.eligibleAt 8 6 { pid := 9, rel := 1, ent := 1000, chg := 0 } = true ∧
      helW.mayStart 8 6 { pid := 9, rel := 1, ent := 1000, chg := 0 } = true) ∧
    (exS.isEth 8 = false ∧
      (kget exS.sw.tx (2 * 8)).isSome = true ∧
      kget exS.sw.tx (2 * 8 + 1) = none ∧
      exS.headIf 8 7 = some (ep 6) ∧
      exS.mayStart 8 7 (ep 6) = true) ∧
    (kget exS.sw.tx (2 * 8 + 1) = none ∧
      kget exS.sw.tx (2 * 8) = some txo ∧
      exS.txWhole txo = true ∧
      exS.off = false ∧
      exS.rd Fld.corePortCfg_en 8 = 1 ∧
      txo.cls < 8 ∧
      txo.stomp = false) ∧
    (kget exS.sw.tx (2 * 8 + 1) = none ∧
      kget exS.sw.tx (2 * 8) = some txo ∧
      txo.left + 1 < txo.ep.rel) ∧
    (kget exU.sw.tx (2 * 8 + 1) = none ∧
      kget exU.sw.tx (2 * 8) = some txu ∧
      exU.txWhole txu = false ∧
      exU.off = false ∧
      exU.rd Fld.corePortCfg_en 8 = 1) := by
  (repeat' with_reducible apply And.intro) <;> first | decide +kernel | rfl | exact egq_helW

/-- Hypotheses of `TablesAreCommandedLearnedAndScrubbed`, clause by clause, met. -/
theorem wit_TablesAreCommandedLearnedAndScrubbed :
    ((put tS [(Fld.cfgLeaseStatus_owner, 0, 1)]).accepts Src.fn0 Reg.tblCmd (tblInst Src.fn0) = true) ∧
    (tS.accepts Src.ctl0 Reg.tblCmd (tblInst Src.ctl0) = true) ∧
    (i7.tab.jobs = [j0] ∧
      j0.done = some { result := 0, rindex := some 9, data := some 12345678901234567890 } ∧
      j0.by_ < 2 ∧
      0 < 16) ∧
    ((lq 0).tab.learnQ = [(85, 9), (1, 2)] ∧
      (lq 0).changedNow 0 85 = none ∧
      bitAt ((lq 0).dt 85) 63 = false ∧
      (lq 0).flag Fld.dtLearnCfg_create 0 = true) ∧
    ((lq (2 ^ 63 + 2 ^ 62)).tab.learnQ = [(85, 9), (1, 2)] ∧
      (lq (2 ^ 63 + 2 ^ 62)).changedNow 0 85 = none ∧
      bitAt ((lq (2 ^ 63 + 2 ^ 62)).dt 85) 63 = true ∧
      bitAt ((lq (2 ^ 63 + 2 ^ 62)).dt 85) 62 = true) ∧
    ((lq (2 ^ 63 + 2 ^ 59 + 7 * 2 ^ 53 + 17)).tab.learnQ = [(85, 9), (1, 2)] ∧
      (lq (2 ^ 63 + 2 ^ 59 + 7 * 2 ^ 53 + 17)).changedNow 0 85 = none ∧
      bitAt ((lq (2 ^ 63 + 2 ^ 59 + 7 * 2 ^ 53 + 17)).dt 85) 63 = true ∧
      bitAt ((lq (2 ^ 63 + 2 ^ 59 + 7 * 2 ^ 53 + 17)).dt 85) 62 = false ∧
      bits ((lq (2 ^ 63 + 2 ^ 59 + 7 * 2 ^ 53 + 17)).dt 85) 59 3 = 1 ∧
      bitAt ((lq (2 ^ 63 + 2 ^ 59 + 7 * 2 ^ 53 + 17)).dt 85) 57 = false ∧
      bits ((lq (2 ^ 63 + 2 ^ 59 + 7 * 2 ^ 53 + 17)).dt 85) 53 4 < 8 ∧
      (((lq (2 ^ 63 + 2 ^ 59 + 7 * 2 ^ 53 + 17)).lgMembers (bits ((lq (2 ^ 63 + 2 ^ 59 + 7 * 2 ^ 53 + 17)).dt 85) 0 12)).any fun m => m.2.2 == 9) = false) ∧
    (swf (fun x => 0) i8.tab.dt = true ∧
      i8.tb.counting = true ∧
      i8.reached i8.tab.window = true) ∧
    (i9.off = false ∧
      i9.flag Fld.lpmScrubCfg_en 0 = true ∧
      i9.regionDead 3 = false ∧
      i9.slotActed 9 = false ∧
      i9.tab.bad.contains (3, 9, 3) = false ∧
      sget 0 i9.tab.tcam (32768 * 3 + 9) ≠ sget 0 i9.tab.shadow 9) := by
  (repeat' with_reducible apply And.intro) <;> decide +kernel

end Switch

namespace Engine

def cv : State := let s := put live [(.cvtAmax_amax, 7, 0x3F800000), (.cvtSstatus_qerr, 7, 0x3F000000), (.engStealCfg_satThr, 0, 100), (.engSat_count, 5, 9), (.cvtScfg_qthr, 7, 0x3E80)]; { s with eng := { s.eng with steps := [7], chk := [(2, [(7, 0x3E80, 0x3F900000), (3, 0, 5)])] } }
def ic : State := let s := put live [(.engHostCfg_hostInst, 0, 96), (.engInstHead_region, 0, 3), (.engInstHead_head, 0, 0x1000), (.engInstHead_mode, 0, 2), (.cfgState_state, 0, 4)]; { s with eng := { s.eng with inst := [(4001, { Inst.init with state := 1, region := 1, next := 64, flags := 5 })] } }
def icb : State := { (put ic [(.cfgLeaseStatus_owner, 0, 1)]) with pwr := { ic.pwr with bar2 := [⟨0, 0, 5, 4, some [1, 2, 3, 4]⟩], nextBar2 := 1 } }
def mkw (w : List Nat) : List Byte := w.flatMap (leBytes 8)
def icd (w : List Nat) : State := ic.memPut 64 (mkw w)
def wWait : List Nat := [0xF0 + 0xF * 256 + 2^20 + 5 * 2^24,0,0,0,0,0,0,128]
def wBad : List Nat := [0xF0 + 0xE * 256,0,0,0,0,0,0,128]
def wMode : List Nat := [0xF1 + 0xF * 256,0,0,0,0,7*2^40,0,128]
def wMat : List Nat := [0x01 + 0x0 * 256, 0x10000, 0x8010000, 0x8020000, 0x04*2^40+0x04*2^46+0*2^52, 0, 130 + 130*2^16+64*2^32, 128]
def isd : State := match exec (.descriptorIssue 4001) (icd wMat) with | .next t => put t ((List.range 64).map (fun c => (.pwrCbGrant_grant, c, 100))) | _ => ic
def bj := (kget isd.eng.jobs 0).getD ⟨0,0,[],0,[],[],[],0,0,none⟩
def e8 : EngId := .mxe 64
def tq0 : Tile := (isd.tq 8).headD ⟨0, 0, 0, 0⟩
def tqr : List Tile := (isd.tq 8).drop 1
def ist : State := put ((isd.setTq 8 []).setTq 9 (isd.tq 8 ++ isd.tq 9 ++ isd.tq 10)) [(.engStealCfg_sibEn, 0, 1)]
def tl9 : List Tile := ist.tq 9
def tx9 : Tile := (tl9.drop (tl9.length - (tl9.length+1)/2)).headD ⟨0, 0, 0, 0⟩
def tr9 : List Tile := (tl9.drop (tl9.length - (tl9.length+1)/2)).drop 1
def t1 (w : List Nat) (left : List (Nat × Nat)) (e : EngId) : State := { icd w with eng := { (icd w).eng with jobs := [(0, ⟨4001, 64, w, 0, left, [], [], 0, 0, none⟩)], nextJob := 1, run := [(e.num, ⟨⟨0, 0, 0, 1⟩, false, none⟩)], inst := [(4001, { Inst.init with state := 1, region := 1, next := 64, jobs := [0] })] } }
def wX : List Nat := [0x60 + 6*256, 0x8000000, 0, 0, 0, 0, 64, 128]
def xr : XReq := ⟨1, 5, 6, 0, pkt0, 0, 64, 0, 1, 7⟩
def sX (n : Nat) : State := let s := put (t1 wX [(0,0)] (.xfe 1)) [(.engXfeCfg_retries, 0, 3)]; { s with eng := { s.eng with xfe := [{xr with resends := n}, {xr with job := 4, psn := 9}] } }
def i1 : XReq := {xr with resends := 1}
def i2 : XReq := {xr with resends := 3}
def runX : Run := ⟨⟨0, 0, 0, 1⟩, false, none⟩
def jobX : Job := ⟨4001, 64, wX, 0, [(0, 0)], [], [], 0, 0, none⟩
def tX : State := t1 wX [(0, 0)] (.xfe 1)
def tXw : State := { tX with eng := { tX.eng with jobs := [(0, { jobX with todo := 1 })], xfe := [{ xr with job := 0 }] } }
def wV : List Nat := [0x10 + 1*256, 0x8000000, 0x8000100, 0x8000200, 0, 0, 1 + 3*2^16, 128]
def sV : State := ((t1 wV [(0, 0)] (.vxe 16)).memPut 0x8000000 (leBytes 4 0x3F800000 ++ leBytes 4 0x40000000)).memPut 0x8000100
  (leBytes 4 0x3F800000 ++ leBytes 4 0x40400000)
def jobV : Job := ⟨4001, 64, wV, 0, [(0, 0)], [], [], 0, 0, none⟩

def late (s : State) : State := { s with tb := ⟨7, 0, true, 90000000000000, 0, none⟩ }
def stepping : State := { cv with eng := { cv.eng with run := [(576, ⟨⟨0, 0, 0, 1⟩, false, some ⟨7, 0, .fromBlock, 0, 0, 0⟩⟩)] } }

/-- Hypotheses of `ConversionStreamsAndUtilisation`, clause by clause, met. -/
theorem wit_ConversionStreamsAndUtilisation :
    ((put cv [(Fld.cvtSctrl_step, 7, 0)]).accepts Src.ctl0 Reg.cvtSctrl 7 = true) ∧
    ((7 : ℕ) ∈ cv.eng.steps ∧
      cv.converting 7 = false) ∧
    ((7 : ℕ) ∈ stepping.eng.steps ∧
      stepping.converting 7 = true) ∧
    (cv.off = false ∧
      kget cv.eng.chk 2 = some [(7, 16000, 1066401792), (3, 0, 5)]) := by
  (repeat' with_reducible apply And.intro) <;> decide +kernel

/-- Hypotheses of `InstancesRunTheirDescriptors`, clause by clause, met. -/
theorem wit_InstancesRunTheirDescriptors :
    (ic.accepts Src.ctl0 Reg.engInstCmd 0 = true ∧
      Option.any (fun f => (ic.ready Src.ctl0 Reg.engInstCmd 0).bar2Waits f (ic.ready Src.ctl0 Reg.engInstCmd 0).pwr.nextBar2) (srcFn Src.ctl0) = false ∧
      7 < (ic.ready Src.ctl0 Reg.engInstCmd 0).hostFirst) ∧
    (ic.accepts Src.ctl0 Reg.engInstCmd 0 = true ∧
      Option.any (fun f => (ic.ready Src.ctl0 Reg.engInstCmd 0).bar2Waits f (ic.ready Src.ctl0 Reg.engInstCmd 0).pwr.nextBar2) (srcFn Src.ctl0) = false ∧
      (ic.ready Src.ctl0 Reg.engInstCmd 0).hostFirst ≤ 4001 ∧
      (ic.ready Src.ctl0 Reg.engInstCmd 0).running 4001 = true) ∧
    (ic.accepts Src.ctl0 Reg.engInstCmd 0 = true ∧
      Option.any (fun f => (ic.ready Src.ctl0 Reg.engInstCmd 0).bar2Waits f (ic.ready Src.ctl0 Reg.engInstCmd 0).pwr.nextBar2) (srcFn Src.ctl0) = false ∧
      (ic.ready Src.ctl0 Reg.engInstCmd 0).hostFirst ≤ 4002 ∧
      (ic.ready Src.ctl0 Reg.engInstCmd 0).running 4002 = false) ∧
    (ic.accepts Src.ctl0 Reg.engInstCmd 0 = true ∧
      Option.any (fun f => (ic.ready Src.ctl0 Reg.engInstCmd 0).bar2Waits f (ic.ready Src.ctl0 Reg.engInstCmd 0).pwr.nextBar2) (srcFn Src.ctl0) = false ∧
      (ic.ready Src.ctl0 Reg.engInstCmd 0).hostFirst ≤ 4000 ∧
      (ic.ready Src.ctl0 Reg.engInstCmd 0).running 4000 = false) ∧
    (icb.accepts Src.fn0 Reg.engInstCmd 0 = true ∧
      Option.any (fun f => (icb.ready Src.fn0 Reg.engInstCmd 0).bar2Waits f (icb.ready Src.fn0 Reg.engInstCmd 0).pwr.nextBar2) (srcFn Src.fn0) = true) ∧
    (ic.accepts Src.ctl0 Reg.engInstCmd 0 = true ∧
      (ic.ready Src.ctl0 Reg.engInstCmd 0).running 4001 = true) ∧
    (ic.accepts Src.ctl0 Reg.engInstCmd 0 = true ∧
      (ic.ready Src.ctl0 Reg.engInstCmd 0).running 4002 = false) ∧
    (ic.accepts Src.ctl0 Reg.engInstCmd 0 = true) ∧
    ((icd wWait).off = false ∧
      (icd wWait).mayIssue 4001 = true ∧
      (icd wWait).instGrp 4001 = none ∧
      (icd wWait).rd Fld.pwrRegionStatus_state ((icd wWait).inst 4001).region = 0 ∧
      (icd wWait).fetchFault 4001 = 0 ∧
      ((rangeRegions ((icd wWait).inst 4001).next 64).any fun k => (icd wWait).rd Fld.pwrRegionStatus_state k != 0) = false ∧
      wWait = descWords (icd wWait).eng.mem ((icd wWait).inst 4001).next ∧
      waitMet ((icd wWait).inst 4001) wWait = false) ∧
    ((icd wBad).off = false ∧
      (icd wBad).mayIssue 4001 = true ∧
      (icd wBad).instGrp 4001 = none ∧
      (icd wBad).rd Fld.pwrRegionStatus_state ((icd wBad).inst 4001).region = 0 ∧
      (icd wBad).fetchFault 4001 = 0 ∧
      ((rangeRegions ((icd wBad).inst 4001).next 64).any fun k => (icd wBad).rd Fld.pwrRegionStatus_state k != 0) = false ∧
      wBad = descWords (icd wBad).eng.mem ((icd wBad).inst 4001).next ∧
      waitMet ((icd wBad).inst 4001) wBad = true ∧
      (icd wBad).descFault 4001 wBad ≠ 0) ∧
    ((icd wMode).off = false ∧
      (icd wMode).mayIssue 4001 = true ∧
      (icd wMode).instGrp 4001 = none ∧
      (icd wMode).rd Fld.pwrRegionStatus_state ((icd wMode).inst 4001).region = 0 ∧
      (icd wMode).fetchFault 4001 = 0 ∧
      ((rangeRegions ((icd wMode).inst 4001).next 64).any fun k => (icd wMode).rd Fld.pwrRegionStatus_state k != 0) = false ∧
      wMode = descWords (icd wMode).eng.mem ((icd wMode).inst 4001).next ∧
      waitMet ((icd wMode).inst 4001) wMode = true ∧
      (icd wMode).descFault 4001 wMode = 0 ∧
      dOp wMode = 241 ∧
      dEnd wMode = false ∧
      dSigEn wMode = false) ∧
    ((icd wMat).off = false ∧
      (icd wMat).mayIssue 4001 = true ∧
      (icd wMat).instGrp 4001 = none ∧
      (icd wMat).rd Fld.pwrRegionStatus_state ((icd wMat).inst 4001).region = 0 ∧
      (icd wMat).fetchFault 4001 = 0 ∧
      ((rangeRegions ((icd wMat).inst 4001).next 64).any fun k => (icd wMat).rd Fld.pwrRegionStatus_state k != 0) = false ∧
      wMat = descWords (icd wMat).eng.mem ((icd wMat).inst 4001).next ∧
      waitMet ((icd wMat).inst 4001) wMat = true ∧
      (icd wMat).descFault 4001 wMat = 0 ∧
      dKind wMat ≠ 15 ∧
      shapeZero wMat = false) ∧
    (isd.engineFree e8 = true ∧
      (∀ (c : ℕ), e8.block? = some c → isd.blockReady c = true) ∧
      isd.tq e8.queue = tq0 :: tqr ∧
      isd.mayBegin e8 tq0 = true ∧
      kget isd.eng.jobs tq0.job = some bj) ∧
    (ist.engineFree (EngId.mxe 64) = true ∧
      ist.tq (64 / 8) = [] ∧
      bitAt (ist.rd Fld.pwrRegionStatus_c2 (64 / 8 / 8)) (64 / 8 % 8) = false ∧
      ist.rd Fld.pwrCbGrant_grant (64 / 8) ≠ 0 ∧
      ist.flag Fld.engStealCfg_sibEn 0 = true ∧
      ist.victim 0 (64 / 8 / 8) (64 / 8) = some 9 ∧
      tl9 = ist.tq 9 ∧
      List.drop (tl9.length - (tl9.length + 1) / 2) tl9 = tx9 :: tr9 ∧
      kget ist.eng.jobs tx9.job = some bj) ∧
    (kget tX.eng.run (EngId.xfe 1).num = some runX ∧
      kget tX.eng.jobs runX.tile.job = some jobX ∧
      tX.tileEnds (EngId.xfe 1) runX jobX = true) ∧
    (kget sV.eng.run (EngId.vxe 16).num = some runX ∧
      kget sV.eng.jobs runX.tile.job = some jobV ∧
      sV.tileEnds (EngId.vxe 16) runX jobV = true) ∧
    (kget tXw.eng.run (EngId.xfe 1).num = some runX ∧
      kget tXw.eng.jobs runX.tile.job = some (let __src := jobX; { inst := __src.inst, addr := __src.addr, words := __src.words, mode := __src.mode, left := __src.left, wait := __src.wait, accs := __src.accs, todo := 1, sent := __src.sent, router := __src.router }) ∧
      tXw.tileEnds (EngId.xfe 1) runX (let __src := jobX; { inst := __src.inst, addr := __src.addr, words := __src.words, mode := __src.mode, left := __src.left, wait := __src.wait, accs := __src.accs, todo := 1, sent := __src.sent, router := __src.router }) = false) ∧
    (List.find? (fun x => x.k == 1 && x.psn == 5) (sX 1).eng.xfe = some i1 ∧
      kget (sX 1).eng.jobs i1.job = some jobX ∧
      (sX 1).tb.mono < i1.sentAt + (sX 1).xfeRetryNs) ∧
    (List.find? (fun x => x.k == 1 && x.psn == 5) (late (sX 1)).eng.xfe = some i1 ∧
      kget (late (sX 1)).eng.jobs i1.job = some jobX ∧
      i1.sentAt + (late (sX 1)).xfeRetryNs ≤ (late (sX 1)).tb.mono ∧
      i1.resends < (late (sX 1)).rd Fld.engXfeCfg_retries 0) ∧
    (List.find? (fun x => x.k == 1 && x.psn == 5) (late (sX 3)).eng.xfe = some i2 ∧
      kget (late (sX 3)).eng.jobs i2.job = some jobX ∧
      i2.sentAt + (late (sX 3)).xfeRetryNs ≤ (late (sX 3)).tb.mono ∧
      (late (sX 3)).rd Fld.engXfeCfg_retries 0 ≤ i2.resends ∧
      (late (sX 3)).running jobX.inst = true) := by
  (repeat' with_reducible apply And.intro) <;> decide +kernel

/-- Hypotheses inside `InstancesRunTheirDescriptors`, met: the last part of an exchange ends, and one row of a VXE tile. -/
theorem wit_TilesEnd :
    (dOp jobX.words ∈ [0x60, 0x61, 0x62, 0x63, 0x70] ∧ jobX.left = [(runX.tile.num, runX.tile.part)]) ∧
    (dOp jobV.words ∈ [0x10, 0x11, 0x12, 0x13] ∧ tileRows jobV.words runX.tile = [0]) := by
  (repeat' with_reducible apply And.intro) <;> decide +kernel

end Engine

namespace Fabric

def gidS : State := put live [(.cfgState_state, 0, 4), (.cfgGid_valid, 0, 1), (.cfgGid_gid, 0, 0x500), (.coreAdmCfg_reserve, 5, 100), (.coreAdmCfg_reserve, 4, 100), (.coreAdmCfg_reserve, 6, 100), (.svcGid_valid, 2, 1), (.svcGid_gid, 2, 0x600)]
def ent (kind : Nat) : Nat := 2^511 + kind*2^506 + 4*2^483 + 16*2^467 + 1*2^449 + 4096*2^364 + 4*2^332 + 8*2^320 + 0x10000*2^280 + 0x40000 * 2^240
def rq (op : Nat) (pl : List Byte) : Packet := { pkt0 with ver := 2, kind := 0x18, tc := 5, dgid := 0x600, sgid := 0x222, msgid := 9, key := 7, w2 := BitVec.ofNat 64 (3 * 2^58 + op * 2^38) }.withPayload pl
def dl (p : Packet) (f : LocFn) (blk : Nat) : Deliv := ⟨p, some 8, blk, 0, f, 900, 0⟩
def svS (kind op : Nat) (rdy bld : Nat) : State := let s := put gidS [(.svcStatus_ready, 3, rdy), (.svcStatus_building, 3, bld)]; { s with tab := { s.tab with svc := [(3, ent kind)] }, sw := { s.sw with localQ := [dl (rq op [1,2,3,4]) (.svcGid 2) 64] } }
def rq0 : SvcReq := { sv := 3, slot := 0, first := dl (rq 0 [1]) (.svcGid 2) 64, hdr0 := none, npkt := 1, seen := [], lastLen := 0, t0 := 5, ses := 0, whole := false, answered := false }
def gr0 : SvcGrp := { num := 4, sv := 3, slot0 := 0, entry := ent 0, reqs := [rq0], closed := false, alone := false, ready := some 990, waits := false, inst := none }
def gS (g : SvcGrp) : State := { gidS with svc := { gidS.svc with grps := [g], refused := [(3, 0x222, 9, 5), (3, 0x222, 10, 5)] }, tb := ⟨900000, 0, true, 900000, 0, none⟩ }
def gr1 : SvcGrp := { gr0 with closed := true, reqs := [{rq0 with whole := true}] }
def gSr : State := (put (gS gr1) [(.engHostCfg_hostInst, 0, 4095)]).setInst 0 (fun c => {c with state := 1})
def entL : Nat := ent 0 + 3 * 2^344
def gr2 : SvcGrp := { gr1 with entry := entL, inst := some 5 }
def gSl : State := (gS gr2).setInst 5 (fun c => {c with state := 1, grp := some 4, t0 := 0})
def ldS : State := put gidS [(.svcLoadDst_addr, 0, 0x1000), (.svcLoadSrc_addr, 0, 0x8000000000)]
def ldS2 : State := { (put ldS [(.svcLoadCmd_start, 0, 1)]).memPut 0x8000000000 [1,2,3,4,5] with svc := { ldS.svc with load := some ⟨0x1000, 0x8000000000, none, 64, 0⟩ } }
def stS (op x : Nat) : State := let s := put (svS 1 op 1 0) [(.corePortCfg_en, 16, 1), (.corePortStatus_state, 16, 3), (.svcCfg_steerLearn, 0, 1), (.svcCfg_steerCreate, 0, 1)]; { s with tab := { s.tab with ses := if x = 0 then [] else [(7, x)], dt := [(0x111, 2^63 + 2^59 + 7)], lg := [(14, 2^511 + 2^501 + 16)] } }
def stS0 : State := stS 0 (2^63 + 0x111 * 2^39)
def std : Deliv × State := (stS0.takeLocal 0 (stS0.steerReq 0)).getD (dl pkt0 .own 0, stS0)
def stq : Packet := ({ std.1.pkt with dgid := BitVec.ofNat 20 (bits (std.2.sesAt std.1.pkt.key.toNat) 39 18), hops := std.1.pkt.hops - 1 } : Packet).sealed
def stw : State := ((std.2.admTake 3 (ent 1)).lookup (seRegion (ent 1)) (64 + seRegion (ent 1)) none stq).1
def ce (part nm grace : Nat) : Nat := 2^511 + part*2^507 + 8 * 2^481 + 3*2^467 + 1*2^451 + nm * 2^440 + grace*2^424 + 2^31+2^30+nm
def rp (m : Nat) : Packet := { pkt0 with ver := 2, kind := 0x10, tc := 5, dgid := 0x500, sgid := 0x222, w2 := BitVec.ofNat 64 (4*2^50 + 6 * 2^26 + m*2^16) }.withPayload (beBytes 4 0x3F800000 ++ beBytes 4 0x40000000)
def rS (m : Nat) (c : Option Chunk) (e : Nat) : State := { gidS with tab := { gidS.tab with cgt := [(4, e)] }, sw := { gidS.sw with localQ := [dl (rp m) .own 9] }, red := { gidS.red with chunks := match c with | some c => [(chunkKey 9 4 6, c)] | none => [] }, tb := ⟨900000, 0, true, 900000, 0, none⟩ }
def ck (st : ChunkSt) (e : Nat) (ms : List Nat) : Chunk := ⟨st, e, ms, [0x3F800000, 0x3F800000], [1], 0, 5, 7⟩
def rT (s : State) : Deliv × State := (s.takeLocal 0 (fun r => r.fn == .own && r.pkt.kind == 0x10)).getD (dl pkt0 .own 0, s)
def i1 : State := rS 1 none (ce 0 3 5)
def cp (kind w1k w2 : Nat) (pl : List Byte) : Packet := { pkt0 with ver := 2, kind := BitVec.ofNat 6 kind, tc := 5, dgid := 0x500, sgid := 0x222, psn := 77, w1k := BitVec.ofNat 11 w1k, w2 := BitVec.ofNat 64 w2 }.withPayload pl
def cS (p : Packet) (m : Cmn → Cmn := id) : State := { gidS with sw := { gidS.sw with localQ := [dl p .own 64] }, cmn := m gidS.cmn }
def cw : State := cS (cp 1 1024 0x200048 [1,2,3]) (fun c => { c with nextOp := 5, batch := [(0x8001, (3, [⟨.packet 2, 0x200040, .read 4⟩]))] })
def d2 : Deliv := (tk (cw.takeLocal 0 (isCommons 0x01)) cw).1
def u2 : State := (tk (cw.takeLocal 0 (isCommons 0x01)) cw).2
def cr : State := cS (cp 2 2 0x200048 []) (fun c => { c with nextOp := 5 })
def d3 : Deliv := (tk (cr.takeLocal 0 (fun r => isCommons 0x02 r && decide (r.pkt.w2.toNat < 0x100000000))) cr).1
def u3 : State := (tk (cr.takeLocal 0 (fun r => isCommons 0x02 r && decide (r.pkt.w2.toNat < 0x100000000))) cr).2
def ca : State := cS (cp 5 0 0x200048 (beBytes 8 9)) (fun c => { c with nextOp := 5 })
def d4 : Deliv := (tk (ca.takeLocal 0 (isCommons 0x05)) ca).1
def u4 : State := (tk (ca.takeLocal 0 (isCommons 0x05)) ca).2
def cx : Rec := ⟨77, 0, 0x200048, 5, some 900⟩
def ca2 : State := cS (cp 5 0 0x200048 (beBytes 8 9)) (fun c => { c with nextOp := 5, replay := [(replayKey 1 0x222, ⟨80, [cx]⟩)] })
def d5 : Deliv := (tk (ca2.takeLocal 0 (isCommons 0x05)) ca2).1
def u5 : State := (tk (ca2.takeLocal 0 (isCommons 0x05)) ca2).2
def ba (a : CmnAct) : State := cS pkt0 (fun c => { c with mem := [(0x20004F, 6)], ops := [(2, ⟨dl (cp 5 0 0x200048 []) .own 64, 1, List.replicate 8 0, false⟩)], batch := [(0x8001, (3, [⟨.packet 2, 0x200048, a⟩]))] })
def pp (kind w2 ctx : Nat) (pl : List Byte) : Packet := { pkt0 with ver := 2, kind := BitVec.ofNat 6 kind, tc := 5, dgid := 0x500, sgid := 0x222, psn := 77, key := 0xFFFF, ctx := BitVec.ofNat 32 ctx, w2 := BitVec.ofNat 64 w2 }.withPayload pl
def pS (p : Packet) (m : Prom → Prom := id) : State := { (put gidS [(.promCfg_size, 0, 4)]) with sw := { gidS.sw with localQ := [dl p .own 64] }, prom := m gidS.prom }
def i6 : State := pS (pp 0x20 (7*2^48 + 0*2^16) 1 [1,2])
def d7 : Deliv := (tk (i6.takeLocal 0 (fun r => r.fn == .own && r.pkt.kind == 0x20)) i6).1
def u7 : State := (tk (i6.takeLocal 0 (fun r => r.fn == .own && r.pkt.kind == 0x20)) i6).2
def i8 : State := pS (pp 0x20 (7*2^48 + 0*2^16) 0 [1,2])
def d9 : Deliv := (tk (i8.takeLocal 0 (fun r => r.fn == .own && r.pkt.kind == 0x20)) i8).1
def u9 : State := (tk (i8.takeLocal 0 (fun r => r.fn == .own && r.pkt.kind == 0x20)) i8).2
def ob1 : Obj := ⟨2, 0x222, [(0, ⟨1,2,0,2,[1, 2]⟩)]⟩
def ob2 : Obj := ⟨1, 0x222, [(0, ⟨1,2,0,2,[1]⟩)]⟩
def rep0 : PRep := ⟨dl (pp 0x21 (7*2^48 + 0*2^16 + 2) 0 []) .own 64, 0, 0, false⟩
def pS2 (n : Nat) : State := pS (pp 0x21 (7*2^48 + 0*2^16 + 2) 0 []) (fun w => { w with objs := [(7, ob1), (8, ob2)], reps := List.replicate n rep0 })
def d10 : Deliv := (tk ((pS2 3).takeLocal 0 (fun r => r.fn == .own && r.pkt.kind == 0x21)) (pS2 3)).1
def u10 : State := (tk ((pS2 3).takeLocal 0 (fun r => r.fn == .own && r.pkt.kind == 0x21)) (pS2 3)).2
def d11 : Deliv := (tk ((pS2 256).takeLocal 0 (fun r => r.fn == .own && r.pkt.kind == 0x21)) (pS2 256)).1
def u11 : State := (tk ((pS2 256).takeLocal 0 (fun r => r.fn == .own && r.pkt.kind == 0x21)) (pS2 256)).2
def pF : State := let s := put (pS2 3) [(.promCmd_start, 0, 1)]; { s with prom := { s.prom with fetch := some ⟨7, 0, 0, 0⟩ } }
def gwS : State := put gidS [(.gwPermit_startup, 0, 1), (.cfgState_state, 0, 4)]
def ga (kind n : Nat) (pl : List Byte) : Packet := { pkt0 with ver := 2, kind := BitVec.ofNat 6 kind, tc := 5, dgid := 0x500, sgid := 0x222, psn := 77, w1k := BitVec.ofNat 11 n, w2 := BitVec.ofNat 64 (0x111 * 2^46 + 0x1003) }.withPayload pl
def gwQ (p : Packet) (m : Nat) (g : Gw → Gw := id) : State := let s := put gwS [(.gwMode_mode, 0, m), (.gwCfg_coalNs, 0, 100), (.gwCfg_retries, 0, 3), (.corePortCfg_en, 16, 1), (.corePortStatus_state, 16, 3)]; { s with sw := { s.sw with localQ := [dl p .own 64] }, gw := g s.gw, tab := { s.tab with dt := [(0x111, 2^63 + 2^59 + 7)], lg := [(14, 2^511 + 2^501 + 16)] } }
def i12 : State := gwQ (ga 0x0A 8 []) 0
def d13 : Deliv := (tk (i12.takeLocal 0 (fun r => r.pkt.kind == 0x0A && r.fn == .own)) i12).1
def u13 : State := (tk (i12.takeLocal 0 (fun r => r.pkt.kind == 0x0A && r.fn == .own)) i12).2
def i14 : State := gwQ (ga 0x0B 0 [1,2,3,4]) 1
def d15 : Deliv := (tk (i14.takeLocal 0 (fun r => r.pkt.kind == 0x0B && r.fn == .own)) i14).1
def u15 : State := (tk (i14.takeLocal 0 (fun r => r.pkt.kind == 0x0B && r.fn == .own)) i14).2
def gr (d n : Bool) : GwReq := ⟨3, 0, 9, 9, true, 0x222, 0x111, 5, 0x1003, 3, [1,2,3], 0, [dl (ga 0x0B 0 [1]) .own 64], some 5, 0, d, n⟩
def gq (d n : Bool) : State := { gwQ pkt0 1 (fun w => { w with reqs := [gr d n, {gr false false with psn := 10, num := 4}] }) with tb := ⟨90000000, 0, true, 90000000, 0, none⟩ }
def rr : Packet := { pkt0 with ver := 2, kind := 0x08, sgid := 0x111, psn := 9, msgid := 9 }
def rs (b : Bool) : State := gwQ rr 1 (fun w => { w with reqs := if b then [gr false false, {gr false false with psn := 10, num := 4}] else [] })
def d16 : Deliv := (tk ((rs true).takeLocal 0 isResponse) (rs true)).1
def u16 : State := (tk ((rs true).takeLocal 0 isResponse) (rs true)).2
def d17 : Deliv := (tk ((rs false).takeLocal 0 isResponse) (rs false)).1
def u17 : State := (tk ((rs false).takeLocal 0 isResponse) (rs false)).2
def rqD (s : State) : Deliv := (tk (s.takeLocal 0 (fun r => isSvcReq r && !s.otherSvc r)) s).1
def rqU (s : State) : State := (tk (s.takeLocal 0 (fun r => isSvcReq r && !s.otherSvc r)) s).2
def gr3 : SvcGrp := { gr0 with ready := some (900000 - 1), entry := ent 0 + 1000 * 2^456 }
def clD (x : Nat) : Deliv := (tk ((stS 1 x).takeLocal 0 ((stS 1 x).steerReq 1)) (stS 1 x)).1
def clU (x : Nat) : State := (tk ((stS 1 x).takeLocal 0 ((stS 1 x).steerReq 1)) (stS 1 x)).2
def other : Nat := 2^63 + 2^57 + 0x111 * 2^39
def ord0 : GateOrd := { slot := 0, gid := 0x222, toks := [(0, 5)], npkt := 0, seen := [], bytes := 0, done := false, missing := false }
def run0 : GateRun := ⟨5, 4, [ord0, ord0], [], 0⟩
def gtS (ctx : Nat) : State :=
  let s := svS 3 1 1 0
  let s := { s with sw := { s.sw with localQ := [dl { rq 1 [1, 2] with ctx := BitVec.ofNat 32 ctx } (.svcGid 2) 64] } }
  let s := { s with svc := { s.svc with grps := [{ gr2 with entry := ent 3 }], gates := [run0] }, tb := ⟨900000, 0, true, 900000, 0, none⟩ }
  s.setInst 5 (fun c => { c with state := 1, grp := some 4, starts := 1 })
def isAns (s : State) (r : Deliv) : Bool :=
  isSvcReq r && r.pkt.op == 1 && (match s.bound? r with | some (_, e) => seKind e == 3 | none => false)
def gaD (x : Nat) : Deliv := (tk ((gtS x).takeLocal 0 (isAns (gtS x))) (gtS x)).1
def gaU (x : Nat) : State := (tk ((gtS x).takeLocal 0 (isAns (gtS x))) (gtS x)).2
def h5 : Nat := gateHandle 5 1 1
def h6 : Nat := gateHandle 6 1 1
def clrS : State := put (cS pkt0 (fun c => { c with mem := [(5, 6), (0x200048, 1)], clearing := 2 })) [(.cmnCtrl_clear, 0, 1)]
def ldQ : State := gwQ (ga 0x0A 8 []) 1
def ldD : Deliv := (tk (ldQ.takeLocal 0 (fun r => r.pkt.kind == 0x0A && r.fn == .own)) ldQ).1
def ldU : State := (tk (ldQ.takeLocal 0 (fun r => r.pkt.kind == 0x0A && r.fn == .own)) ldQ).2
def gwb : GwBuf := ⟨0, 4, 0x222, 0x111, 5, 0x1003, [1, 2, 3], [], 5⟩
def coS : State := gwQ pkt0 1 (fun w => { w with bufs := [gwb, { gwb with num := 5 }] })
def scE : Nat := ce 0 3 5 + 0x2000 * 2^384
def scS : State :=
  let s := (rS 1 (some (ck .open_ scE [0])) scE).memPut 0x2004 (leBytes 4 (2^31 + 0x333))
  { s with fen := { s.fen with scan := [0x333, 4] } }

def late (s : State) : State := { s with tb := { s.tb with mono := 5000000000 } }
def cO : Chunk := ck .open_ (ce 0 3 5) [0]
def cO1 : Chunk := ck .open_ (ce 0 3 5) [1]
def cO2 : Chunk := ck .open_ (ce 0 2 5) [0]
def cP : Chunk := ck .open_ (ce 1 3 5) [1]
def cE : Chunk := ck .sending (ce 0 3 5) [1]
def cD : Chunk := ck .done (ce 0 3 5) [1]
def rC (c : Chunk) : State := rS 1 (some c) c.entry
def key0 : Nat := chunkKey 9 4 6
def ldS3 : State := put ldS2 [(.cfgFaultSummary_regionFailed, 0, 1)]
def pFw : State := { pF with prom := { pF.prom with fetch := some ⟨8, 0, 0, 0⟩ } }
def pFn : State := { pF with prom := { pF.prom with fetch := some ⟨9, 0, 0, 0⟩ } }
def gr5 : SvcGrp := { gr2 with entry := ent 3 }
def obN (n : Nat) : Obj := ⟨n, 0x222, []⟩

/-- Hypotheses of `RequestsAreAdmittedAndStarted`, clause by clause, met. -/
theorem wit_RequestsAreAdmittedAndStarted :
    (gidS.accepts Src.ctl0 Reg.svcGid 3 = true ∧
      bitAt 2147485184 31 = true ∧
      (gidS.ready Src.ctl0 Reg.svcGid 3).svcGidTaken 3 (bits 2147485184 0 18) = true) ∧
    (gidS.accepts Src.ctl0 Reg.svcGid 3 = true ∧
      bitAt 2147485185 31 = true ∧
      (gidS.ready Src.ctl0 Reg.svcGid 3).svcGidTaken 3 (bits 2147485185 0 18) = false) ∧
    (((svS 0 0 1 0).takeLocal 0 fun r => isSvcReq r && !(svS 0 0 1 0).otherSvc r) = some (rqD (svS 0 0 1 0), rqU (svS 0 0 1 0)) ∧
      3 = (rqD (svS 0 0 1 0)).pkt.svc ∧
      (rqU (svS 0 0 1 0)).assembling 3 (rqD (svS 0 0 1 0)) = none ∧
      (rqU (svS 0 0 1 0)).bound? (rqD (svS 0 0 1 0)) = some (3, ent 0) ∧
      seKind (ent 0) = 0 ∧
      (rqU (svS 0 0 1 0)).isRefused 3 (rqD (svS 0 0 1 0)) = false ∧
      (rqU (svS 0 0 1 0)).admTests 3 (ent 0) (rqD (svS 0 0 1 0)) = none ∧
      reqBad (ent 0) (rqD (svS 0 0 1 0)).pkt 0 = false ∧
      reqNpkt (ent 0) (rqD (svS 0 0 1 0)).pkt = 0 ∧
      ownGroup (ent 0) (rqD (svS 0 0 1 0)).pkt = true ∧
      (rqU (svS 0 0 1 0)).freeGroup 3 (ent 0) = some 0 ∧
      (rqU (svS 0 0 1 0)).grp? (rqU (svS 0 0 1 0)).svc.nextGrp = none) ∧
    (((svS 0 0 0 1).takeLocal 0 fun r => isSvcReq r && !(svS 0 0 0 1).otherSvc r) = some (rqD (svS 0 0 0 1), rqU (svS 0 0 0 1)) ∧
      3 = (rqD (svS 0 0 0 1)).pkt.svc ∧
      (rqU (svS 0 0 0 1)).assembling 3 (rqD (svS 0 0 0 1)) = none ∧
      (rqU (svS 0 0 0 1)).bound? (rqD (svS 0 0 0 1)) = some (3, ent 0) ∧
      seKind (ent 0) = 0 ∧
      (rqU (svS 0 0 0 1)).isRefused 3 (rqD (svS 0 0 0 1)) = false ∧
      (svS 0 0 0 1).off = false ∧
      (rqD (svS 0 0 0 1)).pkt.tc ≠ 7 ∧
      reqBad (ent 0) (rqD (svS 0 0 0 1)).pkt (reqNpkt (ent 0) (rqD (svS 0 0 0 1)).pkt) = false ∧
      (rqU (svS 0 0 0 1)).rd Fld.svcStatus_ready 3 = 0 ∧
      (rqU (svS 0 0 0 1)).rd Fld.svcStatus_building 3 = 1) ∧
    ((gS gr0).svc.grps = [gr0] ∧
      gr0.sv = 3 ∧
      gr0.reqs = [rq0] ∧
      rq0.whole = false ∧
      rq0.first.pkt.sgid.toNat = 546 ∧
      rq0.first.pkt.msgid = 9 ∧
      (gS gr0).asmNs ≤ span32 rq0.t0 (gS gr0).now) ∧
    ((gS gr0).openGroup 3 = some gr0 ∧
      gr0.ready = some 990 ∧
      seJoinNs gr0.entry ≤ span32 990 (gS gr0).now) ∧
    ((gS gr3).openGroup 3 = some gr3 ∧
      gr3.ready = some 899999 ∧
      span32 899999 (gS gr3).now < seJoinNs gr3.entry) ∧
    (List.find? (fun g => g.sv == 3 && g.startable) (gS gr1).svc.grps = some gr1 ∧
      List.find? (fun x => x.startable && x.waits) (gS gr1).svc.grps = none ∧
      (gS gr1).freeCtx = some 0) ∧
    (List.find? (fun g => g.sv == 3 && g.startable) gSr.svc.grps = some gr1 ∧
      List.find? (fun x => x.startable && x.waits) gSr.svc.grps = none ∧
      gSr.freeCtx = none ∧
      gSr.off = false ∧
      gr1.waits = false) ∧
    (gSl.instEntry 5 = some entL ∧
      seRunLimit entL ≠ 0 ∧
      1000 * seRunLimit entL ≤ span32 (gSl.inst 5).t0 gSl.now ∧
      gSl.running 5 = true) := by
  (repeat' with_reducible apply And.intro) <;> decide +kernel

/-- Hypotheses of `ServicesAreLoadedSteeredAndGated`, clause by clause, met. -/
theorem wit_ServicesAreLoadedSteeredAndGated :
    (ldS.accepts Src.ctl0 Reg.svcLoadCmd 0 = true ∧
      (ldS.ready Src.ctl0 Reg.svcLoadCmd 0).flag Fld.svcLoadSrc_prom 0 = false ∧
      (ldS.ready Src.ctl0 Reg.svcLoadCmd 0).loadRange ((ldS.ready Src.ctl0 Reg.svcLoadCmd 0).rd Fld.svcLoadSrc_addr 0) (4096 * 1) = true ∧
      (ldS.ready Src.ctl0 Reg.svcLoadCmd 0).loadRange ((ldS.ready Src.ctl0 Reg.svcLoadCmd 0).rd Fld.svcLoadDst_addr 0) (4096 * 1) = true ∧
      549755813888 ≤ (ldS.ready Src.ctl0 Reg.svcLoadCmd 0).rd Fld.svcLoadSrc_addr 0) ∧
    ((put ldS [(Fld.svcLoadSrc_addr, 0, 549755813889)]).accepts Src.ctl0 Reg.svcLoadCmd 0 = true ∧
      ((put ldS [(Fld.svcLoadSrc_addr, 0, 549755813889)]).ready Src.ctl0 Reg.svcLoadCmd 0).flag Fld.svcLoadSrc_prom 0 = false ∧
      ((put ldS [(Fld.svcLoadSrc_addr, 0, 549755813889)]).ready Src.ctl0 Reg.svcLoadCmd 0).loadRange (((put ldS [(Fld.svcLoadSrc_addr, 0, 549755813889)]).ready Src.ctl0 Reg.svcLoadCmd 0).rd Fld.svcLoadSrc_addr 0) (4096 * 1) = false) ∧
    (ldS2.svc.load = some { dst := 4096, src := 549755813888, prom := none, size := 64, result := 0 } ∧
      ((rangeRegions 4096 64).any fun k => !ldS2.regionDead k && ldS2.rd Fld.pwrRegionStatus_state k != 0) = false ∧
      ldS2.loadRange 4096 64 = true) ∧
    (ldS3.svc.load = some { dst := 4096, src := 549755813888, prom := none, size := 64, result := 0 } ∧
      ((rangeRegions 4096 64).any fun k => !ldS3.regionDead k && ldS3.rd Fld.pwrRegionStatus_state k != 0) = false ∧
      ldS3.loadRange 4096 64 = false) ∧
    ((svS 2 0 0 1).rd Fld.svcStatus_building 3 = 1 ∧
      seLive ((svS 2 0 0 1).svcEntry 3) = true ∧
      seKind ((svS 2 0 0 1).svcEntry 3) = 2 ∧
      (svS 2 0 0 1).rd Fld.pwrRegionStatus_state (seRegion ((svS 2 0 0 1).svcEntry 3)) = 0 ∧
      16 ≤ seLstride ((svS 2 0 0 1).svcEntry 3) ∧
      (svS 2 0 0 1).regionDead (seRegion ((svS 2 0 0 1).svcEntry 3)) = false) ∧
    (stS0.takeLocal 0 (stS0.steerReq 0) = some (std.1, std.2) ∧
      std.2.bound? std.1 = some (3, ent 1) ∧
      64 + std.1.pkt.payload.length ≤ seSlotSize (ent 1) ∧
      std.2.admTests 3 (ent 1) std.1 = none ∧
      std.2.tab.bad = [] ∧
      bitAt (std.2.sesAt std.1.pkt.key.toNat) 63 = true ∧
      std.2.inSitOut (bits (std.2.sesAt std.1.pkt.key.toNat) 39 18) = false ∧
      stq = (have __src := std.1.pkt; ({ ver := __src.ver, kind := __src.kind, tc := __src.tc, cm := __src.cm, spray := __src.spray, last := __src.last, echo := __src.echo, hops := std.1.pkt.hops - 1, dgid := BitVec.ofNat 20 (bits (std.2.sesAt std.1.pkt.key.toNat) 39 18), sgid := __src.sgid, psn := __src.psn, msgid := __src.msgid, len := __src.len, w1k := __src.w1k, w2 := __src.w2, key := __src.key, ctx := __src.ctx, hcrc := __src.hcrc, payload := __src.payload, ecrc := __src.ecrc } : Packet)).sealed ∧
      (std.2.admTake 3 (ent 1)).lookup (seRegion (ent 1)) (64 + seRegion (ent 1)) none stq = (stw, Verdict.go (Dest.port 16)) ∧
      std.1.pkt.hops ≠ 0 ∧
      stS0.off = false ∧
      stw.fits (seRegion (ent 1)) std.1.pkt.tc.toNat (segsOf (Body.porxel stq))) ∧
    ((stS 1 0).takeLocal 0 ((stS 1 0).steerReq 1) = some (clD 0, clU 0) ∧
      (clU 0).bound? (clD 0) = some (3, ent 1) ∧
      (clU 0).flag Fld.svcCfg_steerLearn 0 = true ∧
      64 + (clD 0).pkt.payload.length ≤ seSlotSize (ent 1) ∧
      (clU 0).admTests 3 (ent 1) (clD 0) = none ∧
      (clU 0).changedNow 6 (clD 0).pkt.key.toNat = none ∧
      bitAt ((clU 0).sesAt (clD 0).pkt.key.toNat) 63 = false ∧
      (clU 0).flag Fld.svcCfg_steerCreate 0 = true) ∧
    ((stS 1 (2 ^ 63 + 2 ^ 62)).takeLocal 0 ((stS 1 (2 ^ 63 + 2 ^ 62)).steerReq 1) = some (clD (2 ^ 63 + 2 ^ 62), clU (2 ^ 63 + 2 ^ 62)) ∧
      (clU (2 ^ 63 + 2 ^ 62)).bound? (clD (2 ^ 63 + 2 ^ 62)) = some (3, ent 1) ∧
      (clU (2 ^ 63 + 2 ^ 62)).flag Fld.svcCfg_steerLearn 0 = true ∧
      64 + (clD (2 ^ 63 + 2 ^ 62)).pkt.payload.length ≤ seSlotSize (ent 1) ∧
      (clU (2 ^ 63 + 2 ^ 62)).admTests 3 (ent 1) (clD (2 ^ 63 + 2 ^ 62)) = none ∧
      (clU (2 ^ 63 + 2 ^ 62)).changedNow 6 (clD (2 ^ 63 + 2 ^ 62)).pkt.key.toNat = none ∧
      bitAt ((clU (2 ^ 63 + 2 ^ 62)).sesAt (clD (2 ^ 63 + 2 ^ 62)).pkt.key.toNat) 63 = true ∧
      (bitAt ((clU (2 ^ 63 + 2 ^ 62)).sesAt (clD (2 ^ 63 + 2 ^ 62)).pkt.key.toNat) 62 = true ∨ bits ((clU (2 ^ 63 + 2 ^ 62)).sesAt (clD (2 ^ 63 + 2 ^ 62)).pkt.key.toNat) 39 18 = (clD (2 ^ 63 + 2 ^ 62)).pkt.sgid.toNat % 2 ^ 18 ∨ bitAt ((clU (2 ^ 63 + 2 ^ 62)).sesAt (clD (2 ^ 63 + 2 ^ 62)).pkt.key.toNat) 61 = true)) ∧
    ((stS 1 other).takeLocal 0 ((stS 1 other).steerReq 1) = some (clD other, clU other) ∧
      (clU other).bound? (clD other) = some (3, ent 1) ∧
      (clU other).flag Fld.svcCfg_steerLearn 0 = true ∧
      64 + (clD other).pkt.payload.length ≤ seSlotSize (ent 1) ∧
      (clU other).admTests 3 (ent 1) (clD other) = none ∧
      (clU other).changedNow 6 (clD other).pkt.key.toNat = none ∧
      bitAt ((clU other).sesAt (clD other).pkt.key.toNat) 63 = true ∧
      bitAt ((clU other).sesAt (clD other).pkt.key.toNat) 62 = false ∧
      bits ((clU other).sesAt (clD other).pkt.key.toNat) 39 18 ≠ (clD other).pkt.sgid.toNat % 2 ^ 18 ∧
      bitAt ((clU other).sesAt (clD other).pkt.key.toNat) 61 = false ∧
      bits ((clU other).sesAt (clD other).pkt.key.toNat) 57 4 < 8) ∧
    (((gtS h5).takeLocal 0 fun r => isSvcReq r && r.pkt.op == 1 && match (gtS h5).bound? r with | some (fst, e) => seKind e == 3 | none => false) = some (gaD h5, gaU h5) ∧
      (gaU h5).bound? (gaD h5) = some (3, ent 3) ∧
      (gaD h5).pkt.npkt = 0 ∧
      (gaD h5).pkt.idx = 0 ∧
      (gaU h5).gateFind 3 (gaD h5).pkt.ctx.toNat = some (run0, 1, ord0) ∧
      ord0.done = false ∧
      (gaD h5).pkt.sgid.toNat = ord0.gid ∧
      ord0.seen = [] ∧
      (∃ j y, j ≠ 1 ∧ run0.ords[j]? = some y ∧ y.done = false)) ∧
    (((gtS h6).takeLocal 0 fun r => isSvcReq r && r.pkt.op == 1 && match (gtS h6).bound? r with | some (fst, e) => seKind e == 3 | none => false) = some (gaD h6, gaU h6) ∧
      (gaU h6).bound? (gaD h6) = some (3, ent 3) ∧
      (gaD h6).pkt.npkt = 0 ∧
      (gaD h6).pkt.idx = 0 ∧
      (gaU h6).gateFind 3 (gaD h6).pkt.ctx.toNat = none ∧
      (gtS h6).off = false) ∧
    (List.find? (fun r => r.inst == 5) (gtS h6).svc.gates = some run0 ∧
      (gtS h6).grp? run0.grp = some gr5 ∧
      1000 * max 1 (gateParam (gtS h6).eng.mem (seParam gr5.entry)).us ≤ span32 run0.t0 (gtS h6).now) := by
  (repeat' with_reducible apply And.intro) <;> first | decide +kernel | exact ⟨by decide +kernel, by decide +kernel⟩ | exact ⟨0, ord0, by decide +kernel, by decide +kernel, by decide +kernel⟩

/-- Hypotheses of `ReductionChunksLive`, clause by clause, met. -/
theorem wit_ReductionChunksLive :
    ((i1.takeLocal 0 fun r => r.fn == LocFn.own && r.pkt.kind == 16) = some ((rT i1).1, (rT i1).2) ∧
      (rT i1).1.blk < 64 ∧
      key0 = chunkKey (rT i1).1.blk (rT i1).1.pkt.redGroup (rT i1).1.pkt.redChunk ∧
      (rT i1).2.chunk? key0 = none ∧
      ce 0 3 5 = sget 0 (rT i1).2.tab.cgt (rT i1).1.pkt.redGroup ∧
      (rT i1).2.tab.bad.contains (5, (rT i1).1.pkt.redGroup, (rT i1).1.blk / 8) = false ∧
      ceValid (ce 0 3 5) = true ∧
      redOk (ce 0 3 5) (rT i1).1.pkt.redMember (rT i1).1.pkt.payload.length (rT i1).1.inPort = true ∧
      ceDegraded (ce 0 3 5) = false ∧
      1 + dataUnits (ce 0 3 5) ≤ (rT i1).2.redRoom (rT i1).1.blk ∧
      ceNmem (ce 0 3 5) ≠ 1) ∧
    (((rC cO).takeLocal 0 fun r => r.fn == LocFn.own && r.pkt.kind == 16) = some ((rT (rC cO)).1, (rT (rC cO)).2) ∧
      (rT (rC cO)).1.blk < 64 ∧
      key0 = chunkKey (rT (rC cO)).1.blk (rT (rC cO)).1.pkt.redGroup (rT (rC cO)).1.pkt.redChunk ∧
      (rT (rC cO)).2.chunk? key0 = some cO ∧
      cO.st = ChunkSt.open_ ∧
      redOk cO.entry (rT (rC cO)).1.pkt.redMember (rT (rC cO)).1.pkt.payload.length (rT (rC cO)).1.inPort = true ∧
      (rT (rC cO)).1.pkt.redMember ∉ cO.members ∧
      cO.members.length + 1 ≠ ceNmem cO.entry) ∧
    (((rC cO2).takeLocal 0 fun r => r.fn == LocFn.own && r.pkt.kind == 16) = some ((rT (rC cO2)).1, (rT (rC cO2)).2) ∧
      (rT (rC cO2)).1.blk < 64 ∧
      key0 = chunkKey (rT (rC cO2)).1.blk (rT (rC cO2)).1.pkt.redGroup (rT (rC cO2)).1.pkt.redChunk ∧
      (rT (rC cO2)).2.chunk? key0 = some cO2 ∧
      cO2.st = ChunkSt.open_ ∧
      redOk cO2.entry (rT (rC cO2)).1.pkt.redMember (rT (rC cO2)).1.pkt.payload.length (rT (rC cO2)).1.inPort = true ∧
      (rT (rC cO2)).1.pkt.redMember ∉ cO2.members ∧
      cO2.members.length + 1 = ceNmem cO2.entry) ∧
    (((rC cO1).takeLocal 0 fun r => r.fn == LocFn.own && r.pkt.kind == 16) = some ((rT (rC cO1)).1, (rT (rC cO1)).2) ∧
      (rT (rC cO1)).1.blk < 64 ∧
      key0 = chunkKey (rT (rC cO1)).1.blk (rT (rC cO1)).1.pkt.redGroup (rT (rC cO1)).1.pkt.redChunk ∧
      (rC cO1).off = false ∧
      (rT (rC cO1)).2.chunk? key0 = some cO1 ∧
      cO1.st = ChunkSt.open_ ∧
      redOk cO1.entry (rT (rC cO1)).1.pkt.redMember (rT (rC cO1)).1.pkt.payload.length (rT (rC cO1)).1.inPort = true ∧
      (rT (rC cO1)).1.pkt.redMember ∈ cO1.members) ∧
    (key0 = chunkKey 9 4 6 ∧
      (rC cP).chunk? key0 = some cP ∧
      cP.st = ChunkSt.open_ ∧
      1000 * ceTimeout cP.entry ≤ span32 cP.t0 (rC cP).now ∧
      cePartial cP.entry = true) ∧
    (key0 = chunkKey 9 4 6 ∧
      (rC cO1).chunk? key0 = some cO1 ∧
      cO1.st = ChunkSt.open_ ∧
      1000 * ceTimeout cO1.entry ≤ span32 cO1.t0 (rC cO1).now ∧
      cePartial cO1.entry = false ∧
      ceGrace cO1.entry ≠ 0) ∧
    (key0 = chunkKey 9 4 6 ∧
      (rC cE).chunk? key0 = some cE ∧
      cE.st = ChunkSt.sending) ∧
    (key0 = chunkKey 9 4 6 ∧
      (rC cD).chunk? key0 = some cD ∧
      (cD.st = ChunkSt.done ∨ cD.st = ChunkSt.aborted) ∧
      1000 * ceGrace cD.entry ≤ span32 cD.tEnd (rC cD).now) ∧
    (scS.fen.scan = [819, 4]) := by
  (repeat' with_reducible apply And.intro) <;> decide +kernel

/-- Hypotheses of `CommonsAppliesBatches`, clause by clause, met. -/
theorem wit_CommonsAppliesBatches :
    (2097224 = d2.cmnOff ∧
      32769 = 2097224 / 64 ∧
      d2.pkt.w2.toNat < 16777216 ∧
      cw.atePasses 0 (cmnRegion 2097224) 1 = true ∧
      cw.takeLocal 0 (isCommons 1) = some (d2, u2) ∧
      d2.pkt.payload ≠ [] ∧
      2097224 % 64 + d2.pkt.payload.length ≤ 64 ∧
      ((kget u2.cmn.batch 32769).getD (0, [])).2.length < 1024) ∧
    (2097224 = d3.cmnOff ∧
      32769 = 2097224 / 64 ∧
      d3.pkt.w2.toNat < 16777216 ∧
      cr.atePasses 0 (cmnRegion 2097224) 1 = true ∧
      (cr.takeLocal 0 fun r => isCommons 2 r && decide (r.pkt.w2.toNat < 4294967296)) = some (d3, u3) ∧
      d3.pkt.w1k ≠ 0 ∧
      2097224 % 64 + 4 * d3.pkt.w1k.toNat ≤ 64 ∧
      ((kget u3.cmn.batch 32769).getD (0, [])).2.length < 1024) ∧
    (2097224 = d4.cmnOff ∧
      32769 = 2097224 / 64 ∧
      d4.pkt.w2.toNat < 16777216 ∧
      ca.atePasses 0 (cmnRegion 2097224) 1 = true ∧
      ca.takeLocal 0 (isCommons 5) = some (d4, u4) ∧
      0 = bits d4.pkt.w1k.toNat 7 4 ∧
      0 ≤ 4 ∧
      2097224 % atomOut 0 = 0 ∧
      d4.pkt.payload.length = atomIn 0 ∧
      ((kget u4.cmn.batch 32769).getD (0, [])).2.length < 1024 ∧
      kget u4.cmn.replay (replayKey (cmnRegion 2097224) d4.pkt.sgid.toNat) = none ∧
      (List.filter (fun e => (unpair e.1).1 == cmnRegion 2097224) u4.cmn.replay).length < 2048) ∧
    (2097224 = d5.cmnOff ∧
      32769 = 2097224 / 64 ∧
      d5.pkt.w2.toNat < 16777216 ∧
      ca2.atePasses 0 (cmnRegion 2097224) 1 = true ∧
      ca2.takeLocal 0 (isCommons 5) = some (d5, u5) ∧
      0 = bits d5.pkt.w1k.toNat 7 4 ∧
      0 ≤ 4 ∧
      2097224 % atomOut 0 = 0 ∧
      d5.pkt.payload.length = atomIn 0 ∧
      ((kget u5.cmn.batch 32769).getD (0, [])).2.length < 1024 ∧
      ca2.off = false ∧
      kget u5.cmn.replay (replayKey (cmnRegion 2097224) d5.pkt.sgid.toNat) = some { hi := 80, recs := [cx] } ∧
      (80 + 2 ^ 24 - d5.pkt.psn.toNat) % 2 ^ 24 < 64 ∧
      List.find? (fun x => x.psn == d5.pkt.psn.toNat) [cx] = some cx ∧
      cx.time = some 900 ∧
      cx.aop = 0 ∧
      cx.off = 2097224 ∧
      ca2.tb.mono < 900 + 2000000) ∧
    ((ba (CmnAct.write [1, 2, 3])).cmnWindow ≤ span32 3 (ba (CmnAct.write [1, 2, 3])).now ∧
      bitAt (ba (CmnAct.write [1, 2, 3])).cmn.clearing (lineRegion 32769) = false ∧
      (ba (CmnAct.write [1, 2, 3])).poisoned (2097224 / 64) = false ∧
      (∀ (k : Fin 8), kget (ba (CmnAct.write [1, 2, 3])).eng.run (EngId.ate k).num = none) ∧
      kget (ba (CmnAct.write [1, 2, 3])).cmn.batch 32769 = some (3, [{ byy := CmnBy.packet 2, off := 2097224, act := CmnAct.write [1, 2, 3] }])) ∧
    ((ba (CmnAct.read 8)).cmnWindow ≤ span32 3 (ba (CmnAct.read 8)).now ∧
      bitAt (ba (CmnAct.read 8)).cmn.clearing (lineRegion 32769) = false ∧
      (ba (CmnAct.read 8)).poisoned (2097224 / 64) = false ∧
      (∀ (k : Fin 8), kget (ba (CmnAct.read 8)).eng.run (EngId.ate k).num = none) ∧
      kget (ba (CmnAct.read 8)).cmn.batch 32769 = some (3, [{ byy := CmnBy.packet 2, off := 2097224, act := CmnAct.read 8 }])) ∧
    ((ba (CmnAct.atomic 0 [10])).cmnWindow ≤ span32 3 (ba (CmnAct.atomic 0 [10])).now ∧
      bitAt (ba (CmnAct.atomic 0 [10])).cmn.clearing (lineRegion 32769) = false ∧
      (ba (CmnAct.atomic 0 [10])).poisoned (2097224 / 64) = false ∧
      (∀ (k : Fin 8), kget (ba (CmnAct.atomic 0 [10])).eng.run (EngId.ate k).num = none) ∧
      kget (ba (CmnAct.atomic 0 [10])).cmn.batch 32769 = some (3, [{ byy := CmnBy.packet 2, off := 2097224, act := CmnAct.atomic 0 [10] }])) ∧
    ((ba (CmnAct.read 8)).accepts Src.ctl0 Reg.cmnCtrl 0 = true) ∧
    (clrS.rd Fld.cmnCtrl_clear 0 = 1 ∧
      (∀ (k : Fin 8), kget clrS.eng.run (EngId.ate k).num = none)) := by
  (repeat' with_reducible apply And.intro) <;> decide +kernel

/-- Hypotheses of `PromenadeCachesObjects`, clause by clause, met. -/
theorem wit_PromenadeCachesObjects :
    ((i6.takeLocal 0 fun r => r.fn == LocFn.own && r.pkt.kind == 32) = some (d7, u7) ∧
      obN 1 = (u7.obj? d7.pkt.promObj).getD { total := d7.pkt.ctx.toNat, source := d7.pkt.sgid.toNat, chunks := [] } ∧
      chunkBad d7.pkt (obN 1).total = false ∧
      kget (obN 1).chunks d7.pkt.promChunk = none ∧
      u7.promRoom d7.pkt.promChunk = true) ∧
    ((i8.takeLocal 0 fun r => r.fn == LocFn.own && r.pkt.kind == 32) = some (d9, u9) ∧
      obN 0 = (u9.obj? d9.pkt.promObj).getD { total := d9.pkt.ctx.toNat, source := d9.pkt.sgid.toNat, chunks := [] } ∧
      chunkBad d9.pkt (obN 0).total = true ∧
      i8.off = false) ∧
    (((pS2 3).takeLocal 0 fun r => r.fn == LocFn.own && r.pkt.kind == 33) = some (d10, u10) ∧
      d10.pkt.promCount ≠ 0 ∧
      u10.prom.reps.length < 256) ∧
    (((pS2 256).takeLocal 0 fun r => r.fn == LocFn.own && r.pkt.kind == 33) = some (d11, u11) ∧
      d11.pkt.promCount ≠ 0 ∧
      256 ≤ u11.prom.reps.length ∧
      (pS2 256).off = false) ∧
    ((pS2 3).prom.reps = [rep0, rep0, rep0]) ∧
    ((pS2 3).accepts Src.ctl0 Reg.promCmd 0 = true ∧
      ((pS2 3).ready Src.ctl0 Reg.promCmd 0).obj? 9 = none) ∧
    ((pS2 3).accepts Src.ctl0 Reg.promCmd 0 = true ∧
      ((pS2 3).ready Src.ctl0 Reg.promCmd 0).obj? 7 = some ob1) ∧
    ((pS2 3).accepts Src.ctl0 Reg.promCmd 0 = true ∧
      ((pS2 3).ready Src.ctl0 Reg.promCmd 0).obj? 7 = some ob1 ∧
      ((pS2 3).ready Src.ctl0 Reg.promCmd 0).promCfgBad ob1 = false ∧
      ob1.whole = false) ∧
    ((pS2 3).accepts Src.ctl0 Reg.promCmd 0 = true ∧
      ((pS2 3).ready Src.ctl0 Reg.promCmd 0).obj? 8 = some ob2 ∧
      ((pS2 3).ready Src.ctl0 Reg.promCmd 0).promCfgBad ob2 = false ∧
      ob2.whole = true) ∧
    ((pS2 3).accepts Src.ctl0 Reg.promCmd 0 = true ∧
      Option.map (fun f => f.obj) ((pS2 3).ready Src.ctl0 Reg.promCmd 0).prom.fetch ≠ some 8) ∧
    ((pS2 3).accepts Src.ctl0 Reg.promCmd 0 = true) ∧
    (pF.takesDrop Src.ctl0 (dropWord 7) = true ∧
      Option.map (fun f => f.obj) (pF.ready Src.ctl0 Reg.promCmd 0).prom.fetch = some 7) ∧
    ((late pF).prom.fetch = some { obj := 7, index := 0, start := 0, last := 0 } ∧
      (late pF).obj? 7 = some ob1 ∧
      ob1.missing ≠ [] ∧
      0 + 1000000 ≤ (late pF).tb.mono) ∧
    (pF.prom.fetch = some { obj := 7, index := 0, start := 0, last := 0 } ∧
      pF.tb.mono < 0 + 1000000) ∧
    ((late pF).prom.fetch = some { obj := 7, index := 0, start := 0, last := 0 } ∧
      ((late pF).obj? 7 = none ∧ 2 = 1 ∨ ∃ o, (late pF).obj? 7 = some o ∧ (o.whole = true ∧ 2 = 0 ∨ o.whole = false ∧ 0 + (late pF).fetchNs ≤ (late pF).tb.mono ∧ 2 = 2))) ∧
    (pFw.prom.fetch = some { obj := 8, index := 0, start := 0, last := 0 } ∧
      (pFw.obj? 8 = none ∧ 0 = 1 ∨ ∃ o, pFw.obj? 8 = some o ∧ (o.whole = true ∧ 0 = 0 ∨ o.whole = false ∧ 0 + pFw.fetchNs ≤ pFw.tb.mono ∧ 0 = 2))) ∧
    (pFn.prom.fetch = some { obj := 9, index := 0, start := 0, last := 0 } ∧
      (pFn.obj? 9 = none ∧ 1 = 1 ∨ ∃ o, pFn.obj? 9 = some o ∧ (o.whole = true ∧ 1 = 0 ∨ o.whole = false ∧ 0 + pFn.fetchNs ≤ pFn.tb.mono ∧ 1 = 2))) ∧
    (pF.prom.fetch = some { obj := 7, index := 0, start := 0, last := 0 } ∧
      pF.obj? 7 = some ob1 ∧
      ob1.whole = false ∧
      pF.tb.mono < 0 + pF.fetchNs) := by
  (repeat' with_reducible apply And.intro) <;> decide +kernel

/-- Hypotheses of `GatewayCarriesAccesses`, clause by clause, met. -/
theorem wit_GatewayCarriesAccesses :
    (gwS.accepts Src.ctl0 Reg.gwMode 0 = true ∧
      Src.ctl0 ≠ Src.image ∧
      ((gwS.ready Src.ctl0 Reg.gwMode 0).gwPermitted (3221225473 % 4) && gwStateOk (3221225473 % 4) ((gwS.ready Src.ctl0 Reg.gwMode 0).rd Fld.cfgState_state 0)) = true ∧
      (gwS.ready Src.ctl0 Reg.gwMode 0).rd Fld.gwMode_mode 0 ≠ 3221225473 % 4) ∧
    (gwS.accepts Src.ctl0 Reg.gwMode 0 = true ∧
      Src.ctl0 ≠ Src.image ∧
      ((gwS.ready Src.ctl0 Reg.gwMode 0).gwPermitted (3221225475 % 4) && gwStateOk (3221225475 % 4) ((gwS.ready Src.ctl0 Reg.gwMode 0).rd Fld.cfgState_state 0)) = false) ∧
    (i12.off = false ∧
      i12.regionDead d13.region = false ∧
      i12.gwWaiting d13.region < 1024 ∧
      i12.gwBehind 0 d13 = false ∧
      (i12.takeLocal 0 fun r => r.pkt.kind == 10 && r.fn == LocFn.own) = some (d13, u13) ∧
      u13.rd Fld.gwMode_mode 0 = 0) ∧
    (ldQ.off = false ∧
      ldQ.regionDead ldD.region = false ∧
      ldQ.gwWaiting ldD.region < 1024 ∧
      ldQ.gwBehind 0 ldD = false ∧
      (ldQ.takeLocal 0 fun r => r.pkt.kind == 10 && r.fn == LocFn.own) = some (ldD, ldU) ∧
      ldU.rd Fld.gwMode_mode 0 ≠ 0 ∧
      ldU.gwBad ldD = false ∧
      ldU.inSitOut ldD.gwTarget = false ∧
      ldU.gw.reqs = [] ∧
      ldU.gw.bufs = []) ∧
    (i14.off = false ∧
      i14.regionDead d15.region = false ∧
      i14.gwWaiting d15.region < 1024 ∧
      i14.gwBehind 0 d15 = false ∧
      (i14.takeLocal 0 fun r => r.pkt.kind == 11 && r.fn == LocFn.own) = some (d15, u15) ∧
      u15.rd Fld.gwMode_mode 0 ≠ 0 ∧
      u15.gwBad d15 = false ∧
      u15.inSitOut d15.gwTarget = false ∧
      u15.gw.bufs = [] ∧
      d15.pkt.payload.length < gwLimit d15.pkt.tc.toNat ∧
      (d15.gwAddr + d15.pkt.payload.length) % 4096 ≠ 0 ∧
      u15.gwCoalNs ≠ 0 ∧
      d15.isLoad = false) ∧
    (List.find? (fun b => b.k == 0 && b.num == 4) coS.gw.bufs = some gwb ∧
      coS.reached ((gwb.opened + coS.gwCoalNs) % 2 ^ 32) = true ∧
      coS.gw.reqs = []) ∧
    ((gq true false).gwFind 0 9 = some (gr true false) ∧
      (gr true false).done = true) ∧
    ((gq false false).gwFind 0 9 = some (gr false false) ∧
      (gr false false).done = false) ∧
    ((gq false true).gwFind 0 9 = some (gr false true) ∧
      (gr false true).nacked = true ∧
      (gr false true).resends < (gq false true).rd Fld.gwCfg_retries 0 ∧
      (gq false true).off = false) ∧
    ((gq false false).gwFind 0 9 = some (gr false false) ∧
      (gr false false).done = false ∧
      (gq false false).reached (((gr false false).sentAt.getD 0 + (gq false false).gwTimeoutNs) % 2 ^ 32) = true) ∧
    ((rs true).takeLocal 0 isResponse = some (d16, u16) ∧
      List.find? (fun x => x.sentAt.isSome && x.dst == d16.pkt.sgid.toNat && x.psn == d16.pkt.psn.toNat && x.msgid == d16.pkt.msgid.toNat) u16.gw.reqs = some (gr false false) ∧
      d16.pkt.kind = 8 ∧
      (gr false false).isWrite = true) ∧
    ((rs false).takeLocal 0 isResponse = some (d17, u17) ∧
      (rs false).off = false ∧
      u17.gw.reqs = [] ∧
      u17.eng.xfe = [] ∧
      u17.prom.asked = []) := by
  (repeat' with_reducible apply And.intro) <;> decide +kernel

end Fabric

namespace Fencing

def dl (p : Packet) (f : LocFn) (blk : Nat) : Deliv := ⟨p, some 8, blk, 0, f, 900, 0⟩
def gidS : State := put live [(.cfgState_state, 0, 4), (.cfgGid_valid, 0, 1), (.cfgGid_gid, 0, 0x500), (.fenCfg_en, 0, 1), (.fenWeight_wCw, 0, 10), (.fenCfg2_linkThr, 0, 250), (.fenPort_score, 0, 255), (.fenPort_score, 1, 100), (.corePortCfg_en, 0, 1),(.corePortCfg_en, 1, 1)]
def at_ (n : Nat) (s : State) : State := { s with tb := { s.tb with mono := n } }
def late (s : State) : State := at_ 5000000000 s
def i1 : State := {gidS with fen := {gidS.fen with own := [(3,100)]}}
def hp (w1 : Nat) (pl : List Byte) : State := { gidS with sw := { gidS.sw with localQ := [dl ({pkt0 with kind := 0x31, w1k := BitVec.ofNat 11 w1, sgid := 0x333}.withPayload pl) .own 0] }, fen := gidS.fen }
def d2 : Deliv := (tk ((hp 0 []).takeLocal 0 (fun r => r.pkt.kind == 0x31 && r.fn == .own)) (hp 0 [])).1
def u2 : State := (tk ((hp 0 []).takeLocal 0 (fun r => r.pkt.kind == 0x31 && r.fn == .own)) (hp 0 [])).2
def sp (s : State) (n g : Nat) : State := put s [(.fenSpine_gid, n, g), (.fenSpine_valid, n, 1)]
def i3 : State := sp (hp 2 (beBytes 4 (0x111 * 2^14) ++ beBytes 4 (0x222 * 2^14))) 5 0x333
def d4 : Deliv := (tk (i3.takeLocal 0 (fun r => r.pkt.kind == 0x31 && r.fn == .own)) i3).1
def u4 : State := (tk (i3.takeLocal 0 (fun r => r.pkt.kind == 0x31 && r.fn == .own)) i3).2
def i5 : State := sp (hp 1 (beBytes 4 (0x111 * 2^14))) 5 0x333
def i6 : State := {gidS with fen := {gidS.fen with rack := [(0x111, [(3,4,0),(5,6,0)])]}}
def i7 : State := at_ 100001000 {gidS with fen := {gidS.fen with window := [1000, 2000]}}
def i8 : State := at_ 100000999 {gidS with fen := {gidS.fen with window := [1000, 2000]}}
def fp (kind w1 w2 sg : Nat) (m : State → State := id) : State := m { gidS with sw := { gidS.sw with localQ := [dl ({pkt0 with kind := BitVec.ofNat 6 kind, w1k := BitVec.ofNat 11 w1, sgid := BitVec.ofNat 20 sg, w2 := BitVec.ofNat 64 w2}.withPayload []) .own 0] } }
def bud (s : State) : State := put s [(.fenCfg_budget, 0, 4)]
def i9 : State := bud (sp (fp 0x32 0 0x111 0x333) 5 0x333)
def d10 : Deliv := (tk (i9.takeLocal 0 (fun r => r.pkt.kind == 0x32 && r.fn == .own)) i9).1
def u10 : State := (tk (i9.takeLocal 0 (fun r => r.pkt.kind == 0x32 && r.fn == .own)) i9).2
def i11 : State := put (sp (fp 0x32 0 0x111 0x333) 5 0x333) [(.fenCfg_budget, 0, 0)] |> fun s => {s with fen := {s.fen with window := [7]}}
def d12 : Deliv := (tk (i11.takeLocal 0 (fun r => r.pkt.kind == 0x32 && r.fn == .own)) i11).1
def u12 : State := (tk (i11.takeLocal 0 (fun r => r.pkt.kind == 0x32 && r.fn == .own)) i11).2
def i13 : State := bud ((fp 0x33 64 0x111 0x111))
def d14 : Deliv := (tk (i13.takeLocal 0 (fun r => r.pkt.kind == 0x33 && r.fn == .own)) i13).1
def u14 : State := (tk (i13.takeLocal 0 (fun r => r.pkt.kind == 0x33 && r.fn == .own)) i13).2
def i15 : State := bud ((fp 0x32 0 0x111 0x333))
def d16 : Deliv := (tk (i15.takeLocal 0 (fun r => r.pkt.kind == 0x32 && r.fn == .own)) i15).1
def u16 : State := (tk (i15.takeLocal 0 (fun r => r.pkt.kind == 0x32 && r.fn == .own)) i15).2
def q (m : Fen → Fen) : State := { gidS with fen := m gidS.fen }
def i17 : State := q id
def i18 : State := q (fun f => {f with sit := [(0x111, 2)]})
def i19 : State := q (fun f => {f with sit := [(0x112, 2)]})
def i20 : State := q (fun f => {f with suspects := [(0x112, 2), (0x111, 2)]})
def i21 : State := put (q (fun f => {f with suspects := [(0x112, 2), (0x111, 2)]})) [(.fenStatus_storm, 0, 1)]
def i22 : State := put (q (fun f => {f with holds := [(0x112, 0), (0x111, 0)]})) [(.fenPort_score, 3, 1),(.fenPort_linkFence, 3, 1)]
def voted : State := match exec (.healthReceived 0) i5 with | .next t => t | _ => i5


def i23 : State := q (fun f => {f with holds := [(0x112, 0), (0x111, 0)]})
def vt (s : State) : Nat × Nat × Nat := (kget s.fen.votes (Nat.pair 5 273)).getD (0, 0, 0)

/-- Hypotheses of `ScoresAndVotes`, clause by clause, met. -/
theorem wit_ScoresAndVotes :
    (gidS.off = false ∧
      gidS.portOfLane 0 = some 0) ∧
    ((late i1).off = false ∧
      (late i1).passed (late i1).fen.recAt (late i1).recoverNs = true ∧
      (late i1).fen.own = [(3, 100)] ∧
      100 ≤ 255 ∧
      (late i1).inSitOut 3 = false ∧
      (late i1).isSuspect 3 = false) ∧
    ((late gidS).off = false ∧
      (late gidS).passed (late gidS).fen.recAt (late gidS).recoverNs = true ∧
      (late gidS).fen.own = []) ∧
    (i1.passed i1.fen.recAt i1.recoverNs = false) ∧
    ((late gidS).off = false ∧
      (late gidS).rd Fld.fenCfg_en 0 = 1 ∧
      (late gidS).passed (late gidS).fen.roundAt (late gidS).voteNs = true) ∧
    (gidS.off = false ∧
      gidS.rd Fld.fenCfg_en 0 = 1 ∧
      gidS.passed gidS.fen.roundAt gidS.voteNs = false) ∧
    (((hp 0 []).takeLocal 0 fun r => r.pkt.kind == 49 && r.fn == LocFn.own) = some (d2, u2) ∧
      (d2.pkt.w1k.toNat = 0 ∨ 1024 < d2.pkt.w1k.toNat ∨ d2.pkt.len.toNat ≠ 4 * d2.pkt.w1k.toNat) ∧
      (hp 0 []).off = false) ∧
    ((i3.takeLocal 0 fun r => r.pkt.kind == 49 && r.fn == LocFn.own) = some (d4, u4) ∧
      0 < d4.pkt.w1k.toNat ∧
      d4.pkt.w1k.toNat ≤ 1024 ∧
      d4.pkt.len.toNat = 4 * d4.pkt.w1k.toNat ∧
      u4.spineOf d4.pkt.sgid.toNat = some 5) ∧
    (kget (late voted).fen.votes (Nat.pair 5 273) = some (vt voted) ∧
      (late voted).passed (vt voted).2.2 (2 * (late voted).voteNs) = true) ∧
    (kget voted.fen.votes (Nat.pair 5 273) = some (vt voted) ∧
      voted.passed (vt voted).2.2 (2 * voted.voteNs) = false) ∧
    (kget (late i6).fen.rack 273 = some [(3, 4, 0), (5, 6, 0)] ∧
      reportOf 3 [(3, 4, 0), (5, 6, 0)] = some (3, 4, 0) ∧
      (late i6).passed 0 (late i6).rackAgeNs = true) ∧
    (kget i6.fen.rack 273 = some [(3, 4, 0), (5, 6, 0)] ∧
      reportOf 5 [(3, 4, 0), (5, 6, 0)] = some (5, 6, 0) ∧
      i6.passed 0 i6.rackAgeNs = false) ∧
    (i7.fen.window = [1000, 2000] ∧
      i7.passed 1000 100000000 = true) ∧
    (i8.fen.window = [1000, 2000] ∧
      i8.passed 1000 100000000 = false) := by
  (repeat' with_reducible apply And.intro) <;> decide +kernel

/-- Hypotheses of `SitOutAndReadmission`, clause by clause, met. -/
theorem wit_SitOutAndReadmission :
    (273 = bits d10.pkt.w2.toNat 0 18 ∧
      u10.rd Fld.fenCfg_en 0 = 1 ∧
      u10.isSelf 273 = false ∧
      u10.inSitOut 273 = false ∧
      u10.isSuspect 273 = false ∧
      u10.rd Fld.fenStatus_storm 0 = 0 ∧
      (i9.takeLocal 0 fun r => r.pkt.kind == 50 && r.fn == LocFn.own) = some (d10, u10) ∧
      (u10.spineOf d10.pkt.sgid.toNat).isSome = true ∧
      d10.pkt.status = 0 ∧
      u10.held 273 = false ∧
      u10.fenWindow.length + 1 ≤ u10.budget) ∧
    (273 = bits d12.pkt.w2.toNat 0 18 ∧
      u12.rd Fld.fenCfg_en 0 = 1 ∧
      u12.isSelf 273 = false ∧
      u12.inSitOut 273 = false ∧
      u12.isSuspect 273 = false ∧
      u12.rd Fld.fenStatus_storm 0 = 0 ∧
      (i11.takeLocal 0 fun r => r.pkt.kind == 50 && r.fn == LocFn.own) = some (d12, u12) ∧
      (u12.spineOf d12.pkt.sgid.toNat).isSome = true ∧
      d12.pkt.status = 0 ∧
      u12.held 273 = false ∧
      u12.budget < u12.fenWindow.length + 1 ∧
      u12.fen.suspects.length < 256) ∧
    (273 = bits d14.pkt.w2.toNat 0 18 ∧
      u14.rd Fld.fenCfg_en 0 = 1 ∧
      u14.isSelf 273 = false ∧
      u14.inSitOut 273 = false ∧
      u14.isSuspect 273 = false ∧
      u14.rd Fld.fenStatus_storm 0 = 0 ∧
      (i13.takeLocal 0 fun r => r.pkt.kind == 51 && r.fn == LocFn.own) = some (d14, u14) ∧
      bits d14.pkt.w1k.toNat 6 5 = 1 ∧
      273 = d14.pkt.sgid.toNat ∧
      u14.fenWindow.length + 1 ≤ u14.budget) ∧
    (i15.off = false ∧
      (i15.takeLocal 0 fun r => r.pkt.kind == 50 && r.fn == LocFn.own) = some (d16, u16) ∧
      u16.spineOf d16.pkt.sgid.toNat = none) ∧
    (i17.accepts Src.ctl0 Reg.fenGidCmd 0 = true) ∧
    (i17.accepts Src.ctl0 Reg.fenGidCmd 0 = true ∧
      (i17.ready Src.ctl0 Reg.fenGidCmd 0).isSelf 1280 = true) ∧
    (i18.accepts Src.ctl0 Reg.fenGidCmd 0 = true ∧
      (i18.ready Src.ctl0 Reg.fenGidCmd 0).isSelf 273 = false ∧
      (i18.ready Src.ctl0 Reg.fenGidCmd 0).inSitOut 273 = true) ∧
    (i19.accepts Src.ctl0 Reg.fenGidCmd 0 = true ∧
      (i19.ready Src.ctl0 Reg.fenGidCmd 0).isSelf 273 = false ∧
      (i19.ready Src.ctl0 Reg.fenGidCmd 0).inSitOut 273 = false) ∧
    (i20.accepts Src.ctl0 Reg.fenGidCmd 0 = true) ∧
    (i21.accepts Src.ctl0 Reg.fenCtrl 0 = true ∧
      (i21.ready Src.ctl0 Reg.fenCtrl 0).rd Fld.fenStatus_storm 0 = 1 ∧
      (∀ x ∈ (i21.ready Src.ctl0 Reg.fenCtrl 0).fen.suspects, (i21.ready Src.ctl0 Reg.fenCtrl 0).votesLow x.1 < (i21.ready Src.ctl0 Reg.fenCtrl 0).quorum)) ∧
    (List.find? (fun h => h.1 == 273) (late i23).fen.holds = some (273, 0) ∧
      (late i23).passed 0 (late i23).readmitNs = true) ∧
    (List.find? (fun h => h.1 == 273) i23.fen.holds = some (273, 0) ∧
      i23.passed 0 i23.readmitNs = false) ∧
    (i22.accepts Src.ctl0 Reg.fenPort 3 = true) := by
  (repeat' with_reducible apply And.intro) <;> decide +kernel

end Fencing

/-! Ill-formed commands, one for each check, and their well-formed neighbours. -/

namespace WellFormed

/-- Accesses that are not aligned, or hold more bits than the register has. -/
theorem test_wf_register_accesses :
    (Instr.registerWrite .fn0 0x102 false 0).wf = false ∧ (Instr.registerWrite .fn0 0x104 true 0).wf = false ∧
    (Instr.registerWrite .fn0 0x104 false 0x100000000).wf = false ∧ (Instr.registerWrite .fn0 0x104 false 0xFFFFFFFF).wf = true ∧
    (Instr.lowerHalfRead 0 ⟨0x102, false⟩).wf = false ∧ (Instr.lowerHalfRead 0 ⟨0x104, true⟩).wf = false ∧ (Instr.lowerHalfRead 0 ⟨0x104, false⟩).wf = true ∧
    (Instr.writeTakesEffect [0, 0]).wf = false ∧ (Instr.writeTakesEffect [1, 0]).wf = true ∧
    (Instr.cmdRegWrite 0 true 0 [⟨0x102, false, 0⟩]).wf = false ∧ (Instr.cmdRegWrite 0 true 0 [⟨0x104, false, 0⟩]).wf = true := by
  decide

/-- Packets and frames longer than their length fields, or empty. -/
theorem test_wf_packets :
    (Instr.packetHeaderReceived 3 { pkt0 with payload := List.replicate 8192 0 } none).wf = false ∧
    (Instr.packetHeaderReceived 3 pkt0 (some 5)).wf = true ∧
    (Instr.packetReceiveComplete 3 false 8192 true).wf = false ∧ (Instr.packetReceiveComplete 3 false 8191 true).wf = true ∧
    (Instr.ethFrameReceived 3 [] true).wf = false ∧ (Instr.ethFrameReceived 3 [1] true).wf = true := by decide +kernel

/-- Optical and module answers of the wrong size. -/
theorem test_wf_optics :
    (Instr.moduleReady 0 [⟨1, 3, 0⟩]).wf = false ∧ (Instr.moduleReady 0 [⟨1, 4, 0⟩]).wf = true ∧
    (Instr.oclFrame 0 ⟨true, 0, [1], 0, 0, 0⟩).wf = false ∧ (Instr.oclFrame 0 ⟨true, 0, List.replicate 16 1, 0, 0, 0⟩).wf = true ∧
    (Instr.calibrationEnd (List.replicate 33 1) ⟨none, none⟩ []).wf = false ∧
    (Instr.calibrationEnd [] ⟨none, none⟩ (List.replicate 5 (0, 1))).wf = false ∧
    (Instr.calibrationEnd [1, 2] ⟨some 0, none⟩ [(3, 1)]).wf = true := by decide

/-- Power, heat, BAR2, I3C and JTAG operands that cannot occur. -/
theorem test_wf_others :
    (Instr.arbiterInterval 0 0 0 []).wf = false ∧ (Instr.arbiterInterval 0 0 0 (List.replicate 64 0)).wf = true ∧
    (Instr.thermalTick []).wf = false ∧ (Instr.thermalTick (List.replicate 9 0)).wf = true ∧
    (Instr.bar2Write 0 0 []).wf = false ∧ (Instr.bar2Write 0 0 [1]).wf = true ∧
    (Instr.i3cBadCmd 1).wf = false ∧ (Instr.i3cBadCmd 5).wf = true ∧
    (Instr.i3cUnsupportedCcc 0x80).wf = false ∧ (Instr.i3cUnsupportedCcc 0x55).wf = true ∧
    (Instr.jtagInternal 0x7F).wf = false ∧ (Instr.jtagInternal 0x80).wf = true := by decide

end WellFormed

/-! The specification's own worked examples, with the values it gives. -/

namespace Examples

/-- The example of R12's section (file 00): bytes of the register value 0x8000_0005. -/
theorem test_register_bytes : leBytes 4 0x80000005 = [0x05, 0x00, 0x00, 0x80] := by decide

/-- The example of file 01: lane 300 lies on LB37 in region E, whose service block is core block 68. -/
theorem test_lane_300 : blockOfPort 300 = 37 ∧ regionOfBlock 37 = 4 ∧ regionOfBlock 68 = 4 := by decide

def write0 : Packet := { pkt0 with
  ver := 2, kind := 1, tc := 2, cm := 1, spray := true, last := true, echo := false, hops := 8, dgid := 0x2A51, sgid := 0x137,
  psn := 0x1F40, msgid := 0x42, len := 0x1000, w1k := 0x400, w2 := 0x4000000000, key := 0, ctx := 7, payload := [1, 2, 3] }

/-- The example of file 02: the words of the header, and Word 0 as the packet leaves, with the same ECRC. -/
theorem test_header_words :
    write0.word0 = 0x20538802A5100137 ∧ write0.word1 = 0x001F400042800400 ∧
    ({ write0 with hops := 7, cm := 3 } : Packet).word0 = 0x20578702A5100137 ∧
    ({ write0 with hops := 7, cm := 3 } : Packet).ecrcOf = write0.ecrcOf := ⟨by decide, by decide, by decide, rfl⟩

/-- The polynomials and initial values of R57 and R58 on the nine digits: their well-known check values. -/
theorem test_crc_checks :
    crc16 [0x31, 0x32, 0x33, 0x34, 0x35, 0x36, 0x37, 0x38, 0x39] = 0x29B1 ∧
    crc32c [0x31, 0x32, 0x33, 0x34, 0x35, 0x36, 0x37, 0x38, 0x39] = 0xE3069283 := by decide +kernel

/-- The example of file 04: link group 17 and the hash 0x9C3A_51E7, with three members and then with two. -/
theorem test_link_group_17 :
    (hashPick [(0, 4, 64), (1, 2, 72), (2, 2, 80)] (0x9C3A51E7 % 8)).map (·.2.2) = some 80 ∧
    (hashPick [(0, 4, 64), (2, 2, 80)] (0x9C3A51E7 % 6)).map (·.2.2) = some 64 := by decide

/-- The example of file 05: the age of a TC1 packet across the wrap of TIME_NS. -/
theorem test_age : span32 0xFFFFFF00 0x00000200 = 768 := by decide

/-- The example of file 07: a residence of 586 ns, and the correction with it added. -/
theorem test_residence :
    ({ live with tb := ⟨0x120, 0, true, 1000, 0, none⟩ } : State).residence 8 16 0xFFFFFF80 = 586 ∧
    correct 0x0C800000 586 = (0x0ECA0000, false) := by decide +kernel

/-- The example of file 06: the limit on STEP_LIMIT is a sixteenth of the cycle, 520,833 ns. -/
theorem test_step_limit :
    (put live [(.gateCycleCfg_cycleTime, 0, 8333333), (.gateCycleCfg_stepLimit, 0, 600000)]).stepLimit = 520833 ∧
    (put live [(.gateCycleCfg_cycleTime, 0, 8333333), (.gateCycleCfg_stepLimit, 0, 100000)]).stepLimit = 100000 := by decide +kernel

/-- The example of file 09: the weights of the TRN5 byte 0xB7. -/
theorem test_trn5_byte :
    (List.range 5).map (fun j => Elem.trn5.decode (rawAt [(0, 0xB7)] .trn5 0 j).1) =
      [Machine.Num.zero, .fin false 1 0, .fin true 1 0, Machine.Num.zero, .fin true 1 0] := by decide +kernel

/-- The example of file 09: an aligned BF16 group of 1 and 2^-24 + 2^-30 gives 1.0, where the exact sum would be one unit
higher. -/
theorem test_group_sum :
    f32 (groupSum true [.fin false 1 0, .fin false 65 (-30)]) = 0x3F800000 ∧
    f32 (groupSum false [.fin false 1 0, .fin false 65 (-30)]) = 0x3F800001 := by decide +kernel

/-- The example of file 09: 384 is exact in E4M3, 9.6 becomes 10, and 0.15 becomes 0 in FP4. -/
theorem test_conversions :
    (convert .e4m3 .satfinite false .rne (.fin false 384 0)).code = 0x7C ∧
    (convert .e4m3 .satfinite false .rne ((n32 0x3E99999A).scale 5)).code = 0x52 ∧
    (convert .e2m1 .satfinite false .rne ((n32 0x3E99999A).scale (-1))).code = 0 := by decide +kernel

def matmul : List Nat := [0x0200130001120001, 0x04800000, 0, 0x04802000, 0x0016180004801000, 0x04000000, 0x0000200040000001, 0]

/-- The example of file 10: the descriptor's fields, and its 128 tiles. -/
theorem test_matmul_example :
    dOp matmul = 1 ∧ dKind matmul = 0 ∧ dSigEn matmul = true ∧ (opA matmul).addr = 0x04800000 ∧ (opB matmul).rows = 16384 ∧
    (opB matmul).stride = 4096 ∧ (tilesOf matmul).length = 128 := by decide +kernel

/-- The example of file 11: SLOT_LOG2 5 makes slots of 8,192 bytes. -/
theorem test_gate_slot : seSlotSize (5 <<< 332) = 8192 := by decide +kernel

/-- The example of file 12: the counter 100 through the batch of four, the CAS failing. -/
theorem test_commons_batch :
    atomNew 0 100 [5] = 105 ∧ atomNew 0 105 [7] = 112 ∧ atomNew 1 112 [105, 0] = 112 ∧
    atomNew 0 112 [0xFFFFFFFFFFFFFFFE] = 110 := by decide

def load0 : Deliv := ⟨{ write0 with w2 := 0x0A94404000000000 }, none, 0, 0, .own, 0, 0⟩

/-- The example of file 13: the gateway offset of node offset 0x40_0000_0000 at GID 0x0_2A51. -/
theorem test_gateway_offset : load0.gwTarget = 0x2A51 ∧ load0.gwAddr = 0x4000000000 := by decide

/-- The example of file 16: 2,600 units among 64 requests of 42 are 40 grants of 41 from ptr onwards and 24 of 40. -/
theorem test_arbiter_division :
    divide (List.replicate 64 42) 2600 0 = List.replicate 40 41 ++ List.replicate 24 40 := by decide +kernel

/-- The example of file 17: the TC2 receive bytes of port 64 in the telemetry window. -/
theorem test_window_read :
    ({ live with tel := { live.tel with shadow := [(Nat.pair 0 1028, 0x0000012345679ABC)] } } : State).windowBytes 0 0x2020 8 =
      [0x00, 0x00, 0x01, 0x23, 0x45, 0x67, 0x9A, 0xBC] := by decide +kernel

def stepped : State := match exec (.timeStep .ctl0 0xFFFFF000) live with | .next t => t | _ => live

/-- A step of −4,096 ns takes TIME_NS of 1,000 below 0, where it wraps (R193). -/
theorem test_time_step : stepped.tb.ns = 0xFFFFF3E8 := by decide +kernel

/-- Group 0x40 of Table 18.8 is TIME_NS[15:0], once the debug port is enabled (R457). -/
theorem test_debug_word :
    (put live [(.dbgSel_group, 0, 0x40), (.secDbgCtrl_enable, 0, 1)]).debugWord = 1000 ∧
    (put live [(.dbgSel_group, 0, 0x40)]).debugWord = 0 := by decide +kernel

end Examples

end Sys2Proof.Tests
end

/-! Frames in the words of `OnlyParts`: what each shared update of the state touches. -/

namespace Sys2Proof.Proofs
open Sys2Proof Sys2Proof.Machine Sys2Proof.Laws

/-- Components that stay the same along two updates stay the same along both. -/
theorem onlyParts_trans {l : List Part} {s t u : State} (hst : OnlyParts l s t) (htu : OnlyParts l t u) : OnlyParts l s u := by
  obtain ⟨hst_pending, hst_parts⟩ := hst
  obtain ⟨htu_pending, htu_parts⟩ := htu
  refine ⟨htu_pending.trans hst_pending, fun p hp => ?_⟩
  have h₁ := hst_parts p hp
  have h₂ := htu_parts p hp
  cases p <;> exact Eq.trans h₂ h₁

/-- Settling changes no component that the effect left alone. -/
theorem onlyParts_settled {l : List Part} {s t : State} (h : OnlyParts l s t) : OnlyParts l s (s.settled t) := by
  refine ⟨rfl, fun p hp => ?_⟩
  have hsame := h.2 p hp
  cases p with
  | tb | i3c | jtag => rfl
  | _ => exact hsame

/-- An output changes `out` alone. -/
theorem onlyParts_emit {l : List Part} (hl : .out ∈ l) (s : State) (o : Output) : OnlyParts l s (s.emit o) := by
  refine ⟨rfl, fun p hp => ?_⟩
  cases p with
  | out => exact absurd hl hp
  | _ => rfl

/-- A change of the register access in progress changes `acc` alone. -/
theorem onlyParts_onAcc {l : List Part} (hl : .acc ∈ l) (s : State) (g : Acc → Acc) : OnlyParts l s (s.onAcc g) := by
  refine ⟨rfl, fun p hp => ?_⟩
  cases p with
  | acc => exact absurd hl hp
  | _ => rfl

/-- A store of a register field changes `regs` alone. -/
theorem onlyParts_wr {l : List Part} (hl : .regs ∈ l) (s : State) (f : Fld) (i v : Nat) : OnlyParts l s (s.wr f i v) := by
  refine ⟨rfl, fun p hp => ?_⟩
  cases p with
  | regs => exact absurd hl hp
  | _ => rfl

/-- A state settles on itself. -/
@[simp] theorem settled_self (s : State) : s.settled s = s := rfl

/-! The registers that the offsets of BAR0 name, as a read needs them. -/

/-- A register that is not indexed ends eight bytes after its base at the latest. -/
theorem placeIn_eq_none_of_past {r : Reg} {off : Nat} (hd : r.dims = []) (h : r.base + 8 ≤ off) : placeIn r off = none := by
  obtain ⟨k, rfl⟩ := Nat.exists_eq_add_of_le h
  have hrel : r.base + 8 + k - r.base = k + 8 := by omega
  simp [placeIn, hd, decodeDims, hrel]

/-- A register with one dimension ends after its last place. -/
theorem placeIn_eq_none_of_past_dim {r : Reg} {off : Nat} {d : Dim} (hd : r.dims = [d]) (h : d.count ≤ (off - r.base) / d.stride) :
    placeIn r off = none := by
  simp [placeIn, hd, decodeDims, Nat.not_lt.mpr h]

/-- An aligned offset of the CORE_LANE_STATUS range names the status of one lane. -/
theorem place?_coreLaneStatus (fn : Nat) {l : Nat} (hl : l < 512) :
    place? fn (Reg.coreLaneStatus.base + 4 * l) = some ⟨.coreLaneStatus, l, false⟩ := by
  have hlane : placeIn .coreLaneStatus (Reg.coreLaneStatus.base + 4 * l) = some ⟨.coreLaneStatus, l, false⟩ := by
    simp [placeIn, Reg.dims, decodeDims, hl]
  have hregion : placeIn .cfgRegionStatus (Reg.coreLaneStatus.base + 4 * l) = none :=
    placeIn_eq_none_of_past_dim rfl (by simp [Reg.base]; omega)
  have hbelow : ∀ r ∈ [Reg.cfgSync, .cfgFaultSummary, .corePktCtrl, .coreEthPcpMap, .coreLaneTest],
      placeIn r (Reg.coreLaneStatus.base + 4 * l) = none := by
    intro r hr
    obtain ⟨hdims, hend⟩ : r.dims = [] ∧ r.base + 8 ≤ Reg.coreLaneStatus.base := by
      revert r; decide
    exact placeIn_eq_none_of_past hdims (by omega)
  simp only [List.forall_mem_cons] at hbelow
  simp [place?, Reg.all, hlane, hregion, hbelow, Reg.perFn]

/-- The status of a lane is no 64-bit unit of BAR0. -/
theorem unitAt_coreLaneStatus (s : State) (fn : Nat) {l : Nat} (hl : l < 512) :
    (s.unitAt fn (Reg.coreLaneStatus.base + 4 * l)).1 = none := by
  have hend : Reg.coreLaneStatus.base + 4 * l < 0x230800 := by simp only [Reg.base]; omega
  have hbelow : ∀ b, 0x230800 ≤ b → ¬ b ≤ Reg.coreLaneStatus.base + 4 * l := fun b hb => by omega
  simp [State.unitAt, hbelow, place?_coreLaneStatus fn hl, Reg.is64]

/-- A 64-bit unit of BAR0 lies outside CORE_LANE_STATUS, so a read of it draws no measurement. -/
theorem drawSer_of_unit {s : State} {fn off : Nat} {u : Nat × Nat} (ha : off % 4 = 0) (hu : (s.unitAt fn off).1 = some u) :
    s.drawSer off = s := by
  by_cases hr : Reg.coreLaneStatus.base ≤ off ∧ (off - Reg.coreLaneStatus.base) / 4 < 512
  · obtain ⟨hbase, hlane⟩ := hr
    have hoff : Reg.coreLaneStatus.base + 4 * ((off - Reg.coreLaneStatus.base) / 4) = off := by
      simp only [Reg.base] at *; omega
    have hnone := unitAt_coreLaneStatus s fn hlane
    rw [hoff, hu] at hnone
    cases hnone
  · have hcond : (decide (Reg.coreLaneStatus.base ≤ off) && decide ((off - Reg.coreLaneStatus.base) / 4 < 512)) = false := by
      simpa using hr
    simp [State.drawSer, hcond]

/-- With no write in flight there is none to take effect before a read or a write. -/
theorem flush_of_inflight_nil {s : State} (h : s.acc.inflight = []) (src : Src) (blk : Nat) : s.flush src blk = s := by
  have hacc : { s.acc with inflight := [] } = s.acc := by rw [← h]
  simp [State.flush, h, hacc]

/-! Reads (R11). -/

/-- Where BAR0 is served the part is not off. -/
theorem off_of_served {s : State} {off : Nat} (h : s.served off = true) : s.off = false := by
  simp only [State.served, Bool.and_eq_true, Bool.not_eq_true'] at h
  exact h.1

/-- Before firmware runs BAR0 is served in the CFG_ and SEC_ blocks alone (R381). -/
theorem served_eq_false_of_no_firmware {s : State} {off : Nat} (hfw : s.fw = false) (h : cfgOrSec off = false) : s.served off = false := by
  simp [State.served, hfw, h]

/-- A read where BAR0 is not served gives 0 and changes nothing. -/
theorem read32_of_not_served {s : State} {off : Nat} (h : s.served off = false) (fn : Nat) : s.read32 fn off = (0, s) := by
  simp [State.read32, h]

section UnitReads
variable {s : State} {fn off base v : Nat}
variable (hserved : s.served off = true) (hidle : s.acc.inflight = []) (hunit : (s.unitAt fn off).1 = some (base, v))
include hserved hidle hunit

/-- R11: a 32-bit read of a lower half gives it and latches the upper half. -/
theorem read32_lower (ha : off % 4 = 0) (hlow : off = base) :
    s.read32 fn off =
      (v % 2 ^ 32, s.onAcc (fun a => { a with latched := kput a.latched (Nat.pair fn base) (v / 2 ^ 32) })) := by
  subst hlow
  simp [State.read32, hserved, flush_of_inflight_nil hidle, drawSer_of_unit ha hunit, hunit]

/-- R11: a 32-bit read of an upper half gives the half that is latched, and drops it. -/
theorem read32_upper (ha : off % 4 = 0) (hup : off ≠ base) {h : Nat} (hlatched : kget s.acc.latched (Nat.pair fn base) = some h) :
    s.read32 fn off = (h, s.onAcc (fun a => { a with latched := kdel a.latched (Nat.pair fn base) })) := by
  simp [State.read32, hserved, flush_of_inflight_nil hidle, drawSer_of_unit ha hunit, hunit, hup, hlatched]

/-- R11: a 64-bit read of a 64-bit unit gives it whole and latches nothing. -/
theorem read64_unit : s.read64 fn off = (v % 2 ^ 64, s) := by
  simp [State.read64, hserved, flush_of_inflight_nil hidle, hunit]

end UnitReads

/-- LOWER_HALF_READ of 32 bits in a part that is not off: what leaves the part is the data of `read32`. -/
theorem exec_lowerHalfRead32 {s : State} (fn : Fin 2) {off : BitVec 26} (hon : s.off = false) (ha : off.toNat % 4 = 0) :
    exec (.lowerHalfRead fn ⟨off, false⟩) s =
      .next (s.settled ((s.read32 fn off.toNat).2.emit (.readData fn (leBytes 4 (s.read32 fn off.toNat).1) false))) := by
  have hoff : off.toNat / 4 * 4 = off.toNat := by omega
  show execLowerHalfRead fn ⟨off, false⟩ s = _
  simp [execLowerHalfRead, settle, hon, hoff]

/-- LOWER_HALF_READ of 64 bits in a part that is not off: what leaves the part is the data of `read64`. -/
theorem exec_lowerHalfRead64 {s : State} (fn : Fin 2) {off : BitVec 26} (hon : s.off = false) (ha : off.toNat % 8 = 0) :
    exec (.lowerHalfRead fn ⟨off, true⟩) s =
      .next (s.settled ((s.read64 fn off.toNat).2.emit (.readData fn (leBytes 8 (s.read64 fn off.toNat).1) false))) := by
  have hoff : off.toNat / 8 * 8 = off.toNat := by omega
  show execLowerHalfRead fn ⟨off, true⟩ s = _
  simp [execLowerHalfRead, settle, hon, hoff]

/-! CFG_SYNC (R35). -/

/-- CFG_SYNC that is accepted acts on the state in which the source's earlier writes to its block have taken effect. -/
theorem exec_cfgSync_of_accepts {s : State} {src : Src} (h : s.accepts src .cfgSync 0 = true) :
    exec (.cfgSync src) s = .next (s.settled ((s.ready src .cfgSync 0).syncWrite src)) := by
  show execCfgSync src s = _
  simp [execCfgSync, settle, State.onWrite, State.ready, h]

/-- A wait that begins reads as 1 and has its source among those that wait. -/
theorem syncWrite_waits (s : State) (src : Src) : (s.syncWrite src).rd .cfgSync_sync 0 = 1 ∧ src ∈ (s.syncWrite src).acc.syncs := by
  have hwidth : Fld.width .cfgSync_sync = 1 := rfl
  constructor
  · simp only [State.syncWrite, rd_onAcc, rd_wr_same, hwidth, Nat.reducePow, Nat.one_mod]
  · simp only [State.syncWrite, onAcc_acc, List.mem_append, List.mem_singleton, or_true]

/-- CFG_SYNC_COMPLETE settles the end of the wait. -/
theorem exec_cfgSyncComplete (s : State) : exec .cfgSyncComplete s = .next (s.settled s.syncEnds) := rfl

/-- The wait ends once everything that it waits for has taken effect. -/
theorem syncEnds_of_synced {s : State} (h : s.acc.syncs.all s.synced = true) :
    s.syncEnds = (s.wr .cfgSync_sync 0 0).onAcc (fun a => { a with syncs := [] }) := by
  simp only [State.syncEnds, h, if_true]

/-- Until then nothing changes. -/
theorem syncEnds_of_not_synced {s : State} (h : s.acc.syncs.all s.synced = false) : s.syncEnds = s := by
  simp only [State.syncEnds, h, Bool.false_eq_true, if_false]

/-! The obligation. -/

/-- Settles O13: each clause is one rule above, of the reads by halves and whole, of the offsets not served, and of the start and
the end of a CFG_SYNC. -/
theorem readsLatchAndSyncsWait : Obligations.ReadsLatchAndSyncsWait := by
  refine ⟨?lower, ?upper, ?whole, ?unserved, ?syncBegins, ?syncEnds, ?syncWaits⟩
  case lower =>
    intro fn off base v s hserved ha hidle hunit hlow
    refine ⟨_, exec_lowerHalfRead32 fn (off_of_served hserved) ha, ?_⟩
    rw [read32_lower hserved hidle hunit ha hlow]
    exact ⟨rfl, kget_kput_same _ _ _, onlyParts_settled
      (onlyParts_trans (onlyParts_onAcc (by simp) _ _) (onlyParts_emit (by simp) _ _))⟩
  case upper =>
    intro fn off base v h s hserved ha hidle hunit hup hlatched
    refine ⟨_, exec_lowerHalfRead32 fn (off_of_served hserved) ha, ?_⟩
    rw [read32_upper hserved hidle hunit ha hup hlatched]
    exact ⟨rfl, kget_kdel_same _ _, onlyParts_settled
      (onlyParts_trans (onlyParts_onAcc (by simp) _ _) (onlyParts_emit (by simp) _ _))⟩
  case whole =>
    intro fn off base v s hserved ha hidle hunit
    refine ⟨_, exec_lowerHalfRead64 fn (off_of_served hserved) ha, ?_⟩
    rw [read64_unit hserved hidle hunit]
    exact ⟨rfl, onlyParts_settled (onlyParts_emit (by simp) _ _), rfl⟩
  case unserved =>
    intro fn off s hon hfw ha hblock
    refine ⟨_, exec_lowerHalfRead32 fn hon ha, ?_⟩
    rw [read32_of_not_served (served_eq_false_of_no_firmware hfw hblock)]
    have hzero : leBytes 4 0 = [0, 0, 0, 0] := by decide
    exact ⟨by simp [State.emit, hzero], onlyParts_settled (onlyParts_emit (by simp) _ _)⟩
  case syncBegins =>
    intro src s h
    exact ⟨_, exec_cfgSync_of_accepts h, syncWrite_waits _ src⟩
  case syncEnds =>
    intro s h
    refine ⟨_, exec_cfgSyncComplete s, ?_⟩
    rw [syncEnds_of_synced h]
    refine ⟨rd_wr_same s .cfgSync_sync 0 0, rfl, onlyParts_settled
      (onlyParts_trans (onlyParts_wr (by simp) _ _ _ _) (onlyParts_onAcc (by simp) _ _)), fun f i hf => ?_⟩
    exact rd_wr_other s 0 (.inl (by simpa using hf))
  case syncWaits =>
    intro s h
    refine ⟨_, exec_cfgSyncComplete s, ?_⟩
    rw [syncEnds_of_not_synced h, settled_self]

end Sys2Proof.Proofs

/-! Counters, fault records and host events: what each leaves in the telemetry. -/

namespace Sys2Proof.Proofs
open Sys2Proof Sys2Proof.Machine Sys2Proof.Laws

/-- Counting leaves the ring of fault records alone. -/
@[simp] theorem bumpN_ring (s : State) (g i n : Nat) : (s.bumpN g i n).tel.ring = s.tel.ring := by
  simp only [State.bumpN]
  repeat' split
  all_goals rfl

/-- The commit of one record to the flash log leaves the ring of fault records alone. -/
theorem commitOne_ring (s : State) : s.commitOne.tel.ring = s.tel.ring := by
  simp only [State.commitOne]
  split <;> rfl

/-- So does the commit of them all. -/
@[simp] theorem commitLog_ring (s : State) : s.commitLog.tel.ring = s.tel.ring := by
  simp only [State.commitLog]
  generalize s.tel.log.length = k
  induction k with
  | zero => rfl
  | succ k ih => exact (commitOne_ring _).trans ih

/-- The record that a fault makes in a state (R435). -/
def nextRecord (s : State) (code sev : Nat) (detail : List Nat) : FaultRec :=
  ⟨s.rd .telFaultSeq_seq 0 + 1, s.now, s.tel.epoch, code, sev, s.rd .cfgState_state 0, detail⟩

/-- R435: a fault record takes its place in the ring by SEQ modulo 1,024. -/
@[simp] theorem fault_ring (s : State) (code sev : Nat) (detail : List Nat) :
    (s.fault code sev detail).tel.ring =
      kput s.tel.ring ((s.rd .telFaultSeq_seq 0 + 1) % 1024) (nextRecord s code sev detail) := by
  simp only [State.fault, postEvent_tel, when_tel, commitLog_ring, apply_ite Tel.ring, ite_self]
  split
  · rfl
  · exact bumpN_ring _ _ _ _

/-- R435: SEQ counts the records. -/
theorem fault_seq (s : State) (code sev : Nat) (detail : List Nat) :
    (s.fault code sev detail).rd .telFaultSeq_seq 0 = (s.rd .telFaultSeq_seq 0 + 1) % 2 ^ 64 := by
  have hring : Fld.telFaultSeq_seq ∉ ringFields := by decide
  simp only [State.fault, rd_postEvent _ _ _ _ _ _ hring, rd_when, rd_commitLog _ _ (a := .telFaultSeq_seq) (by decide), ite_self]
  split
  · rw [rd_wr_other _ _ (.inl (by decide))]
    exact rd_wr_same _ _ _ _
  · rw [State.bumpChip, rd_bumpN _ _ _ _ _ (by decide)]
    exact rd_wr_same _ _ _ _

/-- A host event leaves every field but the event's own and those of the rings alone. -/
theorem rd_event_other (s : State) (r : Reg) {f g : Fld} (i b : Nat) (h : g ∉ f :: ringFields) (j : Nat) :
    (s.event r f i b).rd g j = s.rd g j := by
  rw [List.mem_cons, not_or] at h
  rw [State.event, rd_hostEvent _ _ _ _ h.2, rd_wr_other _ _ (.inl h.1)]

/-- A fault is recorded. -/
theorem recorded_fault (s : State) (code sev : Nat) (detail : List Nat) : Recorded code sev detail s (s.fault code sev detail) :=
  ⟨nextRecord s code sev detail, by rw [fault_ring, kget_kput_same], rfl, rfl, rfl, rfl⟩

/-- What a record says depends on SEQ before it and on the ring after it. -/
theorem recorded_congr {code sev : Nat} {detail : List Nat} {s s' t t' : State} (h : Recorded code sev detail s t)
    (hseq : s'.rd .telFaultSeq_seq 0 = s.rd .telFaultSeq_seq 0) (hring : t'.tel.ring = t.tel.ring) :
    Recorded code sev detail s' t' := by
  simpa only [Recorded, hseq, hring] using h

/-- The record made next takes another place in the ring. -/
theorem recorded_then_fault {code sev : Nat} {detail : List Nat} {s t : State} (h : Recorded code sev detail s t)
    (hseq : t.rd .telFaultSeq_seq 0 = (s.rd .telFaultSeq_seq 0 + 1) % 2 ^ 64) (code' sev' : Nat) (detail' : List Nat) :
    Recorded code sev detail s (t.fault code' sev' detail') := by
  obtain ⟨q, hget, hq⟩ := h
  refine ⟨q, ?_, hq⟩
  rw [fault_ring, kget_kput_other _ _ _ _ (by omega)]
  exact hget

/-! What the commands of links, packets and the gateway leave alone of the chip level. -/

/-- The register fields that say the device state and how it came about, and the count of fault records. -/
def chipFields : List Fld := [.cfgFaultSummary_chipFatal, .cfgState_state, .cfgState_safeCause, .telFaultSeq_seq]

/-- The chip level of the part, its firmware and its fault records are in `t` as in `s`. Each rule below takes the relation through
one more operation of the model. -/
structure ChipKept (s t : State) : Prop where
  chip : t.chip = s.chip
  fw : t.fw = s.fw
  ring : t.tel.ring = s.tel.ring
  rd : ∀ f ∈ chipFields, ∀ i, t.rd f i = s.rd f i

namespace ChipKept

@[simp] theorem refl (s : State) : ChipKept s s := ⟨rfl, rfl, rfl, fun _ _ _ => rfl⟩

variable {s t : State}

/-- Steps taken for the members of a list, each of which keeps the chip level. -/
theorem foldl {α : Type} {g : State → α → State} (h : ChipKept s t) (hg : ∀ t a, ChipKept s t → ChipKept s (g t a))
    (l : List α) : ChipKept s (l.foldl g t) := by
  induction l generalizing t with
  | nil => exact h
  | cons a l ih => exact ih (hg t a h)

/-- The same for steps that carry a second component along. -/
theorem foldl_fst {α β : Type} {g : State × β → α → State × β} {x : State × β} (h : ChipKept s x.1)
    (hg : ∀ x a, ChipKept s x.1 → ChipKept s (g x a).1) (l : List α) : ChipKept s (l.foldl g x).1 := by
  induction l generalizing x with
  | nil => exact h
  | cons a l ih => exact ih (hg x a h)

theorem when {g : State → State} (h : ChipKept s t) (hg : ChipKept s (g t)) (c : Bool) : ChipKept s (t.when c g) := by
  cases c
  · exact h
  · exact hg

/-! The updates of the state. -/

theorem wr (h : ChipKept s t) {f : Fld} (i v : Nat) (hf : f ∉ chipFields := by decide) : ChipKept s (t.wr f i v) :=
  ⟨h.chip, h.fw, h.ring, fun g hg j => (rd_wr_other t v (.inl (ne_of_mem_of_not_mem hg hf))).trans (h.rd g hg j)⟩

@[simp] theorem emit (h : ChipKept s t) (o : Output) : ChipKept s (t.emit o) := ⟨h.chip, h.fw, h.ring, h.rd⟩
@[simp] theorem free (h : ChipKept s t) (tag n : Nat) : ChipKept s (t.free tag n).2 := ⟨h.chip, h.fw, h.ring, h.rd⟩
@[simp] theorem onSw (h : ChipKept s t) (g : Sw → Sw) : ChipKept s (t.onSw g) := ⟨h.chip, h.fw, h.ring, h.rd⟩
@[simp] theorem onGw (h : ChipKept s t) (g : Gw → Gw) : ChipKept s (t.onGw g) := ⟨h.chip, h.fw, h.ring, h.rd⟩
@[simp] theorem onOpt (h : ChipKept s t) (g : Opt → Opt) : ChipKept s (t.onOpt g) := ⟨h.chip, h.fw, h.ring, h.rd⟩
@[simp] theorem onGate (h : ChipKept s t) (g : Gate → Gate) : ChipKept s (t.onGate g) := ⟨h.chip, h.fw, h.ring, h.rd⟩
@[simp] theorem setPst (h : ChipKept s t) (n : Nat) (g : PortSt → PortSt) : ChipKept s (t.setPst n g) :=
  ⟨h.chip, h.fw, h.ring, h.rd⟩

@[simp] theorem bumpN (h : ChipKept s t) (g i n : Nat) : ChipKept s (t.bumpN g i n) := by
  have hwrap : ∀ f ∈ chipFields, f ∉ [Fld.telWrap_wrap] := by decide
  exact ⟨(bumpN_chip ..).trans h.chip, (bumpN_fw ..).trans h.fw, (bumpN_ring ..).trans h.ring,
    fun f hf j => (rd_bumpN t g i n j (hwrap f hf)).trans (h.rd f hf j)⟩

@[simp] theorem bumpPort (h : ChipKept s t) (n : Nat) (e : PortEv) : ChipKept s (t.bumpPort n e) := h.when (h.bumpN ..) _
@[simp] theorem bumpCore (h : ChipKept s t) (k c : Nat) (e : CoreEv) (n : Nat) : ChipKept s (t.bumpCore k c e n) := h.bumpN ..
@[simp] theorem bumpTab (h : ChipKept s t) (e : TabEv) (n : Nat) : ChipKept s (t.bumpTab e n) := h.bumpN ..
@[simp] theorem bumpGw (h : ChipKept s t) (k : Nat) (e : GwEv) : ChipKept s (t.bumpGw k e) := h.bumpN ..

/-- A host event whose own bit is no field of the chip level. -/
theorem event (h : ChipKept s t) (r : Reg) {f : Fld} (i b : Nat) (hf : f ∉ chipFields := by decide) :
    ChipKept s (t.event r f i b) := by
  have hring : ∀ g ∈ chipFields, g ∉ ringFields := by decide
  refine ⟨(event_chip ..).trans h.chip, (event_fw ..).trans h.fw, (congrArg Tel.ring (event_tel ..)).trans h.ring, fun g hg j => ?_⟩
  have hother : g ∉ f :: ringFields := by
    simpa using ⟨ne_of_mem_of_not_mem hg hf, by simpa using hring g hg⟩
  exact (rd_event_other t r i b hother j).trans (h.rd g hg j)

theorem raiseIbi (h : ChipKept s t) (c : Nat) : ChipKept s (t.raiseIbi c) :=
  ⟨(raiseIbi_chip ..).trans h.chip, (raiseIbi_fw ..).trans h.fw, (congrArg Tel.ring (raiseIbi_tel ..)).trans h.ring,
    fun f hf j => (rd_raiseIbi ..).trans (h.rd f hf j)⟩

theorem pin (h : ChipKept s t) (name : String) (level : Bool) : ChipKept s (t.pin name level) :=
  ⟨(pin_chip ..).trans h.chip, (pin_fw ..).trans h.fw, (congrArg Tel.ring (pin_tel ..)).trans h.ring,
    fun f hf j => (rd_pin ..).trans (h.rd f hf j)⟩

/-! The switch core. -/

theorem poolAdd (h : ChipKept s t) (k n : Nat) : ChipKept s (t.poolAdd k n) := h.wr ..
theorem poolSub (h : ChipKept s t) (k n : Nat) : ChipKept s (t.poolSub k n) := h.wr ..
theorem egFree (h : ChipKept s t) (d c n : Nat) : ChipKept s (t.egFree d c n) := h.when (h.poolAdd ..) _

theorem gc (h : ChipKept s t) (pid : Nat) : ChipKept s (t.gc pid) := by
  simp only [State.gc]
  split
  · exact h
  · exact h.onSw _

theorem onPkt (h : ChipKept s t) (pid : Nat) (g : Pkt → Pkt) : ChipKept s (t.onPkt pid g) := by
  simp only [State.onPkt]
  split
  · exact h.onSw _
  · exact h

theorem setFlow (h : ChipKept s t) (key : Nat) (f : Flow) : ChipKept s (t.setFlow key f) := h.onSw _

theorem gapJudge (h : ChipKept s t) (key : Nat) : ChipKept s (t.gapJudge key) := by
  simp only [State.gapJudge]
  split
  · exact h.setFlow ..
  · exact h.setFlow ..
  · exact h

theorem setStop (h : ChipKept s t) (d c : Nat) (on : Bool) : ChipKept s (t.setStop d c on) :=
  (h.onSw _).foldl (fun _ key h => h.gapJudge key) _

theorem updStop (h : ChipKept s t) (d c : Nat) : ChipKept s (t.updStop d c) := by
  simp only [State.updStop]
  repeat' split
  · exact h
  · exact h.setStop d c true
  · exact h.setStop d c false
  · exact h

theorem updStops (h : ChipKept s t) (k : Nat) : ChipKept s (t.updStops k) :=
  h.foldl (fun _ d h => h.foldl (fun _ c h => h.updStop d c) _) _

theorem copyDone (h : ChipKept s t) (pid d c : Nat) : ChipKept s (t.copyDone pid d c) := by
  simp only [State.copyDone]
  repeat' split
  · exact h
  · exact ((h.onSw _).egFree ..).gc pid
  · exact (h.onSw _).egFree ..
  · exact h

theorem endTx (h : ChipKept s t) (n key : Nat) (x : Tx) : ChipKept s (t.endTx n key x) := by
  have hsw := h.onSw (fun w => { w with tx := kdel w.tx key })
  exact ((hsw.when (hsw.wr ..) _).copyDone ..).updStops _

theorem enqueue (h : ChipKept s t) (p : Pkt) : ChipKept s (t.enqueue p) := by
  simp only [State.enqueue, State.setVoq]
  exact (h.onSw _).onSw _

theorem spillPacket (h : ChipKept s t) (p : Pkt) : ChipKept s (t.spillPacket p).1 := by
  simp only [State.spillPacket]
  split
  · exact (h.free ..).bumpCore ..
  · exact (((h.free ..).onSw _).wr ..).enqueue _

theorem admitPkt (h : ChipKept s t) (p : Pkt) : ChipKept s (t.admitPkt p).1 := by
  simp only [State.admitPkt]
  repeat' split
  · exact h.spillPacket p
  · dsimp only
    exact (((h.onSw _).poolSub ..).enqueue _).updStops _
  · dsimp only
    exact ((h.poolSub ..).enqueue _).updStops _
  · exact h.spillPacket p
  · exact h.bumpCore ..

theorem segIn (h : ChipKept s t) (pid n : Nat) : ChipKept s (t.segIn pid n) := by
  simp only [State.segIn]
  exact (h.onPkt ..).onSw _

theorem admitWhole (h : ChipKept s t) (p : Pkt) : ChipKept s (t.admitWhole p) := by
  have hadmit := h.admitPkt { p with whole := true }
  simp only [State.admitWhole]
  split
  · next heq =>
    rw [heq] at hadmit
    exact hadmit.segIn ..
  · next heq =>
    rw [heq] at hadmit
    exact hadmit

/-! Packets that the part originates. -/

theorem puntRefresh (h : ChipKept s t) : ChipKept s t.puntRefresh := by
  simp only [State.puntRefresh]
  exact h.onSw _

theorem puntToken (h : ChipKept s t) : ChipKept s t.puntToken.1 := by
  simp only [State.puntToken]
  repeat' split
  all_goals simp [h.puntRefresh]

theorem injectAt (h : ChipKept s t) (k : Nat) (b : Body) (cls : Nat) (v : Verdict) (puntPort itime : Nat) :
    ChipKept s (t.injectAt k b cls v puntPort itime) := by
  simp only [State.injectAt]
  split
  · exact h
  · split
    · split
      · exact h.puntToken.admitWhole _
      · exact h.puntToken
    · exact h.admitWhole _

theorem bumpIn (h : ChipKept s t) (port : Option Nat) (e : PortEv) : ChipKept s (t.bumpIn port e) := by
  cases port with
  | none => exact h
  | some n => exact h.bumpPort n e

theorem pickMember (h : ChipKept s t) (g blk c : Nat) (spray : Bool) (input : List Byte) (ms : List (Nat × Nat × Nat)) :
    ChipKept s (t.pickMember g blk c spray input ms).1 := by
  have hspray : ∀ x, ChipKept s { t with tab := { t.tab with spray := x } } := fun _ => ⟨h.chip, h.fw, h.ring, h.rd⟩
  simp only [State.pickMember]
  repeat' split
  all_goals simp [h, hspray]

theorem toGroup (h : ChipKept s t) (k blk c g : Nat) (eth spray : Bool) (input : List Byte) :
    ChipKept s (t.toGroup k blk c g eth spray input).1 := by
  simp only [State.toGroup]
  repeat' split
  all_goals simp [h, pickMember]

theorem dtAction (h : ChipKept s t) (k blk : Nat) (port : Option Nat) (p : Packet) : ChipKept s (t.dtAction k blk port p).1 := by
  simp only [State.dtAction]
  repeat' split
  all_goals simp [h, toGroup, bumpIn]

theorem lookup (h : ChipKept s t) (k blk : Nat) (port : Option Nat) (p : Packet) : ChipKept s (t.lookup k blk port p).1 := by
  simp only [State.lookup]
  repeat' split
  all_goals simp [h, dtAction, bumpIn]

theorem originate (h : ChipKept s t) (k : Nat) (p : Packet) : ChipKept s (t.originate k p) := by
  simp only [State.originate]
  split
  · exact h
  · exact (h.lookup ..).injectAt ..

/-! The gateway. -/

theorem gwSend (h : ChipKept s t) (r : GwReq) : ChipKept s (t.gwSend r) := by
  simp only [State.gwSend]
  exact ((h.onGw _).when ((h.onGw _).bumpGw ..) _).originate ..

theorem gwRelease (h : ChipKept s t) (k : Nat) : ChipKept s (t.gwRelease k) := by
  refine foldl_fst (x := (t, [])) h (fun x r hx => ?_) _
  dsimp only
  split
  · exact hx.gwSend r
  · exact hx

theorem gwFlushIf (h : ChipKept s t) (p : GwBuf → Bool) : ChipKept s (t.gwFlushIf p) :=
  h.foldl (fun _ _ h => ((h.onGw _).onGw _).gwRelease _) _

/-! Ports and rings. -/

theorem linkAbort (h : ChipKept s t) (n : Nat) : ChipKept s (t.linkAbort n) := by
  refine h.foldl (fun t key h => ?_) _
  split
  · exact ((h.emit _).bumpPort ..).endTx ..
  · exact h

theorem heat (h : ChipKept s t) (key code : Nat) : ChipKept s (t.heat key code) := by
  have hcode := h.wr (f := .optRingStatus_heater) key code
  exact (hcode.when (hcode.wr ..) _).emit _

theorem setLock (h : ChipKept s t) (key : Nat) (b : Bool) : ChipKept s (t.setLock key b) :=
  (h.wr ..).wr (hf := by split <;> decide) ..

theorem calOver (h : ChipKept s t) : ChipKept s t.calOver := (h.onOpt _).wr ..

theorem restoreRings (h : ChipKept s t) (n : Nat) : ChipKept s (t.restoreRings n) :=
  h.foldl (fun _ _ h => ((((h.onOpt _).wr ..).heat ..).setLock ..).wr ..) _

theorem calDrop (h : ChipKept s t) (n : Nat) : ChipKept s (t.calDrop n) := by
  simp only [State.calDrop]
  repeat' split
  · exact (h.restoreRings n).calOver
  · exact h.calOver
  · exact h

theorem failReason (h : ChipKept s t) (n : Nat) (reason : Option Nat) : ChipKept s (t.failReason n reason) := by
  cases reason with
  | none => exact h
  | some r => exact h.wr ..

theorem fixBuckets (h : ChipKept s t) (n : Nat) : ChipKept s (t.fixBuckets n) := h.foldl (fun _ _ h => h.onSw _) _

theorem showLanes (h : ChipKept s t) (n : Nat) : ChipKept s (t.showLanes n) := h.wr ..

theorem setPort (h : ChipKept s t) (n st : Nat) : ChipKept s (t.setPort n st) := by
  have hstate := h.wr (f := .corePortStatus_state) n st
  simp only [State.setPort]
  split
  · exact h.showLanes n
  · exact ((hstate.when (hstate.wr ..) _).showLanes n).event ..

/-- Lanes that lose their signal, as those of a port that goes down. -/
theorem lanesLost (h : ChipKept s t) (l : List Nat) :
    ChipKept s (l.foldl (fun s l => ((s.wr .coreLaneStatus_sigDet l 0).wr .coreLaneStatus_cdrLock l 0).wr .coreLaneStatus_fecLock l 0) t) :=
  h.foldl (fun _ _ h => ((h.wr ..).wr ..).wr ..) l

theorem goDown (h : ChipKept s t) (n : Nat) (reason : Option Nat) : ChipKept s (t.goDown n reason) := by
  simp only [State.goDown, State.abortIfLinked]
  exact (((((((h.when (h.linkAbort n) _).calDrop n).setPst ..).lanesLost _).failReason ..).fixBuckets n).wr ..).setPort n 0

theorem darken (h : ChipKept s t) (n : Nat) : ChipKept s (t.darken n) := (h.goDown n none).setPst ..

theorem syncLow (h : ChipKept s t) : ChipKept s t.syncLow := by
  simp only [State.syncLow]
  split
  · exact (h.onGate _).pin ..
  · exact h

end ChipKept

/-! The device state (R377, R378, R394). -/

/-- The chip level is as it was but for one fault record, where one was made. -/
def OneRecordMore (s t : State) : Prop :=
  ChipKept s t ∨ ∃ u code sev detail, ChipKept s u ∧ ChipKept (u.fault code sev detail) t

namespace OneRecordMore

variable {s t : State}

theorem chip (h : OneRecordMore s t) : t.chip = s.chip := by
  obtain h | ⟨u, code, sev, detail, hsu, hut⟩ := h
  · exact h.chip
  · rw [hut.chip, fault_chip, hsu.chip]

theorem fw (h : OneRecordMore s t) : t.fw = s.fw := by
  obtain h | ⟨u, code, sev, detail, hsu, hut⟩ := h
  · exact h.fw
  · rw [hut.fw, fault_fw, hsu.fw]

/-- Only SEQ among the fields of the chip level counts the record. -/
theorem rd (h : OneRecordMore s t) {f : Fld} (hf : f ∈ chipFields) (hseq : f ≠ .telFaultSeq_seq) (i : Nat) : t.rd f i = s.rd f i := by
  have hfault : ∀ f ∈ chipFields, f ≠ .telFaultSeq_seq → f ∉ faultFields := by decide
  obtain h | ⟨u, code, sev, detail, hsu, hut⟩ := h
  · exact h.rd f hf i
  · rw [hut.rd f hf, rd_fault _ _ _ _ _ (hfault f hf hseq), hsu.rd f hf]

/-- The record made last before is still in the ring. -/
theorem recorded (h : OneRecordMore s t) {r : State} {code sev : Nat} {detail : List Nat} (hrec : Recorded code sev detail r s)
    (hseq : s.rd .telFaultSeq_seq 0 = (r.rd .telFaultSeq_seq 0 + 1) % 2 ^ 64) : Recorded code sev detail r t := by
  have hmem : Fld.telFaultSeq_seq ∈ chipFields := by decide
  obtain h | ⟨u, code', sev', detail', hsu, hut⟩ := h
  · exact recorded_congr hrec rfl h.ring
  · have hthen := recorded_then_fault (recorded_congr hrec rfl hsu.ring) ((hsu.rd _ hmem 0).trans hseq) code' sev' detail'
    exact recorded_congr hthen rfl hut.ring

end OneRecordMore

/-- A change of the gateway's mode is recorded; the mode that stays makes no record. -/
theorem setGwMode_oneRecordMore {s t : State} (h : ChipKept s t) (mode : Nat) : OneRecordMore s (t.setGwMode mode) := by
  simp only [State.setGwMode]
  split
  · exact .inl h
  · have hshown := (h.wr (f := .gwMode_mode) 0 mode).event .gwMode (f := .gwMode_modeEvent) 0 0
    exact .inr ⟨_, 0x0042, 0, [t.rd .gwMode_mode 0, mode], hshown, (ChipKept.refl _).when ((ChipKept.refl _).gwFlushIf _) _⟩

/-- A new device state is stored; beyond that the chip level keeps what it had. -/
theorem setDevState_oneRecordMore {s : State} {st : Nat} (h : s.devState ≠ st) :
    OneRecordMore (s.wr .cfgState_state 0 st) (s.setDevState st) := by
  have hshown := ((ChipKept.refl (s.wr .cfgState_state 0 st)).event .cfgState (f := .cfgState_stateEvent) 0 0).raiseIbi 4
  have hlow : ∀ t, OneRecordMore (s.wr .cfgState_state 0 st) t →
      OneRecordMore (s.wr .cfgState_state 0 st) (t.when (st != 4 && st != 5) (fun t => t.syncLow)) := by
    rintro t (ht | ⟨u, code, sev, detail, hu, ht⟩)
    · exact .inl (ht.when ht.syncLow _)
    · exact .inr ⟨u, code, sev, detail, hu, ht.when ht.syncLow _⟩
  simp only [State.setDevState, h, if_false]
  refine hlow _ ?_
  generalize hc : (!gwStateOk _ st) = c
  cases c
  · rw [when_false]
    exact .inl hshown
  · rw [when_true]
    exact setGwMode_oneRecordMore hshown 0

/-- R394: on the way into SAFE the ports go down, then the cause and the state are stored. -/
theorem enterSafe_oneRecordMore {s : State} (cause : Nat) (h : s.devState ≠ 6) :
    ∃ u, ChipKept s u ∧ OneRecordMore ((u.wr .cfgState_safeCause 0 cause).wr .cfgState_state 0 6) (s.enterSafe cause) := by
  have hdark := (ChipKept.refl s).foldl (fun _ n h => h.darken n) s.enabledPorts
  refine ⟨_, hdark, setDevState_oneRecordMore ?_⟩
  have hstate : (s.enabledPorts.foldl State.darken s).devState = s.devState := hdark.rd _ (by decide) 0
  rwa [State.devState, rd_wr_other _ _ (.inl (by decide)), ← State.devState, hstate]

/-! Fatal errors (R36, R419). -/

/-- What a fatal error leaves: it is shown and recorded, and a part that was in CONFIG, JOIN, RUN or DEGRADED is in SAFE. -/
structure FatalShown (cause : Nat) (s t : State) : Prop where
  chip : t.chip = s.chip
  fw : cause = 0 → t.fw = false
  shown : t.rd .cfgFaultSummary_chipFatal 0 = 1
  safe : 2 ≤ s.devState → s.devState ≤ 5 → t.devState = 6 ∧ t.rd .cfgState_safeCause 0 = 3
  recorded : Recorded 0x0005 3 [cause] s t

/-- A fatal error as the part shows it before it enters SAFE. -/
def fatalPart (s : State) (cause : Nat) : State :=
  (((s.wr .cfgFaultSummary_chipFatal 0 1).fault 0x0005 3 [cause]).raiseIbi 1).when (cause == 0) (fun t => { t with fw := false })

/-- A fatal error is shown, and then the part enters SAFE from CONFIG, JOIN, RUN or DEGRADED. -/
theorem chipFatal_eq {s : State} (hon : s.off = false) (cause : Nat) :
    s.chipFatal cause =
      (fatalPart s cause).when (decide (2 ≤ (fatalPart s cause).devState) && decide ((fatalPart s cause).devState ≤ 5))
        (fun t => t.enterSafe 3) := by
  simp only [State.chipFatal, hon, Bool.false_eq_true, if_false]
  rfl

/-- Firmware apart, a fatal error changes CHIP_FATAL and the fault records. -/
theorem rd_fatalPart (s : State) (cause : Nat) (f : Fld) (i : Nat) :
    (fatalPart s cause).rd f i = ((s.wr .cfgFaultSummary_chipFatal 0 1).fault 0x0005 3 [cause]).rd f i := by
  have hfw : ∀ t : State, ({ t with fw := false } : State).rd f i = t.rd f i := fun _ => rfl
  simp only [fatalPart, rd_when, hfw, rd_raiseIbi, ite_self]

theorem fatalPart_devState (s : State) (cause : Nat) : (fatalPart s cause).devState = s.devState := by
  rw [State.devState, rd_fatalPart, rd_fault _ _ _ _ _ (by decide), rd_wr_other _ _ (.inl (by decide)), State.devState]

theorem fatalPart_shown (s : State) (cause : Nat) : (fatalPart s cause).rd .cfgFaultSummary_chipFatal 0 = 1 := by
  rw [rd_fatalPart, rd_fault _ _ _ _ _ (by decide), rd_wr_same]
  rfl

theorem fatalPart_seq (s : State) (cause : Nat) :
    (fatalPart s cause).rd .telFaultSeq_seq 0 = (s.rd .telFaultSeq_seq 0 + 1) % 2 ^ 64 := by
  rw [rd_fatalPart, fault_seq, rd_wr_other _ _ (.inl (by decide))]

theorem fatalPart_recorded (s : State) (cause : Nat) : Recorded 0x0005 3 [cause] s (fatalPart s cause) := by
  refine recorded_congr (recorded_fault (s.wr .cfgFaultSummary_chipFatal 0 1) 0x0005 3 [cause]) ?_ ?_
  · exact (rd_wr_other _ _ (.inl (by decide))).symm
  · simp only [fatalPart, when_tel, raiseIbi_tel, ite_self]

theorem fatalPart_chip (s : State) (cause : Nat) : (fatalPart s cause).chip = s.chip := by
  simp only [fatalPart, when_chip, raiseIbi_chip, fault_chip, wr_chip, ite_self]

theorem fatalPart_fw (s : State) {cause : Nat} (h : cause = 0) : (fatalPart s cause).fw = false := by
  subst h
  rfl

/-- R36, R378: a fatal error of a part that is not off. -/
theorem chipFatal_shown {s : State} (hon : s.off = false) (cause : Nat) : FatalShown cause s (s.chipFatal cause) := by
  rw [chipFatal_eq hon, fatalPart_devState]
  by_cases hrange : 2 ≤ s.devState ∧ s.devState ≤ 5
  · obtain ⟨u, hu, hsafe⟩ := enterSafe_oneRecordMore (s := fatalPart s cause) 3 (by rw [fatalPart_devState]; omega)
    have hafter : ∀ f ∈ chipFields, f ≠ .telFaultSeq_seq → ((fatalPart s cause).enterSafe 3).rd f 0 =
        ((u.wr .cfgState_safeCause 0 3).wr .cfgState_state 0 6).rd f 0 := fun f hf hseq => hsafe.rd hf hseq 0
    have hseq := (hu.rd .telFaultSeq_seq (by decide) 0).trans (fatalPart_seq s cause)
    have hcond : (decide (2 ≤ s.devState) && decide (s.devState ≤ 5)) = true := by simpa using hrange
    rw [hcond, when_true]
    refine ⟨?_, fun h0 => ?_, ?_, fun _ _ => ⟨?_, ?_⟩, ?_⟩
    · rw [hsafe.chip, wr_chip, wr_chip, hu.chip, fatalPart_chip]
    · rw [hsafe.fw, wr_fw, wr_fw, hu.fw, fatalPart_fw s h0]
    · rw [hafter _ (by decide) (by decide), rd_wr_other _ _ (.inl (by decide)), rd_wr_other _ _ (.inl (by decide)),
        hu.rd _ (by decide), fatalPart_shown]
    · rw [State.devState, hafter _ (by decide) (by decide), rd_wr_same]
      rfl
    · rw [hafter _ (by decide) (by decide), rd_wr_other _ _ (.inl (by decide)), rd_wr_same]
      rfl
    · refine hsafe.recorded (recorded_congr (fatalPart_recorded s cause) rfl hu.ring) ?_
      rw [rd_wr_other _ _ (.inl (by decide)), rd_wr_other _ _ (.inl (by decide)), hseq]
  · have hcond : (decide (2 ≤ s.devState) && decide (s.devState ≤ 5)) = false := by
      rw [← Bool.not_eq_true]
      simpa using hrange
    rw [hcond, when_false]
    exact ⟨fatalPart_chip s cause, fatalPart_fw s, fatalPart_shown s cause, fun h2 h5 => absurd ⟨h2, h5⟩ hrange,
      fatalPart_recorded s cause⟩

/-- What is shown of a fatal error stands in the state that the command settles. -/
theorem FatalShown.settled {cause : Nat} {s t : State} (h : FatalShown cause s t) : FatalShown cause s (s.settled t) :=
  ⟨h.chip, h.fw, h.shown, h.safe, recorded_congr h.recorded rfl rfl⟩

/-- R419: a sensor that trips is a fatal error of a part whose trip is remembered. -/
theorem trip_eq {s : State} (hon : s.off = false) (hcold : s.chip.tripped = false) :
    s.trip = ((s.onChip (fun c => { c with tripped := true })).pin "THERMTRIP_N" false).chipFatal 5 := by
  simp [State.trip, hon, hcold]

/-- R20: the failure of the second management core is a fatal error that stops firmware. -/
theorem ctlFails_second {s : State} {core other : Nat} (hon : s.off = false) (hdead : s.chip.ctlDead = some other) (hne : core ≠ other) :
    s.ctlFails core = s.chipFatal 0 := by
  simp [State.ctlFails, hon, hdead, hne.symm]

/-- Settles O22: a fatal error, a trip and the loss of the second management core are one operation of the part, and what it leaves
stands through the ports that go down and the gateway's last writes on the way into SAFE. -/
theorem fatalErrorEntersSafe : Obligations.FatalErrorEntersSafe := by
  refine ⟨?fatal, ?trip, ?failover⟩
  case fatal =>
    intro cause s hon
    have hshown := (chipFatal_shown hon cause.val).settled
    exact ⟨_, rfl, hshown.shown, hshown.safe, hshown.recorded⟩
  case trip =>
    intro sensor s hon hcold
    have hshown := chipFatal_shown (s := (s.onChip (fun c => { c with tripped := true })).pin "THERMTRIP_N" false) (by simpa using hon) 5
    refine ⟨s.settled s.trip, rfl, ?_⟩
    rw [trip_eq hon hcold]
    refine ⟨?_, hshown.shown, fun h2 h5 => ?_⟩
    · rw [settled_chip, hshown.chip, pin_chip, onChip_chip]
    · have hstate : ((s.onChip (fun c => { c with tripped := true })).pin "THERMTRIP_N" false).devState = s.devState := by
        rw [State.devState, rd_pin, rd_onChip, State.devState]
      exact (hshown.safe (by rwa [hstate]) (by rwa [hstate])).1
  case failover =>
    intro core other s hon hdead hne
    have hshown := (chipFatal_shown hon 0).settled
    refine ⟨s.settled (s.ctlFails core), rfl, ?_⟩
    rw [ctlFails_second hon hdead (fun h => hne (Fin.ext h))]
    exact ⟨hshown.shown, hshown.fw rfl⟩

/-! Uncorrectable codewords and the scrub (R36, R123, R433). -/

/-- A change of the telemetry changes `tel` alone. -/
theorem onlyParts_onTel {l : List Part} (hl : .tel ∈ l) (s : State) (g : Tel → Tel) : OnlyParts l s (s.onTel g) := by
  refine ⟨rfl, fun p hp => ?_⟩
  cases p with
  | tel => exact absurd hl hp
  | _ => rfl

/-- A change of the tables changes `tab` alone. -/
theorem onlyParts_onTab {l : List Part} (hl : .tab ∈ l) (s : State) (g : Tab → Tab) : OnlyParts l s (s.onTab g) := by
  refine ⟨rfl, fun p hp => ?_⟩
  cases p with
  | tab => exact absurd hl hp
  | _ => rfl

/-- R422: a counter that is not a traffic counter stops at 32 ones. -/
theorem bumpN_event {s : State} (hon : s.off = false) {g : Nat} (hg : 2 ≤ g) (i n : Nat) :
    s.bumpN g i n = s.onTel (fun w => { w with cnt := sset 0 w.cnt (Nat.pair g i) (min (s.count g i + n) 0xFFFFFFFF) }) := by
  have hlt : ¬ g < 2 := by omega
  rw [State.bumpN, if_neg (by simp [hon])]
  simp only [hlt, if_false, false_and, State.onTel]

/-- One event of a memory, counted in the telemetry and nowhere else. -/
theorem bumpMem_counts {s : State} (hon : s.off = false) (k m : Nat) (e : MemEv) :
    Counted 15 (4 * (8 * k + m) + e.ctorIdx) s (s.bumpMem k m e) ∧ OnlyParts [.tel] s (s.bumpMem k m e) := by
  rw [State.bumpMem, bumpN_event hon (by decide)]
  exact ⟨sget_sset_same _ _, onlyParts_onTel (by simp) _ _⟩

/-- The sites at which a codeword is found: a table copy, the Commons, and memory that nothing uses (Table 17.2). -/
theorem ueAt_table_eq (s : State) (tb : Fin 8) (i : BitVec 18) (k : Fin 8) :
    s.ueAt (.table tb i k) =
      if (s.bumpMem k 4 .ue).tab.bad.contains (tb.val, i.toNat, k.val) then s.bumpMem k 4 .ue
      else (s.bumpMem k 4 .ue).onTab (fun w => { w with bad := w.bad ++ [(tb.val, i.toNat, k.val)] }) := rfl

theorem ueAt_commons_eq (s : State) (line : BitVec 18) :
    s.ueAt (.commons line) = (s.poisonLine line.toNat).ueRecord 3 (lineRegion line.toNat) (64 * line.toNat) 4 false := rfl

theorem ueAt_unused_eq (s : State) (m : Fin 6) (k : Fin 8) (addr : Nat) :
    s.ueAt (.unused m k addr) = if m.val = 5 then s.ueFree 5 k addr else s.ueRecord m k addr 5 true := rfl

/-- A table entry with an uncorrectable codeword waits for its reload in that region's copy; nothing but the tables and the
telemetry changes. -/
theorem ueAt_table {s : State} (hon : s.off = false) (tb : Fin 8) (i : BitVec 18) (k : Fin 8) :
    (tb.val, i.toNat, k.val) ∈ (s.ueAt (.table tb i k)).tab.bad ∧ OnlyParts [.tab, .tel] s (s.ueAt (.table tb i k)) := by
  have hcount : OnlyParts [.tab, .tel] s (s.bumpMem k 4 .ue) := by
    rw [State.bumpMem, bumpN_event hon (by decide)]
    exact onlyParts_onTel (by simp) _ _
  rw [ueAt_table_eq]
  split
  · next hbad => exact ⟨by simpa using hbad, hcount⟩
  · exact ⟨by simp, onlyParts_trans hcount (onlyParts_onTab (by simp) _ _)⟩

/-- An uncorrectable codeword that is counted and recorded adds one to SEQ. -/
theorem ueRecord_seq (s : State) (m k addr action : Nat) (retired : Bool) :
    (s.ueRecord m k addr action retired).rd .telFaultSeq_seq 0 = (s.rd .telFaultSeq_seq 0 + 1) % 2 ^ 64 := by
  have hkept : ChipKept s ((s.bumpMem k m .ue).when retired (fun s => s.bumpMem k m .retired)) :=
    ((ChipKept.refl s).bumpN ..).when (((ChipKept.refl s).bumpN ..).bumpN ..) _
  rw [State.ueRecord, fault_seq, hkept.rd _ (by decide)]

/-- Counting does not poison. -/
theorem poisoned_bumpCmn (s : State) (k : Nat) (e : CmnEv) (line : Nat) : (s.bumpCmn k e).poisoned line = s.poisoned line := by
  simp only [State.poisoned, bumpCmn_cmn]

/-- R334: the line is poisoned. -/
theorem poisonLine_poisoned (s : State) (line : Nat) : (s.poisonLine line).poisoned line = true := by
  rw [State.poisonLine, poisoned_bumpCmn]
  split
  · assumption
  · simp [State.poisoned, State.onCmn]

/-- Poisoning a line makes no record by itself. -/
theorem poisonLine_seq (s : State) (line : Nat) : (s.poisonLine line).rd .telFaultSeq_seq 0 = s.rd .telFaultSeq_seq 0 := by
  rw [State.poisonLine, rd_bumpCmn _ _ _ _ (by decide)]
  split <;> rfl

/-- A record leaves the Commons alone. -/
theorem ueRecord_poisoned (s : State) (m k addr action : Nat) (retired : Bool) (line : Nat) :
    (s.ueRecord m k addr action retired).poisoned line = s.poisoned line := by
  simp only [State.poisoned, State.ueRecord, fault_cmn, when_cmn, bumpMem_cmn, ite_self]

/-- Settling changes nothing of the Commons. -/
theorem poisoned_settled (s t : State) (line : Nat) : (s.settled t).poisoned line = t.poisoned line := rfl

/-- UNCORRECTABLE_CODEWORD in a part that is not off. -/
theorem exec_uncorrectableCodeword {s : State} (hon : s.off = false) (site : UeSite) :
    exec (.uncorrectableCodeword site) s = .next (s.settled (s.ueAt site)) := by
  show execUncorrectableCodeword site s = _
  simp [execUncorrectableCodeword, settle, hon]

/-- Memory that nothing uses, found by the scrub: the record is made whatever its action code. -/
theorem ueAt_unused_seq (s : State) (m : Fin 6) (k : Fin 8) (addr : Nat) :
    (s.ueAt (.unused m k addr)).rd .telFaultSeq_seq 0 = (s.rd .telFaultSeq_seq 0 + 1) % 2 ^ 64 := by
  rw [ueAt_unused_eq]
  split
  · rw [State.ueFree, ueRecord_seq, rd_free]
  · exact ueRecord_seq ..

/-! The reload of a table copy (R123). -/

/-- Whether a region's copy is good does not depend on what is counted. -/
theorem copyGood_counted (s : State) (c : Bool) (e : TabEv) (t i h : Nat) :
    (s.when c (fun s => s.bumpTab e)).copyGood t i h = s.copyGood t i h := by
  have hfield : Fld.cfgFaultSummary_regionFailed ∉ [Fld.telWrap_wrap] := by decide
  cases c
  · rfl
  · simp only [when_true, State.copyGood, State.regionDead, rd_bumpTab _ _ _ _ hfield, bumpTab_tab]

section Reload
variable {s : State} {t i k : Nat} (hbad : (t, i, k) ∈ s.tab.bad)
include hbad

/-- R123: where another region holds the entry, this region's copy alone is mended. -/
theorem doReload_copied {h : Nat} (hh : h < 8) (hne : h ≠ k) (hgood : s.copyGood t i h = true) :
    (s.doReload t i k).tab = { s.tab with bad := s.tab.bad.filter (fun b => b != (t, i, k)) } := by
  have hcontains : s.tab.bad.contains (t, i, k) = true := by simpa using hbad
  have hsome : (List.range 8).any (fun h => h != k && s.copyGood t i h) = true :=
    List.any_eq_true.mpr ⟨h, List.mem_range.mpr hh, by simp [hne, hgood]⟩
  simp only [State.doReload, hcontains, copyGood_counted, hsome, Bool.not_true, Bool.false_eq_true, if_false, if_true, fault_tab,
    onTab_tab, when_tab, bumpTab_tab, ite_self]

/-- R123: where none does, the entry is invalidated and mended in every region. -/
theorem doReload_invalidated (hnone : ∀ h, h < 8 → h ≠ k → s.copyGood t i h = false) (h : Nat) :
    (t, i, h) ∉ (s.doReload t i k).tab.bad := by
  have hcontains : s.tab.bad.contains (t, i, k) = true := by simpa using hbad
  have hall : (List.range 8).any (fun h => h != k && s.copyGood t i h) = false :=
    List.any_eq_false.mpr fun h hh => by
      by_cases hk : h = k
      · simp [hk]
      · simp [hnone h (List.mem_range.mp hh) hk]
  simp only [State.doReload, hcontains, copyGood_counted, hall, Bool.not_true, Bool.false_eq_true, if_false, fault_tab, State.goodAgain,
    onTab_tab]
  simp

end Reload

/-! The scrub (R433). -/

section Scrub
variable {s : State} {mem : Fin 6} {k : Fin 8} (hon : s.off = false) (hregion : mem.val < 5 → s.regionDead k = false)
  (hstack : mem.val = 5 → k.val < 4)
include hon hregion hstack

/-- A scrub read of memory in service is made while the scrub is enabled; an ordinary read does not ask. -/
theorem scrubRead_made {found : ScrubFinding} (hasks : s.rd .telScrubCfg_en 0 = 1 ∨ found = .readCorrected) :
    (s.off || (!s.flag .telScrubCfg_en 0 && found != .readCorrected) || (decide (mem.val < 5) && s.regionDead k) ||
      (mem.val == 5 && decide (4 ≤ k.val))) = false := by
  have hasked : (!s.flag .telScrubCfg_en 0 && found != .readCorrected) = false := by
    obtain hen | rfl := hasks
    · simp [State.flag, hen]
    · simp
  simp only [hon, hasked, Bool.false_or, Bool.or_eq_false_iff, Bool.and_eq_false_imp, decide_eq_true_eq, beq_iff_eq,
    decide_eq_false_iff_not, not_le]
  exact ⟨hregion, hstack⟩

theorem doScrubRead_readCorrected : doScrubRead mem k .readCorrected s = s.bumpMem k mem .ce := by
  simp only [doScrubRead, scrubRead_made hon hregion hstack (.inr rfl), Bool.false_eq_true, if_false]

variable (hen : s.rd .telScrubCfg_en 0 = 1)
include hen

theorem doScrubRead_clean : doScrubRead mem k .clean s = s := by
  simp only [doScrubRead, scrubRead_made hon hregion hstack (.inl hen), Bool.false_eq_true, if_false]

theorem doScrubRead_corrected : doScrubRead mem k .corrected s = s.bumpMem k mem .ce := by
  simp only [doScrubRead, scrubRead_made hon hregion hstack (.inl hen), Bool.false_eq_true, if_false]

theorem doScrubRead_uncorrectable (site : UeSite) : doScrubRead mem k (.uncorrectable site) s = s.ueAt site := by
  simp only [doScrubRead, scrubRead_made hon hregion hstack (.inl hen), Bool.false_eq_true, if_false]

theorem doScrubRead_endOfPass (hpassed : s.passed (sget 0 s.tel.passAt (Nat.pair mem k)) (s.passNs mem) = true) :
    doScrubRead mem k .endOfPass s =
      (s.bumpMem k mem .scrubPass).onTel (fun w => { w with passAt := sset 0 s.tel.passAt (Nat.pair mem k) s.tb.mono }) := by
  simp only [doScrubRead, scrubRead_made hon hregion hstack (.inl hen), hpassed, Bool.false_eq_true, if_false, if_true, State.onTel]

end Scrub

/-- R433: the end of a pass is counted, and the next pass is timed from it. -/
theorem passEnds {s : State} (hon : s.off = false) (m k : Nat) (x : SMap) :
    Counted 15 (4 * (8 * k + m) + 3) s ((s.bumpMem k m .scrubPass).onTel (fun w => { w with passAt := x })) ∧
      OnlyParts [.tel] s ((s.bumpMem k m .scrubPass).onTel (fun w => { w with passAt := x })) := by
  obtain ⟨hcounted, honly⟩ := bumpMem_counts hon k m .scrubPass
  exact ⟨hcounted, onlyParts_trans honly (onlyParts_onTel (by simp) _ _)⟩

/-- SCRUB_READ settles what the read finds. -/
theorem exec_scrubRead (s : State) (mem : Fin 6) (k : Fin 8) (found : ScrubFinding) :
    exec (.scrubRead mem k found) s = .next (s.settled (doScrubRead mem k found s)) := rfl

/-- TABLE_ENTRY_RELOAD settles the reload of one region's copy. -/
theorem exec_tableEntryReload (s : State) (tb : Fin 8) (i : BitVec 18) (k : Fin 8) :
    exec (.tableEntryReload tb i k) s = .next (s.settled (s.doReload tb i.toNat k)) := rfl

/-- Settles O23: each clause is one rule above, of a codeword at a site, of the reload, or of a scrub read. -/
theorem uncorrectableCodewordsAreContained : Obligations.UncorrectableCodewordsAreContained := by
  refine ⟨?table, ?commons, ?unused, ?copied, ?invalidated, ?scrub, ?ordinary⟩
  case table =>
    intro tb i k s hon
    obtain ⟨hbad, hpending, hparts⟩ := ueAt_table hon tb i k
    have honly : OnlyParts [.tab, .tel, .regs] s (s.ueAt (.table tb i k)) :=
      ⟨hpending, fun p hp => hparts p (by simp only [List.mem_cons, not_or] at hp ⊢; exact ⟨hp.1, hp.2.1, by simp⟩)⟩
    exact ⟨_, exec_uncorrectableCodeword hon _, hbad, onlyParts_settled honly⟩
  case commons =>
    intro line s hon
    refine ⟨_, exec_uncorrectableCodeword hon _, ?_, ?_⟩
    · rw [poisoned_settled, ueAt_commons_eq, ueRecord_poisoned, poisonLine_poisoned]
    · rw [rd_settled, ueAt_commons_eq, ueRecord_seq, poisonLine_seq]
  case unused =>
    intro m k addr s hon
    exact ⟨_, exec_uncorrectableCodeword hon _, ueAt_unused_seq s m k addr⟩
  case copied =>
    intro tb i k h s hbad hne hgood
    exact ⟨_, exec_tableEntryReload s tb i k, doReload_copied hbad h.isLt (fun e => hne (Fin.ext e)) hgood⟩
  case invalidated =>
    intro tb i k s hbad hnone
    have hnone' : ∀ h, h < 8 → h ≠ k.val → s.copyGood tb i.toNat h = false := fun h hh hne =>
      hnone ⟨h, hh⟩ (fun e => hne (congrArg Fin.val e))
    exact ⟨_, exec_tableEntryReload s tb i k, doReload_invalidated hbad hnone'⟩
  case scrub =>
    intro mem k s hon hen hregion hstack
    refine ⟨⟨_, exec_scrubRead .., ?clean⟩, ⟨_, exec_scrubRead .., ?corrected⟩,
      fun hpassed => ⟨_, exec_scrubRead .., ?pass⟩, fun site => ?uncorrectable⟩
    case clean =>
      rw [doScrubRead_clean hon hregion hstack hen, settled_self]
    case corrected =>
      obtain ⟨hcounted, honly⟩ := bumpMem_counts hon k mem .ce
      rw [doScrubRead_corrected hon hregion hstack hen]
      exact ⟨hcounted, onlyParts_settled honly⟩
    case pass =>
      obtain ⟨hcounted, honly⟩ := passEnds hon mem k (sset 0 s.tel.passAt (Nat.pair mem k) s.tb.mono)
      rw [doScrubRead_endOfPass hon hregion hstack hen hpassed]
      exact ⟨hcounted, sget_sset_same _ _, onlyParts_settled honly⟩
    case uncorrectable =>
      rw [exec_scrubRead, doScrubRead_uncorrectable hon hregion hstack hen, exec_uncorrectableCodeword hon]
  case ordinary =>
    intro mem k s hon hregion hstack
    obtain ⟨hcounted, honly⟩ := bumpMem_counts hon k mem .ce
    refine ⟨_, exec_scrubRead .., ?_⟩
    rw [doScrubRead_readCorrected hon hregion hstack]
    exact ⟨hcounted, onlyParts_settled honly⟩

/-! Contexts that fault together (R26, R285, R435). -/

/-- A block's entry into C1 concerns the power arbiter alone. -/
theorem idleC1_kept (s : State) (c : Nat) :
    (s.idleC1 c).rd .telFaultSeq_seq 0 = s.rd .telFaultSeq_seq 0 ∧ (s.idleC1 c).eng = s.eng := by
  simp only [State.idleC1]
  repeat' split
  · exact ⟨rfl, rfl⟩
  · exact ⟨rd_wr_other _ _ (.inl (by decide)), rfl⟩
  · exact ⟨rfl, rfl⟩

theorem idleAll_kept (cs : List Nat) (s : State) :
    (s.idleAll cs).rd .telFaultSeq_seq 0 = s.rd .telFaultSeq_seq 0 ∧ (s.idleAll cs).eng = s.eng := by
  induction cs generalizing s with
  | nil => exact ⟨rfl, rfl⟩
  | cons c cs ih =>
    obtain ⟨hseq, heng⟩ := idleC1_kept s c
    obtain ⟨hseqs, hengs⟩ := ih (s.idleC1 c)
    exact ⟨hseqs.trans hseq, hengs.trans heng⟩

/-- A context is part of the engines. -/
theorem inst_of_eng {s t : State} (h : t.eng = s.eng) (i : Nat) : t.inst i = s.inst i := by
  simp only [State.inst, h]

theorem inst_setInst_same (s : State) (i : Nat) (g : Inst → Inst) : (s.setInst i g).inst i = g (s.inst i) := by
  simp [State.inst, State.setInst]

theorem inst_setInst_other (s : State) {i j : Nat} (g : Inst → Inst) (h : j ≠ i) : (s.setInst i g).inst j = s.inst j := by
  simp [State.inst, State.setInst, kget_kput_other _ _ _ _ h]

theorem rd_setInst (s : State) (i : Nat) (g : Inst → Inst) (f : Fld) (j : Nat) : (s.setInst i g).rd f j = s.rd f j := rfl

/-- A context that stops keeps its group, and makes no record. -/
theorem stopInst_kept (s : State) (i : Nat) :
    (s.stopInst i).rd .telFaultSeq_seq 0 = s.rd .telFaultSeq_seq 0 ∧ ((s.stopInst i).inst i).grp = (s.inst i).grp ∧
      ∀ j, j ≠ i → (s.stopInst i).inst j = s.inst j := by
  simp only [State.stopInst]
  refine ⟨(idleAll_kept _ _).1, ?_, fun j hj => ?_⟩
  · rw [inst_of_eng (idleAll_kept _ _).2, inst_setInst_same]
    rfl
  · rw [inst_of_eng (idleAll_kept _ _).2, inst_setInst_other _ _ hj]
    rfl

/-- A fault is recorded for the state from which SEQ has not moved. -/
theorem recorded_fault_of_seq {s u : State} (h : u.rd .telFaultSeq_seq 0 = s.rd .telFaultSeq_seq 0) (code sev : Nat) (detail : List Nat) :
    Recorded code sev detail s (u.fault code sev detail) := recorded_congr (recorded_fault u code sev detail) h.symm rfl

/-- A running context that serves no requests makes one record when it faults, and the other contexts go on. -/
theorem instFault_records {s : State} {i : Nat} (hrun : s.running i = true) (hgrp : (s.inst i).grp = none) (code desc : Nat) :
    (s.instFault i code desc).rd .telFaultSeq_seq 0 = (s.rd .telFaultSeq_seq 0 + 1) % 2 ^ 64 ∧
      (∃ detail, Recorded 0x0040 1 detail s (s.instFault i code desc)) ∧
      ∀ j, j ≠ i → (s.instFault i code desc).inst j = s.inst j := by
  obtain ⟨hseq, hgrp', hothers⟩ := stopInst_kept s i
  have hfaulted : ∀ g : Inst → Inst, ((s.stopInst i).setInst i g).rd .telFaultSeq_seq 0 = s.rd .telFaultSeq_seq 0 := fun g => by
    rw [rd_setInst, hseq]
  have halone : ∀ t : State, (t.inst i).grp = none → t.instAnswers i 4 code = t := fun t ht => by
    rw [State.instAnswers, ht]
  simp only [State.instFault, hrun, if_true]
  rw [halone]
  · refine ⟨?_, ⟨_, recorded_fault_of_seq (hfaulted _) ..⟩, fun j hj => ?_⟩
    · rw [fault_seq, hfaulted]
    · rw [inst_of_eng (fault_eng ..), inst_setInst_other _ _ hj, hothers j hj]
  · rw [inst_of_eng (fault_eng ..), inst_setInst_same]
    simp only [hgrp', hgrp]

/-- Every one of a list of running contexts makes its record. -/
theorem foldl_instFault_records (code : Nat) (desc : State → Nat → Nat) (is : List Nat) (s : State) (hnodup : is.Nodup)
    (hrun : ∀ i ∈ is, s.running i = true ∧ (s.inst i).grp = none) :
    (is.foldl (fun s i => s.instFault i code (desc s i)) s).rd .telFaultSeq_seq 0 = (s.rd .telFaultSeq_seq 0 + is.length) % 2 ^ 64 ∧
      ∀ j ∉ is, (is.foldl (fun s i => s.instFault i code (desc s i)) s).inst j = s.inst j := by
  induction is generalizing s with
  | nil => exact ⟨(Nat.mod_eq_of_lt (rd_lt s .telFaultSeq_seq 0)).symm, fun _ _ => rfl⟩
  | cons i is ih =>
    obtain ⟨hi, hnodup⟩ := List.nodup_cons.mp hnodup
    obtain ⟨hruni, hgrpi⟩ := hrun i (by simp)
    obtain ⟨hseq, -, hothers⟩ := instFault_records hruni hgrpi code (desc s i)
    have hrest : ∀ j ∈ is, (s.instFault i code (desc s i)).running j = true ∧
        ((s.instFault i code (desc s i)).inst j).grp = none := by
      intro j hj
      rw [State.running, hothers j (ne_of_mem_of_not_mem hj hi)]
      exact hrun j (by simp [hj])
    obtain ⟨hseqs, hothers'⟩ := ih _ hnodup hrest
    refine ⟨?_, fun j hj => ?_⟩
    · rw [List.foldl_cons, hseqs, hseq, Nat.mod_add_mod, List.length_cons, Nat.add_right_comm, Nat.add_assoc]
    · rw [List.mem_cons, not_or] at hj
      exact (hothers' j hj.2).trans (hothers j hj.1)

/-- The records of 1,024 contexts that fault reach the place of the record made before them. -/
theorem foldl_instFault_overwrites (code : Nat) (desc : State → Nat → Nat) (s : State)
    (hrun : ∀ i ∈ List.range 1024, s.running i = true ∧ (s.inst i).grp = none) :
    ∃ q, kget ((List.range 1024).foldl (fun s i => s.instFault i code (desc s i)) s).tel.ring
        (s.rd .telFaultSeq_seq 0 % 1024) = some q ∧
      q.seq ≠ s.rd .telFaultSeq_seq 0 := by
  have hsplit : List.range 1024 = List.range 1023 ++ [1023] := List.range_succ
  obtain ⟨hseq, hothers⟩ := foldl_instFault_records code desc (List.range 1023) s List.nodup_range
    fun i hi => hrun i (List.mem_range.mpr (by have := List.mem_range.mp hi; omega))
  rw [hsplit, List.foldl_append, List.foldl_cons, List.foldl_nil]
  generalize (List.range 1023).foldl _ s = u at hseq hothers ⊢
  have hlast := hothers 1023 (by simp)
  have hrunlast : u.running 1023 = true ∧ (u.inst 1023).grp = none := by
    rw [State.running, hlast]
    exact hrun 1023 (by simp)
  obtain ⟨-, ⟨detail, q, hget, hq, -⟩, -⟩ := instFault_records hrunlast.1 hrunlast.2 code (desc u 1023)
  rw [List.length_range] at hseq
  have hplace : (u.rd .telFaultSeq_seq 0 + 1) % 1024 = s.rd .telFaultSeq_seq 0 % 1024 := by omega
  rw [hplace] at hget
  exact ⟨q, hget, by omega⟩

/-- A program context that runs on HBM stack 0, with no requests to answer. -/
def contextOnStack : Inst := { Inst.init with state := 1, next := 0x8000000000 }

/-- A part in which 1,024 program contexts run, each with its next descriptor on HBM stack 0. -/
def crowded : State :=
  { State.reset with eng := { State.reset.eng with inst := (List.range 1024).map (fun i => (i, contextOnStack)) } }

/-- A map that gives every key of a list one value. -/
theorem kget_map_const {α : Type} (v : α) {l : List Nat} {k : Nat} (h : k ∈ l) : kget (l.map (fun i => (i, v))) k = some v := by
  induction l with
  | nil => cases h
  | cons a l ih =>
    by_cases ha : a = k
    · simp [kget, ha]
    · simpa [kget, ha] using ih (by simpa [Ne.symm ha] using h)

/-- A running context is at the stack where its next descriptor lies. -/
theorem instIn_of_next (s : State) (i : Nat) (hit : Nat → Nat → Bool) (com : Option Nat) (h : hit (s.inst i).next 64 = true) :
    s.instIn i hit com = true := by
  rw [State.instIn, h, Bool.true_or]

theorem inst_crowded {s : State} (heng : s.eng = crowded.eng) {i : Nat} (hi : i ∈ List.range 1024) : s.inst i = contextOnStack := by
  rw [inst_of_eng heng, State.inst, crowded, kget_map_const _ hi]
  rfl

/-- In a part with the contexts of `crowded`, the contexts 0 to 1,023 fault with stack 0. -/
theorem faultInsts_crowded {s : State} (heng : s.eng = crowded.eng) (code : Nat) (at_ : Job → Bool) :
    s.faultInsts code (fun i => s.instIn i (onStack 0) none) at_ =
      (List.range 1024).foldl (fun s i => s.instFault i code (s.instDesc i at_)) s := by
  have hrunning : (s.eng.inst.filter (fun e => e.2.state == 1)).map (fun e => e.1) = List.range 1024 := by
    have hall : ∀ e ∈ crowded.eng.inst, (e.2.state == 1) = true := by
      simp [crowded, contextOnStack]
    rw [heng, List.filter_eq_self.mpr hall]
    simp [crowded, Function.comp_def]
  have hpicked : ∀ i ∈ List.range 1024, s.instIn i (onStack 0) none = true := fun i hi =>
    instIn_of_next _ _ _ _ (by rw [inst_crowded heng hi]; decide)
  rw [State.faultInsts, hrunning, List.filter_eq_self.mpr hpicked]

/-- A failed stack, recorded and shown in a part that is not in RUN, before what it held is lost. -/
def stackRecorded (s : State) (j : Nat) : State :=
  ((s.wr .cfgFaultSummary_hbmFailed 0 (setBit (s.rd .cfgFaultSummary_hbmFailed 0) j)).fault 0x0004 2 [j]).wr .cfgFaultSummary_degraded 0 1

theorem stackRecorded_seq (s : State) (j : Nat) :
    (stackRecorded s j).rd .telFaultSeq_seq 0 = (s.rd .telFaultSeq_seq 0 + 1) % 2 ^ 64 := by
  rw [stackRecorded, rd_wr_other _ _ (.inl (by decide)), fault_seq, rd_wr_other _ _ (.inl (by decide))]

/-- R26: where no packet is spilled, the contexts at the stack make their records after the stack's own. -/
theorem failStack_tel {s : State} {j : Nat} (hon : s.off = false) (hup : s.stackDead j = false) (hstate : s.devState ≠ 4)
    (hpkts : s.sw.pkts = []) :
    ∃ u : State, u.eng = s.eng ∧ u.rd .telFaultSeq_seq 0 = (s.rd .telFaultSeq_seq 0 + 1) % 2 ^ 64 ∧
      (s.failStack j).tel = (u.faultInsts 9 (fun i => u.instIn i (onStack j) none) (jobIn (onStack j) none)).tel := by
  have hstays : ∀ v, ((s.wr .cfgFaultSummary_hbmFailed 0 v).fault 0x0004 2 [j]).devState ≠ 4 := fun v => by
    rw [State.devState, rd_fault _ _ _ _ _ (by decide), rd_wr_other _ _ (.inl (by decide))]
    exact hstate
  have hdegrade : ((s.wr .cfgFaultSummary_hbmFailed 0 (setBit (s.rd .cfgFaultSummary_hbmFailed 0) j)).fault 0x0004 2 [j]).degrade =
      stackRecorded s j := by
    rw [State.degrade, beq_false_of_ne (hstays _), when_false, stackRecorded]
  have hnone : (stackRecorded s j).sw.pkts = [] := by
    rw [stackRecorded, wr_sw, fault_sw, wr_sw, hpkts]
  simp only [State.failStack, hon, hup, Bool.false_eq_true, or_self, if_false, hdegrade, hnone, List.filter_nil, List.map_nil,
    List.foldl_nil, State.promStackLost, onSvc_tel, onProm_tel]
  refine ⟨_, ?_, ?_, rfl⟩
  · rw [onSw_eng, stackRecorded, wr_eng, fault_eng, wr_eng]
  · rw [rd_onSw, stackRecorded_seq]

/-- Refutes O21, in its last clause: while 1,024 contexts run on the stack that fails, the INST_FAULT record of the last of them takes
the place in the ring of 1,024 records that the record of the stack had, and with it the record that the statement asks for. -/
theorem not_failedUnitsAreRecorded : ¬ Obligations.FailedUnitsAreRecorded := by
  rintro ⟨-, -, -, -, -, -, hstack⟩
  obtain ⟨t, hexec, -, -, ⟨q, hget, hq, -⟩, -⟩ := hstack 0 crowded rfl (by decide)
  obtain rfl : crowded.settled (crowded.failStack 0) = t := by
    injection hexec
  obtain ⟨u, heng, hseq, htel⟩ := failStack_tel (s := crowded) (j := 0) rfl (by decide) (by decide) rfl
  have hfirst : crowded.rd .telFaultSeq_seq 0 = 0 := by decide
  rw [hfirst] at hget hq hseq
  have hrun : ∀ i ∈ List.range 1024, u.running i = true ∧ (u.inst i).grp = none := fun i hi => by
    rw [State.running, inst_crowded heng hi]
    decide
  obtain ⟨q', hget', hq'⟩ := foldl_instFault_overwrites 9 (fun s i => s.instDesc i (jobIn (onStack 0) none)) u hrun
  rw [settled_tel, htel, faultInsts_crowded heng] at hget
  rw [hseq] at hget' hq'
  have hsame : q = q' := Option.some.inj (hget.symm.trans hget')
  exact hq' (hsame ▸ hq)

/-! A write at a place that its register does not have (R31). -/

/-- A part with a write of 0 in flight to place 1 of PWR_CFG, which has place 0 alone. -/
def misplaced : State := { State.reset with acc := { State.reset.acc with inflight := [⟨.ctl0, .pwrCfg, 1, 0, 2 ^ 64 - 1⟩] } }

/-- PWR_CFG is written at place 0 whatever place the write names, so PKG_LIMIT at place 1 keeps its reset value. -/
theorem misplaced_pkgLimit : (misplaced.takeEffect [0]).rd .pwrCfg_pkgLimit 1 = Fld.reset .pwrCfg_pkgLimit 1 := by
  decide +kernel

/-- Refutes O12, in its first clause, which asks nothing of the place that a write in flight names: the write of PWR_CFG that
`misplaced` holds leaves PKG_LIMIT at place 1 as it was, where the statement asks for the value written. The decoder gives place 0 to
every write of PWR_CFG, so this says nothing of the writes that BAR0 makes. -/
theorem not_writeTakesEffectOnEveryField : ¬ Obligations.WriteTakesEffectOnEveryField := by
  rintro ⟨hplain, -, -, -⟩
  obtain ⟨t, hexec, -, hfields⟩ := hplain ⟨.ctl0, .pwrCfg, 1, 0, 2 ^ 64 - 1⟩ misplaced rfl rfl rfl (by decide) rfl
  obtain rfl : misplaced.settled (misplaced.takeEffect [0]) = t := by
    injection hexec
  have hlimit := hfields ⟨.pwrCfg_pkgLimit, 52, .rw⟩ (by decide)
  rw [rd_settled, misplaced_pkgLimit] at hlimit
  revert hlimit
  decide

end Sys2Proof.Proofs

/-! Packets and frames received: what each operation of reception leaves of the queues, the counters and the rings. -/

namespace Sys2Proof.Proofs
open Sys2Proof Sys2Proof.Machine Sys2Proof.Laws

/-! Frames. -/

/-- A state differs from itself in no component. -/
theorem onlyParts_refl (l : List Part) (s : State) : OnlyParts l s s :=
  ⟨rfl, fun p _ => by cases p <;> rfl⟩

/-- More components may be named. -/
theorem onlyParts_mono {l m : List Part} {s t : State} (h : OnlyParts l s t) (hlm : l ⊆ m) : OnlyParts m s t :=
  ⟨h.1, fun p hp => h.2 p (fun hl => hp (hlm hl))⟩

/-- A change of the switch core changes `sw` alone. -/
theorem onlyParts_onSw {l : List Part} (hl : .sw ∈ l) (s : State) (g : Sw → Sw) : OnlyParts l s (s.onSw g) := by
  refine ⟨rfl, fun p hp => ?_⟩
  cases p with
  | sw => exact absurd hl hp
  | _ => rfl

/-- A new record of a ring changes `mgmt` alone. -/
theorem onlyParts_setRing {l : List Part} (hl : .mgmt ∈ l) (s : State) (fn r : Nat) (x : Ring) : OnlyParts l s (s.setRing fn r x) := by
  refine ⟨rfl, fun p hp => ?_⟩
  cases p with
  | mgmt => exact absurd hl hp
  | _ => rfl

/-- What is done on a condition changes no more than what is done. -/
theorem onlyParts_when {l : List Part} {s : State} {g : State → State} (h : OnlyParts l s (g s)) (c : Bool) :
    OnlyParts l s (s.when c g) := by
  cases c
  · exact onlyParts_refl l s
  · exact h

/-- An effect that left the time base and the sideband alone is already settled. -/
theorem settled_of_onlyParts {l : List Part} {s t : State} (h : OnlyParts l s t) (htb : .tb ∉ l) (hi3c : .i3c ∉ l)
    (hjtag : .jtag ∉ l) :
    s.settled t = t := by
  have hpending := h.1
  have htb' : t.tb = s.tb := h.2 .tb htb
  have hi3c' : t.i3c = s.i3c := h.2 .i3c hi3c
  have hjtag' : t.jtag = s.jtag := h.2 .jtag hjtag
  rw [State.settled, ← hpending, ← htb', ← hi3c', ← hjtag']

/-! Counters (R421 to R423). -/

/-- Counting in one group leaves the counters of the others alone. -/
theorem count_bumpN_other (s : State) {g g' : Nat} (h : g' ≠ g) (i n j : Nat) : (s.bumpN g i n).count g' j = s.count g' j := by
  have hkey : Nat.pair g' j ≠ Nat.pair g i := fun e => h (Nat.pair_eq_pair.mp e).1
  simp only [State.bumpN]
  split
  · rfl
  · split <;> exact sget_sset_other _ hkey

/-- An event is counted in the telemetry and nowhere else (R422). -/
theorem bumpN_counts {s : State} (hon : s.off = false) {g : Nat} (hg : 2 ≤ g) (i : Nat) :
    Counted g i s (s.bumpN g i 1) ∧ OnlyParts [.tel] s (s.bumpN g i 1) := by
  rw [bumpN_event hon hg]
  exact ⟨sget_sset_same _ _, onlyParts_onTel (by simp) _ _⟩

/-- What has been counted depends on that counter alone. -/
theorem counted_congr {g i : Nat} {s s' t t' : State} (h : Counted g i s t) (hs : s'.count g i = s.count g i)
    (ht : t'.count g i = t.count g i) : Counted g i s' t' := by
  rwa [Counted, hs, ht]

/-- R423: an event of an enabled port is counted. -/
theorem bumpPort_counts {s : State} {n : Nat} (hon : s.off = false) (hen : s.flag .corePortCfg_en n = true) (e : PortEv) :
    Counted 2 (64 * n + e.ctorIdx) s (s.bumpPort n e) ∧ OnlyParts [.tel] s (s.bumpPort n e) := by
  rw [State.bumpPort, hen, when_true]
  exact bumpN_counts hon (by decide) _

/-- R423: an event of a class of an enabled port is counted. -/
theorem bumpClass_counts {s : State} {n : Nat} (hon : s.off = false) (hen : s.flag .corePortCfg_en n = true) (c : Nat) (e : ClassEv) :
    Counted 3 (4 * (8 * n + c) + e.ctorIdx) s (s.bumpClass n c e) := by
  rw [State.bumpClass, hen, when_true]
  exact (bumpN_counts hon (by decide) _).1

/-- Traffic is counted in its own group. -/
theorem count_bumpTraffic_other (s : State) {g g' : Nat} (h : g' ≠ g) (n c bytes j : Nat) :
    (s.bumpTraffic g n c bytes).count g' j = s.count g' j := by
  simp only [State.bumpTraffic, State.when]
  split
  · rw [count_bumpN_other _ h, count_bumpN_other _ h]
  · rfl

/-- Counting traffic changes no field but TEL_WRAP. -/
theorem rd_bumpTraffic_other (s : State) (g n c bytes : Nat) {f : Fld} (hf : f ∉ [Fld.telWrap_wrap]) (i : Nat) :
    (s.bumpTraffic g n c bytes).rd f i = s.rd f i := by
  rw [State.bumpTraffic, rd_when, rd_bumpN _ _ _ _ _ hf, rd_bumpN _ _ _ _ _ hf, ite_self]

theorem flag_en_bumpTraffic (s : State) (g n c bytes m : Nat) :
    (s.bumpTraffic g n c bytes).flag .corePortCfg_en m = s.flag .corePortCfg_en m := by
  rw [flag_def, rd_bumpTraffic_other _ _ _ _ _ (by decide), flag_def]

/-! Learning (R113, R117). -/

/-- A learning event joins its queue, or is counted as lost. -/
theorem learnEvent_cases (s : State) (n : Nat) (p : Packet) :
    (∃ q, s.learnEvent n p = s.onTab (fun w => { w with learnQ := q })) ∨ s.learnEvent n p = s.bumpTab .learnOverflow := by
  simp only [State.learnEvent]
  repeat' split
  · exact .inl ⟨_, rfl⟩
  · exact .inr rfl
  · exact .inl ⟨s.tab.learnQ, rfl⟩

@[simp] theorem learnEvent_off (s : State) (n : Nat) (p : Packet) : (s.learnEvent n p).off = s.off := by
  obtain ⟨q, h⟩ | h := learnEvent_cases s n p <;> rw [h]
  · rfl
  · exact bumpTab_off ..

@[simp] theorem learnEvent_sw (s : State) (n : Nat) (p : Packet) : (s.learnEvent n p).sw = s.sw := by
  obtain ⟨q, h⟩ | h := learnEvent_cases s n p <;> rw [h]
  · rfl
  · exact bumpTab_sw ..

@[simp] theorem learnEvent_fen (s : State) (n : Nat) (p : Packet) : (s.learnEvent n p).fen = s.fen := by
  obtain ⟨q, h⟩ | h := learnEvent_cases s n p <;> rw [h]
  · rfl
  · exact bumpTab_fen ..

theorem flag_en_learnEvent (s : State) (n : Nat) (p : Packet) (m : Nat) :
    (s.learnEvent n p).flag .corePortCfg_en m = s.flag .corePortCfg_en m := by
  obtain ⟨q, h⟩ | h := learnEvent_cases s n p <;> rw [h]
  · rfl
  · rw [flag_def, rd_bumpTab _ _ _ _ (by decide), flag_def]

theorem count_learnEvent (s : State) (n : Nat) (p : Packet) {g : Nat} (h : g ≠ 5) (i : Nat) :
    (s.learnEvent n p).count g i = s.count g i := by
  obtain ⟨q, hq⟩ | hq := learnEvent_cases s n p <;> rw [hq]
  · rfl
  · exact count_bumpN_other s h _ _ _

/-! Admission to an ingress queue (R133, R135). -/

/-- Judging stop again moves the stops and the timers of the flows, and nothing else (R144, R148). -/
def StopsMoved (s t : State) : Prop := ∃ flows stop, t = s.onSw (fun w => { w with flows := flows, stop := stop })

namespace StopsMoved

theorem refl (s : State) : StopsMoved s s := ⟨s.sw.flows, s.sw.stop, rfl⟩

theorem trans {s t u : State} (hst : StopsMoved s t) (htu : StopsMoved t u) : StopsMoved s u := by
  obtain ⟨_, _, rfl⟩ := hst
  obtain ⟨flows, stop, rfl⟩ := htu
  exact ⟨flows, stop, rfl⟩

theorem foldl {α : Type} {g : State → α → State} (hg : ∀ s a, StopsMoved s (g s a)) (l : List α) (s : State) :
    StopsMoved s (l.foldl g s) := by
  induction l generalizing s with
  | nil => exact refl s
  | cons a l ih => exact (hg s a).trans (ih _)

theorem gapJudge (s : State) (key : Nat) : StopsMoved s (s.gapJudge key) := by
  simp only [State.gapJudge, State.setFlow]
  split
  · exact ⟨_, s.sw.stop, rfl⟩
  · exact ⟨_, s.sw.stop, rfl⟩
  · exact refl s

theorem setStop (s : State) (d c : Nat) (on : Bool) : StopsMoved s (s.setStop d c on) :=
  trans ⟨s.sw.flows, _, rfl⟩ (foldl gapJudge _ _)

theorem updStop (s : State) (d c : Nat) : StopsMoved s (s.updStop d c) := by
  simp only [State.updStop]
  repeat' split
  · exact refl s
  · exact setStop s d c true
  · exact setStop s d c false
  · exact refl s

theorem updStops (s : State) (k : Nat) : StopsMoved s (s.updStops k) :=
  foldl (fun s d => foldl (fun s c => updStop s d c) _ s) _ s

end StopsMoved

/-- An ingress queue reads as it was set. -/
@[simp] theorem voq_setVoq_same (s : State) (i c m : Nat) (q : List Nat) : (s.setVoq i c m q).voq i c m = q := by
  simp only [State.setVoq, State.voq, onSw_sw]
  cases q with
  | nil => simp
  | cons a q => simp

/-- In `t` the packet `p` stands at the tail of its queue under the next packet number of `s`. -/
structure Enqueued (p : Pkt) (s t : State) : Prop where
  pkt : t.pkt? s.sw.nextPid = some p
  next : t.sw.nextPid = s.sw.nextPid + 1
  voq : t.voq p.blk p.cls p.member = s.voq p.blk p.cls p.member ++ [s.sw.nextPid]

theorem enqueue_enqueued {s u : State} (hnext : u.sw.nextPid = s.sw.nextPid) (hvoq : u.sw.voq = s.sw.voq) (p : Pkt) :
    Enqueued p s (u.enqueue p) where
  pkt := hnext ▸ kget_kput_same _ _ _
  next := congrArg (· + 1) hnext
  voq := by
    simp only [State.enqueue, voq_setVoq_same, hnext]
    exact congrArg (fun q => (kget q (voqKey p.blk p.cls p.member)).getD [] ++ [s.sw.nextPid]) hvoq

/-- A packet that stands in its queue is admitted. -/
theorem Enqueued.admitted {p : Pkt} {s t : State} (h : Enqueued p s t) : Admitted p.body p.dest p.nseg s t :=
  ⟨p, h.pkt, rfl, rfl, rfl, h.next, h.voq⟩

theorem Enqueued.stopsMoved {p : Pkt} {s t u : State} (h : Enqueued p s t) (htu : StopsMoved t u) : Enqueued p s u := by
  obtain ⟨_, _, rfl⟩ := htu
  exact ⟨h.pkt, h.next, h.voq⟩

/-- R135: a packet that fits the unused reserve of a class that cannot spill enters its queue, its segments taken from the reserve. -/
theorem admitPkt_of_fits {s : State} {p : Pkt} (h : s.fits (regionOfBlock p.blk) p.cls p.nseg) :
    ∃ t, s.admitPkt p = (t, some s.sw.nextPid) ∧ Enqueued { p with rsv := p.nseg } s t := by
  obtain ⟨hclass, hroom⟩ := h
  have hnospill : ¬ p.cls < 4 := by omega
  simp only [State.admitPkt, hnospill, decide_false, Bool.false_and, Bool.false_eq_true, if_false, hroom, if_true]
  refine ⟨_, rfl, Enqueued.stopsMoved (enqueue_enqueued ?_ ?_ _) (StopsMoved.updStops _ _)⟩
  · rw [State.poolSub, wr_sw, onSw_sw]
  · rw [State.poolSub, wr_sw, onSw_sw]

/-- The core block and the region of a port (R16, R17). -/
theorem regionOfBlock_blockOfPort (port : Fin 512) : regionOfBlock (blockOfPort port) = port / 64 := by
  have hport := port.isLt
  have hblock : (port : Nat) / 8 < 64 := by omega
  rw [blockOfPort, regionOfBlock, if_pos hblock, Nat.div_div_eq_div_mul]

/-- R133: a packet that fits is received from here on under its number, with none of its segments arrived. -/
theorem startRx_of_fits {s : State} {port : Nat} {b : Body} {c n : Nat} {d : Dest}
    (h : s.fits (regionOfBlock (blockOfPort port)) c n) :
    ∃ t, s.startRx port b c n d = t.onSw (fun w => { w with rx := kput w.rx (2 * port + b2n (c == 7)) s.sw.nextPid }) ∧
      Enqueued { s.rxPkt port b c n d with rsv := n } s t := by
  obtain ⟨t, hadmit, hqueued⟩ := admitPkt_of_fits (s := s) (p := s.rxPkt port b c n d) h
  exact ⟨t, by simp only [State.startRx, hadmit], hqueued⟩

/-- R134, R160: a whole packet that fits enters with all its segments. -/
theorem admitWhole_of_fits {s : State} {p : Pkt} (h : s.fits (regionOfBlock p.blk) p.cls p.nseg) :
    Admitted p.body p.dest p.nseg s (s.admitWhole p) := by
  obtain ⟨t, hadmit, hpkt, hnext, hvoq⟩ := admitPkt_of_fits (p := { p with whole := true }) h
  have hpkt' : kget t.sw.pkts s.sw.nextPid = _ := hpkt
  simp only [State.admitWhole, hadmit, State.segIn, State.onPkt, hpkt']
  exact ⟨_, kget_kput_same _ _ _, rfl, rfl, rfl, hnext, hvoq⟩

/-- A policer's tokens are kept in the buckets (R174). -/
theorem takeTokens_eq_onSw (s : State) (key bytes : Nat) : ∃ b, s.takeTokens key bytes = s.onSw (fun w => { w with buckets := b }) := by
  simp only [State.takeTokens]
  split
  · exact ⟨_, rfl⟩
  · exact ⟨s.sw.buckets, rfl⟩
/-! The header of a packet (R59, R133, R477). -/

section Header
variable {port : Fin 512} {p : Packet} {start : Option (BitVec 64)} {s : State}
variable (hon : s.off = false) (hregion : s.regionDead (port / 64) = false) (hen : s.flag .corePortCfg_en port = true)
  (hnative : s.isEth port = false)
include hon hregion hen hnative

/-- R59: a header that fails a check is counted. -/
theorem doPacketHeaderReceived_fault {e : PortEv} (hstate : s.rd .corePortStatus_state port ∈ [2, 3, 4])
    (hfault : headerFault p start = some e) : doPacketHeaderReceived port p start s = s.bumpPort port e := by
  simp only [List.mem_cons, List.not_mem_nil, or_false] at hstate
  obtain h | h | h := hstate <;> simp [doPacketHeaderReceived, hon, hregion, hen, hnative, h, hfault]

/-- R477: on a port in service a header without fault is seen by the learning, then meets the limit of TC7 and the later steps. -/
theorem doPacketHeaderReceived_good (hstate : s.rd .corePortStatus_state port ∈ [3, 4]) (hfault : headerFault p start = none) :
    doPacketHeaderReceived port p start s =
      if p.tc = 7 ∧ 2048 < 36 + p.len.toNat then (s.learnEvent port p).bumpPort port .tc7Oversize
      else ((s.learnEvent port p).bumpTraffic 0 port p.tc.toNat (36 + p.len.toNat)).headerSteps port p := by
  simp only [List.mem_cons, List.not_mem_nil, or_false] at hstate
  obtain h | h := hstate <;> simp [doPacketHeaderReceived, hon, hregion, hen, hnative, h, hfault]

end Header

/-- R175: a kind that may not travel in TC6 is counted there. -/
theorem headerSteps_tc6Kind {s : State} {p : Packet} (port : Nat) (hclass : p.tc = 6) (hkind : tc6Kind p.kind = false) :
    s.headerSteps port p = s.bumpClass port 6 .tc6KindDrop := by
  simp [State.headerSteps, hclass, hkind]

/-- R477: a packet that no step drops and whose lookup names a port takes its tokens and is received for that port. -/
theorem headerSteps_port {s v : State} {port x : Nat} {p : Packet} (hkind : p.tc = 6 → tc6Kind p.kind = true)
    (hlocal : isLinkLocal p.dgid = false) (hsrc : s.inSitOut p.sgid.toNat = false) (hdst : s.inSitOut p.dgid.toNat = false)
    (hhops : p.hops ≠ 0)
    (hlookup : s.lookup (regionOfBlock (blockOfPort port)) (blockOfPort port) (some port) p = (v, .go (.port x)))
    (hpasses : v.policerPasses port p.tc.toNat = true) :
    s.headerSteps port p = (v.takeTokens (polKey port p.tc.toNat) (36 + p.len.toNat + v.overhead port)).startRx port (.porxel p)
      p.tc.toNat ((36 + p.len.toNat + 255) / 256) (.port x) := by
  have hkind' : ¬ (p.tc = 6 ∧ (!tc6Kind p.kind) = true) := by
    rintro ⟨h6, h⟩
    simp [hkind h6] at h
  simp only [State.headerSteps, hkind', hlocal, hsrc, hdst, hhops, hlookup, hpasses, Bool.and_false, Bool.false_eq_true, if_false, if_true]

/-! The segments of a packet and its end (R59, R60, R133, R135). -/

/-- A packet that is there is changed in its place. -/
theorem onPkt_of_pkt {s : State} {pid : Nat} {p : Pkt} (h : s.pkt? pid = some p) (g : Pkt → Pkt) :
    s.onPkt pid g = s.onSw (fun w => { w with pkts := kput w.pkts pid (g p) }) := by
  have hget : kget s.sw.pkts pid = some p := h
  simp only [State.onPkt, hget]

@[simp] theorem pkt?_onPkt_same (s : State) (pid : Nat) (g : Pkt → Pkt) : (s.onPkt pid g).pkt? pid = (s.pkt? pid).map g := by
  cases h : s.pkt? pid with
  | none =>
    have hget : kget s.sw.pkts pid = none := h
    simp only [State.onPkt, hget, h, Option.map_none]
  | some p =>
    rw [onPkt_of_pkt h]
    exact kget_kput_same _ _ _

/-- A packet whose next `n` segments have entered its queue in `s` (R133). -/
def withSegs (s : State) (n : Nat) (p : Pkt) : Pkt :=
  { p with arrived := p.arrived + n, segT := p.segT ++ List.replicate n s.now, ord := p.ord ++ List.range' s.sw.nextSeg n }

@[simp] theorem pkt?_segIn_same (s : State) (pid n : Nat) : (s.segIn pid n).pkt? pid = (s.pkt? pid).map (withSegs s n) :=
  pkt?_onPkt_same s pid (withSegs s n)

/-- R133: a segment of a packet that has more to come enters its queue. -/
theorem doSegmentBytesArrived_eq {s : State} {port : Fin 512} {exp : Bool} {pid : Nat} {p : Pkt} {q : Packet}
    (hrx : kget s.sw.rx (2 * port + b2n exp) = some pid) (hpkt : s.pkt? pid = some p) (hbody : p.body = .porxel q)
    (hmore : p.arrived + 1 < p.nseg) : doSegmentBytesArrived port exp s = s.segIn pid 1 := by
  simp only [doSegmentBytesArrived, hrx, hpkt, hbody, hmore, if_true]

@[simp] theorem pkt?_wr (s : State) (f : Fld) (i v pid : Nat) : (s.wr f i v).pkt? pid = s.pkt? pid := rfl

@[simp] theorem pkt?_setVoq (s : State) (i c m : Nat) (q : List Nat) (pid : Nat) : (s.setVoq i c m q).pkt? pid = s.pkt? pid := rfl

@[simp] theorem pkt?_spillEnds (s : State) (i c m pid : Nat) : (s.spillEnds i c m).pkt? pid = s.pkt? pid := by
  rw [State.spillEnds]
  split <;> rfl

@[simp] theorem pkt?_when (s : State) (c : Bool) (g : State → State) (pid : Nat) :
    (s.when c g).pkt? pid = if c then (g s).pkt? pid else s.pkt? pid := by
  cases c <;> rfl

/-- Between `s` and `t` only the packets, the ingress queues, the count of segments, the marks of spill and SPILL_USED may differ. -/
structure RxMoved (s t : State) : Prop where
  sw : ∃ pkts nextSeg voq spill, t.sw = { s.sw with pkts := pkts, nextSeg := nextSeg, voq := voq, spill := spill }
  parts : OnlyParts [.sw, .regs] s t
  regs : OnlyRegs [.corePoolStatus_spillUsed] s t

namespace RxMoved

variable {s t : State}

theorem refl (s : State) : RxMoved s s := ⟨⟨_, _, _, _, rfl⟩, onlyParts_refl _ s, fun _ _ _ => rfl⟩

theorem when {g : State → State} (h : RxMoved s t) (hg : ∀ t, RxMoved s t → RxMoved s (g t)) (c : Bool) : RxMoved s (t.when c g) := by
  cases c
  · exact h
  · exact hg t h

theorem wr (h : RxMoved s t) (i v : Nat) : RxMoved s (t.wr .corePoolStatus_spillUsed i v) :=
  ⟨h.sw, onlyParts_trans h.parts (onlyParts_wr (by simp) _ _ _ _),
    fun f j hf => (rd_wr_other t v (.inl (by simpa using hf))).trans (h.regs f j hf)⟩

/-- A change of the switch core that is one of those named. -/
theorem onSw (h : RxMoved s t) (g : Sw → Sw)
    (hg : ∃ pkts nextSeg voq spill, g t.sw = { t.sw with pkts := pkts, nextSeg := nextSeg, voq := voq, spill := spill }) :
    RxMoved s (t.onSw g) := by
  obtain ⟨_, _, _, _, hsw⟩ := h.sw
  obtain ⟨pkts, nextSeg, voq, spill, hg⟩ := hg
  refine ⟨⟨pkts, nextSeg, voq, spill, ?_⟩, onlyParts_trans h.parts (onlyParts_onSw (by simp) _ _), h.regs⟩
  rw [onSw_sw, hg, hsw]

theorem onPkt (h : RxMoved s t) (pid : Nat) (g : Pkt → Pkt) : RxMoved s (t.onPkt pid g) := by
  simp only [State.onPkt]
  split
  · exact h.onSw _ ⟨_, _, _, _, rfl⟩
  · exact h

theorem segIn (h : RxMoved s t) (pid n : Nat) : RxMoved s (t.segIn pid n) :=
  (h.onPkt pid (withSegs t n)).onSw _ ⟨_, _, _, _, rfl⟩

theorem setVoq (h : RxMoved s t) (i c m : Nat) (q : List Nat) : RxMoved s (t.setVoq i c m q) :=
  h.onSw _ ⟨_, _, _, _, rfl⟩

theorem spillEnds (h : RxMoved s t) (i c m : Nat) : RxMoved s (t.spillEnds i c m) := by
  rw [State.spillEnds]
  split
  · exact h.onSw _ ⟨_, _, _, _, rfl⟩
  · exact h

end RxMoved

section CompleteRx
variable {s : State} {pid : Nat} {p : Pkt} (hpkt : s.pkt? pid = some p)
include hpkt

/-- R133: the completion of a packet that uses every segment it was admitted for. -/
theorem completeRx_moved : RxMoved s (s.completeRx pid p.nseg) := by
  have hfits : decide (p.nseg < p.nseg) = false := by simp
  simp only [State.completeRx, hpkt, hfits, when_false]
  refine (((((RxMoved.refl s).when ?_ _).segIn ..).onPkt ..).when ?_ _).when ?_ _
  · exact fun _ h => h.wr ..
  · exact fun _ h => h.setVoq ..
  · exact fun _ h => h.spillEnds ..

/-- The packet is then whole, and all its segments have arrived. -/
theorem pkt?_completeRx : ∃ q, (s.completeRx pid p.nseg).pkt? pid = some q ∧ q.whole = true ∧
    q.arrived = p.arrived + (p.nseg - p.arrived) ∧ q.dst = p.dst := by
  have hfits : decide (p.nseg < p.nseg) = false := by simp
  simp only [State.completeRx, hpkt, hfits, when_false, pkt?_when, pkt?_spillEnds, pkt?_setVoq, ite_self, pkt?_onPkt_same,
    pkt?_segIn_same, pkt?_wr, Option.map_some]
  exact ⟨_, rfl, rfl, rfl, rfl⟩

end CompleteRx

/-- A packet of which nothing gathers at its block is not delivered (R134). -/
theorem deliverIfGathered_of_none {s : State} {pid : Nat} {p : Pkt} (hpkt : s.pkt? pid = some p)
    (hnone : sget 0 s.sw.gather (Nat.pair pid p.dst) = 0) : s.deliverIfGathered pid = s := by
  simp only [State.deliverIfGathered, hpkt, hnone, ne_eq, not_true, false_and, and_false, if_false]

section ReceiveComplete
variable {port : Fin 512} {exp : Bool} {pid x rxLen : Nat} {fecOk : Bool} {p : Pkt} {q : Packet} {s : State}
variable (hrx : kget s.sw.rx (2 * port + b2n exp) = some pid) (hpkt : s.pkt? pid = some p) (hbody : p.body = .porxel q)
  (hkept : p.dropped = false)
include hrx hpkt hbody hkept

/-- R59: a packet for a port that passes check 8 completes whole. -/
theorem doPacketReceiveComplete_good (hgood : tailFault q rxLen fecOk = none) (hdest : p.dest = .port x) :
    doPacketReceiveComplete port exp rxLen fecOk s =
      ((s.onSw (fun w => { w with rx := kdel w.rx (2 * port + b2n exp) })).completeRx pid p.nseg).deliverIfGathered pid := by
  have hpkt' : (s.onSw (fun w => { w with rx := kdel w.rx (2 * port + b2n exp) })).pkt? pid = some p := hpkt
  simp only [doPacketReceiveComplete, hrx, hpkt', hbody, hdest, hkept, hgood, Bool.false_eq_true, if_false]

/-- R59, R60: a packet that fails check 8 is dropped or stomped. -/
theorem doPacketReceiveComplete_fault {e : PortEv} (hfault : tailFault q rxLen fecOk = some e) :
    doPacketReceiveComplete port exp rxLen fecOk s =
      (s.onSw (fun w => { w with rx := kdel w.rx (2 * port + b2n exp) })).failTail port pid p p.nseg (min rxLen q.len.toNat) e := by
  have hpkt' : (s.onSw (fun w => { w with rx := kdel w.rx (2 * port + b2n exp) })).pkt? pid = some p := hpkt
  simp only [doPacketReceiveComplete, hrx, hpkt', hbody, hkept, hfault, Bool.false_eq_true, if_false]

end ReceiveComplete

/-- Since `s` nothing has been counted; packet `pid`, where it is still held, is marked as failed, and each of its transmissions is
stomped (R60). -/
structure Stomped (pid : Nat) (s t : State) : Prop where
  tel : t.tel = s.tel
  err : ∀ r, t.pkt? pid = some r → r.err = true
  tx : ∀ y ∈ t.sw.tx, y.2.ep.pid = pid → y.2.stomp = true

namespace Stomped

variable {pid : Nat} {s t : State}

/-- Steps taken for the members of a list, each of which leaves the packet stomped. -/
theorem foldl {α : Type} {g : State → α → State} (h : Stomped pid s t) (hg : ∀ t a, Stomped pid s t → Stomped pid s (g t a))
    (l : List α) : Stomped pid s (l.foldl g t) := by
  induction l generalizing t with
  | nil => exact h
  | cons a l ih => exact ih (hg t a h)

theorem when {g : State → State} (h : Stomped pid s t) (hg : ∀ t, Stomped pid s t → Stomped pid s (g t)) (c : Bool) :
    Stomped pid s (t.when c g) := by
  cases c
  · exact h
  · exact hg t h

theorem wr (h : Stomped pid s t) (f : Fld) (i v : Nat) : Stomped pid s (t.wr f i v) := ⟨h.tel, h.err, h.tx⟩

/-- A change of the switch core that touches neither packets nor transmissions. -/
theorem onSw (h : Stomped pid s t) (g : Sw → Sw) (hpkts : (g t.sw).pkts = t.sw.pkts := by rfl)
    (htx : (g t.sw).tx = t.sw.tx := by rfl) : Stomped pid s (t.onSw g) := by
  refine ⟨h.tel, fun r hr => h.err r ?_, fun y hy => h.tx y (htx ▸ hy)⟩
  rwa [State.pkt?, onSw_sw, hpkts] at hr

theorem gc (h : Stomped pid s t) (x : Nat) : Stomped pid s (t.gc x) := by
  rw [State.gc]
  split
  · exact h
  · refine ⟨h.tel, fun r hr => ?_, h.tx⟩
    have hget : kget (kdel t.sw.pkts x) pid = some r := hr
    by_cases hx : pid = x
    · subst hx
      rw [kget_kdel_same] at hget
      cases hget
    · rw [kget_kdel_other _ _ _ hx] at hget
      exact h.err r hget

theorem onPkt (h : Stomped pid s t) (g : Pkt → Pkt) (hg : ∀ r, (g r).err = r.err) : Stomped pid s (t.onPkt pid g) := by
  refine ⟨?_, fun r hr => ?_, ?_⟩
  · rw [State.onPkt]
    split <;> exact h.tel
  · rw [pkt?_onPkt_same, Option.map_eq_some_iff] at hr
    obtain ⟨r', hr', rfl⟩ := hr
    rw [hg]
    exact h.err r' hr'
  · rw [State.onPkt]
    split <;> exact h.tx

theorem poolAdd (h : Stomped pid s t) (k n : Nat) : Stomped pid s (t.poolAdd k n) := h.wr ..

theorem egFree (h : Stomped pid s t) (d c n : Nat) : Stomped pid s (t.egFree d c n) := h.when (fun _ h => h.poolAdd ..) _

theorem setEgq (h : Stomped pid s t) (n c : Nat) (q : List EPkt) : Stomped pid s (t.setEgq n c q) := h.onSw _

theorem setVoq (h : Stomped pid s t) (i c m : Nat) (q : List Nat) : Stomped pid s (t.setVoq i c m q) := h.onSw _

theorem copyDone (h : Stomped pid s t) (x d c : Nat) : Stomped pid s (t.copyDone x d c) := by
  simp only [State.copyDone]
  repeat' split
  · exact h
  · exact ((h.onSw _).egFree ..).gc x
  · exact (h.onSw _).egFree ..
  · exact h

theorem dropEgress (h : Stomped pid s t) (n c : Nat) (e : EPkt) : Stomped pid s (t.dropEgress n c e) := by
  simp only [State.dropEgress]
  refine (((h.setEgq ..).when ?_ _).when ?_ _).copyDone ..
  · exact fun _ h => h.wr ..
  · exact fun _ h => h.onSw _

theorem dropCopies (h : Stomped pid s t) (x d c : Nat) : Stomped pid s (t.dropCopies x d c) :=
  h.foldl (fun _ n h => h.foldl (fun _ e h => h.dropEgress n c e) _) _

theorem dropGather (h : Stomped pid s t) (x d : Nat) : Stomped pid s (t.dropGather x d) := by
  simp only [State.dropGather]
  split
  · exact h
  · exact (h.onSw _).egFree ..

/-- An underrun keeps what is stomped so. -/
theorem underrun (h : Stomped pid s t) (cond : Nat × Tx → Prop) [DecidablePred cond] :
    Stomped pid s (t.onSw (fun w => { w with tx := w.tx.map (fun e =>
      if cond e then (e.1, { e.2 with underrun := true }) else e) })) := by
  refine ⟨h.tel, h.err, fun y hy hpid => ?_⟩
  obtain ⟨e, he, rfl⟩ := List.mem_map.mp hy
  by_cases hcond : cond e
  · rw [if_pos hcond] at hpid ⊢
    exact h.tx e he hpid
  · rw [if_neg hcond] at hpid ⊢
    exact h.tx e he hpid

theorem discardAt (h : Stomped pid s t) (d : Nat) : Stomped pid s (t.discardAt pid d) := by
  simp only [State.discardAt]
  split
  · exact h
  · refine (((h.onPkt _ ?_).dropCopies ..).underrun _).dropGather ..
    exact fun _ => rfl

theorem lose (h : Stomped pid s t) : Stomped pid s (t.lose pid) := by
  rw [State.lose]
  split
  · exact h
  · exact h.foldl (fun _ d h => h.discardAt d) _

theorem freeIngress (h : Stomped pid s t) (n : Nat) : Stomped pid s (t.freeIngress pid n) := by
  simp only [State.freeIngress]
  split
  · exact h
  · refine ((h.onPkt _ ?_).onSw _).poolAdd ..
    exact fun _ => rfl

theorem spillEnds (h : Stomped pid s t) (i c m : Nat) : Stomped pid s (t.spillEnds i c m) := by
  rw [State.spillEnds]
  split
  · exact h.onSw _
  · exact h

theorem dropQueued (h : Stomped pid s t) (m : Nat) : Stomped pid s (t.dropQueued pid m) := by
  simp only [State.dropQueued]
  split
  · exact h
  · refine ((((((h.freeIngress _).wr ..).onPkt _ ?_).setVoq ..).spillEnds ..).lose).gc pid
    exact fun _ => rfl

end Stomped

/-- A packet marked as failed, with its transmissions marked. -/
theorem stompTx_stomped (s : State) (pid : Nat) : Stomped pid s ((s.onPkt pid (fun p => { p with err := true })).stompTx pid) where
  tel := by
    rw [State.onPkt]
    split <;> rfl
  err r hr := by
    have hpkt : (s.onPkt pid (fun p => { p with err := true })).pkt? pid = some r := hr
    rw [pkt?_onPkt_same, Option.map_eq_some_iff] at hpkt
    obtain ⟨r', -, rfl⟩ := hpkt
    rfl
  tx y hy hpid := by
    obtain ⟨e, -, rfl⟩ := List.mem_map.mp hy
    by_cases he : e.2.ep.pid = pid
    · rw [if_pos he]
    · rw [if_neg he] at hpid
      exact absurd hpid he

/-- R60, R83: a packet that fails at its end is dropped where nothing of it has left, and stomped where it has begun to leave. -/
theorem spoil_stomped {s : State} {pid : Nat} {p : Pkt} (hpkt : s.pkt? pid = some p) : Stomped pid s (s.spoil pid) := by
  simp only [State.spoil, hpkt]
  have hdropped := (stompTx_stomped s pid).foldl (g := fun s d => (s.dropCopies pid d p.cls).dropGather pid d)
    (fun _ d h => (h.dropCopies ..).dropGather ..) p.blocks
  split
  · exact hdropped.dropQueued _
  · exact hdropped.gc pid

/-- Since `s` the failure of packet `pid` at its end has been counted at port `n`, unless it has begun to leave, and what is left of it
is stomped (R59, R60). -/
structure TailFailed (n pid : Nat) (begun : Bool) (e : PortEv) (s t : State) : Prop where
  counted : begun = false → Counted 2 (64 * n + e.ctorIdx) s t
  err : ∀ r, t.pkt? pid = some r → r.err = true
  tx : ∀ y ∈ t.sw.tx, y.2.ep.pid = pid → y.2.stomp = true

theorem failTail_failed {s : State} {n pid : Nat} {p : Pkt} (hon : s.off = false) (hen : s.flag .corePortCfg_en n = true)
    (hpkt : s.pkt? pid = some p) (len : Nat) (e : PortEv) :
    TailFailed n pid p.begun e s (s.failTail n pid p p.nseg len e) := by
  simp only [State.failTail]
  generalize hcut : State.onSw (s.onPkt pid _) _ = u
  obtain ⟨w, hsu⟩ : ∃ w, u = s.onSw (fun _ => w) := by
    subst hcut
    rw [onPkt_of_pkt hpkt]
    exact ⟨_, rfl⟩
  have hupkt : u.pkt? pid = some { p with body := cutPayload len p.body } := by
    subst hcut
    exact (pkt?_onPkt_same s pid _).trans (by rw [hpkt]; rfl)
  have hmoved := completeRx_moved hupkt
  obtain ⟨q, hqpkt, -⟩ := pkt?_completeRx hupkt
  generalize hv : u.completeRx pid _ = v at hmoved hqpkt
  have htel : v.tel = s.tel := (hmoved.parts.2 .tel (by simp)).trans (by rw [hsu, onSw_tel])
  have hvon : v.off = false := (hmoved.parts.2 .off (by simp)).trans (by rw [hsu, onSw_off, hon])
  have hven : v.flag .corePortCfg_en n = true := by rw [flag_def, hmoved.regs _ _ (by decide), hsu, rd_onSw, ← flag_def, hen]
  have hwpkt : (v.when (!p.begun) (fun s => s.bumpPort n e)).pkt? pid = some q := by
    rw [State.pkt?, when_sw, bumpPort_sw, ite_self]
    exact hqpkt
  have hstomped := spoil_stomped hwpkt
  refine ⟨fun hbegun => ?_, hstomped.err, hstomped.tx⟩
  rw [hbegun, Bool.not_false, when_true] at hstomped ⊢
  refine counted_congr (bumpPort_counts hvon hven e).1 ?_ ?_
  · rw [State.count, State.count, htel]
  · rw [State.count, State.count, hstomped.tel]

/-- Settles O45: each clause is one rule above, of the header that fails a check or passes them all, of a segment that arrives, and of
the packet that ends well or badly. -/
theorem receptionFollowsTheChecks : Obligations.ReceptionFollowsTheChecks := by
  refine ⟨?headerFails, ?headerPasses, ?classFails, ?segment, ?whole, ?tailFails⟩
  case headerFails =>
    intro port p start e s hon hregion hen hnative hstate hfault
    refine ⟨s.settled (doPacketHeaderReceived port p start s), rfl, ?_⟩
    rw [doPacketHeaderReceived_fault hon hregion hen hnative hstate hfault]
    obtain ⟨hcounted, honly⟩ := bumpPort_counts hon hen e
    exact ⟨hcounted, onlyParts_settled honly⟩
  case headerPasses =>
    intro port p start s v x hon hregion hen hnative hstate hfault hlong hkind hlocal hsrc hdst hhops hlookup hpasses hfits
    refine ⟨s.settled (doPacketHeaderReceived port p start s), rfl, ?_⟩
    generalize hu : (s.learnEvent port p).bumpTraffic 0 port p.tc.toNat (36 + p.len.toNat) = u at hlookup
    have hshort : ¬ (p.tc = 7 ∧ 2048 < 36 + p.len.toNat) := fun h => by
      have := hlong h.1
      omega
    have hfen : u.fen = s.fen := by rw [← hu, bumpTraffic_fen, learnEvent_fen]
    have hregionOf : regionOfBlock (blockOfPort port) = port / 64 := regionOfBlock_blockOfPort port
    obtain ⟨b, htokens⟩ := takeTokens_eq_onSw v (polKey port p.tc.toNat) (36 + p.len.toNat + v.overhead port)
    rw [doPacketHeaderReceived_good hon hregion hen hnative hstate hfault, if_neg hshort, hu,
      headerSteps_port hkind hlocal (by rwa [State.inSitOut, hfen]) (by rwa [State.inSitOut, hfen]) hhops
        (by rw [hregionOf]; exact hlookup) hpasses, htokens]
    obtain ⟨t, hstart, hqueued⟩ := startRx_of_fits (s := v.onSw (fun w => { w with buckets := b })) (port := port) (b := .porxel p)
      (d := .port x) (by rw [hregionOf]; exact hfits)
    rw [hstart]
    have hpkt := hqueued.pkt
    refine ⟨hqueued.admitted, ?_, kget_kput_same _ _ _⟩
    exact congrArg (Option.map (fun p : Pkt => (p.arrived, p.whole))) hpkt
  case classFails =>
    intro port p start s hon hregion hen hnative hstate hfault
    have hgood := doPacketHeaderReceived_good (p := p) (start := start) hon hregion hen hnative hstate hfault
    refine ⟨fun hclass hkind => ⟨s.settled (doPacketHeaderReceived port p start s), rfl, ?_⟩,
      fun hclass hlong => ⟨s.settled (doPacketHeaderReceived port p start s), rfl, ?_⟩⟩
    · have hnot7 : ¬ (p.tc = 7 ∧ 2048 < 36 + p.len.toNat) := fun h => absurd (hclass.symm.trans h.1) (by decide)
      rw [hgood, if_neg hnot7, headerSteps_tc6Kind _ hclass hkind]
      refine ⟨counted_congr (bumpClass_counts ?_ ?_ 6 .tc6KindDrop) ?_ rfl, ?_⟩
      · rw [bumpTraffic_off, learnEvent_off, hon]
      · rw [flag_en_bumpTraffic, flag_en_learnEvent, hen]
      · rw [count_bumpTraffic_other _ (by decide), count_learnEvent _ _ _ (by decide)]
      · rw [settled_sw, bumpClass_sw, bumpTraffic_sw, learnEvent_sw]
    · rw [hgood, if_pos ⟨hclass, hlong⟩]
      refine ⟨counted_congr (bumpPort_counts ?_ ?_ .tc7Oversize).1 ?_ rfl, ?_⟩
      · rw [learnEvent_off, hon]
      · rw [flag_en_learnEvent, hen]
      · rw [count_learnEvent _ _ _ (by decide)]
      · rw [settled_sw, bumpPort_sw, learnEvent_sw]
  case segment =>
    intro port exp pid p q s hrx hpkt hbody hmore
    refine ⟨s.settled (doSegmentBytesArrived port exp s), rfl, ?_⟩
    rw [doSegmentBytesArrived_eq hrx hpkt hbody hmore]
    refine ⟨(pkt?_segIn_same s pid 1).trans (by rw [hpkt]; rfl), onlyParts_settled ?_⟩
    rw [State.segIn, onPkt_of_pkt hpkt]
    exact onlyParts_trans (onlyParts_onSw (by simp) _ _) (onlyParts_onSw (by simp) _ _)
  case whole =>
    intro port exp pid x p q s hrx hpkt hbody hdest hkept harrived hnone
    refine ⟨s.settled (doPacketReceiveComplete port exp q.len.toNat true s), rfl, ?_⟩
    rw [doPacketReceiveComplete_good hrx hpkt hbody hkept (by simp [tailFault]) hdest]
    generalize hu : s.onSw (fun w => { w with rx := kdel w.rx (2 * port + b2n exp) }) = u
    have hupkt : u.pkt? pid = some p := hu ▸ hpkt
    have hmoved := completeRx_moved hupkt
    obtain ⟨r, hrpkt, hwhole, hlast, hdst⟩ := pkt?_completeRx hupkt
    obtain ⟨_, _, _, _, hsw⟩ := hmoved.sw
    have hgather : (u.completeRx pid p.nseg).sw.gather = s.sw.gather := by rw [hsw, ← hu]; rfl
    rw [deliverIfGathered_of_none hrpkt (by rw [hgather, hdst, hnone])]
    refine ⟨?_, ?_, onlyParts_settled (onlyParts_trans ?_ hmoved.parts), fun f i hf => ?_⟩
    · rw [settled_sw, hsw, ← hu]
      rfl
    · have hsame : (s.settled (u.completeRx pid p.nseg)).pkt? pid = some r := hrpkt
      rw [hsame, Option.map_some, hwhole, hlast, Nat.add_sub_cancel' harrived]
    · exact hu ▸ onlyParts_onSw (by simp) _ _
    · rw [rd_settled, hmoved.regs f i hf, ← hu, rd_onSw]
  case tailFails =>
    intro port exp pid x rxLen p q fecOk e s hon hen hrx hpkt hbody hdest hkept hfault
    refine ⟨s.settled (doPacketReceiveComplete port exp rxLen fecOk s), rfl, ?_⟩
    rw [doPacketReceiveComplete_fault hrx hpkt hbody hkept hfault]
    have hfailed := failTail_failed (s := s.onSw (fun w => { w with rx := kdel w.rx (2 * port + b2n exp) })) (n := port) hon hen hpkt
      (min rxLen q.len.toNat) e
    exact ⟨hfailed.counted, hfailed.err, hfailed.tx⟩

/-! Frames (R83, R84). -/

/-- Counting traffic takes no tokens (R174). -/
theorem policerPasses_bumpTraffic (s : State) (g m c' bytes n c : Nat) :
    (s.bumpTraffic g m c' bytes).policerPasses n c = s.policerPasses n c := by
  simp (disch := decide) only [State.policerPasses, State.bucketEn, State.tokens, State.bucketDepth, State.bucketRate, State.gainRate,
    State.rate, State.laneUnits, flag_def, rd_bumpTraffic_other, bumpTraffic_sw, bumpTraffic_tb]

/-- The event counted at a frame that is not routed (R83, R84; log entry 18). -/
def frameFault (bytes : List Byte) (fcsOk : Bool) : Option PortEv :=
  if 9216 < bytes.length + 4 then some .frameOversize
  else if bytes.length + 4 < 64 ∨ fcsOk = false then some .rxFrameErr
  else if isPause bytes then some .pauseRx
  else none

/-- A frame of the right size and check that pauses nothing has no such event. -/
theorem frameFault_none {bytes : List Byte} {fcsOk : Bool} (hmin : 64 ≤ bytes.length + 4) (hmax : bytes.length + 4 ≤ 9216)
    (hfcs : fcsOk = true) (hpause : isPause bytes = false) : frameFault bytes fcsOk = none := by
  simp only [frameFault, Nat.not_lt.mpr hmin, Nat.not_lt.mpr hmax, hfcs, hpause, Bool.true_eq_false, Bool.false_eq_true, or_self, if_false]

section Frame
variable {port : Fin 512} {bytes : List Byte} {fcsOk : Bool} {s : State}
variable (hon : s.off = false) (hregion : s.regionDead (port / 64) = false) (hen : s.flag .corePortCfg_en port = true)
  (heth : s.isEth port = true) (hstate : s.rd .corePortStatus_state port ∈ [3, 4])
include hon hregion hen heth hstate

/-- R83: an Ethernet-mode port in service counts a frame that has a fault and steps on with any other. -/
theorem doEthFrameReceived_eq :
    doEthFrameReceived port bytes fcsOk s =
      match frameFault bytes fcsOk with
      | some e => s.bumpPort port e
      | none =>
        if s.frameClass bytes = 7 ∧ 2048 < bytes.length + 4 then s.bumpPort port .tc7Oversize
        else (s.bumpTraffic 0 port (s.frameClass bytes) (bytes.length + 4)).frameSteps (some port.val) (blockOfPort port)
          (s.frameClass bytes) bytes := by
  have hup : (s.off || s.regionDead (port / 64) || !s.flag .corePortCfg_en port || !s.isEth port ||
      !(s.rd .corePortStatus_state port == 3 || s.rd .corePortStatus_state port == 4)) = false := by
    simp only [List.mem_cons, List.not_mem_nil, or_false] at hstate
    obtain h | h := hstate <;> simp [hon, hregion, hen, heth, h]
  simp only [doEthFrameReceived, hup, Bool.false_eq_true, if_false, frameFault, Bool.not_eq_true']
  by_cases hmax : 9216 < bytes.length + 4
  · simp only [hmax, if_true]
  by_cases hbad : bytes.length + 4 < 64 ∨ fcsOk = false
  · simp only [hmax, hbad, if_false, if_true]
  by_cases hpause : isPause bytes = true
  · simp only [hmax, hbad, hpause, if_false, if_true]
  · simp only [hmax, hbad, hpause, Bool.false_eq_true, if_false]

end Frame

/-- R84: a frame that its policer passes and whose lookup names a port is received for that port. -/
theorem frameSteps_port {s v : State} {n blk c x : Nat} {bytes b : List Byte}
    (hlookup : s.frameLookup (regionOfBlock blk) blk c (some n) bytes = (v, .v (.go (.port x)) b))
    (hpasses : s.policerPasses n c = true) : s.frameSteps (some n) blk c bytes = v.startRx n (.frame b) c 36 (.port x) := by
  simp only [State.frameSteps, hlookup, hpasses, if_true]

/-- R62, R103: the inner frame of an ETH_ENCAP packet whose lookup names a port enters the Reel for that port. -/
theorem frameSteps_inner {s v : State} {blk c x : Nat} {bytes b : List Byte}
    (hlookup : s.frameLookup (regionOfBlock blk) blk c none bytes = (v, .v (.go (.port x)) b)) :
    s.frameSteps none blk c bytes = v.inject (regionOfBlock blk) (.frame b) c (.go (.port x)) 0xFFFF := by
  simp only [State.frameSteps, hlookup, if_true]

/-- R134: a packet for a port that fits enters at the service block of its region. -/
theorem inject_port_of_fits {s : State} {k c x : Nat} {b : Body} (h : s.fits (regionOfBlock (64 + k)) c (segsOf b)) (puntPort : Nat) :
    Admitted b (.port x) (segsOf b) s (s.inject k b c (.go (.port x)) puntPort) := by
  simp only [State.inject, State.injectAt, if_true]
  exact admitWhole_of_fits h

/-- The region of a service block (R17). -/
theorem regionOfBlock_service (k : Nat) : regionOfBlock (64 + k) = k := by
  rw [regionOfBlock, if_neg (by omega), Nat.add_sub_cancel_left]

/-! Packets taken by their local function (R135). -/

/-- What a delivered packet held returns to the pool as it is taken, and stop is judged again: nothing else changes but the list. -/
theorem takeLocal_frees {s u : State} {pos : Nat} {ok : Deliv → Bool} {r : Deliv} (h : s.takeLocal pos ok = some (r, u)) :
    OnlyParts [.sw, .regs] s u ∧ OnlyRegs [.corePoolStatus_free] s u := by
  simp only [State.takeLocal] at h
  split at h
  · split at h
    · next r' _ _ =>
      injection h with h
      obtain ⟨rfl, hu⟩ := Prod.mk.inj h
      generalize hfreed : (s.onSw (fun w => { w with localQ := w.localQ.eraseIdx pos })).egFree r'.blk r'.pkt.tc.toNat r'.segs = v at hu
      obtain ⟨_, _, hmoved⟩ := StopsMoved.updStops v (regionOfBlock r'.blk)
      rw [← hu, hmoved, ← hfreed]
      refine ⟨onlyParts_trans (onlyParts_trans (onlyParts_onSw (by simp) _ _) (onlyParts_when ?_ _)) (onlyParts_onSw (by simp) _ _),
        fun f i hf => ?_⟩
      · exact onlyParts_wr (by simp) _ _ _ _
      · have hne : f ≠ .corePoolStatus_free := by simpa using hf
        rw [rd_onSw, State.egFree, rd_when, State.poolAdd, rd_wr_other _ _ (.inl hne), rd_onSw, ite_self]
    · cases h
  · cases h

/-! Entries of the rings (R447, R448, R451). -/

/-- A message sent, held or merged changes the host access, and may leave the part (R452). -/
theorem msixCause_eq (s : State) (fn vec : Nat) : ∃ m l, s.msixCause fn vec = { s with mgmt := m, out := l ++ s.out } := by
  simp only [State.msixCause, State.msixSend]
  repeat' split
  · exact ⟨s.mgmt, [], rfl⟩
  · exact ⟨_, [], rfl⟩
  · exact ⟨_, [], rfl⟩
  · exact ⟨s.mgmt, [_], rfl⟩
  · exact ⟨_, [_], rfl⟩

/-- An entry with its head as the host reads it, at the part's index of ring `r` (R448). -/
def entryWrite (s : State) (fn r ty : Nat) (b8 body : List Byte) : Output :=
  .hostWrite fn ((s.ring fn r).base + 64 * (s.rd .pcieRingPartIdx_idx (ringIdx fn r) % 2 ^ (s.ring fn r).log2))
    (slice (entryHead ty (entryCells body) (s.ring fn r).seq b8 ++ body) 0 (64 * entryCells body))

/-- Between `s` and `t` an entry of ring `r` was written to the host and the part's index moved on past it. -/
structure EntryWritten (s : State) (fn r ty : Nat) (b8 body : List Byte) (t : State) : Prop where
  emits : Emits s t (entryWrite s fn r ty b8 body)
  index : t.rd .pcieRingPartIdx_idx (ringIdx fn r) = (s.rd .pcieRingPartIdx_idx (ringIdx fn r) + entryCells body) % 2 ^ 32
  parts : OnlyParts [.mgmt, .regs, .out] s t

/-- R448: an entry that does not wrap needs no PAD before it. -/
theorem writeEntry_writes {s : State} {fn r : Nat} {body : List Byte} (hpad : s.padCells fn r (entryCells body) = 0) (ty : Nat)
    (b8 : List Byte) : EntryWritten s fn r ty b8 body (s.writeEntry fn r ty b8 body) := by
  have hput : s.writeEntry fn r ty b8 body = (s.putEntry fn r ty (entryCells body) b8 body).msixCause fn (ringVec r) := by
    simp only [State.writeEntry, hpad, bne_self_eq_false, when_false]
  generalize hu : s.putEntry fn r ty (entryCells body) b8 body = u at hput
  obtain ⟨_, l, hmsix⟩ := msixCause_eq u fn (ringVec r)
  rw [hput]
  refine ⟨⟨l, ?_⟩, ?_, ?_⟩
  · rw [hmsix, ← hu]
    rfl
  · rw [rd_msixCause, ← hu, State.putEntry, rd_wr_same]
    rfl
  · have hentry : OnlyParts [.mgmt, .regs, .out] s u := by
      rw [← hu, State.putEntry]
      exact onlyParts_trans (onlyParts_trans (onlyParts_emit (by simp) _ _) (onlyParts_setRing (by simp) _ _ _ _))
        (onlyParts_wr (by simp) _ _ _ _)
    refine onlyParts_trans hentry ⟨msixCause_pending .., fun p hp => ?_⟩
    rw [hmsix]
    cases p with
    | mgmt | out => simp at hp
    | _ => rfl

/-- An output that left the part after `s` left it after any state with the same outputs. -/
theorem emits_congr {s s' t : State} {o : Output} (h : Emits s t o) (hout : s'.out = s.out) : Emits s' t o := by
  rwa [Emits, hout]

/-- R62, R446: a MGMT packet is posted to the event ring of the lease owner, where that ring takes it. -/
theorem doMgmtReceived_owner {s u : State} {pos fn : Nat} {r : Deliv}
    (htake : s.takeLocal pos (fun r => r.pkt.kind == 0x3F && r.fn == .own) = some (r, u)) (howner : u.owner? = some fn)
    (htakes : u.ringTakes fn 1 r.pkt.bytes = true) :
    doMgmtReceived pos s = u.writeEntry fn 1 3 (leBytes 2 r.pkt.bytes.length) r.pkt.bytes := by
  simp only [doMgmtReceived, htake, howner, State.postEvent, htakes, if_true]

/-- With no owner it is dropped. -/
theorem doMgmtReceived_unowned {s u : State} {pos : Nat} {r : Deliv}
    (htake : s.takeLocal pos (fun r => r.pkt.kind == 0x3F && r.fn == .own) = some (r, u)) (hnone : u.owner? = none) :
    doMgmtReceived pos s = u := by
  simp only [doMgmtReceived, htake, hnone]

/-- R62: a payload that is a frame, and pauses nothing, goes the way of a frame from the service block of the answering region. -/
theorem doEthEncapReceived_frame {s u : State} {pos : Nat} {r : Deliv}
    (htake : s.takeLocal pos (fun r => r.pkt.kind == 0x3E && r.fn == .own) = some (r, u)) (hmin : 60 ≤ r.pkt.payload.length)
    (hmax : r.pkt.payload.length ≤ 4096) (hpause : isPause r.pkt.payload = false)
    (hshort : u.frameClass r.pkt.payload = 7 → r.pkt.payload.length + 4 ≤ 2048) :
    doEthEncapReceived pos s = u.frameSteps none (64 + u.answerRegion r) (u.frameClass r.pkt.payload) r.pkt.payload := by
  have hsize : ¬ (r.pkt.payload.length < 60 ∨ 4096 < r.pkt.payload.length) := by omega
  have hclass : ¬ (u.frameClass r.pkt.payload = 7 ∧ 2048 < r.pkt.payload.length + 4) := fun h => by
    have := hshort h.1
    omega
  simp only [doEthEncapReceived, htake, hsize, hpause, hclass, Bool.false_eq_true, if_false]

/-- The punt queue as the oldest packet leaves it, before the packet is written (R451). -/
def puntTaken (s : State) (rest : List PuntEntry) : State := s.puntRefresh.onSw (fun w => { w with puntQ := rest })

/-- R451: the oldest punted packet is written to the owner's ring 2, where that ring takes it. -/
theorem doPuntDeliver_owner {s : State} {e : PuntEntry} {rest : List PuntEntry} {fn : Nat} (hqueue : s.sw.puntQ = e :: rest)
    (howner : s.owner? = some fn) (htakes : s.ringTakes fn 2 (e.record ++ e.bytes) = true) :
    doPuntDeliver s = ((puntTaken s rest).writeEntry fn 2 0x10 [] (e.record ++ e.bytes)).puntRefresh := by
  simp only [doPuntDeliver, hqueue, howner, htakes, if_true, puntTaken]

/-- Settles O46: each clause is one rule above, of a frame that is counted or routed, of the inner frame of an ETH_ENCAP packet, of a
MGMT packet with and without an owner, and of a punted packet. -/
theorem framesAndHostPackets : Obligations.FramesAndHostPackets := by
  refine ⟨?frame, ?inner, ?mgmt, ?unowned, ?punt⟩
  case frame =>
    intro port bytes fcsOk s hon hregion hen heth hstate
    have heq := doEthFrameReceived_eq (bytes := bytes) (fcsOk := fcsOk) hon hregion hen heth hstate
    refine ⟨fun e hfault => ⟨s.settled (doEthFrameReceived port bytes fcsOk s), rfl, ?_⟩,
      fun c x b v hmin hmax hfcs hpause hc hshort hlookup hpasses hfits =>
        ⟨s.settled (doEthFrameReceived port bytes fcsOk s), rfl, ?_⟩⟩
    · have hfault' : frameFault bytes fcsOk = some e := hfault
      simp only [heq, hfault']
      obtain ⟨hcounted, honly⟩ := bumpPort_counts hon hen e
      exact ⟨hcounted, onlyParts_settled honly⟩
    · subst hc
      have hclass : ¬ (s.frameClass bytes = 7 ∧ 2048 < bytes.length + 4) := fun h => by
        have := hshort h.1
        omega
      have hregionOf : regionOfBlock (blockOfPort port) = port / 64 := regionOfBlock_blockOfPort port
      simp only [heq, frameFault_none hmin hmax hfcs hpause, if_neg hclass]
      rw [frameSteps_port (by rw [hregionOf]; exact hlookup) (by rw [policerPasses_bumpTraffic, hpasses])]
      obtain ⟨t, hstart, hqueued⟩ := startRx_of_fits (port := port) (b := .frame b) (d := .port x) (by rw [hregionOf]; exact hfits)
      rw [hstart]
      exact hqueued.admitted
  case inner =>
    intro pos c x r b s u v htake hmin hmax hpause hc hshort hlookup hfits
    subst hc
    refine ⟨s.settled (doEthEncapReceived pos s), rfl, ?_⟩
    rw [doEthEncapReceived_frame htake hmin hmax hpause hshort, frameSteps_inner hlookup, regionOfBlock_service]
    exact inject_port_of_fits hfits 0xFFFF
  case mgmt =>
    intro pos fn r s u htake howner htakes hpad
    refine ⟨s.settled (doMgmtReceived pos s), rfl, ?_⟩
    obtain ⟨htaken, hregs⟩ := takeLocal_frees htake
    obtain ⟨hemits, hindex, hparts⟩ := writeEntry_writes hpad 3 (leBytes 2 r.pkt.bytes.length)
    rw [doMgmtReceived_owner htake howner htakes]
    refine ⟨emits_congr hemits (htaken.2 .out (by simp)).symm, ?_, onlyParts_settled (onlyParts_trans
      (onlyParts_mono htaken (by simp)) (onlyParts_mono hparts (by simp)))⟩
    rw [rd_settled, hindex, hregs _ _ (by decide)]
  case unowned =>
    intro pos r s u htake hnone
    refine ⟨s.settled (doMgmtReceived pos s), rfl, ?_⟩
    rw [doMgmtReceived_unowned htake hnone]
    exact settled_of_onlyParts (takeLocal_frees htake).1 (by simp) (by simp) (by simp)
  case punt =>
    intro fn e rest s hqueue howner htakes hpad
    refine ⟨s.settled (doPuntDeliver s), rfl, ?_⟩
    have hwritten := writeEntry_writes (s := puntTaken s rest) hpad 0x10 []
    have hqueue' := congrArg Sw.puntQ (writeEntry_sw (puntTaken s rest) fn 2 0x10 [] (e.record ++ e.bytes))
    rw [doPuntDeliver_owner hqueue howner htakes]
    generalize (puntTaken s rest).writeEntry fn 2 0x10 [] (e.record ++ e.bytes) = w at hwritten hqueue' ⊢
    obtain ⟨hemits, -, hparts⟩ := hwritten
    have htaken : OnlyParts [.sw, .mgmt, .regs, .out] s (puntTaken s rest) :=
      onlyParts_trans (onlyParts_onSw (by simp) _ _) (onlyParts_onSw (by simp) _ _)
    have hafter : OnlyParts [.sw, .mgmt, .regs, .out] w w.puntRefresh := onlyParts_onSw (by simp) _ _
    exact ⟨hqueue', emits_congr hemits rfl, onlyParts_settled
      (onlyParts_trans (onlyParts_trans htaken (onlyParts_mono hparts (by simp))) hafter)⟩

end Sys2Proof.Proofs

/-! Ports and links: what work on the links leaves as it was. -/

namespace Sys2Proof.Proofs
open Sys2Proof Sys2Proof.Machine Sys2Proof.Laws

/-- The ports of which something may change: what their status shows, what the part holds of them, and the neighbour heard. -/
structure Scope where
  shown : Set Nat
  held : Set Nat
  heard : Set Nat

/-- No port. -/
def Scope.none : Scope := ⟨∅, ∅, ∅⟩

/-- One port, in all of it. -/
def Scope.port (n : Nat) : Scope := ⟨{n}, {n}, {n}⟩

/-- Every port. -/
def Scope.all : Scope := ⟨Set.univ, Set.univ, Set.univ⟩

/-- A port may move between its states. -/
def Scope.Moves (W : Scope) (n : Nat) : Prop := n ∈ W.shown ∧ n ∈ W.held

/-- A port may retrain, which forgets its neighbour where it was in DOWN. -/
def Scope.Retrains (W : Scope) (n : Nat) : Prop := W.Moves n ∧ n ∈ W.heard

theorem Scope.port_moves (n : Nat) : (Scope.port n).Moves n := ⟨rfl, rfl⟩

theorem Scope.port_retrains (n : Nat) : (Scope.port n).Retrains n := ⟨Scope.port_moves n, rfl⟩

theorem Scope.all_retrains (n : Nat) : Scope.all.Retrains n := ⟨⟨trivial, trivial⟩, trivial⟩

/-- Register fields that no work on the links changes. -/
def quietFields : List Fld :=
  [.corePortCfg_en, .corePortCfg_width, .corePortCfg_mode, .coreLaneStatus_failed, .coreLaneTest_accept, .corePortStatus_wrongPeer,
   .coreNbr_peerGid, .coreNbr_peerPort, .optModStatus_present, .optModStatus_ready, .optModAcc_start, .optModAcc_status,
   .optModAcc_slot, .oclStatus_sync]

/-- What the status of a port shows of its state. -/
def shownFields : List Fld := [.corePortStatus_state, .corePortStatus_failReason, .corePortStatus_drained]

/-- What a lane test shows. -/
def testFields : List Fld := [.coreLaneStatus_underTest, .coreLaneStatus_testResult, .coreLaneTest_start]

/-- The fields above, and the two whose changes are followed by themselves. -/
def watchedFields : List Fld := .coreNbr_valid :: .coreLaneStatus_fecLock :: (quietFields ++ shownFields ++ testFields)

/-- The frames that the control links have had, and how many an access to a module still waits for. -/
def linkFrames (o : Opt) : KMap (Nat × Nat) × Nat := (o.ocl, o.twi)

/-- Between `s` and `t` the links of the ports in `W` were worked on: no fault is recorded, no event of the optics is counted, no lane
gains its codeword lock, and where no lane test runs none begins. Each rule below takes the relation through one more operation. -/
structure LinkKept (W : Scope) (s t : State) : Prop where
  off : t.off = s.off
  ring : t.tel.ring = s.tel.ring
  optics : ∀ i, t.count 6 i = s.count 6 i
  frames : linkFrames t.opt = linkFrames s.opt
  sref : t.ports.sref = s.ports.sref
  waitReady : t.ports.waitReady = s.ports.waitReady
  quiet : ∀ f ∈ quietFields, ∀ i, t.rd f i = s.rd f i
  shown : ∀ f ∈ shownFields, ∀ i ∉ W.shown, t.rd f i = s.rd f i
  heard : ∀ i ∉ W.heard, t.rd .coreNbr_valid i = s.rd .coreNbr_valid i
  held : ∀ i ∉ W.held, ∃ r, t.pst i = { s.pst i with round := r }
  far : ∀ i, (t.pst i).far = (s.pst i).far
  ended : ∀ i, (s.pst i).ended = true → (t.pst i).ended = true
  dark : ∀ l, s.rd .coreLaneStatus_fecLock l = 0 → t.rd .coreLaneStatus_fecLock l = 0
  untested : s.ports.test = none → t.ports.test = none ∧ ∀ f ∈ testFields, ∀ i, t.rd f i = s.rd f i

/-- What the part holds of a port after a change. -/
@[simp] theorem pst_setPst_same (s : State) (n : Nat) (g : PortSt → PortSt) : (s.setPst n g).pst n = g (s.pst n) := by
  simp [State.pst, State.setPst, State.onPorts]

theorem pst_setPst_other (s : State) {n i : Nat} (g : PortSt → PortSt) (h : i ≠ n) : (s.setPst n g).pst i = s.pst i := by
  simp [State.pst, State.setPst, State.onPorts, kget_kput_other _ _ _ _ h]

/-- What the part holds of ports is part of `ports`. -/
theorem pst_of_ports {s t : State} (h : t.ports = s.ports) (i : Nat) : t.pst i = s.pst i := by
  rw [State.pst, h, State.pst]

@[simp] theorem rd_setPst (s : State) (n : Nat) (g : PortSt → PortSt) (f : Fld) (i : Nat) : (s.setPst n g).rd f i = s.rd f i := rfl

namespace LinkKept

variable {W : Scope} {s t u : State}

theorem refl (W : Scope) (s : State) : LinkKept W s s where
  off := rfl
  ring := rfl
  optics _ := rfl
  frames := rfl
  sref := rfl
  waitReady := rfl
  quiet _ _ _ := rfl
  shown _ _ _ _ := rfl
  heard _ _ := rfl
  held i _ := ⟨(s.pst i).round, rfl⟩
  far _ := rfl
  ended _ h := h
  dark _ h := h
  untested h := ⟨h, fun _ _ _ => rfl⟩

/-- Work that follows other work. -/
theorem trans (hst : LinkKept W s t) (htu : LinkKept W t u) : LinkKept W s u where
  off := htu.off.trans hst.off
  ring := htu.ring.trans hst.ring
  optics i := (htu.optics i).trans (hst.optics i)
  frames := htu.frames.trans hst.frames
  sref := htu.sref.trans hst.sref
  waitReady := htu.waitReady.trans hst.waitReady
  quiet f hf i := (htu.quiet f hf i).trans (hst.quiet f hf i)
  shown f hf i hi := (htu.shown f hf i hi).trans (hst.shown f hf i hi)
  heard i hi := (htu.heard i hi).trans (hst.heard i hi)
  held i hi := by
    obtain ⟨_, h⟩ := hst.held i hi
    obtain ⟨r, h'⟩ := htu.held i hi
    exact ⟨r, by rw [h', h]⟩
  far i := (htu.far i).trans (hst.far i)
  ended i h := htu.ended i (hst.ended i h)
  dark l h := htu.dark l (hst.dark l h)
  untested h := by
    obtain ⟨ht, hfields⟩ := hst.untested h
    obtain ⟨hu, hfields'⟩ := htu.untested ht
    exact ⟨hu, fun f hf i => (hfields' f hf i).trans (hfields f hf i)⟩

/-- A flag that reads the same. -/
theorem flag (h : LinkKept W s t) {f : Fld} (i : Nat) (hf : f ∈ quietFields) : t.flag f i = s.flag f i := by
  rw [flag_def, h.quiet f hf, flag_def]

/-- A lane test was running before if one runs now. -/
theorem tested (h : LinkKept W s t) (ht : t.ports.test ≠ none) : s.ports.test ≠ none := fun hs => ht (h.untested hs).1

/-- Steps taken for the members of a list. -/
theorem foldl {α : Type} {g : State → α → State} (h : LinkKept W s t) (hg : ∀ t a, LinkKept W s t → LinkKept W s (g t a))
    (l : List α) : LinkKept W s (l.foldl g t) := by
  induction l generalizing t with
  | nil => exact h
  | cons a l ih => exact ih (hg t a h)

theorem when {g : State → State} (h : LinkKept W s t) (hg : ∀ t, LinkKept W s t → LinkKept W s (g t)) (c : Bool) :
    LinkKept W s (t.when c g) := by
  cases c
  · exact h
  · exact hg t h

theorem ite {c : Prop} [Decidable c] (ht : LinkKept W s t) (hu : LinkKept W s u) : LinkKept W s (if c then t else u) := by
  split
  · exact ht
  · exact hu

/-! The updates of the state. -/

/-- A change of what the relation does not speak of. -/
theorem aside_of (h : LinkKept W s t) (hoff : u.off = t.off) (hring : u.tel.ring = t.tel.ring) (hoptics : ∀ i, u.count 6 i = t.count 6 i)
    (hframes : linkFrames u.opt = linkFrames t.opt) (hports : u.ports = t.ports) (hrd : ∀ f ∈ watchedFields, ∀ i, u.rd f i = t.rd f i) :
    LinkKept W s u := by
  have hpst : ∀ i, u.pst i = t.pst i := pst_of_ports hports
  have hquiet : quietFields ⊆ watchedFields := by decide
  have hshown : shownFields ⊆ watchedFields := by decide
  have htest : testFields ⊆ watchedFields := by decide
  exact h.trans {
    off := hoff
    ring := hring
    optics := hoptics
    frames := hframes
    sref := by rw [hports]
    waitReady := by rw [hports]
    quiet := fun f hf => hrd f (hquiet hf)
    shown := fun f hf i _ => hrd f (hshown hf) i
    heard := fun i _ => hrd _ (by decide) i
    held := fun i _ => ⟨(t.pst i).round, hpst i⟩
    far := fun i => by rw [hpst]
    ended := fun i hi => by rwa [hpst]
    dark := fun l hl => (hrd _ (by decide) l).trans hl
    untested := fun hnone => ⟨by rwa [hports], fun f hf => hrd f (htest hf)⟩ }

theorem aside (h : LinkKept W s t) (hoff : u.off = t.off) (htel : u.tel = t.tel) (hframes : linkFrames u.opt = linkFrames t.opt)
    (hports : u.ports = t.ports) (hregs : u.regs = t.regs) :
    LinkKept W s u :=
  h.aside_of hoff (by rw [htel]) (fun i => by rw [State.count, htel, State.count]) hframes hports
    (fun f _ i => by rw [State.rd, hregs, State.rd])

theorem emit (h : LinkKept W s t) (o : Output) : LinkKept W s (t.emit o) := h.aside rfl rfl rfl rfl rfl
theorem free (h : LinkKept W s t) (tag n : Nat) : LinkKept W s (t.free tag n).2 := h.aside rfl rfl rfl rfl rfl
theorem onSw (h : LinkKept W s t) (g : Sw → Sw) : LinkKept W s (t.onSw g) := h.aside rfl rfl rfl rfl rfl

/-- A change of the optical control that is none of the frames of a link. -/
theorem onOpt (h : LinkKept W s t) (g : Opt → Opt) (hframes : linkFrames (g t.opt) = linkFrames t.opt) : LinkKept W s (t.onOpt g) :=
  h.aside rfl rfl hframes rfl rfl

theorem onRing (h : LinkKept W s t) (key : Nat) (g : RingSt → RingSt) : LinkKept W s (t.onRing key g) := h.onOpt _ rfl

/-- A store of one field: what the relation asks of it. -/
theorem wr_of (h : LinkKept W s t) {f : Fld} {i v : Nat} (hquiet : f ∉ quietFields) (hshown : f ∈ shownFields → i ∈ W.shown)
    (hheard : f = .coreNbr_valid → i ∈ W.heard) (hdark : f = .coreLaneStatus_fecLock → v = 0)
    (htest : f ∈ testFields → s.ports.test ≠ none) : LinkKept W s (t.wr f i v) := by
  have hother : ∀ g j, g ≠ f ∨ j ≠ i → (t.wr f i v).rd g j = t.rd g j := fun g j hne => rd_wr_other t v hne
  refine { h with
    quiet := fun g hg j => ?_, shown := fun g hg j hj => ?_, heard := fun j hj => ?_, dark := fun l hl => ?_,
    untested := fun hnone => ⟨(h.untested hnone).1, fun g hg j => ?_⟩ }
  · rw [hother _ _ (.inl (ne_of_mem_of_not_mem hg hquiet)), h.quiet g hg]
  · rw [hother, h.shown g hg j hj]
    by_cases hgf : g = f
    · exact .inr (fun hji => hj (hji ▸ hshown (hgf ▸ hg)))
    · exact .inl hgf
  · rw [hother, h.heard j hj]
    by_cases hgf : Fld.coreNbr_valid = f
    · exact .inr (fun hji => hj (hji ▸ hheard hgf.symm))
    · exact .inl hgf
  · rw [rd_wr]
    split
    · next hgf => rw [hdark hgf.1.symm, Nat.zero_mod]
    · exact h.dark l hl
  · rw [hother _ _ (.inl (fun hgf => htest (hgf ▸ hg) hnone)), (h.untested hnone).2 g hg]

theorem wr (h : LinkKept W s t) {f : Fld} (i v : Nat) (hf : f ∉ watchedFields) : LinkKept W s (t.wr f i v) := by
  simp only [watchedFields, List.mem_cons, List.mem_append, not_or] at hf
  obtain ⟨hheard, hdark, ⟨hquiet, hshown⟩, htest⟩ := hf
  exact h.wr_of hquiet (fun h => absurd h hshown) (fun h => absurd h hheard) (fun h => absurd h hdark) (fun h => absurd h htest)

/-- The status of a port in the scope shows its state anew. -/
theorem wrShown (h : LinkKept W s t) {f : Fld} {i : Nat} (hi : i ∈ W.shown) (v : Nat) (hf : f ∈ shownFields) :
    LinkKept W s (t.wr f i v) := by
  have hothers : ∀ f ∈ shownFields, f ∉ quietFields ∧ f ≠ .coreNbr_valid ∧ f ≠ .coreLaneStatus_fecLock ∧ f ∉ testFields := by decide
  obtain ⟨hquiet, hheard, hdark, htest⟩ := hothers f hf
  exact h.wr_of hquiet (fun _ => hi) (fun h => absurd h hheard) (fun h => absurd h hdark) (fun h => absurd h htest)

/-- A neighbour is forgotten. -/
theorem wrHeard (h : LinkKept W s t) {i : Nat} (hi : i ∈ W.heard) (v : Nat) : LinkKept W s (t.wr .coreNbr_valid i v) :=
  h.wr_of (by decide) (fun h => absurd h (by decide)) (fun _ => hi) (fun h => absurd h (by decide)) (fun h => absurd h (by decide))

/-- A lane loses its codeword lock. -/
theorem wrUnlock (h : LinkKept W s t) (l : Nat) : LinkKept W s (t.wr .coreLaneStatus_fecLock l 0) :=
  h.wr_of (by decide) (fun h => absurd h (by decide)) (fun h => absurd h (by decide)) (fun _ => rfl) (fun h => absurd h (by decide))

/-- What a lane test shows changes while one runs. -/
theorem wrTest (h : LinkKept W s t) (htest : s.ports.test ≠ none) {f : Fld} (i v : Nat) (hf : f ∈ testFields) :
    LinkKept W s (t.wr f i v) := by
  have hothers : ∀ f ∈ testFields, f ∉ quietFields ∧ f ∉ shownFields ∧ f ≠ .coreNbr_valid ∧ f ≠ .coreLaneStatus_fecLock := by decide
  obtain ⟨hquiet, hshown, hheard, hdark⟩ := hothers f hf
  exact h.wr_of hquiet (fun h => absurd h hshown) (fun h => absurd h hheard) (fun h => absurd h hdark) (fun _ => htest)

/-- What the part counts besides the optics. -/
theorem bumpN (h : LinkKept W s t) {g : Nat} (i n : Nat) (hg : g ≠ 6) : LinkKept W s (t.bumpN g i n) := by
  have hwrap : ∀ f ∈ watchedFields, f ∉ [Fld.telWrap_wrap] := by decide
  exact h.aside_of (bumpN_off ..) (bumpN_ring ..) (fun j => count_bumpN_other _ (Ne.symm hg) _ _ _) (by rw [bumpN_opt]) (bumpN_ports ..)
    (fun f hf j => rd_bumpN _ _ _ _ _ (hwrap f hf))

theorem bumpPort (h : LinkKept W s t) (n : Nat) (e : PortEv) : LinkKept W s (t.bumpPort n e) :=
  h.when (fun _ h => h.bumpN _ _ (by decide)) _

/-- A host event of a bit that the relation does not speak of. -/
theorem event (h : LinkKept W s t) (r : Reg) {f : Fld} (i b : Nat) (hf : f ∉ watchedFields) :
    LinkKept W s (t.event r f i b) := by
  have hring : ∀ g ∈ watchedFields, g ∉ ringFields := by decide
  exact h.aside_of (event_off ..) (by rw [event_tel]) (fun j => by rw [State.count, event_tel, State.count]) (by rw [event_opt])
    (event_ports ..) (fun g hg j => rd_event_other t r i b
      (by simpa using ⟨ne_of_mem_of_not_mem hg hf, by simpa using hring g hg⟩) j)

/-- What the part holds of a port changes: of a port in the scope, or its HELLO round alone. -/
theorem setPst_of (h : LinkKept W s t) {n : Nat} {g : PortSt → PortSt} (hheld : n ∈ W.held ∨ ∀ x, ∃ r, g x = { x with round := r })
    (hfar : ∀ x, (g x).far = x.far) (hended : ∀ x : PortSt, x.ended = true → (g x).ended = true) : LinkKept W s (t.setPst n g) := by
  refine { h with held := fun i hi => ?_, far := fun i => ?_, ended := fun i hi => ?_ }
  · by_cases hin : i = n
    · subst hin
      obtain ⟨r, hr⟩ := (hheld.resolve_left hi) (t.pst i)
      obtain ⟨_, h'⟩ := h.held i hi
      exact ⟨r, by rw [pst_setPst_same, hr, h']⟩
    · rw [pst_setPst_other _ _ hin]
      exact h.held i hi
  · by_cases hin : i = n
    · rw [hin, pst_setPst_same, hfar, h.far]
    · rw [pst_setPst_other _ _ hin, h.far]
  · by_cases hin : i = n
    · rw [hin, pst_setPst_same]
      exact hended _ (h.ended _ (hin ▸ hi))
    · rw [pst_setPst_other _ _ hin]
      exact h.ended i hi

theorem setPst (h : LinkKept W s t) {n : Nat} (hn : n ∈ W.held) {g : PortSt → PortSt}
    (hg : ∀ x : PortSt, (g x).far = x.far ∧ (x.ended = true → (g x).ended = true)) : LinkKept W s (t.setPst n g) :=
  h.setPst_of (.inl hn) (fun x => (hg x).1) (fun x => (hg x).2)

/-! The switch core. -/

theorem poolAdd (h : LinkKept W s t) (k n : Nat) : LinkKept W s (t.poolAdd k n) := h.wr _ _ (by decide)
theorem poolSub (h : LinkKept W s t) (k n : Nat) : LinkKept W s (t.poolSub k n) := h.wr _ _ (by decide)
theorem egFree (h : LinkKept W s t) (d c n : Nat) : LinkKept W s (t.egFree d c n) :=
  h.when (fun _ h => h.poolAdd ..) _
theorem egTake (h : LinkKept W s t) (d c n : Nat) : LinkKept W s (t.egTake d c n) :=
  h.when (fun _ h => h.poolSub ..) _
theorem holdSeg (h : LinkKept W s t) (pid d c : Nat) : LinkKept W s (t.holdSeg pid d c) := (h.onSw _).egTake ..

theorem updStops (h : LinkKept W s t) (k : Nat) : LinkKept W s (t.updStops k) := by
  obtain ⟨_, _, hmoved⟩ := StopsMoved.updStops t k
  rw [hmoved]
  exact h.onSw _

theorem gc (h : LinkKept W s t) (pid : Nat) : LinkKept W s (t.gc pid) := by
  rw [State.gc]
  split
  · exact h
  · exact h.onSw _

theorem copyDone (h : LinkKept W s t) (pid d c : Nat) : LinkKept W s (t.copyDone pid d c) := by
  simp only [State.copyDone]
  repeat' split
  · exact h
  · exact ((h.onSw _).egFree ..).gc pid
  · exact (h.onSw _).egFree ..
  · exact h

theorem endTx (h : LinkKept W s t) (n key : Nat) (x : Tx) : LinkKept W s (t.endTx n key x) :=
  (((h.onSw _).when (fun _ h => h.wr _ _ (by decide)) _).copyDone ..).updStops _

theorem linkAbort (h : LinkKept W s t) (n : Nat) : LinkKept W s (t.linkAbort n) := by
  refine h.foldl (fun t key h => ?_) _
  split
  · exact ((h.emit _).bumpPort ..).endTx ..
  · exact h

theorem enterEgress (h : LinkKept W s t) (n c : Nat) (e : EPkt) : LinkKept W s (t.enterEgress n c e) := by
  simp only [State.enterEgress]
  exact (h.when (fun _ h => h.onSw _) _).onSw _

theorem fixBuckets (h : LinkKept W s t) (n : Nat) : LinkKept W s (t.fixBuckets n) := h.foldl (fun _ _ h => h.onSw _) _

theorem sendHello (h : LinkKept W s t) (n : Nat) (fast : Bool) : LinkKept W s (t.sendHello n fast) := by
  have hround := ((h.free 1 (2 ^ 24)).free 2 (2 ^ 16)).setPst_of (n := n) (g := fun x => { x with round := (x.round + 1) % 2 ^ 32 })
    (.inr fun x => ⟨_, rfl⟩) (fun _ => rfl) (fun _ h => h)
  exact ((hround.onSw _).enterEgress ..).holdSeg ..

/-! Rings and calibrations. -/

theorem heat (h : LinkKept W s t) (key code : Nat) : LinkKept W s (t.heat key code) :=
  ((h.wr _ _ (by decide)).when (fun _ h => h.wr _ _ (by decide)) _).emit _

theorem setLock (h : LinkKept W s t) (key : Nat) (b : Bool) : LinkKept W s (t.setLock key b) :=
  (h.wr _ _ (by decide)).wr (hf := by split <;> decide) ..

theorem beginSweep (h : LinkKept W s t) (key : Nat) : LinkKept W s (t.beginSweep key) := (h.wr _ _ (by decide)).setLock ..

theorem calOver (h : LinkKept W s t) : LinkKept W s t.calOver := (h.onOpt _ rfl).wr _ _ (by decide)

theorem restoreRings (h : LinkKept W s t) (n : Nat) : LinkKept W s (t.restoreRings n) :=
  h.foldl (fun _ _ h => ((((h.onRing ..).wr _ _ (by decide)).heat ..).setLock ..).wr _ _ (by decide)) _

theorem calDrop (h : LinkKept W s t) (n : Nat) : LinkKept W s (t.calDrop n) := by
  simp only [State.calDrop]
  repeat' split
  · exact (h.restoreRings n).calOver
  · exact h.calOver
  · exact h

theorem sweepUnlocked (h : LinkKept W s t) (n : Nat) : LinkKept W s (t.sweepUnlocked n) := by
  rw [State.sweepUnlocked]
  split
  · refine h.foldl (fun t k h => ?_) _
    split
    · exact h
    · exact h.beginSweep k
  · exact h

/-! The states of a port. -/

theorem showLanes (h : LinkKept W s t) (n : Nat) : LinkKept W s (t.showLanes n) := h.wr _ _ (by decide)

theorem portEvent (h : LinkKept W s t) (n : Nat) : LinkKept W s (t.portEvent n) := h.event _ _ _ (by decide)

theorem abortIfLinked (h : LinkKept W s t) (n : Nat) : LinkKept W s (t.abortIfLinked n) :=
  h.when (fun _ h => h.linkAbort n) _

theorem setPort (h : LinkKept W s t) {n : Nat} (hn : n ∈ W.shown) (st : Nat) : LinkKept W s (t.setPort n st) := by
  rw [State.setPort]
  split
  · exact h.showLanes n
  · exact (((h.wrShown hn st (by decide)).when (fun _ h => h.wr _ _ (by decide)) _).showLanes n).portEvent n

theorem failReason (h : LinkKept W s t) {n : Nat} (hn : n ∈ W.shown) (reason : Option Nat) : LinkKept W s (t.failReason n reason) := by
  cases reason with
  | none => exact h
  | some r => exact h.wrShown hn r (by decide)

theorem beginAttempt (h : LinkKept W s t) {n : Nat} (hn : n ∈ W.held) : LinkKept W s (t.beginAttempt n) := by
  simp only [State.beginAttempt]
  split
  · exact (h.setPst hn (by simp)).wr _ _ (by decide)
  · exact (h.setPst hn (by simp)).sweepUnlocked n

theorem nextAttempt (h : LinkKept W s t) {n : Nat} (hn : n ∈ W.held) : LinkKept W s (t.nextAttempt n) := by
  rw [State.nextAttempt]
  split
  · exact h.setPst hn (by simp)
  · exact h.beginAttempt hn

theorem toDraining (h : LinkKept W s t) {n : Nat} (hn : W.Moves n) : LinkKept W s (t.toDraining n) := by
  simp only [State.toDraining]
  exact (((h.setPort hn.1 4).wrShown hn.1 0 (by decide)).setPst hn.2 (by simp)).when (fun _ h => h.sendHello ..) _

theorem reDrain (h : LinkKept W s t) {n : Nat} (hn : W.Moves n) : LinkKept W s (t.reDrain n) := by
  simp only [State.reDrain]
  repeat' split
  · exact h.toDraining hn
  · exact (h.setPst hn.2 (by simp)).setPort hn.1 3
  · exact h

theorem toUp (h : LinkKept W s t) {n : Nat} (hn : W.Moves n) : LinkKept W s (t.toUp n) := by
  have hended := h.setPst hn.2 (g := fun x => { x with ended := true }) (by simp)
  simp only [State.toUp]
  split
  · exact hended.toDraining hn
  · exact (hended.setPort hn.1 3).reDrain hn

theorem syncFence (h : LinkKept W s t) {n : Nat} (hn : W.Moves n) : LinkKept W s (t.syncFence n) :=
  ((h.wr _ _ (by decide)).wr _ _ (by decide)).reDrain hn

theorem lowerPort (h : LinkKept W s t) {n : Nat} (hn : W.Moves n) (w : Nat) : LinkKept W s (t.lowerPort n w) := by
  simp only [State.lowerPort]
  split
  · exact (((h.wr _ _ (by decide)).wr _ _ (by decide)).event _ _ _ (by decide)).syncFence hn
  · exact h.wr _ _ (by decide)

theorem goDown (h : LinkKept W s t) {n : Nat} (hn : W.Moves n) (reason : Option Nat) : LinkKept W s (t.goDown n reason) := by
  simp only [State.goDown]
  refine (((((((h.abortIfLinked n).calDrop n).setPst hn.2 (by simp)).foldl (fun _ _ h => ?_) _).failReason hn.1 reason).fixBuckets n).wr
    _ _ (by decide)).setPort hn.1 0
  exact ((h.wr _ _ (by decide)).wr _ _ (by decide)).wrUnlock _

theorem toTraining (h : LinkKept W s t) {n : Nat} (hn : W.Retrains n) (run : Nat × Nat) (how : TrainAt) (fast : Bool)
    (reason : Option Nat) : LinkKept W s (t.toTraining n run how fast reason) := by
  obtain ⟨hmoves, hheard⟩ := hn
  simp only [State.toTraining]
  refine ((((((((((h.abortIfLinked n).setPst hmoves.2 (by simp)).failReason hmoves.1 reason).fixBuckets n).wr _ _ (by decide)).foldl ?_
    _).when ?_ _).setPort hmoves.1 1).when ?_ _).when ?_ _ |>.when ?_ _).when ?_ _
  · exact fun _ _ h => h.wrUnlock _
  · exact fun _ h => h.wrHeard hheard 0
  · exact fun _ h => h.syncFence hmoves
  · exact fun _ h => h.portEvent n
  · exact fun _ h => h.setPst hmoves.2 (by simp)
  · exact fun _ h => h.nextAttempt hmoves.2

theorem selectApp (h : LinkKept W s t) {n : Nat} (hn : W.Moves n) : LinkKept W s (t.selectApp n) := by
  simp only [State.selectApp]
  repeat' split
  · exact h
  · exact (h.wr _ _ (by decide)).when (fun _ h => h.setPst hn.2 (by simp)) _
  · exact h.failReason hn.1 _

theorem leaveDown (h : LinkKept W s t) {n : Nat} (hn : W.Retrains n) : LinkKept W s (t.leaveDown n) := by
  have happ := h.selectApp hn.1
  simp only [State.leaveDown]
  refine LinkKept.ite ?_ happ
  split
  · exact happ.toTraining hn ..
  · exact happ.failReason hn.1.1 _

theorem reform (h : LinkKept W s t) {n : Nat} (hn : W.Retrains n) : LinkKept W s (t.reform n) := by
  rw [State.reform]
  repeat' split
  · exact h
  · exact h.toTraining hn ..
  · exact h.goDown hn.1 _

theorem laneLost (h : LinkKept W s t) (l : Nat) {n : Nat} (hn : W.Retrains n) : LinkKept W s (t.laneLost l n) := by
  simp only [State.laneLost]
  repeat' split
  · exact h.leaveDown hn
  · exact h.reform hn
  · exact h

theorem leaveCal (h : LinkKept W s t) {n : Nat} (hn : W.Retrains n) : LinkKept W s (t.leaveCal n) := by
  simp only [State.leaveCal]
  refine LinkKept.ite ?_ h
  split
  · exact (h.setPst hn.1.2 (by simp)).goDown hn.1 _
  · exact LinkKept.ite ((h.setPst hn.1.2 (by simp)).toTraining hn ..) ((h.setPst hn.1.2 (by simp)).toTraining hn ..)

/-! Into CAL, and the lane tests. -/

/-- The test in progress goes on, or ends. -/
theorem changeTest (h : LinkKept W s t) (htest : s.ports.test ≠ none) (g : Option LaneTest → Option LaneTest) :
    LinkKept W s (t.onPorts (fun w => { w with test := g w.test })) :=
  { h with untested := fun hnone => absurd hnone htest }

theorem onTest (h : LinkKept W s t) (htest : s.ports.test ≠ none) (g : LaneTest → LaneTest) : LinkKept W s (t.onTest g) :=
  h.changeTest htest (Option.map g)

theorem beginLane (h : LinkKept W s t) (htest : s.ports.test ≠ none) (l : Nat) : LinkKept W s (t.beginLane l) :=
  (h.wrTest htest l 1 (by decide)).onTest htest _

theorem skipLanes (h : LinkKept W s t) (htest : s.ports.test ≠ none) (ls : List Nat) : LinkKept W s (t.skipLanes ls) :=
  (h.foldl (fun _ l h => h.wrTest htest l 3 (by decide)) ls).onTest htest _

theorem calBegins (h : LinkKept W s t) (n : Nat) (w : CalWait) : LinkKept W s (t.calBegins n w) := by
  cases w with
  | cal => exact (h.onOpt _ rfl).foldl (fun _ k h => (h.onRing ..).beginSweep k) _
  | laser => exact ((h.wr _ _ (by decide)).wr _ _ (by decide)).emit _
  | test =>
    simp only [State.calBegins]
    split
    · next hlane =>
      refine h.beginLane (h.tested fun hnone => ?_) _
      rw [hnone] at hlane
      cases hlane
    · exact h
  | plan => exact h

theorem tryCal (h : LinkKept W s t) {n : Nat} (hn : W.Moves n) : LinkKept W s (t.tryCal n) := by
  simp only [State.tryCal]
  repeat' split
  · exact ((h.setPst hn.2 (by simp)).setPort hn.1 5).calBegins ..
  · exact h
  · exact h

theorem request (h : LinkKept W s t) {n : Nat} (hn : W.Moves n) (w : CalWait) : LinkKept W s (t.request n w) :=
  (h.setPst hn.2 (by simp)).reDrain hn

/-- The test that goes on moves ports that are enabled. -/
theorem nextTest (h : LinkKept W s t) (htest : s.ports.test ≠ none) (hW : ∀ m, s.flag .corePortCfg_en m = true → W.Moves m)
    (fuel : Nat) : LinkKept W s (t.nextTest fuel) := by
  induction fuel generalizing t with
  | zero => exact h
  | succ fuel ih =>
    rw [State.nextTest]
    split
    · exact h
    split
    · exact (h.changeTest htest (fun _ => none)).wrTest htest _ _ (by decide)
    split
    · exact h.beginLane htest _
    next m hm =>
      have hen : s.flag .corePortCfg_en m = true := by
        split at hm
        · have := List.find?_some hm
          simp only [Bool.and_eq_true] at this
          rw [← h.flag _ (by decide)]
          exact this.1.1
        · cases hm
      dsimp only
      split
      · exact h.beginLane htest _
      split
      · exact ih (h.skipLanes htest _)
      · exact ((h.onTest htest _).request (hW m hen) .test).tryCal (hW m hen)

end LinkKept
end Sys2Proof.Proofs

namespace Sys2Proof.Proofs
open Sys2Proof Sys2Proof.Machine Sys2Proof.Laws

/-! Writes of all the fields of a register (R31). -/

/-- One field of a register as a write of it stores it. -/
def storeField (i val mask : Nat) (s : State) (x : FieldAt) : State :=
  match x.acc with
  | .rw | .w1c | .w1s =>
    let new := accessValue x.acc (s.rd x.fld i) (bits val x.lo x.fld.width) (bits mask x.lo x.fld.width)
    if new = s.rd x.fld i then s else s.wr x.fld i new
  | _ => s

theorem writeFields_eq (s : State) (r : Reg) (i val mask : Nat) :
    s.writeFields r i val mask = r.fields.foldl (storeField i val mask) s := rfl

/-- A write of a field stores that field or nothing. -/
theorem storeField_cases (i val mask : Nat) (s : State) (x : FieldAt) :
    storeField i val mask s x = s ∨ ∃ v, storeField i val mask s x = s.wr x.fld i v := by
  simp only [storeField]
  repeat' split
  · exact .inl rfl
  · exact .inr ⟨_, rfl⟩
  · exact .inl rfl
  · exact .inr ⟨_, rfl⟩
  · exact .inl rfl
  · exact .inr ⟨_, rfl⟩
  · exact .inl rfl

theorem onlyParts_storeField {l : List Part} (hl : .regs ∈ l) (i val mask : Nat) (s : State) (x : FieldAt) :
    OnlyParts l s (storeField i val mask s x) := by
  obtain h | ⟨v, h⟩ := storeField_cases i val mask s x <;> rw [h]
  · exact onlyParts_refl l s
  · exact onlyParts_wr hl ..

/-- Steps for the members of a list change no more than each step does. -/
theorem onlyParts_foldl {α : Type} {l : List Part} {g : State → α → State} (hg : ∀ s a, OnlyParts l s (g s a)) (as : List α) (s : State) :
    OnlyParts l s (as.foldl g s) := by
  induction as generalizing s with
  | nil => exact onlyParts_refl l s
  | cons a as ih => exact onlyParts_trans (hg s a) (ih _)

/-- A write of a register's fields changes `regs` alone. -/
theorem onlyParts_writeFields {l : List Part} (hl : .regs ∈ l) (s : State) (r : Reg) (i val mask : Nat) :
    OnlyParts l s (s.writeFields r i val mask) := by
  rw [writeFields_eq]
  exact onlyParts_foldl (fun s x => onlyParts_storeField hl i val mask s x) _ _

/-- A write of fields leaves every other field alone, and every other place. -/
theorem rd_foldl_storeField_other (i val mask : Nat) (xs : List FieldAt) {g : Fld} {j : Nat} (h : g ∉ xs.map (·.fld) ∨ j ≠ i) (s : State) :
    (xs.foldl (storeField i val mask) s).rd g j = s.rd g j := by
  induction xs generalizing s with
  | nil => rfl
  | cons x xs ih =>
    rw [List.map_cons, List.mem_cons, not_or] at h
    rw [List.foldl_cons, ih (h.imp_left And.right)]
    obtain hx | ⟨v, hx⟩ := storeField_cases i val mask s x <;> rw [hx]
    exact rd_wr_other _ _ (h.imp_left And.left)

theorem rd_writeFields_other (s : State) (r : Reg) (i val mask : Nat) {g : Fld} {j : Nat} (h : g ∉ r.fields.map (·.fld) ∨ j ≠ i) :
    (s.writeFields r i val mask).rd g j = s.rd g j := by
  rw [writeFields_eq]
  exact rd_foldl_storeField_other i val mask _ h s

/-- A bit field below the width of a full mask is masked whole. -/
theorem bits_fullMask {lo w k : Nat} (h : lo + w ≤ k) : bits (2 ^ k - 1) lo w = 2 ^ w - 1 := by
  apply Nat.eq_of_testBit_eq
  intro i
  simp only [bits, Nat.testBit_mod_two_pow, Nat.testBit_div_two_pow, Nat.testBit_two_pow_sub_one]
  by_cases hi : i < w
  · simp [hi]; omega
  · simp [hi]

/-- A field written under a full mask takes the value written. -/
theorem accessValue_rw_full {w old v : Nat} (hold : old < 2 ^ w) (hv : v < 2 ^ w) : accessValue .rw old v (2 ^ w - 1) = v := by
  simp only [accessValue, clearMask, Nat.and_two_pow_sub_one_eq_mod, Nat.mod_eq_of_lt hold, Nat.mod_eq_of_lt hv, Nat.sub_self, Nat.zero_or]

theorem rd_storeField_full {i val k : Nat} (s : State) {x : FieldAt} (hacc : x.acc = .rw) (hk : x.lo + x.fld.width ≤ k) :
    (storeField i val (2 ^ k - 1) s x).rd x.fld i = bits val x.lo x.fld.width := by
  have hv : bits val x.lo x.fld.width < 2 ^ x.fld.width := Nat.mod_lt _ (Nat.two_pow_pos _)
  simp only [storeField, hacc, bits_fullMask hk, accessValue_rw_full (rd_lt s x.fld i) hv]
  split
  · next h => exact h.symm
  · rw [rd_wr_same, Nat.mod_eq_of_lt hv]

/-- R31: a field that is read and written takes its bits of a value written whole. -/
theorem rd_writeFields_full (s : State) {r : Reg} (i val : Nat) {k : Nat} {x : FieldAt} (hx : x ∈ r.fields) (hacc : x.acc = .rw)
    (hk : x.lo + x.fld.width ≤ k) (hnodup : (r.fields.map (·.fld)).Nodup) :
    (s.writeFields r i val (2 ^ k - 1)).rd x.fld i = bits val x.lo x.fld.width := by
  rw [writeFields_eq]
  obtain ⟨before, after, hsplit⟩ := List.append_of_mem hx
  rw [hsplit, List.map_append, List.map_cons] at hnodup
  have hafter : x.fld ∉ after.map (·.fld) := (List.nodup_cons.mp (List.nodup_append.mp hnodup).2.1).1
  rw [hsplit, List.foldl_append, List.foldl_cons, rd_foldl_storeField_other _ _ _ _ (.inl hafter), rd_storeField_full _ hacc hk]

/-! The state in which a register write acts (R32). -/

/-- What only the time, sideband and JTAG families change, and the queue of commands, is as in `s`. -/
structure NothingToSettle (s t : State) : Prop where
  pending : t.pending = s.pending
  tb : t.tb = s.tb
  i3c : t.i3c = s.i3c
  jtag : t.jtag = s.jtag

namespace NothingToSettle
variable {s t u : State}

theorem refl (s : State) : NothingToSettle s s := ⟨rfl, rfl, rfl, rfl⟩

theorem trans (hst : NothingToSettle s t) (htu : NothingToSettle t u) : NothingToSettle s u :=
  ⟨htu.pending.trans hst.pending, htu.tb.trans hst.tb, htu.i3c.trans hst.i3c, htu.jtag.trans hst.jtag⟩

theorem of_onlyParts {l : List Part} (h : OnlyParts l s t) (htb : .tb ∉ l) (hi3c : .i3c ∉ l) (hjtag : .jtag ∉ l) :
    NothingToSettle s t := ⟨h.1, h.2 .tb htb, h.2 .i3c hi3c, h.2 .jtag hjtag⟩

theorem foldl {α : Type} {g : State → α → State} (hg : ∀ s a, NothingToSettle s (g s a)) (l : List α) (s : State) :
    NothingToSettle s (l.foldl g s) := by
  induction l generalizing s with
  | nil => exact refl s
  | cons a l ih => exact (hg s a).trans (ih _)

theorem writeFields (s : State) (r : Reg) (i val mask : Nat) : NothingToSettle s (s.writeFields r i val mask) :=
  of_onlyParts (onlyParts_writeFields (l := [.regs]) (by simp) s r i val mask) (by decide) (by decide) (by decide)

theorem idleC1 (s : State) (c : Nat) : NothingToSettle s (s.idleC1 c) := by
  simp only [State.idleC1]
  repeat' split
  all_goals exact ⟨rfl, rfl, rfl, rfl⟩

theorem showThrottle (s : State) : NothingToSettle s s.showThrottle := by
  simp only [State.showThrottle]
  repeat' split
  all_goals exact ⟨by simp, by simp, by simp, by simp⟩

theorem pwrCfgWrite (s : State) (val mask : Nat) : NothingToSettle s (s.pwrCfgWrite val mask) := by
  have hshown := (writeFields s .pwrCfg 0 val mask).trans (showThrottle _)
  simp only [State.pwrCfgWrite]
  split
  · exact hshown.trans (foldl idleC1 _ _)
  · exact hshown

/-- A write of tokens, of the telemetry, of the power manager, of the engines or of an output, before or after the fields are written. -/
theorem plainWrite (s : State) (r : Reg) (i val mask : Nat) : NothingToSettle s (s.plainWrite r i val mask) := by
  have hfields := writeFields s r i val mask
  have hafter : ∀ {u : State}, NothingToSettle (s.writeFields r i val mask) u → NothingToSettle s u := hfields.trans
  have hhalf : ∀ c : Bool, NothingToSettle s (if c then s else s.writeFields r i val mask) := fun c => by
    cases c
    · exact hfields
    · exact refl s
  cases r with
  | schShape | schIpol => exact hafter ⟨rfl, rfl, rfl, rfl⟩
  | corePuntCfg => exact trans (t := s.puntRefresh) ⟨rfl, rfl, rfl, rfl⟩ ((writeFields ..).trans ⟨rfl, rfl, rfl, rfl⟩)
  | promCfg =>
    simp only [State.plainWrite, State.promCfgWrite]
    split
    · exact (writeFields ..).trans ⟨rfl, rfl, rfl, rfl⟩
    · exact writeFields ..
  | pwrCfg => exact pwrCfgWrite s val mask
  | telCfg =>
    simp only [State.plainWrite]
    split
    · exact hfields
    · exact hafter ⟨rfl, rfl, rfl, rfl⟩
  | dbgSel | cvtAmax => exact hafter ⟨rfl, rfl, rfl, rfl⟩
  | optPlanNext =>
    simp only [State.plainWrite]
    split
    · exact ⟨rfl, rfl, rfl, rfl⟩
    · exact hfields
  | cvtEscNext =>
    simp only [State.plainWrite]
    refine trans ?_ (writeFields ..)
    split
    · exact ⟨rfl, rfl, rfl, rfl⟩
    · exact refl s
  | optLoopCfg =>
    simp only [State.plainWrite]
    refine hafter (foldl (fun _ _ => ?_) _ _)
    exact ⟨rfl, rfl, rfl, rfl⟩
  | voqSpillCfg =>
    simp only [State.plainWrite]
    have hkept : ∀ c : Bool, NothingToSettle s ((s.writeFields .voqSpillCfg i val mask).when c
        (fun t => t.wr .voqSpillCfg_size 0 (s.rd .voqSpillCfg_size 0))) := fun c => by
      cases c
      · exact hfields
      · exact hafter ⟨rfl, rfl, rfl, rfl⟩
    split
    · exact (hkept _).trans ⟨rfl, rfl, rfl, rfl⟩
    · exact hkept _
  | engHostCfg | tblData | secOwnerHash | pcieRingBase => exact hhalf _
  | _ => exact hfields

theorem applyIn (s : State) (w : InWrite) : NothingToSettle s (s.applyIn w) := by
  rw [State.applyIn]
  split
  · exact refl s
  · exact plainWrite ..

theorem ready (s : State) (src : Src) (r : Reg) (i : Nat) : NothingToSettle s (s.ready src r i) :=
  trans (t := { s with acc := { s.acc with inflight := s.acc.inflight.filter (fun w => !InWrite.isOf src (regBlock (r.offset i)) w) } })
    ⟨rfl, rfl, rfl, rfl⟩ (foldl applyIn _ _)

/-- Where there is nothing to settle, a third state settles on both alike. -/
theorem settled (h : NothingToSettle s t) (u : State) : s.settled u = t.settled u := by
  rw [State.settled, State.settled, h.pending, h.tb, h.i3c, h.jtag]

end NothingToSettle
end Sys2Proof.Proofs

namespace Sys2Proof.Proofs
open Sys2Proof Sys2Proof.Machine Sys2Proof.Laws

/-- An accepted write that acts at once acts on the state that is ready for it (R32). -/
theorem onWrite_of_accepts {s : State} {src : Src} {r : Reg} {i : Nat} (h : s.accepts src r i = true) (g : State → State) :
    s.onWrite src r i g = g (s.ready src r i) := by
  simp only [State.onWrite, h, if_true, State.ready]

/-- A command completes in the state that settles its effect. -/
theorem completes_of_effect {c : Instr} {s t u : State} {P : State → Prop} (hexec : exec c s = settle s t) (heffect : t = u)
    (h : P (s.settled u)) : Completes c s P := by
  subst heffect
  exact ⟨s.settled t, hexec, h⟩

/-- A register write that is settled on the state before it is settled on the state ready for it. -/
theorem settled_ready (s : State) (src : Src) (r : Reg) (i : Nat) (t : State) : s.settled t = (s.ready src r i).settled t :=
  (NothingToSettle.ready s src r i).settled t

/-! The states of a port (Table 3.4). -/

theorem portState_wr_other (s : State) (n : Nat) {f : Fld} (i v : Nat) (hf : .corePortStatus_state ≠ f) :
    (s.wr f i v).portState n = s.portState n := rd_wr_other s v (.inl hf)

@[simp] theorem portState_setPst (s : State) (n : Nat) (g : PortSt → PortSt) (i : Nat) : (s.setPst n g).portState i = s.portState i := rfl

/-- A port reads the state it has entered. -/
theorem portState_setPort (s : State) (n : Nat) {st : Nat} (hst : st < 8) : (s.setPort n st).portState n = st := by
  have hwidth : Fld.width .corePortStatus_state = 3 := rfl
  have hring : Fld.corePortStatus_state ∉ .corePortStatus_stateEvent :: ringFields := by decide
  simp only [State.setPort]
  split
  · next h => rw [State.portState, State.showLanes, rd_wr_other _ _ (.inl (by decide)), ← State.portState, h]
  · rw [State.portState, State.portEvent, rd_event_other _ _ _ _ hring, State.showLanes, rd_wr_other _ _ (.inl (by decide)), rd_when,
      rd_wr_other _ _ (.inl (by decide)), ite_self, rd_wr_same, hwidth]
    omega

/-- Entering a state leaves what other fields show. -/
theorem rd_setPort_other (s : State) (n st : Nat) {f : Fld} (hf : f ∉ enterFields ++ ringFields) (i : Nat) :
    (s.setPort n st).rd f i = s.rd f i := by
  simp only [enterFields, List.cons_append, List.nil_append, List.mem_cons, not_or] at hf
  obtain ⟨hattempts, hlanes, hstate, hevent, hring⟩ := hf
  simp only [State.setPort]
  split
  · exact rd_wr_other _ _ (.inl hlanes)
  · rw [State.portEvent, rd_event_other _ _ _ _ (by simp [hevent, hring]), State.showLanes, rd_wr_other _ _ (.inl hlanes), rd_when,
      rd_wr_other _ _ (.inl hattempts), ite_self, rd_wr_other _ _ (.inl hstate)]

@[simp] theorem setPort_ports (s : State) (n st : Nat) : (s.setPort n st).ports = s.ports := by
  simp only [State.setPort]
  split
  · rfl
  · rw [State.portEvent, event_ports, State.showLanes, wr_ports, when_ports, wr_ports, wr_ports, ite_self]

@[simp] theorem pst_setPort (s : State) (n st i : Nat) : (s.setPort n st).pst i = s.pst i := pst_of_ports (setPort_ports s n st) i

/-- Work on the links of other ports leaves a port in its state. -/
theorem LinkKept.portState {W : Scope} {s t : State} (h : LinkKept W s t) {n : Nat} (hn : n ∉ W.shown) : t.portState n = s.portState n :=
  h.shown _ (by decide) n hn

/-- What a port shows of the cause of its failure. -/
theorem rd_failReason_some (s : State) (n r : Nat) (hr : r < 16) : (s.failReason n (some r)).rd .corePortStatus_failReason n = r := by
  have hwidth : Fld.width .corePortStatus_failReason = 4 := rfl
  rw [State.failReason, rd_wr_same, hwidth]
  omega

/-- A port that has gone down is in DOWN, and shows the reason given. -/
theorem goDown_shows (s : State) (n : Nat) (reason : Option Nat) : (s.goDown n reason).portState n = 0 ∧
    ∀ r, reason = some r → r < 16 → (s.goDown n reason).rd .corePortStatus_failReason n = r := by
  simp only [State.goDown]
  refine ⟨portState_setPort _ _ (by decide), ?_⟩
  rintro r rfl hr
  rw [rd_setPort_other _ _ _ (by decide), rd_wr_other _ _ (.inl (by decide)),
    ((LinkKept.refl Scope.none _).fixBuckets n).shown _ (by decide) n (by simp [Scope.none]), rd_failReason_some _ _ _ hr]

/-- No port moves out of UP or DRAINING that is in neither (Table 3.5). -/
theorem reDrain_of_state {s : State} {n : Nat} (h3 : s.portState n ≠ 3) (h4 : s.portState n ≠ 4) : s.reDrain n = s := by
  simp only [State.reDrain, h3, h4, false_and, if_false]

namespace LinkKept
variable {W : Scope} {s t : State}

/-- The fences of a port in neither UP nor DRAINING are shown, and the port stays as it is. -/
theorem syncFence_of_state (h : LinkKept W s t) {n : Nat} (h3 : t.portState n ≠ 3) (h4 : t.portState n ≠ 4) :
    LinkKept W s (t.syncFence n) := by
  simp only [State.syncFence]
  rw [reDrain_of_state]
  · exact (h.wr _ _ (by decide)).wr _ _ (by decide)
  · rwa [portState_wr_other _ _ _ _ (by decide), portState_wr_other _ _ _ _ (by decide)]
  · rwa [portState_wr_other _ _ _ _ (by decide), portState_wr_other _ _ _ _ (by decide)]

theorem lowerPort_of_state (h : LinkKept W s t) {n : Nat} (h3 : t.portState n ≠ 3) (h4 : t.portState n ≠ 4) (w : Nat) :
    LinkKept W s (t.lowerPort n w) := by
  simp only [State.lowerPort]
  split
  · have hlower := (((LinkKept.refl Scope.none t).wr (f := .fenPort_score) n (t.rd .fenPort_score n - w) (by decide)).wr
      (f := .fenPort_linkFence) n 1 (by decide)).event .fenStatus (f := .fenStatus_linkEvent) 0 0 (by decide)
    have hstate := hlower.portState (n := n) (by simp [Scope.none])
    exact (((h.wr _ _ (by decide)).wr _ _ (by decide)).event _ _ _ (by decide)).syncFence_of_state (hstate ▸ h3) (hstate ▸ h4)
  · exact h.wr _ _ (by decide)

end LinkKept

/-! Into TRAINING (R86, R89, R90). -/

/-- A port on the run of lanes that it is to train on. -/
def onRun (s : State) (n : Nat) (run : Nat × Nat) (how : TrainAt) (fast : Bool) (reason : Option Nat) : State :=
  let u := s.abortIfLinked n
  let v := u.setPst n (fun x => { x with at_ := how, fast := fast, tries := 0, runAt := run.1, draining := false, holdDone := false,
                                         planDue := false, seen := none, good := 0, peerAt := u.tb.mono })
  ((v.failReason n reason).fixBuckets n).wr .corePortStatus_widthNow n run.2

/-- The port with the lanes of its configured width unlocked. -/
def unlocked (s : State) (n : Nat) : State := (s.lanesOf n).foldl (fun s l => s.wr .coreLaneStatus_fecLock l 0) s

/-- The port as it stands before it shows TRAINING. -/
def beforeTraining (s : State) (n : Nat) (run : Nat × Nat) (how : TrainAt) (fast : Bool) (reason : Option Nat) : State :=
  (unlocked (onRun s n run how fast reason) n).when ((s.abortIfLinked n).portState n == 0) (fun s => s.wr .coreNbr_valid n 0)

theorem onRun_kept (s : State) (n : Nat) (run : Nat × Nat) (how : TrainAt) (fast : Bool) (reason : Option Nat) :
    LinkKept (Scope.port n) s (onRun s n run how fast reason) :=
  (((((LinkKept.refl _ s).abortIfLinked n).setPst rfl (by simp)).failReason rfl reason).fixBuckets n).wr _ _ (by decide)

theorem onRun_reason (s : State) (n : Nat) (run : Nat × Nat) (how : TrainAt) (fast : Bool) {r : Nat} (hr : r < 16) :
    (onRun s n run how fast (some r)).rd .corePortStatus_failReason n = r := by
  rw [onRun, rd_wr_other _ _ (.inl (by decide)), ((LinkKept.refl Scope.none _).fixBuckets n).shown _ (by decide) n (by simp [Scope.none]),
    rd_failReason_some _ _ _ hr]

theorem unlocked_kept (W : Scope) (s : State) (n : Nat) : LinkKept W s (unlocked s n) :=
  (LinkKept.refl W s).foldl (fun _ l h => h.wrUnlock l) _

/-- From TRAINING on, nothing shown of the port changes as its first attempt begins. -/
theorem toTraining_kept (s : State) (n : Nat) (run : Nat × Nat) (how : TrainAt) (fast : Bool) (reason : Option Nat) :
    LinkKept ⟨∅, {n}, ∅⟩ ((beforeTraining s n run how fast reason).setPort n 1) (s.toTraining n run how fast reason) := by
  have hstate : ∀ {t}, LinkKept ⟨∅, {n}, ∅⟩ ((beforeTraining s n run how fast reason).setPort n 1) t → t.portState n = 1 := fun h =>
    (h.portState (by simp)).trans (portState_setPort _ _ (by decide))
  simp only [State.toTraining]
  refine ((((LinkKept.refl _ _).when ?_ _).when ?_ _).when ?_ _).when ?_ _
  · exact fun t h => h.syncFence_of_state (by rw [hstate h]; decide) (by rw [hstate h]; decide)
  · exact fun _ h => h.portEvent n
  · exact fun _ h => h.setPst rfl (by simp)
  · exact fun _ h => h.nextAttempt rfl

/-- A list of lanes without codeword lock. -/
theorem fecLock_foldl (ls : List Nat) (s : State) {l : Nat} (h : l ∈ ls ∨ s.rd .coreLaneStatus_fecLock l = 0) :
    (ls.foldl (fun s l => s.wr .coreLaneStatus_fecLock l 0) s).rd .coreLaneStatus_fecLock l = 0 := by
  induction ls generalizing s with
  | nil => exact h.resolve_left List.not_mem_nil
  | cons a ls ih =>
    refine ih _ ?_
    by_cases hl : l = a
    · exact .inr (by rw [hl, rd_wr_same, Nat.zero_mod])
    · rw [rd_wr_other _ _ (.inr hl)]
      exact h.imp_left (fun h => (List.mem_cons.mp h).resolve_left hl)

/-- A port that retrains is in TRAINING, with its lanes unlocked, and shows the reason given. -/
structure Trains (s : State) (n : Nat) (reason : Option Nat) (t : State) : Prop where
  state : t.portState n = 1
  reason : ∀ r, reason = some r → r < 16 → t.rd .corePortStatus_failReason n = r
  dark : ∀ l ∈ s.lanesOf n, t.rd .coreLaneStatus_fecLock l = 0

/-- What is shown of training stands while nothing is shown of the port anew. -/
theorem Trains.kept {s t u : State} {n : Nat} {reason : Option Nat} {W : Scope} (h : Trains s n reason t) (hk : LinkKept W t u)
    (hn : n ∉ W.shown) : Trains s n reason u where
  state := (hk.portState hn).trans h.state
  reason r hr hlt := (hk.shown _ (by decide) n hn).trans (h.reason r hr hlt)
  dark l hl := hk.dark l (h.dark l hl)

/-- Its score may be lowered, and its link fenced. -/
theorem Trains.lowerPort {s t : State} {n : Nat} {reason : Option Nat} (h : Trains s n reason t) (w : Nat) :
    Trains s n reason (t.lowerPort n w) :=
  h.kept ((LinkKept.refl Scope.none t).lowerPort_of_state (by rw [h.state]; decide) (by rw [h.state]; decide) w) (by simp [Scope.none])

/-- The lanes of a port are those of its configured width. -/
theorem LinkKept.lanesOf {W : Scope} {s t : State} (h : LinkKept W s t) (n : Nat) : t.lanesOf n = s.lanesOf n := by
  rw [State.lanesOf, h.quiet _ (by decide), State.lanesOf]

theorem toTraining_trains (s : State) (n : Nat) (run : Nat × Nat) (how : TrainAt) (fast : Bool) (reason : Option Nat) :
    Trains s n reason (s.toTraining n run how fast reason) := by
  refine Trains.kept ?_ (toTraining_kept s n run how fast reason) (by simp)
  have hbefore : LinkKept ⟨∅, ∅, {n}⟩ (onRun s n run how fast reason) (beforeTraining s n run how fast reason) :=
    (unlocked_kept _ _ n).when (fun _ h => h.wrHeard rfl 0) _
  refine ⟨portState_setPort _ _ (by decide), ?_, fun l hl => ?_⟩
  · rintro r rfl hr
    rw [rd_setPort_other _ _ _ (by decide), hbefore.shown _ (by decide) n (by simp), onRun_reason _ _ _ _ _ hr]
  · rw [rd_setPort_other _ _ _ (by decide), beforeTraining, rd_when, rd_wr_other _ _ (.inl (by decide)), ite_self]
    exact fecLock_foldl _ _ (.inl (by rwa [(onRun_kept s n run how fast reason).lanesOf]))

/-- R89: a port in HELLO, UP or DRAINING that loses its link retrains. -/
theorem loseLink_trains {s : State} {n : Nat} (h : s.linked n = true) (reason : Option Nat) : Trains s n reason (s.loseLink n reason) := by
  simp only [State.loseLink, h, if_true]
  have htrains := toTraining_trains s n ((s.pst n).runAt, s.rd .corePortStatus_widthNow n)
    (if (s.isBypass n && s.flag .coreNbr_draining n) = true then .peer else .attempt) (s.isBypass n && s.flag .coreNbr_draining n) reason
  exact htrains.lowerPort _

/-- R86, R90: a port that re-forms is in TRAINING, or in DOWN where no run of lanes is left. -/
theorem reform_state {s : State} {n : Nat} (h0 : s.portState n ≠ 0) (h5 : s.portState n ≠ 5) :
    (s.reform n).portState n = 0 ∨ (s.reform n).portState n = 1 := by
  simp only [State.reform, h0, h5, or_self, if_false]
  split
  · exact .inr (toTraining_trains ..).state
  · exact .inl (goDown_shows ..).1

/-! Attempts (R87, R214, R217). -/

@[simp] theorem pst_wr (s : State) (f : Fld) (i v n : Nat) : (s.wr f i v).pst n = s.pst n := rfl

/-- R87, R214: an attempt that the rings allow begins at once and is counted. -/
theorem beginAttempt_of_ready {s : State} {n : Nat} (h : s.ringsReady n = true) :
    s.beginAttempt n = (s.setPst n (fun x => { x with at_ := .attempt, tries := x.tries + 1 })).wr .corePortStatus_attempts n
      (min 255 (s.rd .corePortStatus_attempts n + 1)) := by
  simp only [State.beginAttempt, h, if_true, rd_setPst]

/-- What the port holds once its attempt has begun. -/
theorem pst_beginAttempt {s : State} {n : Nat} (h : s.ringsReady n = true) :
    (s.beginAttempt n).pst n = { s.pst n with at_ := .attempt, tries := (s.pst n).tries + 1 } := by
  rw [beginAttempt_of_ready h]
  exact (pst_wr ..).trans (pst_setPst_same ..)

theorem attempts_beginAttempt {s : State} {n : Nat} (h : s.ringsReady n = true) :
    (s.beginAttempt n).rd .corePortStatus_attempts n = min 255 (s.rd .corePortStatus_attempts n + 1) := by
  have hwidth : Fld.width .corePortStatus_attempts = 8 := rfl
  rw [beginAttempt_of_ready h, rd_wr_same, hwidth]
  omega

/-- The next attempt of a port that has not been retuned. -/
theorem nextAttempt_full {s : State} {n : Nat} (h : (s.isBypass n && (s.pst n).nextFast) = false) : s.nextAttempt n = s.beginAttempt n := by
  simp only [State.nextAttempt, h, Bool.false_eq_true, if_false]

/-- A change of what the part holds of ports changes `ports` alone. -/
theorem onlyParts_onPorts {l : List Part} (hl : .ports ∈ l) (s : State) (g : Ports → Ports) : OnlyParts l s (s.onPorts g) := by
  refine ⟨rfl, fun p hp => ?_⟩
  cases p with
  | ports => exact absurd hl hp
  | _ => rfl

theorem onlyParts_setPst {l : List Part} (hl : .ports ∈ l) (s : State) (n : Nat) (g : PortSt → PortSt) : OnlyParts l s (s.setPst n g) :=
  onlyParts_onPorts hl s _

/-- A change of the optical control changes `opt` alone. -/
theorem onlyParts_onOpt {l : List Part} (hl : .opt ∈ l) (s : State) (g : Opt → Opt) : OnlyParts l s (s.onOpt g) := by
  refine ⟨rfl, fun p hp => ?_⟩
  cases p with
  | opt => exact absurd hl hp
  | _ => rfl

/-- What is read of a settled state is read of the effect. -/
@[simp] theorem portState_settled (s t : State) (n : Nat) : (s.settled t).portState n = t.portState n := rfl
@[simp] theorem pst_settled (s t : State) (n : Nat) : (s.settled t).pst n = t.pst n := rfl

/-- R87: an attempt that runs out. -/
theorem attemptFails_shows (s : State) (n : Nat) {reason : Nat} (hr : reason < 16) (hstate : s.portState n = 1) :
    (s.attemptFails n reason).rd .corePortStatus_failReason n = reason ∧
      (s.rd .corePortCfg_trainRetries n = 0 ∨ (s.pst n).tries < s.rd .corePortCfg_trainRetries n →
        (s.attemptFails n reason).portState n = 1 ∧ ((s.attemptFails n reason).pst n).at_ = .backoff) ∧
      (s.rd .corePortCfg_trainRetries n ≠ 0 → s.rd .corePortCfg_trainRetries n ≤ (s.pst n).tries →
        (s.attemptFails n reason).portState n = 0) := by
  simp only [State.attemptFails, rd_setPst, pst_setPst_same]
  split
  · next hlimit =>
    obtain ⟨hdown, hreason⟩ := goDown_shows (s.setPst n (fun x => { x with ended := true, fast := false })) n (some reason)
    exact ⟨hreason reason rfl hr, fun h => by omega, fun _ _ => hdown⟩
  · next hlimit =>
    refine ⟨rd_failReason_some _ _ _ hr, fun _ => ⟨?_, ?_⟩, fun h0 hle => absurd ⟨h0, hle⟩ hlimit⟩
    · exact (portState_wr_other _ _ _ _ (by decide)).trans hstate
    · rw [State.failReason, pst_wr, pst_setPst_same]

theorem phaseReason_lt (native : Bool) (phase : Nat) (deskew : Bool) : phaseReason native phase deskew < 16 := by
  simp only [phaseReason]
  repeat' split
  all_goals decide

/-! An attempt that succeeds (R86, R90, R92). -/

/-- The port leaves TRAINING or HELLO for UP, or for DRAINING where a drain or a wait asks for it (Table 3.5). -/
theorem portState_toDraining (s : State) (n : Nat) : (s.toDraining n).portState n = 4 := by
  simp only [State.toDraining]
  refine (((LinkKept.refl Scope.none _).when (fun _ h => h.sendHello n false) _).portState (by simp [Scope.none])).trans ?_
  rw [portState_setPst, portState_wr_other _ _ _ _ (by decide), portState_setPort _ _ (by decide)]

/-- Whether a drain is asked of a port does not depend on its state. -/
theorem wantDrain_setPort (s : State) (n st : Nat) : (s.setPort n st).wantDrain n = s.wantDrain n := by
  have hflag : ∀ f ∈ [Fld.corePortCfg_drain, .fenPort_linkFence, .fenPort_nbrFence], (s.setPort n st).flag f n = s.flag f n := fun f hf => by
    rw [flag_def, rd_setPort_other _ _ _ (by revert f; decide), flag_def]
  simp only [State.wantDrain, State.portFenced, hflag, List.mem_cons, true_or, or_true]

theorem portState_toUp (s : State) (n : Nat) :
    (s.toUp n).portState n = if s.wantDrain n = true ∨ (s.pst n).waits ≠ [] then 4 else 3 := by
  have hwant : ∀ g, (s.setPst n g).wantDrain n = s.wantDrain n := fun _ => rfl
  simp only [State.toUp, hwant]
  cases hdrain : s.wantDrain n with
  | true => simp only [if_true, true_or, portState_toDraining]
  | false =>
    have hup := portState_setPort (s.setPst n (fun x => { x with ended := true })) n (st := 3) (by decide)
    simp only [Bool.false_eq_true, if_false, false_or, State.reDrain, wantDrain_setPort, hwant, hdrain, pst_setPort, pst_setPst_same,
      hup, Bool.false_or, true_and]
    by_cases hwaits : (s.pst n).waits = []
    · simp [hwaits, hup]
    · simp [hwaits, portState_toDraining]

/-- The port has ended an attempt once it is UP. -/
theorem toUp_ended (s : State) (n : Nat) : ((s.toUp n).pst n).ended = true := by
  have hended : ((s.setPst n (fun x => { x with ended := true })).pst n).ended = true := by rw [pst_setPst_same]
  simp only [State.toUp]
  split
  · exact ((LinkKept.refl (Scope.port n) _).toDraining (Scope.port_moves n)).ended n hended
  · refine ((LinkKept.refl (Scope.port n) _).reDrain (Scope.port_moves n)).ended n ?_
    rwa [pst_setPort]

/-- Between `s` and `t` only the register fields listed were stored, and only the components listed changed. -/
structure Stores (ps : List Part) (fs : List Fld) (s t : State) : Prop where
  parts : OnlyParts ps s t
  regs : OnlyRegs fs s t

namespace Stores
variable {ps : List Part} {fs : List Fld} {s t : State}

theorem refl (ps : List Part) (fs : List Fld) (s : State) : Stores ps fs s s := ⟨onlyParts_refl _ s, fun _ _ _ => rfl⟩

theorem wr (h : Stores ps fs s t) {f : Fld} (i v : Nat) (hf : f ∈ fs ∧ .regs ∈ ps) : Stores ps fs s (t.wr f i v) :=
  ⟨onlyParts_trans h.parts (onlyParts_wr hf.2 ..),
    fun g j hg => (rd_wr_other _ _ (.inl (fun hgf => hg (by rw [hgf]; exact hf.1)))).trans (h.regs g j hg)⟩

/-- A change of one component that is not the registers. -/
theorem aside {u : State} (h : Stores ps fs s t) (hparts : OnlyParts ps t u) (hregs : u.regs = t.regs) : Stores ps fs s u :=
  ⟨onlyParts_trans h.parts hparts, fun g j hg => by rw [State.rd, hregs, ← State.rd, h.regs g j hg]⟩

theorem onPorts (h : Stores ps fs s t) (g : Ports → Ports) (hp : .ports ∈ ps) : Stores ps fs s (t.onPorts g) :=
  h.aside (onlyParts_onPorts hp t g) rfl

theorem onOpt (h : Stores ps fs s t) (g : Opt → Opt) (hp : .opt ∈ ps) : Stores ps fs s (t.onOpt g) :=
  h.aside (onlyParts_onOpt hp t g) rfl

theorem onRing (h : Stores ps fs s t) (key : Nat) (g : RingSt → RingSt) (hp : .opt ∈ ps) : Stores ps fs s (t.onRing key g) :=
  h.onOpt _ hp

theorem emit (h : Stores ps fs s t) (o : Output) (hp : .out ∈ ps) : Stores ps fs s (t.emit o) := h.aside (onlyParts_emit hp t o) rfl

theorem when {g : State → State} (h : Stores ps fs s t) (hg : ∀ t, Stores ps fs s t → Stores ps fs s (g t)) (c : Bool) :
    Stores ps fs s (t.when c g) := by
  cases c
  · exact h
  · exact hg t h

theorem foldl {α : Type} {g : State → α → State} (h : Stores ps fs s t)
    (hg : ∀ t a, Stores ps fs s t → Stores ps fs s (g t a)) (l : List α) : Stores ps fs s (l.foldl g t) := by
  induction l generalizing t with
  | nil => exact h
  | cons a l ih => exact ih (hg t a h)

theorem ports (h : Stores ps fs s t) (hp : .ports ∉ ps) : t.ports = s.ports := h.parts.2 .ports hp

theorem flag (h : Stores ps fs s t) {f : Fld} (i : Nat) (hf : f ∉ fs) : t.flag f i = s.flag f i := by
  rw [flag_def, h.regs f i hf, flag_def]

theorem portState (h : Stores ps fs s t) (n : Nat) (hf : .corePortStatus_state ∉ fs) : t.portState n = s.portState n :=
  h.regs _ n hf

end Stores

/-- R73: the lanes in use are shown locked. -/
theorem lanesLocked_stores (s : State) (n pol : Nat) :
    Stores [.regs] [.coreLaneStatus_sigDet, .coreLaneStatus_cdrLock, .coreLaneStatus_fecLock, .coreLaneStatus_rxPolInv] s
      (s.lanesLocked n pol) := by
  refine (Stores.refl _ _ s).foldl (fun _ _ h => ?_) _
  exact (((h.wr _ _ (by decide)).wr _ _ (by decide)).wr _ _ (by decide)).wr _ _ (by decide)

/-- Whether a drain is asked of a port depends on three flags of it. -/
theorem wantDrain_of_stores {ps : List Part} {fs : List Fld} {s t : State} (h : Stores ps fs s t) (n : Nat)
    (hfs : ∀ f ∈ [Fld.corePortCfg_drain, .fenPort_linkFence, .fenPort_nbrFence], f ∉ fs) : t.wantDrain n = s.wantDrain n := by
  simp only [List.forall_mem_cons] at hfs
  obtain ⟨hdrain, hlink, hnbr, -⟩ := hfs
  rw [State.wantDrain, State.portFenced, h.flag n hdrain, h.flag n hlink, h.flag n hnbr, State.wantDrain, State.portFenced]

/-- The port with what its far end says of its lanes (R87). -/
def farKnown (s : State) (n farBad : Nat) : State := s.when (s.isNative n) (fun s => s.setPst n (fun x => { x with far := farBad }))

theorem pst_farKnown (s : State) (n farBad : Nat) :
    (farKnown s n farBad).pst n = { s.pst n with far := if s.isNative n = true then farBad else (s.pst n).far } := by
  rw [farKnown]
  cases s.isNative n
  · rfl
  · rw [when_true, pst_setPst_same]
    rfl

theorem rd_farKnown (s : State) (n farBad : Nat) (f : Fld) (i : Nat) : (farKnown s n farBad).rd f i = s.rd f i := by
  rw [farKnown, rd_when, rd_setPst, ite_self]

/-- R87, R90: the lanes in use that the far end has declared failed. -/
theorem farHit_farKnown (s : State) (n farBad : Nat) : (farKnown s n farBad).farHit n = true ↔
    ∃ j < 2 ^ s.rd .corePortStatus_widthNow n, bitAt (if s.isNative n = true then farBad else (s.pst n).far) ((s.pst n).runAt + j) = true := by
  simp only [State.farHit, pst_farKnown, rd_farKnown, List.any_eq_true, List.mem_range]

/-- The port once its lanes are locked. -/
def attemptWon (s : State) (n pol farBad : Nat) : State :=
  ((farKnown s n farBad).lanesLocked n pol).setPst n (fun x => { x with at_ := .idle, fast := false, ended := true, good := 0 })

section Success
variable {n : Fin 512} {pol : BitVec 8} {lrx : BitVec 16} {farBad : BitVec 8} {s : State} (hstate : s.portState n = 1)
  (hat : (s.pst n).at_ = .attempt)
include hstate hat

/-- R90: a lane in use that has failed at the far end takes the port to a smaller run. -/
theorem doTrainingSuccess_reform (hhit : (farKnown s n farBad.toNat).farHit n = true) :
    doTrainingSuccess n pol lrx farBad s = (farKnown s n farBad.toNat).reform n := by
  have hhit' : (s.when (s.isNative n) (fun s => s.setPst n (fun x => { x with far := farBad.toNat }))).farHit n = true := hhit
  simp only [doTrainingSuccess, hstate, hat, hhit', and_self, if_true]
  rfl

/-- R86, R92: otherwise a native port enters HELLO, and an Ethernet port goes to UP. -/
theorem doTrainingSuccess_up (hmiss : (farKnown s n farBad.toNat).farHit n = false) :
    doTrainingSuccess n pol lrx farBad s =
      if s.isNative n = true then ((attemptWon s n pol.toNat farBad.toNat).setPort n 2).sendHello n (s.pst n).fast
      else ((attemptWon s n pol.toNat farBad.toNat).setPst n (fun x => { x with lrx := lrx.toNat })).toUp n := by
  have hmiss' : (s.when (s.isNative n) (fun s => s.setPst n (fun x => { x with far := farBad.toNat }))).farHit n = false := hmiss
  have hnative : (attemptWon s n pol.toNat farBad.toNat).isNative n = s.isNative n := by
    rw [State.isNative, State.isEth, attemptWon, rd_setPst, (lanesLocked_stores ..).regs _ _ (by decide), rd_farKnown]
    rfl
  simp only [doTrainingSuccess, hstate, hat, hmiss', and_self, if_true, Bool.false_eq_true, if_false]
  exact if_congr (Eq.to_iff (congrArg (· = true) hnative)) rfl rfl

end Success

/-- What an attempt that succeeds leaves of the port (R86, R92). -/
theorem doTrainingSuccess_shows {n : Fin 512} {pol : BitVec 8} {lrx : BitVec 16} {farBad : BitVec 8} {s : State}
    (hstate : s.portState n = 1) (hat : (s.pst n).at_ = .attempt) (hmiss : (farKnown s n farBad.toNat).farHit n = false) :
    (doTrainingSuccess n pol lrx farBad s).portState n = (if s.isNative n = true then 2
        else if s.wantDrain n = true ∨ (s.pst n).waits ≠ [] then 4 else 3) ∧
      ((doTrainingSuccess n pol lrx farBad s).pst n).ended = true := by
  rw [doTrainingSuccess_up hstate hat hmiss]
  have hwon : ((attemptWon s n pol.toNat farBad.toNat).pst n).ended = true := by rw [attemptWon, pst_setPst_same]
  by_cases hnative : s.isNative n = true
  · have hkept := (LinkKept.refl Scope.none ((attemptWon s n pol.toNat farBad.toNat).setPort n 2)).sendHello n (s.pst n).fast
    simp only [hnative, if_true]
    refine ⟨?_, hkept.ended n (by rwa [pst_setPort])⟩
    rw [hkept.portState (by simp [Scope.none]), portState_setPort _ _ (by decide)]
  · have hsame : farKnown s n farBad.toNat = s := by
      rw [Bool.not_eq_true] at hnative
      rw [farKnown, hnative, when_false]
    have hlocked := lanesLocked_stores s n pol.toNat
    simp only [hnative, Bool.false_eq_true, if_false]
    refine ⟨?_, toUp_ended ..⟩
    have hwant : ((attemptWon s n pol.toNat farBad.toNat).setPst n (fun x => { x with lrx := lrx.toNat })).wantDrain n = s.wantDrain n := by
      rw [attemptWon, hsame]
      exact wantDrain_of_stores hlocked n (by decide)
    rw [portState_toUp, hwant, pst_setPst_same, attemptWon, pst_setPst_same, hsame, pst_of_ports (hlocked.ports (by decide))]

/-- What the port knows of the far end's lanes once it has re-formed. -/
theorem doTrainingSuccess_reforms {n : Fin 512} {pol : BitVec 8} {lrx : BitVec 16} {farBad : BitVec 8} {s : State}
    (hstate : s.portState n = 1) (hat : (s.pst n).at_ = .attempt) (hnative : s.isNative n = true)
    (hhit : (farKnown s n farBad.toNat).farHit n = true) :
    ((doTrainingSuccess n pol lrx farBad s).pst n).far = farBad.toNat ∧
      ((doTrainingSuccess n pol lrx farBad s).portState n = 0 ∨ (doTrainingSuccess n pol lrx farBad s).portState n = 1) := by
  have hknown : (farKnown s n farBad.toNat).portState n = 1 := (rd_farKnown ..).trans hstate
  rw [doTrainingSuccess_reform hstate hat hhit]
  refine ⟨?_, reform_state (by rw [hknown]; decide) (by rw [hknown]; decide)⟩
  rw [((LinkKept.refl (Scope.port n) _).reform (Scope.port_retrains _)).far, pst_farKnown, hnative, if_pos rfl]

/-! Loss of link and of the reference (R89, R91, R467). -/

/-- R91: a lane that is declared failed is marked, and recorded, whatever becomes of its port. -/
theorem failLane_recorded (s : State) (l cause : Nat) : (s.failLane l cause).rd .coreLaneStatus_failed l = 1 ∧
    Recorded 0x0020 1 [l, cause] s (s.failLane l cause) := by
  refine ⟨?_, recorded_fault_of_seq (rd_wr_other _ _ (.inl (by decide))) ..⟩
  rw [State.failLane, rd_fault _ _ _ _ _ (by decide), rd_wr_same]
  rfl

/-- A calibration of the port in CAL is given up. -/
def calGivenUp (s : State) (n : Nat) : State :=
  match s.opt.cal with
  | some m => if m = n then (s.restoreRings n).calOver else s
  | none => s

/-- What one port does as its region's reference is lost. -/
def refLost (s : State) (n : Nat) : State :=
  ((calGivenUp s n).toTraining n ((s.pst n).runAt, s.rd .corePortStatus_widthNow n) .idle false (some 1)).when (s.linked n)
    (fun s => s.lowerPort n (s.rd .fenWeight_wLoss 0))

theorem LinkKept.refLost {W : Scope} {s t : State} (h : LinkKept W s t) {n : Nat} (hn : W.Retrains n) :
    LinkKept W s (Proofs.refLost t n) := by
  have hcal : LinkKept W s (calGivenUp t n) := by
    simp only [calGivenUp]
    split
    · exact LinkKept.ite (h.restoreRings n).calOver h
    · exact h
  exact (hcal.toTraining hn ..).when (fun _ h => h.lowerPort hn.1 _) _

/-- R467: the port retrains with NO_SIGNAL. -/
theorem refLost_shows (s : State) (n : Nat) : (refLost s n).portState n = 1 ∧ (refLost s n).rd .corePortStatus_failReason n = 1 := by
  have htrains := toTraining_trains (calGivenUp s n) n ((s.pst n).runAt, s.rd .corePortStatus_widthNow n) .idle false (some 1)
  have hlower := htrains.lowerPort
  rw [refLost]
  cases s.linked n
  · rw [when_false]
    exact ⟨htrains.state, htrains.reason 1 rfl (by decide)⟩
  · rw [when_true]
    exact ⟨(hlower _).state, (hlower _).reason 1 rfl (by decide)⟩

/-- Every port of a list retrains, as the others leave it alone. -/
theorem foldl_refLost_shows (ns : List Nat) (s : State) :
    ∀ n, n ∈ ns ∨ (s.portState n = 1 ∧ s.rd .corePortStatus_failReason n = 1) →
      (ns.foldl refLost s).portState n = 1 ∧ (ns.foldl refLost s).rd .corePortStatus_failReason n = 1 := by
  induction ns generalizing s with
  | nil => exact fun n h => h.resolve_left List.not_mem_nil
  | cons m ns ih =>
    intro n h
    refine ih _ n ?_
    by_cases hn : n = m
    · rw [hn]
      exact .inr (refLost_shows s m)
    · have hkept := (LinkKept.refl _ s).refLost (Scope.port_retrains m)
      rw [hkept.portState (by simpa [Scope.port] using hn), hkept.shown _ (by decide) n (by simpa [Scope.port] using hn)]
      exact h.imp_left (fun h => (List.mem_cons.mp h).resolve_left hn)

theorem doSrefLost_eq {k : Fin 8} {s : State} (hon : s.off = false) (hhas : s.ports.sref.contains k.val = false) :
    doSrefLost k s = (((s.onPorts (fun w => { w with sref := k.val :: w.sref })).regionPorts k).filter
      (fun n => (s.onPorts (fun w => { w with sref := k.val :: w.sref })).portState n != 0)).foldl refLost
        (s.onPorts (fun w => { w with sref := k.val :: w.sref })) := by
  simp only [doSrefLost, hon, hhas, Bool.or_self, Bool.false_eq_true, if_false]
  rfl

/-- R467: the ports of a region whose reference is lost. -/
theorem doSrefLost_shows {k : Fin 8} {s : State} (hon : s.off = false) (hhas : s.ports.sref.contains k.val = false) :
    (doSrefLost k s).ports.sref.contains k.val = true ∧ ∀ n, n < 512 → n / 64 = k.val → s.rd .corePortCfg_en n = 1 → s.portState n ≠ 0 →
      (doSrefLost k s).portState n = 1 ∧ (doSrefLost k s).rd .corePortStatus_failReason n = 1 := by
  rw [doSrefLost_eq hon hhas]
  refine ⟨?_, fun n hn hregion hen hup => foldl_refLost_shows _ _ n (.inl ?_)⟩
  · rw [((LinkKept.refl Scope.all _).foldl (fun t n h => h.refLost (Scope.all_retrains n)) _).sref]
    simp
  · have hup' : (s.onPorts (fun w => { w with sref := k.val :: w.sref })).portState n ≠ 0 := hup
    have hen' : (s.onPorts (fun w => { w with sref := k.val :: w.sref })).flag .corePortCfg_en n = true := by simp [flag_def, hen]
    simp [State.regionPorts, State.enabledPorts, hn, hregion, hup', hen']

/-- R467: once the reference is back nothing of it is remembered. -/
theorem doSrefRestored_sref {k : Fin 8} {s : State} (hon : s.off = false) (hhas : s.ports.sref.contains k.val = true) :
    (doSrefRestored k s).ports.sref.contains k.val = false := by
  simp only [doSrefRestored, hon, hhas, Bool.not_true, Bool.or_self, Bool.false_eq_true, if_false]
  rw [((LinkKept.refl Scope.all _).foldl (fun t n h => LinkKept.ite (h.nextAttempt (Scope.all_retrains n).1.2)
    (LinkKept.ite (h.leaveDown (Scope.all_retrains n)) h)) _).sref]
  simp

/-- R89: a port whose cause of loss fits its mode retrains. -/
theorem doLossOfLink_trains {n : Fin 512} {cause : LossCause} {s : State} (hfits : lossFits cause (s.isNative n) = true)
    (hlinked : s.linked n = true) : Trains s n (LossCause.reason cause) (doLossOfLink n cause s) := by
  have hdark : Stores [.regs] [.coreLaneStatus_sigDet, .coreLaneStatus_cdrLock] s (s.lanesDark n cause) := by
    cases cause with
    | noSignal sig cdr =>
      refine (Stores.refl _ _ s).foldl (fun _ _ h => ?_) _
      exact (h.when (fun _ h => h.wr _ _ (by decide)) _).when (fun _ h => h.wr _ _ (by decide)) _
    | _ => exact Stores.refl _ _ s
  have hlinked' : (s.lanesDark n cause).linked n = true := by
    rw [State.linked, hdark.portState _ (by decide), ← State.linked, hlinked]
  have htrains := loseLink_trains hlinked' (LossCause.reason cause)
  simp only [doLossOfLink, hfits, hlinked, Bool.and_self, if_true]
  refine ⟨htrains.state, htrains.reason, fun l hl => htrains.dark l ?_⟩
  rwa [State.lanesOf, hdark.regs _ _ (by decide)]

/-- R91: a lane that fails is marked and recorded, and its port re-forms. -/
theorem doLaneFailed_recorded {lane : Fin 512} {cause : Fin 3} {s : State} (hon : s.off = false)
    (hgood : s.rd .coreLaneStatus_failed lane = 0) :
    (doLaneFailed lane cause s).rd .coreLaneStatus_failed lane = 1 ∧ Recorded 0x0020 1 [lane, cause] s (doLaneFailed lane cause s) := by
  obtain ⟨hfailed, hrecorded⟩ := failLane_recorded s lane cause
  have hkept : LinkKept Scope.all (s.failLane lane cause) (doLaneFailed lane cause s) := by
    simp only [doLaneFailed, hon, flag_def, hgood, Nat.zero_ne_one, beq_iff_eq, if_false, Bool.false_or]
    split
    · exact LinkKept.ite (LinkKept.refl _ _) ((LinkKept.refl _ _).laneLost _ (Scope.all_retrains _))
    · exact LinkKept.refl _ _
  exact ⟨(hkept.quiet _ (by decide) _).trans hfailed, recorded_congr hrecorded rfl hkept.ring⟩

/-- A clause that begins the next attempt of a port, by the rule for it. -/
theorem nextAttempt_begins {s : State} {n : Nat} (hfull : (s.isBypass n && (s.pst n).nextFast) = false) (hready : s.ringsReady n = true) :
    (s.nextAttempt n).pst n = { s.pst n with at_ := .attempt, tries := (s.pst n).tries + 1 } ∧
      (s.nextAttempt n).rd .corePortStatus_attempts n = min 255 (s.rd .corePortStatus_attempts n + 1) := by
  rw [nextAttempt_full hfull]
  exact ⟨pst_beginAttempt hready, attempts_beginAttempt hready⟩

/-- Settles O38: each clause is one rule above, of an attempt that begins, runs out or succeeds, of a port that loses its link, of a
lane that fails and of a reference that is lost and comes back. -/
theorem trainingAndLossOfLink : Obligations.TrainingAndLossOfLink := by
  refine ⟨?powerup, ?backoff, ?timeout, ?success, ?loss, ?hello, ?lane, ?lost, ?restored⟩
  case powerup =>
    intro n s hen hoff hlanes hstate hat hready hfull
    have hbegins := (nextAttempt_begins (s := s.setPst n (fun x => { x with powered := true })) (n := n)
      (by rw [pst_setPst_same]; exact hfull) hready).1
    have hdo : doLanePowerupWaitExpiry n s = (s.setPst n (fun x => { x with powered := true })).nextAttempt n := by
      simp [doLanePowerupWaitExpiry, flag_def, hen, hoff, hlanes, hstate, hat]
    refine completes_of_effect rfl hdo ?_
    rw [pst_settled, hbegins, pst_setPst_same]
    exact ⟨rfl, rfl, rfl⟩
  case backoff =>
    intro n s hstate hat
    have hdo : doTrainingBackoffExpiry n s = s.nextAttempt n := by simp only [doTrainingBackoffExpiry, hstate, hat, and_self, if_true]
    refine ⟨fun hfull hready => completes_of_effect rfl hdo ?_, fun hfast => ?_⟩
    · obtain ⟨hpst, hattempts⟩ := nextAttempt_begins hfull hready
      rw [pst_settled, rd_settled, hpst, hattempts]
      exact ⟨rfl, rfl, rfl⟩
    · have hpeer : s.nextAttempt n = s.setPst n (fun x => { x with at_ := .peer, fast := true, nextFast := false, peerAt := s.tb.mono }) := by
        simp only [State.nextAttempt, hfast, if_true]
      refine completes_of_effect rfl (hdo.trans hpeer) ?_
      rw [pst_settled, pst_setPst_same]
      exact ⟨rfl, rfl, onlyParts_settled (onlyParts_setPst (by simp) ..)⟩
  case timeout =>
    intro n phase deskew s hstate hat hphase
    have hdo : doTrainingPhaseTimeout n phase deskew s = s.attemptFails n (phaseReason (s.isNative n) phase deskew) := by
      have hnot : ((s.pst n).fast && decide (phase.val < 2)) = false := by
        obtain h | h := hphase
        · rw [h, Bool.false_and]
        · rw [decide_eq_false (by omega), Bool.and_false]
      simp only [doTrainingPhaseTimeout, hstate, hat, hnot, Bool.not_false, and_self, if_true]
    exact completes_of_effect rfl hdo (attemptFails_shows s n (phaseReason_lt ..) hstate)
  case success =>
    intro n pol lrx farBad s hstate hat
    refine ⟨fun hgood => completes_of_effect rfl rfl ?_, fun j hj hnative hbad => completes_of_effect rfl rfl ?_⟩
    · refine doTrainingSuccess_shows hstate hat ?_
      rw [← Bool.not_eq_true, farHit_farKnown]
      rintro ⟨j, hj, hbad⟩
      rw [hgood j hj] at hbad
      cases hbad
    · refine doTrainingSuccess_reforms hstate hat hnative ((farHit_farKnown ..).mpr ⟨j, hj, ?_⟩)
      rwa [if_pos hnative]
  case loss =>
    intro n cause s hfits hlinked
    have htrains := doLossOfLink_trains hfits hlinked
    exact completes_of_effect rfl rfl ⟨htrains.state, htrains.dark⟩
  case hello =>
    intro n s hnative hlinked
    have htrains := loseLink_trains hlinked (some 6)
    exact completes_of_effect rfl (if_pos hnative) ⟨htrains.state, htrains.reason 6 rfl (by decide)⟩
  case lane =>
    intro lane cause s hon hgood
    exact completes_of_effect rfl rfl (doLaneFailed_recorded hon hgood)
  case lost =>
    intro k s hon hhas
    exact completes_of_effect rfl rfl (doSrefLost_shows hon hhas)
  case restored =>
    intro k s hon hhas
    exact completes_of_effect rfl rfl (doSrefRestored_sref hon hhas)

end Sys2Proof.Proofs

namespace Sys2Proof.Proofs
open Sys2Proof Sys2Proof.Machine Sys2Proof.Laws

/-! A port follows its configuration (R72, R85, R98). -/

namespace LinkKept
variable {W : Scope} {s t : State}

/-- The lanes of a port leave the test, which goes on with ports that are enabled. -/
theorem endTests (h : LinkKept W s t) {n : Nat} (hn : n ∈ W.held) (hW : ∀ m, s.flag .corePortCfg_en m = true → W.Moves m) :
    LinkKept W s (t.endTests n) := by
  rw [State.endTests]
  split
  · exact h
  · next htest =>
    have htested := h.tested (by simp [htest])
    refine LinkKept.ite h ?_
    exact ((((h.skipLanes htested _).onTest htested _).foldl (fun _ l h => h.wrTest htested l 0 (by decide)) _).setPst hn
      (by simp)).nextTest htested hW 513

theorem portFollows (h : LinkKept Scope.all s t) (n : Nat) (was : Bool) : LinkKept Scope.all s (t.portFollows n was) := by
  have hn := Scope.all_retrains n
  rw [State.portFollows]
  refine LinkKept.ite (LinkKept.ite ?_ h) (LinkKept.ite ?_ (LinkKept.ite ?_ ?_))
  · exact ((h.goDown hn.1 _).endTests hn.1.2 (fun m _ => (Scope.all_retrains m).1)).setPst hn.1.2 (by simp)
  · exact (h.setPst hn.1.2 (by simp)).leaveDown hn
  · exact h.leaveDown hn
  · exact h.reDrain hn.1

theorem fadeFree (h : LinkKept W s t) (n : Nat) : LinkKept W s (t.fadeFree n) := (h.onOpt _ rfl).wr _ _ (by decide)

end LinkKept

/-- A port that is not enabled is in DOWN. -/
theorem portFollows_disabled {s : State} {n : Nat} (hen : s.flag .corePortCfg_en n = false) (was : Bool) :
    (s.portFollows n was).portState n = 0 := by
  simp only [State.portFollows, hen, Bool.not_false, if_true]
  split
  · have hdown := (LinkKept.refl (Scope.port n) s).goDown (Scope.port_moves n) none
    have hkept := (LinkKept.refl ⟨{m | s.flag .corePortCfg_en m = true}, Set.univ, ∅⟩ (s.goDown n none)).endTests (n := n) trivial
      (fun m hm => ⟨(hdown.flag m (by decide)).symm.trans hm, trivial⟩)
    rw [portState_setPst, hkept.portState (by simp [hen]), (goDown_shows s n none).1]
  · next hdown => exact not_not.mp (not_or.mp hdown).2

/-- R72: a port takes its configuration before it follows it. -/
def portConfigured (s : State) (n val : Nat) : State :=
  (((s.when (s.flag .corePortCfg_en n && !bitAt val 31) (fun s => s.abortIfLinked n)).fixBuckets n).writeFields .corePortCfg n val
    (2 ^ 32 - 1)).fadeFree n

theorem rd_portConfigured (s : State) (n val : Nat) {x : FieldAt} (hx : x ∈ Reg.corePortCfg.fields) (hquiet : x.fld ∈ quietFields)
    (hacc : x.acc = .rw) (hwidth : x.lo + x.fld.width ≤ 32) : (portConfigured s n val).rd x.fld n = bits val x.lo x.fld.width := by
  rw [portConfigured, ((LinkKept.refl Scope.none _).fadeFree n).quiet _ hquiet]
  exact rd_writeFields_full _ n val hx hacc hwidth (by decide)

theorem doPortCfgWrite_refused {src : Src} {n : Fin 512} {val : BitVec 32} {s : State} (hacc : s.accepts src .corePortCfg n = true)
    (href : (s.ready src .corePortCfg n).portRefused n (bitAt val.toNat 31) (bits val.toNat 26 2) (bits val.toNat 24 2)
      (bitAt val.toNat 22) = true) :
    doPortCfgWrite src n val s = (s.ready src .corePortCfg n).wr .corePortStatus_cfgRefused n 1 := by
  rw [doPortCfgWrite, onWrite_of_accepts hacc]
  exact if_pos href

theorem doPortCfgWrite_applied {src : Src} {n : Fin 512} {val : BitVec 32} {s : State} (hacc : s.accepts src .corePortCfg n = true)
    (href : (s.ready src .corePortCfg n).portRefused n (bitAt val.toNat 31) (bits val.toNat 26 2) (bits val.toNat 24 2)
      (bitAt val.toNat 22) = false) :
    doPortCfgWrite src n val s = (portConfigured (s.ready src .corePortCfg n) n val.toNat).portFollows n
      ((s.ready src .corePortCfg n).flag .corePortCfg_en n) := by
  rw [doPortCfgWrite, onWrite_of_accepts hacc]
  exact if_neg (by rw [href]; decide)

/-- Between `s` and `t` only one place of the register fields listed was stored, and only the components listed changed. -/
structure StoresAt (ps : List Part) (fs : List Fld) (n : Nat) (s t : State) : Prop where
  parts : OnlyParts ps s t
  place : OnlyAt fs n s t

namespace StoresAt
variable {ps : List Part} {fs : List Fld} {n : Nat} {s t : State}

theorem refl (ps : List Part) (fs : List Fld) (n : Nat) (s : State) : StoresAt ps fs n s s := ⟨onlyParts_refl _ s, fun _ _ _ => rfl⟩

theorem wr (h : StoresAt ps fs n s t) {f : Fld} (v : Nat) (hf : f ∈ fs ∧ .regs ∈ ps) : StoresAt ps fs n s (t.wr f n v) where
  parts := onlyParts_trans h.parts (onlyParts_wr hf.2 ..)
  place g j hg := by
    refine (rd_wr_other t v ?_).trans (h.place g j hg)
    exact hg.imp_left (fun hg hgf => hg (hgf ▸ hf.1))

theorem onOpt (h : StoresAt ps fs n s t) (g : Opt → Opt) (hp : .opt ∈ ps) : StoresAt ps fs n s (t.onOpt g) :=
  ⟨onlyParts_trans h.parts (onlyParts_onOpt hp t g), h.place⟩

theorem onRing (h : StoresAt ps fs n s t) (key : Nat) (g : RingSt → RingSt) (hp : .opt ∈ ps) : StoresAt ps fs n s (t.onRing key g) :=
  h.onOpt _ hp

theorem when {g : State → State} (h : StoresAt ps fs n s t) (hg : ∀ t, StoresAt ps fs n s t → StoresAt ps fs n s (g t)) (c : Bool) :
    StoresAt ps fs n s (t.when c g) := by
  cases c
  · exact h
  · exact hg t h

theorem foldl {α : Type} {g : State → α → State} (h : StoresAt ps fs n s t)
    (hg : ∀ t a, StoresAt ps fs n s t → StoresAt ps fs n s (g t a)) (l : List α) : StoresAt ps fs n s (l.foldl g t) := by
  induction l generalizing t with
  | nil => exact h
  | cons a l ih => exact ih (hg t a h)

/-- Settling the command that stored them keeps to the same. -/
theorem settled (h : StoresAt ps fs n s t) : StoresAt ps fs n s (s.settled t) := ⟨onlyParts_settled h.parts, h.place⟩

end StoresAt

/-- Settles O37: a write that is refused stores its refusal alone; one that is not stores every field, and a port that it disables goes
to DOWN. -/
theorem portConfigIsAppliedOrRefusedInFull : Obligations.PortConfigIsAppliedOrRefusedInFull := by
  rintro src n val s u hacc rfl
  refine ⟨fun href => completes_of_effect rfl (doPortCfgWrite_refused hacc href) ?_,
    fun href => completes_of_effect rfl (doPortCfgWrite_applied hacc href) ?_⟩
  · have hstored := ((StoresAt.refl [.regs] [.corePortStatus_cfgRefused] n (s.ready src .corePortCfg n)).wr
      (f := .corePortStatus_cfgRefused) 1 (by decide)).settled
    rw [settled_ready s src .corePortCfg n]
    refine ⟨?_, hstored.parts, hstored.place⟩
    rw [rd_settled, rd_wr_same]
    rfl
  · have hkept := (LinkKept.refl Scope.all (portConfigured (s.ready src .corePortCfg n) n val.toNat)).portFollows n
      ((s.ready src .corePortCfg n).flag .corePortCfg_en n)
    have hen := rd_portConfigured (s.ready src .corePortCfg n) n val.toNat (x := ⟨.corePortCfg_en, 31, .rw⟩) (by decide) (by decide) rfl
      (by decide)
    have hfield := fun f hf => hkept.quiet f hf n
    refine ⟨(hfield _ (by decide)).trans hen,
      (hfield _ (by decide)).trans (rd_portConfigured _ n _ (x := ⟨.corePortCfg_width, 26, .rw⟩) (by decide) (by decide) rfl (by decide)),
      (hfield _ (by decide)).trans (rd_portConfigured _ n _ (x := ⟨.corePortCfg_mode, 24, .rw⟩) (by decide) (by decide) rfl (by decide)),
      fun hoff => portFollows_disabled ?_ _⟩
    rw [flag_def, hen.trans hoff]
    decide

end Sys2Proof.Proofs

namespace Sys2Proof.Proofs
open Sys2Proof Sys2Proof.Machine Sys2Proof.Laws

/-! HELLO (R92 to R95). -/

theorem enterEgress_keeps (s : State) (n c : Nat) (e : EPkt) :
    (s.enterEgress n c e).ports = s.ports ∧ (s.enterEgress n c e).sw.nextPid = s.sw.nextPid := by
  simp only [State.enterEgress, State.setEgq]
  cases (s.egq n c).isEmpty && decide (c ≤ 5)
  · exact ⟨rfl, rfl⟩
  · exact ⟨rfl, rfl⟩

theorem holdSeg_keeps (s : State) (pid d c : Nat) : (s.holdSeg pid d c).ports = s.ports ∧ (s.holdSeg pid d c).sw.nextPid = s.sw.nextPid := by
  simp only [State.holdSeg, State.egTake]
  cases poolSeg d c
  · exact ⟨rfl, rfl⟩
  · exact ⟨rfl, rfl⟩

@[simp] theorem pst_onSw (s : State) (g : Sw → Sw) (n : Nat) : (s.onSw g).pst n = s.pst n := rfl
@[simp] theorem pst_free (s : State) (tag m n : Nat) : (s.free tag m).2.pst n = s.pst n := rfl

/-- R92: a HELLO begins the port's next round and is the next packet of the part. -/
theorem sendHello_sent (s : State) (n : Nat) (fast : Bool) :
    ((s.sendHello n fast).pst n).round = ((s.pst n).round + 1) % 2 ^ 32 ∧ (s.sendHello n fast).sw.nextPid = s.sw.nextPid + 1 := by
  simp only [State.sendHello]
  refine ⟨?_, ?_⟩
  · rw [pst_of_ports (holdSeg_keeps ..).1, pst_of_ports (enterEgress_keeps ..).1, pst_onSw, pst_setPst_same, pst_free, pst_free]
  · rw [(holdSeg_keeps ..).2, (enterEgress_keeps ..).2]
    rfl

/-- The neighbour as a HELLO tells it (R95). -/
def nbrHeard (s : State) (n gid port ty : Nat) (draining noGid : Bool) : State :=
  (((((((s.wr .coreNbr_valid n 1).wr .coreNbr_draining n (b2n draining)).wr .coreNbr_noGid n (b2n noGid)).wr .coreNbr_peerType n ty).wr
    .coreNbr_peerGid n gid).wr .coreNbr_peerPort n port).wr .coreNbr_age n 0).setPst n (fun x => { x with heard := some s.tb.mono })

theorem nbrHeard_shows (s : State) (n gid port ty : Nat) (draining noGid : Bool) :
    (nbrHeard s n gid port ty draining noGid).rd .coreNbr_valid n = 1 ∧
      (nbrHeard s n gid port ty draining noGid).rd .coreNbr_peerGid n = gid % 2 ^ Fld.width .coreNbr_peerGid ∧
      (nbrHeard s n gid port ty draining noGid).rd .coreNbr_peerPort n = port % 2 ^ Fld.width .coreNbr_peerPort ∧
      (nbrHeard s n gid port ty draining noGid).rd .corePortStatus_wrongPeer n = s.rd .corePortStatus_wrongPeer n := by
  have hvalid : Fld.width .coreNbr_valid = 1 := rfl
  refine ⟨?_, ?_, ?_, ?_⟩ <;> simp [nbrHeard, rd_wr, hvalid]

/-- The record of a neighbour leaves the port where it is. -/
theorem nbrHeard_port (s : State) (n gid port ty : Nat) (draining noGid : Bool) :
    (nbrHeard s n gid port ty draining noGid).portState n = s.portState n ∧
      ((nbrHeard s n gid port ty draining noGid).pst n).good = (s.pst n).good := by
  refine ⟨?_, ?_⟩ <;> simp [nbrHeard, State.portState, rd_wr]

/-- What follows the record of a neighbour: an event where it is another one, and the fences it tells of. -/
theorem recordNbr_kept {W : Scope} {s : State} {n : Nat} (hn : W.Moves n) (gid port ty : Nat) (draining noGid : Bool) :
    LinkKept W (nbrHeard s n gid port ty draining noGid) (s.recordNbr n gid port ty draining noGid) :=
  ((LinkKept.refl W _).when (fun _ h => h.portEvent n) _).syncFence hn

/-- A port in HELLO stays there as its neighbour is recorded. -/
theorem recordNbr_kept_of_hello {s : State} {n : Nat} (hstate : s.portState n = 2) (gid port ty : Nat) (draining noGid : Bool) :
    LinkKept Scope.none (nbrHeard s n gid port ty draining noGid) (s.recordNbr n gid port ty draining noGid) := by
  have hheard := (nbrHeard_port s n gid port ty draining noGid).1.trans hstate
  have hevent : ∀ c : Bool, LinkKept Scope.none (nbrHeard s n gid port ty draining noGid)
      ((nbrHeard s n gid port ty draining noGid).when c (fun s => s.portEvent n)) := fun c =>
    (LinkKept.refl Scope.none _).when (fun _ h => h.portEvent n) c
  have hkept : ∀ c : Bool, ((nbrHeard s n gid port ty draining noGid).when c (fun s => s.portEvent n)).portState n = 2 := fun c =>
    ((hevent c).portState (by simp [Scope.none])).trans hheard
  exact (hevent _).syncFence_of_state (by rw [hkept]; decide) (by rw [hkept]; decide)

/-- A port that has seen itself in its neighbour's HELLO (R93). -/
def helloSeen (s : State) (n gid port : Nat) : State :=
  ((s.setPst n (fun x => { x with seen := some (gid, port) })).wr .corePortStatus_wrongPeer n 0).setPst n (fun x =>
    { x with good := x.good + 1 })

theorem helloSeen_shows (s : State) (n gid port : Nat) : (helloSeen s n gid port).portState n = s.portState n ∧
    ((helloSeen s n gid port).pst n).good = (s.pst n).good + 1 ∧ (helloSeen s n gid port).rd .corePortStatus_wrongPeer n = 0 := by
  refine ⟨?_, ?_, ?_⟩
  · rw [helloSeen, portState_setPst, portState_wr_other _ _ _ _ (by decide), portState_setPst]
  · rw [helloSeen, pst_setPst_same, pst_wr, pst_setPst_same]
  · rw [helloSeen, rd_setPst, rd_wr_same, Nat.zero_mod]

/-- The port with its neighbour recorded, before it may leave HELLO. -/
def helloRecorded (s : State) (n gid port ty flags : Nat) : State :=
  (helloSeen s n gid port).recordNbr n gid port ty (bitAt flags 7) (bitAt flags 6)

/-- A port in HELLO leaves it with the second good HELLO in a row (R93). -/
def helloCounted (s : State) (n : Nat) : State := if s.portState n = 2 ∧ 2 ≤ (s.pst n).good then s.toUp n else s

/-- What is shown of the neighbour, and where a second HELLO takes the port. -/
theorem helloCounted_shows (s : State) (n gid port ty flags : Nat) :
    (helloCounted (helloRecorded s n gid port ty flags) n).rd .coreNbr_valid n = 1 ∧
    (s.portState n = 2 → 1 ≤ (s.pst n).good → (helloCounted (helloRecorded s n gid port ty flags) n).portState n = 3 ∨
      (helloCounted (helloRecorded s n gid port ty flags) n).portState n = 4) ∧
    (helloCounted (helloRecorded s n gid port ty flags) n).rd .coreNbr_peerGid n = gid % 2 ^ Fld.width .coreNbr_peerGid ∧
    (helloCounted (helloRecorded s n gid port ty flags) n).rd .coreNbr_peerPort n = port % 2 ^ Fld.width .coreNbr_peerPort ∧
    (helloCounted (helloRecorded s n gid port ty flags) n).rd .corePortStatus_wrongPeer n = 0 := by
  have hmoves : Scope.Moves ⟨{n}, {n}, ∅⟩ n := ⟨rfl, rfl⟩
  have hrecord := recordNbr_kept (s := helloSeen s n gid port) hmoves gid port ty (bitAt flags 7) (bitAt flags 6)
  have hkept := LinkKept.ite (c := (helloRecorded s n gid port ty flags).portState n = 2 ∧
    2 ≤ ((helloRecorded s n gid port ty flags).pst n).good) (hrecord.toUp hmoves) hrecord
  obtain ⟨hstate, hgood, hwrong⟩ := helloSeen_shows s n gid port
  obtain ⟨hvalid, hpeer, hpeerPort, hwrong'⟩ := nbrHeard_shows (helloSeen s n gid port) n gid port ty (bitAt flags 7) (bitAt flags 6)
  refine ⟨(hkept.heard n (by simp)).trans hvalid, fun h2 h1 => ?_, (hkept.quiet _ (by decide) n).trans hpeer,
    (hkept.quiet _ (by decide) n).trans hpeerPort, (hkept.quiet _ (by decide) n).trans (hwrong'.trans hwrong)⟩
  have hstill := recordNbr_kept_of_hello (hstate.trans h2) gid port ty (bitAt flags 7) (bitAt flags 6)
  obtain ⟨r, hpst⟩ := hstill.held n (by simp [Scope.none])
  obtain ⟨hnbrState, hnbrGood⟩ := nbrHeard_port (helloSeen s n gid port) n gid port ty (bitAt flags 7) (bitAt flags 6)
  have hready : (helloRecorded s n gid port ty flags).portState n = 2 ∧ 2 ≤ ((helloRecorded s n gid port ty flags).pst n).good := by
    refine ⟨(hstill.portState (by simp [Scope.none])).trans (hnbrState.trans (hstate.trans h2)), ?_⟩
    rw [helloRecorded, hpst]
    exact le_of_le_of_eq (by omega) (hnbrGood.trans hgood).symm
  rw [helloCounted, if_pos hready, portState_toUp]
  split
  · exact .inr rfl
  · exact .inl rfl

theorem gid?_setPst (s : State) (n : Nat) (g : PortSt → PortSt) : (s.setPst n g).gid? = s.gid? := rfl

/-- R93, R95: a valid HELLO without FAST is recorded and counted. -/
theorem hello_valid {s : State} {n : Nat} {q : Packet} (hfast : bitAt (beNat (slice q.payload 5 1)) 5 = false)
    (hversion : beNat (slice q.payload 0 1) = 1) (hfabric : beNat (slice q.payload 8 4) = s.rd .coreHelloCfg_fabricId 0)
    (hany : s.rd .coreNbrExpect_valid n = 0) (hseen : bitAt (beNat (slice q.payload 24 4)) 31 = true)
    (hport : beNat (slice q.payload 28 2) = n) (hgid : ∀ g, s.gid? = some g → beNat (slice q.payload 24 4) % 2 ^ 18 = g)
    (hstate : s.portState n ≠ 1) :
    s.hello n q = helloCounted (helloRecorded s n (q.sgid.toNat % 2 ^ 18) (beNat (slice q.payload 2 2)) (beNat (slice q.payload 1 1))
      (beNat (slice q.payload 5 1))) n := by
  have hflag : s.flag .coreNbrExpect_valid n = false := by rw [flag_def, hany]; decide
  simp only [State.hello, helloCounted, helloRecorded, helloSeen, gid?_setPst, hfast, hversion, hfabric, hflag, hseen, hport, hstate,
    Bool.false_and, when_false, beq_self_eq_true, Bool.true_and, ne_eq, not_true, if_false, false_and, or_false, Bool.false_eq_true]
  cases hg : s.gid? with
  | none =>
    simp only [Bool.not_true, Bool.false_eq_true, if_false]
    exact if_congr Iff.rfl rfl rfl
  | some g =>
    simp only [hgid g hg, beq_self_eq_true, Bool.not_true, Bool.false_eq_true, if_false]
    exact if_congr Iff.rfl rfl rfl

/-- Settles O39: the round and the number of the HELLO sent, and what a valid one leaves recorded. -/
theorem helloSentAndRecorded : Obligations.HelloSentAndRecorded := by
  refine ⟨fun n s hlinked hnative hon => ?_, ?_⟩
  · have hdo : doHelloTxTimer n s = s.sendHello n false := if_pos ⟨hlinked, hnative, by rw [hon]; rfl⟩
    exact completes_of_effect rfl hdo (sendHello_sent s n false)
  · intro pos n r s u htake hin hfast hversion hfabric hany hseen hport hgid hstate
    have hdo : doHelloReceived pos s = u.hello n r.pkt := by simp only [doHelloReceived, htake, hin]
    rw [hello_valid hfast hversion hfabric hany hseen hport hgid hstate] at hdo
    refine completes_of_effect rfl hdo ?_
    simp only [rd_settled, portState_settled]
    exact helloCounted_shows ..

end Sys2Proof.Proofs

namespace Sys2Proof.Proofs
open Sys2Proof Sys2Proof.Machine Sys2Proof.Laws

/-! Lane tests (R98, R99). -/

/-- A flag written of a value is its bit. -/
theorem bits_one_beq (v i : Nat) : (bits v i 1 == 1) = bitAt v i := by
  rw [bitAt, Nat.testBit_eq_decide_div_mod_eq]
  rfl

/-- The port that covers a lane depends on what is enabled and how wide. -/
theorem portOfLane_of_fields {s t : State} (h : ∀ f ∈ [Fld.corePortCfg_en, .corePortCfg_width], ∀ i, t.rd f i = s.rd f i) (l : Nat) :
    t.portOfLane l = s.portOfLane l := by
  simp only [List.forall_mem_cons] at h
  obtain ⟨hen, hwidth, -⟩ := h
  simp only [State.portOfLane, flag_def, hen, hwidth]

/-- The test goes on with its next lane at once where no drain of a port is asked for. -/
theorem nextTest_lane {s : State} {q : LaneTest} {l : Nat} {rest : List Nat} (htest : s.ports.test = some q) (htodo : q.todo = l :: rest)
    (hat : q.deferred = false) (fuel : Nat) : s.nextTest (fuel + 1) = s.beginLane l := by
  simp only [State.nextTest, htest, htodo, hat, Bool.false_eq_true, if_false]

/-- The test with no lane left is over. -/
def testOver (s : State) : State := (s.onPorts (fun w => { w with test := none })).wr .coreLaneTest_start 0 0

theorem nextTest_over {s : State} {q : LaneTest} (htest : s.ports.test = some q) (htodo : q.todo = []) (fuel : Nat) :
    s.nextTest (fuel + 1) = testOver s := by
  simp only [State.nextTest, htest, htodo, testOver]

/-- R98: a test of one lane that may run at once, as it is accepted. -/
def testAccepted (s : State) (l val : Nat) : State :=
  (((s.writeFields .coreLaneTest 0 val (2 ^ 32 - 1)).wr .coreLaneTest_accept 0 1).wr .coreLaneTest_start 0 1).onPorts
    (fun w => { w with test := some ⟨[l], none, false, none⟩ })

theorem testAccepted_begins (s : State) (l val : Nat) : ((testAccepted s l val).beginLane l).rd .coreLaneTest_accept 0 = 1 ∧
    ((testAccepted s l val).beginLane l).rd .coreLaneTest_start 0 = 1 ∧
    ((testAccepted s l val).beginLane l).rd .coreLaneStatus_underTest l = 1 := by
  have haccept : Fld.width .coreLaneTest_accept = 3 := rfl
  have hstart : Fld.width .coreLaneTest_start = 1 := rfl
  have hunder : Fld.width .coreLaneStatus_underTest = 1 := rfl
  refine ⟨?_, ?_, ?_⟩ <;> simp [State.beginLane, testAccepted, rd_wr, haccept, hstart, hunder]

/-- R98: a lane of no port is tested at once. -/
theorem doLaneTestStart_begins {src : Src} {val : BitVec 32} {s : State} (hacc : s.accepts src .coreLaneTest 0 = true)
    (hstart : bitAt val.toNat 31 = true) (hone : bitAt val.toNat 30 = false)
    (hfree : (s.ready src .coreLaneTest 0).portOfLane (bits val.toNat 0 9) = none) :
    doLaneTestStart src val s = (testAccepted (s.ready src .coreLaneTest 0) (bits val.toNat 0 9) val.toNat).beginLane (bits val.toNat 0 9) := by
  have hall : ((s.ready src .coreLaneTest 0).writeFields .coreLaneTest 0 val.toNat (2 ^ 32 - 1)).flag .coreLaneTest_all 0 = false := by
    rw [flag_def, rd_writeFields_full (x := ⟨.coreLaneTest_all, 30, .rw⟩) _ 0 _ (by decide) rfl (by decide) (by decide)]
    exact (bits_one_beq ..).trans hone
  have hlane := rd_writeFields_full (x := ⟨.coreLaneTest_lane, 0, .rw⟩) (r := .coreLaneTest) (s.ready src .coreLaneTest 0) 0 val.toNat
    (k := 32) (by decide) rfl (by decide) (by decide)
  have hport : ((s.ready src .coreLaneTest 0).writeFields .coreLaneTest 0 val.toNat (2 ^ 32 - 1)).portOfLane (bits val.toNat 0 9) = none := by
    rw [portOfLane_of_fields (fun f hf i => rd_writeFields_other _ _ _ _ _ (.inl (by revert f; decide))), hfree]
  have hlane' : ((s.ready src .coreLaneTest 0).writeFields .coreLaneTest 0 val.toNat (2 ^ 32 - 1)).rd .coreLaneTest_lane 0 =
    bits val.toNat 0 9 := hlane
  rw [doLaneTestStart, onWrite_of_accepts hacc]
  simp only [hstart, hall, hlane', hport, Bool.not_true, Bool.false_eq_true, if_false, List.any_cons, List.any_nil, Option.isSome_none,
    Bool.or_self, Bool.and_false, Bool.false_and]
  exact nextTest_lane rfl rfl rfl 512

/-- What the test of a lane that is in no port shows as it ends (R99). -/
def testShown (s : State) (l : Nat) (pass : Bool) : State :=
  let t := ((s.wr .coreLaneStatus_underTest l 0).wr .coreLaneStatus_testResult l (if pass then 1 else 2)).onTest
    (fun t => { t with lane := none })
  if pass then t.wr .coreLaneStatus_failed l 0 else t.failLane l 0

theorem testShown_shows (s : State) (l : Nat) (pass : Bool) : (testShown s l pass).rd .coreLaneStatus_underTest l = 0 ∧
    (testShown s l pass).rd .coreLaneStatus_testResult l = (if pass then 1 else 2) ∧
    (testShown s l pass).rd .coreLaneStatus_failed l = (if pass then 0 else 1) := by
  have hresult : Fld.width .coreLaneStatus_testResult = 2 := rfl
  have hfailed : Fld.width .coreLaneStatus_failed = 1 := rfl
  have hfault : ∀ (t : State), ∀ f ∈ [Fld.coreLaneStatus_underTest, .coreLaneStatus_testResult, .coreLaneStatus_failed],
      (t.failLane l 0).rd f l = (t.wr .coreLaneStatus_failed l 1).rd f l := fun t f hf => rd_fault _ _ _ _ _ (by revert f; decide)
  cases pass
  · refine ⟨?_, ?_, ?_⟩ <;> simp [testShown, hfault, rd_wr, State.onTest, hresult, hfailed]
  · refine ⟨?_, ?_, ?_⟩ <;> simp [testShown, rd_wr, State.onTest, hresult]

theorem testShown_test (s : State) (l : Nat) (pass : Bool) :
    (testShown s l pass).ports.test = s.ports.test.map (fun t => { t with lane := none }) := by
  cases pass
  · simp [testShown, State.failLane, State.onTest, State.onPorts]
  · simp [testShown, State.onTest, State.onPorts]

/-- R99: the end of a test is shown, and a lane of a port goes back to it. -/
theorem doLaneTestComplete_kept {pass : Bool} {l : Nat} {q : LaneTest} {s : State} (htest : s.ports.test = some q) (hlane : q.lane = some l)
    (hport : q.port = none) (htodo : q.todo = []) :
    LinkKept Scope.all (testOver (testShown s l pass)) (doLaneTestComplete pass s) := by
  have hover : (testShown s l pass).nextTest 513 = testOver (testShown s l pass) :=
    nextTest_over (q := { q with lane := none }) (by rw [testShown_test, htest]; rfl) htodo 512
  have hdo : doLaneTestComplete pass s = match (testOver (testShown s l pass)).portOfLane l with
      | some n => if pass then (testOver (testShown s l pass)).leaveDown n else (testOver (testShown s l pass)).laneLost l n
      | none => testOver (testShown s l pass) := by
    rw [← hover]
    simp only [doLaneTestComplete, htest, hlane, hport]
    rfl
  rw [hdo]
  split
  · exact LinkKept.ite ((LinkKept.refl _ _).leaveDown (Scope.all_retrains _)) ((LinkKept.refl _ _).laneLost l (Scope.all_retrains _))
  · exact LinkKept.refl _ _

/-- Settles O40: a test that begins shows its lane under test; one that ends shows its result, and is over. -/
theorem laneTests : Obligations.LaneTests := by
  refine ⟨?_, fun pass l q s htest hlane hport htodo => completes_of_effect rfl rfl ?_⟩
  · rintro src val l s u hacc rfl hstart hone rfl hfree
    exact completes_of_effect rfl (doLaneTestStart_begins hacc hstart hone hfree) (testAccepted_begins ..)
  · have hkept := doLaneTestComplete_kept (pass := pass) htest hlane hport htodo
    obtain ⟨hnone, hfields⟩ := hkept.untested rfl
    obtain ⟨hunder, hresult, hfailed⟩ := testShown_shows s l pass
    have hover : ∀ f ≠ Fld.coreLaneTest_start, (testOver (testShown s l pass)).rd f l = (testShown s l pass).rd f l := fun f hf =>
      rd_wr_other _ _ (.inl hf)
    refine ⟨hnone, (hfields _ (by decide) 0).trans (rd_wr_same ..), ?_, ?_, ?_⟩
    · exact (hfields _ (by decide) l).trans ((hover _ (by decide)).trans hunder)
    · exact (hfields _ (by decide) l).trans ((hover _ (by decide)).trans hresult)
    · exact (hkept.quiet _ (by decide) l).trans ((hover _ (by decide)).trans hfailed)

end Sys2Proof.Proofs

namespace Sys2Proof.Proofs
open Sys2Proof Sys2Proof.Machine Sys2Proof.Laws

/-- A host event of one bit sets its bit. -/
theorem rd_event_flag (s : State) (r : Reg) {f : Fld} (i : Nat) (hring : f ∉ ringFields) (hwidth : f.width = 1) :
    (s.event r f i).rd f i = 1 := by
  have hset : ∀ v < 2, setBit v 0 % 2 = 1 := by decide
  have hlt := rd_lt s f i
  rw [hwidth] at hlt
  rw [State.event, rd_hostEvent _ _ _ _ hring, rd_wr_same, hwidth]
  exact hset _ hlt

/-! Modules come and go (R74, R101). -/

/-- What a module that is inserted shows of itself. -/
def moduleShown (s : State) (t : Nat) (kind : ModuleKind) (rev power : Nat) : State :=
  (((((s.wr .optModStatus_present t 1).wr .optModStatus_s8 t (b2n (kind == .s8))).wr .optModStatus_trefy t (b2n (kind == .trefy))).wr
    .optModStatus_ready t 0).wr .optModStatus_cmisRev t rev).wr .optModStatus_powerClass t power

theorem moduleShown_shows (s : State) (t : Nat) (kind : ModuleKind) (rev : BitVec 8) (power : BitVec 4) :
    (moduleShown s t kind rev.toNat power.toNat).rd .optModStatus_present t = 1 ∧
      (moduleShown s t kind rev.toNat power.toNat).rd .optModStatus_ready t = 0 ∧
      (moduleShown s t kind rev.toNat power.toNat).rd .optModStatus_cmisRev t = rev.toNat ∧
      (moduleShown s t kind rev.toNat power.toNat).rd .optModStatus_powerClass t = power.toNat := by
  have hpresent : Fld.width .optModStatus_present = 1 := rfl
  have hrev : rev.toNat % 2 ^ Fld.width .optModStatus_cmisRev = rev.toNat := Nat.mod_eq_of_lt rev.isLt
  have hpower : power.toNat % 2 ^ Fld.width .optModStatus_powerClass = power.toNat := Nat.mod_eq_of_lt power.isLt
  refine ⟨?_, ?_, ?_, ?_⟩ <;> simp [moduleShown, rd_wr, hpresent, hrev, hpower]

/-- What is forgotten of a slot's lines as a module is inserted. -/
def lineFields : List Fld :=
  [.optSlotCtrl_refValid, .optSlotCtrl_spareUsed, .optSlotCtrl_spareChan, .optSlotCtrl_recapture, .optLinePwr_refValid, .optLinePwr_warn,
   .optLinePwr_drain, .optLinePwr_rel, .optChanStatus_spare]

namespace Stores
variable {ps : List Part} {fs : List Fld} {s t : State}

theorem sendOcl (h : Stores ps fs s t) (slot dtype payload : Nat) (hp : .out ∈ ps) : Stores ps fs s (t.sendOcl slot dtype payload) :=
  h.emit _ hp

theorem phaseSync (h : Stores ps fs s t) (slot : Nat) (hp : .out ∈ ps ∧ .opt ∈ ps) : Stores ps fs s (t.phaseSync slot) := by
  rw [State.phaseSync]
  exact (h.sendOcl _ _ _ hp.1).foldl (fun _ _ h => h.onRing _ _ hp.2) _

theorem forgetLines (h : Stores ps lineFields s t) (slot : Nat) (hp : .regs ∈ ps ∧ .opt ∈ ps) :
    Stores ps lineFields s (t.forgetLines slot) := by
  simp only [State.forgetLines]
  refine ((h.onOpt _ hp.2).wr _ _ ⟨by decide, hp.1⟩).foldl (fun _ _ h => ?_) _
  exact ((((h.onOpt _ hp.2).wr _ _ ⟨by decide, hp.1⟩).wr _ _ ⟨by decide, hp.1⟩).wr _ _ ⟨by decide, hp.1⟩).wr _ _ ⟨by decide, hp.1⟩

end Stores

/-- R101: a module that is inserted shows itself, and then its event. -/
theorem doModuleInserted_event {slot : Fin 64} {kind : ModuleKind} {rev : BitVec 8} {power : BitVec 4} {s : State} (hon : s.off = false)
    (hempty : s.rd .optModStatus_present slot = 0) :
    ∃ u, doModuleInserted slot kind rev power s = u.event .optModStatus .optModStatus_modEvent slot ∧
      Stores [.regs, .ports, .opt, .out] lineFields (moduleShown s slot kind rev.toNat power.toNat) u := by
  have hflag : s.flag .optModStatus_present slot = false := by rw [flag_def, hempty]; decide
  simp only [doModuleInserted, hon, hflag, Bool.or_self, Bool.false_eq_true, if_false]
  refine ⟨_, rfl, (((Stores.forgetLines ?_ slot (by decide)).foldl (fun _ _ h => h.wr _ _ (by decide)) _)).when
    (fun _ h => (h.sendOcl _ _ _ (by decide)).phaseSync slot (by decide)) _⟩
  exact ((((Stores.refl _ _ _).onPorts _ (by decide)).wr _ _ (by decide)).wr _ _ (by decide)).wr _ _ (by decide)

/-- R102: a module that is ready, before its ports take it into use. -/
def moduleKnown (s : State) (t : Nat) (apps : List ModApp) : State :=
  (s.wr .optModStatus_ready t 1).onPorts (fun w => { w with waitReady := w.waitReady.filter (· != t), apps := kput w.apps t apps })

theorem doModuleReady_kept {slot : Fin 64} {apps : List ModApp} {s : State} (hon : s.off = false)
    (hwait : s.ports.waitReady.contains slot.val = true) :
    LinkKept Scope.all (moduleKnown s slot apps) (doModuleReady slot apps s) := by
  simp only [doModuleReady, hon, hwait, Bool.not_true, Bool.or_self, Bool.false_eq_true, if_false]
  exact ((LinkKept.refl _ _).wr _ _ (by decide)).foldl (fun _ n h => LinkKept.ite (h.leaveDown (Scope.all_retrains n))
    (h.goDown (Scope.all_retrains n).1 _)) _

/-- A module that is gone, before its ports go down. -/
def moduleGone (s : State) (t : Nat) : State :=
  let u := (((s.wr .optModStatus_present t 0).wr .optModStatus_s8 t 0).wr .optModStatus_trefy t 0)
  let u := ((u.wr .optModStatus_ready t 0).wr .optModStatus_cmisRev t 0).wr .optModStatus_powerClass t 0
  (u.wr .optModStatus_dpActive t 0).onPorts (fun w =>
    { w with waitReady := w.waitReady.filter (· != t), apps := kdel w.apps t, monitors := kdel w.monitors t })

theorem moduleGone_shows (s : State) (t : Nat) : (moduleGone s t).rd .optModStatus_present t = 0 ∧
    (moduleGone s t).rd .optModStatus_ready t = 0 := by
  refine ⟨?_, ?_⟩ <;> simp [moduleGone, rd_wr]

theorem doModuleRemoved_event {slot : Fin 64} {s : State} (hon : s.off = false) (hin : s.rd .optModStatus_present slot = 1) :
    ∃ u, doModuleRemoved slot s = u.event .optModStatus .optModStatus_modEvent slot ∧ LinkKept Scope.all (moduleGone s slot) u := by
  have hflag : s.flag .optModStatus_present slot = true := by rw [flag_def, hin]; decide
  simp only [doModuleRemoved, hon, hflag, Bool.not_true, Bool.or_self, Bool.false_eq_true, if_false]
  refine ⟨_, rfl, ((LinkKept.when ?_ (fun _ h => h.calOver) _).foldl (fun _ _ h => ?_) _).foldl
    (fun _ n h => h.goDown (Scope.all_retrains n).1 _) _⟩
  · exact (LinkKept.refl _ _).onOpt _ rfl
  · exact h.foldl (fun _ k h => (h.wr _ _ (by decide)).setLock k false) _

theorem modInterrupt_event {slot : Nat} {s : State} (hon : s.off = false) (hin : s.rd .optModStatus_present slot = 1) :
    s.modInterrupt slot = s.event .optModStatus .optModStatus_modEvent slot := by
  have hflag : s.flag .optModStatus_present slot = true := by rw [flag_def, hin]; decide
  simp only [State.modInterrupt, hon, hflag, Bool.not_true, Bool.or_self, Bool.false_eq_true, if_false]

/-! Access to module memory (R102). -/

/-- The register as the command finds it. -/
def accessWritten (s : State) (val : Nat) : State := s.writeFields .optModAcc 0 val (2 ^ 64 - 1)

theorem accessWritten_eq (s : State) (val : Nat) : s.writeFields .optModAcc 0 val (2 ^ 64 - 1) = accessWritten s val := rfl

theorem rd_accessWritten (s : State) (val : Nat) {x : FieldAt} (hx : x ∈ Reg.optModAcc.fields) (hacc : x.acc = .rw)
    (hwidth : x.lo + x.fld.width ≤ 64) : (accessWritten s val).rd x.fld 0 = bits val x.lo x.fld.width :=
  rd_writeFields_full s 0 val hx hacc hwidth (by decide)

/-- An access under way, before its bytes leave for the module. -/
def accessBegun (s : State) (twi : Nat) : State := (s.wr .optModAcc_start 0 1).onOpt (fun o => { o with twi := twi })

theorem accessBegun_eq (s : State) (twi : Nat) :
    (s.wr .optModAcc_start 0 1).onOpt (fun o => { o with twi := twi }) = accessBegun s twi := rfl

/-- The commands that an access sends: the bank and the page of a byte above the lower memory first. -/
def accessSent (s : State) (slot bank page byte data : Nat) (write : Bool) : State :=
  let t := (accessBegun s (if 128 ≤ byte then 2 else 0)).when (decide (128 ≤ byte)) (fun s =>
    (s.sendOcl slot 2 (twiPay 126 bank)).sendOcl slot 2 (twiPay 127 page))
  if write then t.sendOcl slot 2 (twiPay byte data) else t.sendOcl slot 3 (twiPay byte 0)

theorem rd_accessSent (s : State) (slot bank page byte data : Nat) (write : Bool) :
    (accessSent s slot bank page byte data write).rd .optModAcc_start 0 = 1 := by
  have hwidth : Fld.width .optModAcc_start = 1 := rfl
  have hbegun : ∀ twi, (accessBegun s twi).rd .optModAcc_start 0 = 1 := fun twi => by
    rw [accessBegun, rd_onOpt, rd_wr_same, hwidth, Nat.mod_eq_of_lt (by decide)]
  cases write <;> simp [accessSent, State.sendOcl, hbegun]

theorem out_accessSent (s : State) (val : Nat) :
    (accessSent s (Reg.get .optModAcc .optModAcc_slot val) (Reg.get .optModAcc .optModAcc_bank val) (Reg.get .optModAcc .optModAcc_page val)
      (Reg.get .optModAcc .optModAcc_byte val) (Reg.get .optModAcc .optModAcc_data val)
      (Reg.get .optModAcc .optModAcc_write val == 1)).out = twiSent val ++ s.out := by
  simp only [accessSent, twiSent, beq_iff_eq]
  by_cases hupper : 128 ≤ Reg.get .optModAcc .optModAcc_byte val
  · rw [decide_eq_true hupper, if_pos hupper, if_pos hupper, when_true]
    split <;> rfl
  · rw [decide_eq_false hupper, if_neg hupper, if_neg hupper, when_false]
    split <;> rfl

theorem doModuleAccess_sent {src : Src} {val : BitVec 64} {s : State} (hacc : s.accepts src .optModAcc 0 = true)
    (hstart : bitAt val.toNat 63 = true)
    (hin : (s.ready src .optModAcc 0).rd .optModStatus_present (Reg.get .optModAcc .optModAcc_slot val.toNat) = 1)
    (hsync : (s.ready src .optModAcc 0).rd .oclStatus_sync (Reg.get .optModAcc .optModAcc_slot val.toNat) = 1)
    (hfree : Reg.get .optModAcc .optModAcc_write val.toNat = 0 ∨ protectedByte (Reg.get .optModAcc .optModAcc_page val.toNat)
      (Reg.get .optModAcc .optModAcc_byte val.toNat) = false) :
    doModuleAccess src val s = accessSent (accessWritten (s.ready src .optModAcc 0) val.toNat)
      (Reg.get .optModAcc .optModAcc_slot val.toNat) (Reg.get .optModAcc .optModAcc_bank val.toNat)
      (Reg.get .optModAcc .optModAcc_page val.toNat) (Reg.get .optModAcc .optModAcc_byte val.toNat)
      (Reg.get .optModAcc .optModAcc_data val.toNat) (Reg.get .optModAcc .optModAcc_write val.toNat == 1) := by
  have hfield : ∀ x : FieldAt, x ∈ Reg.optModAcc.fields → x.acc = .rw → x.lo + x.fld.width ≤ 64 →
      (accessWritten (s.ready src .optModAcc 0) val.toNat).rd x.fld 0 = bits val.toNat x.lo x.fld.width := fun x hx hacc hwidth =>
    rd_accessWritten _ _ hx hacc hwidth
  have hslot : (accessWritten (s.ready src .optModAcc 0) val.toNat).rd .optModAcc_slot 0 = Reg.get .optModAcc .optModAcc_slot val.toNat :=
    hfield ⟨.optModAcc_slot, 56, .rw⟩ (by decide) rfl (by decide)
  have hbank : (accessWritten (s.ready src .optModAcc 0) val.toNat).rd .optModAcc_bank 0 = Reg.get .optModAcc .optModAcc_bank val.toNat :=
    hfield ⟨.optModAcc_bank, 48, .rw⟩ (by decide) rfl (by decide)
  have hpage : (accessWritten (s.ready src .optModAcc 0) val.toNat).rd .optModAcc_page 0 = Reg.get .optModAcc .optModAcc_page val.toNat :=
    hfield ⟨.optModAcc_page, 40, .rw⟩ (by decide) rfl (by decide)
  have hbyte : (accessWritten (s.ready src .optModAcc 0) val.toNat).rd .optModAcc_byte 0 = Reg.get .optModAcc .optModAcc_byte val.toNat :=
    hfield ⟨.optModAcc_byte, 32, .rw⟩ (by decide) rfl (by decide)
  have hdata : (accessWritten (s.ready src .optModAcc 0) val.toNat).rd .optModAcc_data 0 = Reg.get .optModAcc .optModAcc_data val.toNat :=
    hfield ⟨.optModAcc_data, 0, .rw⟩ (by decide) rfl (by decide)
  have hwrite : (accessWritten (s.ready src .optModAcc 0) val.toNat).rd .optModAcc_write 0 = Reg.get .optModAcc .optModAcc_write val.toNat :=
    hfield ⟨.optModAcc_write, 62, .rw⟩ (by decide) rfl (by decide)
  have hother : ∀ f ∉ Reg.optModAcc.fields.map (·.fld), ∀ i, (accessWritten (s.ready src .optModAcc 0) val.toNat).rd f i =
      (s.ready src .optModAcc 0).rd f i := fun f hf i => rd_writeFields_other _ _ _ _ _ (.inl hf)
  have hopen : (Reg.get .optModAcc .optModAcc_write val.toNat == 1 && protectedByte (Reg.get .optModAcc .optModAcc_page val.toNat)
      (Reg.get .optModAcc .optModAcc_byte val.toNat)) = false := by
    obtain h | h := hfree
    · rw [h]
      rfl
    · rw [h, Bool.and_false]
  rw [doModuleAccess, onWrite_of_accepts hacc]
  have hfield' : ∀ f ≠ Fld.optModAcc_start, ∀ twi, (accessBegun (accessWritten (s.ready src .optModAcc 0) val.toNat) twi).rd f 0 =
      (accessWritten (s.ready src .optModAcc 0) val.toNat).rd f 0 := fun f hf twi => by
    rw [accessBegun, rd_onOpt, rd_wr_other _ _ (.inl hf)]
  simp only [accessWritten_eq, hstart, flag_def, hslot, hpage, hbyte, hwrite, hother .optModStatus_present (by decide),
    hother .oclStatus_sync (by decide), hin, hsync, hopen, beq_self_eq_true, Bool.not_true, Bool.false_eq_true, if_false, decide_eq_true_eq,
    accessSent, accessBegun_eq]
  by_cases hupper : 128 ≤ Reg.get .optModAcc .optModAcc_byte val.toNat
  · simp only [hupper, decide_true, when_true, State.sendOcl, rd_emit, hfield' .optModAcc_bank (by decide),
      hfield' .optModAcc_page (by decide), hfield' .optModAcc_data (by decide), hbank, hpage, hdata]
  · simp only [hupper, decide_false, when_false, hfield' .optModAcc_data (by decide), hdata]

/-! The end of an access (R102). -/

/-- R102: an access that the module has answered, or not acknowledged. -/
theorem modAccDone_shows (s : State) (ack : Bool) (data : BitVec 8) : (s.modAccDone ack data.toNat).rd .optModAcc_start 0 = 0 ∧
    (s.modAccDone ack data.toNat).rd .optModAcc_status 0 = (if ack then 0 else 2) ∧
    (ack = true → s.rd .optModAcc_write 0 = 0 → (s.modAccDone ack data.toNat).rd .optModAcc_data 0 = data.toNat) ∧
    (s.modAccDone ack data.toNat).opt = { s.opt with twi := 0 } := by
  have hstatus : Fld.width .optModAcc_status = 8 := rfl
  have hdata : data.toNat % 2 ^ Fld.width .optModAcc_data = data.toNat := Nat.mod_eq_of_lt data.isLt
  refine ⟨?_, ?_, ?_, ?_⟩
  · simp [State.modAccDone]
  · cases ack <;> simp [State.modAccDone, rd_wr, hstatus]
  · rintro rfl hread
    simp [State.modAccDone, rd_wr, flag_def, hread, hdata]
  · simp [State.modAccDone, State.onOpt]

theorem modAccDone_stores (s : State) (ack : Bool) (data : Nat) :
    StoresAt [.regs, .opt] [.optModAcc_start, .optModAcc_status, .optModAcc_data] 0 s (s.modAccDone ack data) := by
  simp only [State.modAccDone]
  exact ((((StoresAt.refl _ _ 0 s).wr _ (by decide)).when (fun _ h => h.wr _ (by decide)) _).wr 0 (by decide)).onOpt _ (by decide)

/-- Settles O41: what a module that comes, is ready or goes shows of itself, and what an access to its memory sends and ends with. -/
theorem modules : Obligations.Modules := by
  refine ⟨?inserted, ?ready, ?timeout, ?present, ?access, ?ended⟩
  case inserted =>
    intro slot kind rev power s hon hempty
    obtain ⟨u, hdo, hstores⟩ := doModuleInserted_event (kind := kind) (rev := rev) (power := power) hon hempty
    obtain ⟨hpresent, hready, hrev, hpower⟩ := moduleShown_shows s slot kind rev power
    have hevent : ∀ f ∉ .optModStatus_modEvent :: (ringFields ++ lineFields), (u.event .optModStatus .optModStatus_modEvent slot).rd f slot =
        (moduleShown s slot kind rev.toNat power.toNat).rd f slot := fun f hf => by
      simp only [List.mem_cons, List.mem_append, not_or] at hf
      exact (rd_event_other _ _ _ _ (by simp [hf]) _).trans (hstores.regs f slot hf.2.2)
    refine completes_of_effect rfl hdo ?_
    simp only [rd_settled]
    exact ⟨(hevent _ (by decide)).trans hpresent, (hevent _ (by decide)).trans hready,
      (hevent _ (by decide)).trans hrev, (hevent _ (by decide)).trans hpower, rd_event_flag _ _ _ (by decide) rfl⟩
  case ready =>
    intro slot apps s hon hwait
    have hkept := doModuleReady_kept (apps := apps) hon hwait
    refine completes_of_effect rfl rfl ⟨(hkept.quiet _ (by decide) _).trans ?_, ?_⟩
    · have hwidth : Fld.width .optModStatus_ready = 1 := rfl
      simp [moduleKnown, hwidth]
    · rw [settled_ports, hkept.waitReady]
      simp [moduleKnown, State.onPorts]
  case timeout =>
    intro slot s
    exact completes_of_effect rfl rfl ⟨rfl, onlyParts_settled (onlyParts_onPorts (by simp) ..)⟩
  case present =>
    intro slot s hon hin
    have hflag : s.flag .optModStatus_present slot = true := by rw [flag_def, hin]; decide
    refine ⟨?_, fun mons flags => ?_, fun flags => ?_⟩
    · obtain ⟨u, hdo, hkept⟩ := doModuleRemoved_event hon hin
      obtain ⟨hpresent, hready⟩ := moduleGone_shows s slot
      refine completes_of_effect rfl hdo ?_
      simp only [rd_settled]
      exact ⟨(rd_event_other _ _ _ _ (by decide) _).trans ((hkept.quiet _ (by decide) _).trans hpresent),
        (rd_event_other _ _ _ _ (by decide) _).trans ((hkept.quiet _ (by decide) _).trans hready), rd_event_flag _ _ _ (by decide) rfl⟩
    · have hdo : doModulePoll slot mons flags s = s.onPorts (fun w => { w with monitors := kput w.monitors slot.val (mons ++ [flags]) }) := by
        simp only [doModulePoll, hon, hflag, Bool.not_true, Bool.or_self, Bool.false_eq_true, if_false]
      exact completes_of_effect rfl hdo ⟨kget_kput_same .., onlyParts_settled (onlyParts_onPorts (by simp) ..)⟩
    · exact completes_of_effect rfl (modInterrupt_event hon hin) (rd_event_flag _ _ _ (by decide) rfl)
  case access =>
    rintro src val s u hacc rfl hstart hin hsync hfree
    refine completes_of_effect rfl (doModuleAccess_sent hacc hstart hin hsync hfree) ⟨rd_accessSent .., ?_⟩
    rw [settled_out, out_accessSent, accessWritten, (onlyParts_writeFields (l := [.regs]) (by simp) ..).2 .out (by decide)]
  case ended =>
    intro ack data s hrun
    have hflag : s.flag .optModAcc_start 0 = true := by rw [flag_def, hrun]; decide
    refine ⟨completes_of_effect rfl (if_pos hflag) ?_, completes_of_effect rfl (if_pos hflag) ?_⟩
    · obtain ⟨hstart, hstatus, hdata, hopt⟩ := modAccDone_shows s ack data
      have hstored := (modAccDone_stores s ack data.toNat).settled
      exact ⟨hstart, hstatus, hdata, hopt, hstored.parts, hstored.place⟩
    · have hstatus : Fld.width .optModAcc_status = 8 := rfl
      have hstored := (((StoresAt.refl [.regs] [.optModAcc_start, .optModAcc_status] 0 s).wr (f := .optModAcc_status) 4 (by decide)).wr
        (f := .optModAcc_start) 0 (by decide)).settled
      refine ⟨?_, ?_, hstored.parts, hstored.place⟩
      · rw [rd_settled, rd_wr_same, Nat.zero_mod]
      · simp [rd_wr, hstatus]

end Sys2Proof.Proofs

namespace Sys2Proof.Proofs
open Sys2Proof Sys2Proof.Machine Sys2Proof.Laws

/-! Drains and calibrations (R88). -/

/-- A drained port goes into CAL where a wait asks for it, and stays as it is otherwise. -/
theorem tryCal_cases (s : State) (n : Nat) : s.tryCal n = s ∨ ∃ w : CalWait,
    s.tryCal n = ((s.setPst n (fun x => { x with waits := w :: x.waits.filter (· != w) })).setPort n 5).calBegins n w := by
  simp only [State.tryCal]
  repeat' split
  · exact .inr ⟨_, rfl⟩
  · exact .inl rfl
  · exact .inl rfl

/-- What CAL leaves of the drain that led to it. -/
theorem tryCal_keeps (s : State) (n : Nat) : (s.tryCal n).rd .corePortStatus_drained n = s.rd .corePortStatus_drained n ∧
    ((s.tryCal n).pst n).draining = (s.pst n).draining ∧ ((s.tryCal n).pst n).holdDone = (s.pst n).holdDone := by
  obtain h | ⟨w, h⟩ := tryCal_cases s n <;> rw [h]
  · exact ⟨rfl, rfl, rfl⟩
  · have hkept := (LinkKept.refl Scope.none ((s.setPst n (fun x =>
      { x with waits := w :: x.waits.filter (· != w) })).setPort n 5)).calBegins n w
    obtain ⟨r, hpst⟩ := hkept.held n (by simp [Scope.none])
    rw [pst_setPort, pst_setPst_same] at hpst
    refine ⟨(hkept.shown _ (by decide) n (by simp [Scope.none])).trans ?_, ?_, ?_⟩
    · rw [rd_setPort_other _ _ _ (by decide), rd_setPst]
    · rw [hpst]
    · rw [hpst]

/-- R88: a drain that is over is shown, and the port may go into CAL. -/
theorem drained_shows (s : State) (n : Nat) : (s.drained n).rd .corePortStatus_drained n = 1 ∧ ((s.drained n).pst n).draining = false := by
  obtain ⟨hdrained, hdraining, -⟩ := tryCal_keeps ((s.setPst n (fun x => { x with draining := false })).wr .corePortStatus_drained n 1) n
  refine ⟨hdrained.trans (rd_wr_same ..), hdraining.trans ?_⟩
  rw [pst_wr, pst_setPst_same]

/-! Frames of the Optical Control Link (R209, R210, R216). -/

theorem commitOne_cnt (s : State) : s.commitOne.tel.cnt = s.tel.cnt := by
  simp only [State.commitOne]
  split <;> rfl

theorem commitLog_cnt (s : State) : s.commitLog.tel.cnt = s.tel.cnt := by
  simp only [State.commitLog]
  generalize s.tel.log.length = k
  induction k with
  | zero => rfl
  | succ k ih => exact (commitOne_cnt _).trans ih

/-- A fault record counts nothing but a record lost, which is an event of the chip. -/
theorem count_fault (s : State) (code sev : Nat) (detail : List Nat) {g : Nat} (hg : g ≠ 14) (i : Nat) :
    (s.fault code sev detail).count g i = s.count g i := by
  have hcount : ∀ t u : State, t.tel.cnt = u.tel.cnt → t.count g i = u.count g i := fun t u h => by rw [State.count, h, State.count]
  have hcommit : ∀ (c : Bool) (t : State), (t.when c State.commitLog).count g i = t.count g i := fun c t => by
    cases c
    · rfl
    · exact hcount _ _ (commitLog_cnt t)
  simp only [State.fault]
  rw [State.count, postEvent_tel, postEvent_tel, ← State.count, hcommit]
  split
  · rfl
  · exact (count_bumpN_other _ hg _ _ _).trans rfl

theorem count_bumpN_same (s : State) {g i j : Nat} (h : j ≠ i) (n : Nat) : (s.bumpN g i n).count g j = s.count g j := by
  have hkey : Nat.pair g j ≠ Nat.pair g i := fun e => h (Nat.pair_eq_pair.mp e).2
  simp only [State.bumpN]
  split
  · rfl
  · split <;> exact sget_sset_other _ hkey

/-- The rings of a calibration that has failed are restored, at once or once the link is back (R88). -/
def calRestored (s : State) (n : Nat) : State :=
  if s.opt.cal ≠ some n then s
  else if s.flag .oclStatus_sync (n / 8) then s.restoreRings n
  else s.onOpt (fun o => { o with restore := o.restore ++ [n] })

/-- A calibration that has failed is counted, and its ring given up with the third. -/
def calFailCounted (s : State) (n : Nat) : State :=
  let t := (calRestored s n).bumpOpt n .calFail
  let f := sget 0 t.opt.fails n + 1
  (t.onOpt (fun o => { o with fails := sset 0 o.fails n f })).when (f == 3) (fun s => (s.wr .optChanStatus_ringFailed n 1).fault 0x0031 1 [n])

theorem calFails_eq (s : State) (n : Nat) : s.calFails n =
    if (calFailCounted s n).portState n = 5 then (calFailCounted s n).calOver.leaveCal n
    else ((calFailCounted s n).calOver.setPst n (fun x => { x with waits := x.waits.filter (· != .cal) })).reDrain n := rfl

/-- What the loss of a control link ends: its event, an access to the module, and a calibration (R209, R216). -/
def syncLost (s : State) (slot : Nat) : State :=
  let t := s.event .oclStatus .oclStatus_oclEvent slot
  let t := t.when (t.flag .optModAcc_start 0 && t.rd .optModAcc_slot 0 == slot) (fun s =>
    (s.wr .optModAcc_status 0 4).wr .optModAcc_start 0 0)
  if t.flag .optCalStatus_active 0 ∧ t.rd .optCalStatus_lane 0 / 8 = slot then t.calFails (t.rd .optCalStatus_lane 0) else t

/-- R209: a link that is lost is out of sync first. -/
theorem oclLost_eq (s : State) (slot : Nat) : s.oclLost slot = syncLost (s.wr .oclStatus_sync slot 0) slot := rfl

/-- Between `s` and `t` the frames of the control links, their sync and the counts of their bad frames stand. -/
structure FramesKept (s t : State) : Prop where
  frames : linkFrames t.opt = linkFrames s.opt
  sync : ∀ j, t.rd .oclStatus_sync j = s.rd .oclStatus_sync j
  crcErr : ∀ k, t.count 6 (8 * k + OptEv.oclCrcErr.ctorIdx) = s.count 6 (8 * k + OptEv.oclCrcErr.ctorIdx)

namespace FramesKept
variable {s t u : State}

theorem refl (s : State) : FramesKept s s := ⟨rfl, fun _ => rfl, fun _ => rfl⟩

theorem trans (hst : FramesKept s t) (htu : FramesKept t u) : FramesKept s u :=
  ⟨htu.frames.trans hst.frames, fun j => (htu.sync j).trans (hst.sync j), fun k => (htu.crcErr k).trans (hst.crcErr k)⟩

theorem when {g : State → State} (h : FramesKept s t) (hg : ∀ t, FramesKept s t → FramesKept s (g t)) (c : Bool) :
    FramesKept s (t.when c g) := by
  cases c
  · exact h
  · exact hg t h

/-- Work on links keeps to them. -/
theorem linked {W : Scope} (h : FramesKept s t) (hk : LinkKept W t u) : FramesKept s u :=
  h.trans ⟨hk.frames, hk.quiet _ (by decide), fun _ => hk.optics _⟩

theorem wr (h : FramesKept s t) {f : Fld} (i v : Nat) (hf : .oclStatus_sync ≠ f) : FramesKept s (t.wr f i v) :=
  h.trans ⟨rfl, fun _ => rd_wr_other _ _ (.inl hf), fun _ => rfl⟩

theorem fault (h : FramesKept s t) (code sev : Nat) (detail : List Nat) : FramesKept s (t.fault code sev detail) :=
  h.trans ⟨by rw [fault_opt], fun _ => rd_fault _ _ _ _ _ (by decide), fun _ => count_fault _ _ _ _ (by decide) _⟩

/-- A calibration that has failed is another event of the optics. -/
theorem bumpCalFail (h : FramesKept s t) (n : Nat) : FramesKept s (t.bumpOpt n .calFail) := by
  refine h.trans ⟨by rw [State.bumpOpt, bumpN_opt], fun _ => rd_bumpN _ _ _ _ _ (by decide), fun k => ?_⟩
  have hother : 8 * k + OptEv.oclCrcErr.ctorIdx ≠ 8 * n + OptEv.calFail.ctorIdx := by
    have hcrc : OptEv.oclCrcErr.ctorIdx = 6 := rfl
    have hcal : OptEv.calFail.ctorIdx = 2 := rfl
    omega
  exact count_bumpN_same _ hother 1

theorem calRestored (h : FramesKept s t) (n : Nat) : FramesKept s (Proofs.calRestored t n) := by
  simp only [Proofs.calRestored]
  repeat' split
  · exact h
  · exact h.linked ((LinkKept.refl Scope.all t).restoreRings n)
  · exact h.linked ((LinkKept.refl Scope.all t).onOpt _ rfl)

theorem calFailCounted (h : FramesKept s t) (n : Nat) : FramesKept s (Proofs.calFailCounted t n) := by
  have hcounted := (h.calRestored n).bumpCalFail n
  have hfails := hcounted.linked ((LinkKept.refl Scope.all _).onOpt (fun o =>
    { o with fails := sset 0 o.fails n (sget 0 ((Proofs.calRestored t n).bumpOpt n .calFail).opt.fails n + 1) }) rfl)
  exact hfails.when (fun _ h => (h.wr _ _ (by decide)).fault ..) _

theorem calFails (h : FramesKept s t) (n : Nat) : FramesKept s (t.calFails n) := by
  have hn := Scope.all_retrains n
  have hcounted := h.calFailCounted n
  rw [calFails_eq]
  split
  · exact hcounted.linked ((LinkKept.refl _ _).calOver.leaveCal hn)
  · exact hcounted.linked (((LinkKept.refl _ _).calOver.setPst hn.1.2 (by simp)).reDrain hn.1)

/-- What follows the loss of sync. -/
theorem syncLost (h : FramesKept s t) (slot : Nat) : FramesKept s (Proofs.syncLost t slot) := by
  have hevent := h.linked ((LinkKept.refl Scope.all t).event .oclStatus (f := .oclStatus_oclEvent) slot 0 (by decide))
  have haccess := fun c => hevent.when (fun _ h => (h.wr (f := .optModAcc_status) 0 4 (by decide)).wr (f := .optModAcc_start) 0 0
    (by decide)) c
  simp only [Proofs.syncLost]
  split
  · exact (haccess _).calFails _
  · exact haccess _

end FramesKept

/-! Bad frames (R209, R210). -/

/-- The frame of a slot that had `bad` bad ones in a row. -/
def badFrame (s : State) (slot bad : Nat) (answered : Bool) : State :=
  (s.when answered (fun s => s.bumpOpt (8 * slot) .oclCrcErr)).onOpt (fun o => { o with ocl := kput o.ocl slot (0, min 4 (bad + 1)) })

theorem doOclFrame_bad {slot : Fin 64} {up : OclUp} {good bad : Nat} {s : State} (hon : s.off = false) (hbad : oclGood up = false)
    (hframes : (kget s.opt.ocl slot).getD (0, 0) = (good, bad)) :
    doOclFrame slot up s = if 4 ≤ bad + 1 ∧ (badFrame s slot bad up.answered).flag .oclStatus_sync slot then
      (badFrame s slot bad up.answered).oclLost slot else badFrame s slot bad up.answered := by
  simp only [doOclFrame, hon, hbad, hframes, Bool.false_eq_true, if_false]
  rfl

theorem badFrame_frames (s : State) (slot bad : Nat) (answered : Bool) :
    kget (linkFrames (badFrame s slot bad answered).opt).1 slot = some (0, min 4 (bad + 1)) := kget_kput_same ..

theorem badFrame_counts {s : State} (hon : s.off = false) (slot bad : Nat) :
    Counted 6 (8 * (8 * slot) + OptEv.oclCrcErr.ctorIdx) s (badFrame s slot bad true) :=
  counted_congr (bumpN_counts hon (by decide) _).1 rfl rfl

/-- R210: what a bad frame leaves of the link. -/
theorem doOclFrame_bad_shows {slot : Fin 64} {up : OclUp} {good bad : Nat} {s : State} (hon : s.off = false) (hbad : oclGood up = false)
    (hframes : (kget s.opt.ocl slot).getD (0, 0) = (good, bad)) :
    kget (doOclFrame slot up s).opt.ocl slot = some (0, min 4 (bad + 1)) ∧
      (up.answered = true → Counted 6 (8 * (8 * slot) + OptEv.oclCrcErr.ctorIdx) s (doOclFrame slot up s)) ∧
      (3 ≤ bad → (doOclFrame slot up s).flag .oclStatus_sync slot = false) := by
  have hlost : FramesKept ((badFrame s slot bad up.answered).wr .oclStatus_sync slot 0) ((badFrame s slot bad up.answered).oclLost slot) := by
    rw [oclLost_eq]
    exact (FramesKept.refl _).syncLost slot
  have hcounts : up.answered = true → Counted 6 (8 * (8 * slot) + OptEv.oclCrcErr.ctorIdx) s (badFrame s slot bad up.answered) := fun h => by
    rw [h]
    exact badFrame_counts hon slot bad
  rw [doOclFrame_bad hon hbad hframes]
  split
  · obtain ⟨hocl, -⟩ := Prod.mk.inj hlost.frames
    refine ⟨?_, fun h => ?_, fun _ => ?_⟩
    · rw [hocl, wr_opt]
      exact badFrame_frames ..
    · exact counted_congr (hcounts h) rfl (hlost.crcErr _)
    · rw [flag_def, hlost.sync, rd_wr_same, Nat.zero_mod]
      rfl
  · next hstays =>
    refine ⟨badFrame_frames .., hcounts, fun h => ?_⟩
    rw [← Bool.not_eq_true]
    exact fun hsync => hstays ⟨by omega, hsync⟩

/-! Good frames (R209, R216). -/

/-- The frame of a slot that had `good` good ones in a row. -/
def goodFrame (s : State) (slot good : Nat) (up : OclUp) : State :=
  s.onOpt (fun o => { o with ocl := kput o.ocl slot (min 8 (good + 1), 0),
                             tap := kput o.tap slot (pushSample ((kget o.tap slot).getD []) up.tap.toNat) })

/-- A ring's sample of a frame. -/
def ringSampled (slot : Nat) (up : OclUp) (s : State) (r : Nat) : State :=
  match up.rings[r]? with
  | some v => s.onRing (slotRing slot r) (fun x => x.sample (s.rd .optLoopCfg_lpf 0) (s.ringDither (slotRing slot r)) v.toNat)
  | none => s

/-- The samples of a frame. -/
def ringsSampled (s : State) (slot : Nat) (up : OclUp) : State := (List.range 16).foldl (ringSampled slot up) s

/-- The link, once its frames are counted. -/
def linkSynced (s : State) (slot good : Nat) (up : OclUp) : State :=
  (ringsSampled (goodFrame s slot good up) slot up).when (decide (8 ≤ good + 1) && !s.flag .oclStatus_sync slot) (fun s =>
    (s.wr .oclStatus_sync slot 1).oclBack slot)

theorem doOclFrame_good {slot : Fin 64} {up : OclUp} {good bad : Nat} {s : State} (hon : s.off = false) (hgood : oclGood up = true)
    (hframes : (kget s.opt.ocl slot).getD (0, 0) = (good, bad)) :
    doOclFrame slot up s = (linkSynced s slot good up).oclUpstream slot up.utype.toNat up.aux.toNat := by
  simp only [doOclFrame, hon, hgood, hframes, Bool.false_eq_true, if_false, if_true]
  rfl

end Sys2Proof.Proofs

namespace Sys2Proof.Proofs
open Sys2Proof Sys2Proof.Machine Sys2Proof.Laws

namespace LinkKept
variable {W : Scope} {s t : State}

theorem ringsChanged (h : LinkKept W s t) {n : Nat} (hn : n ∈ W.held) : LinkKept W s (t.ringsChanged n) :=
  LinkKept.ite (h.beginAttempt hn) h

theorem oclBack (h : LinkKept Scope.all s t) (slot : Nat) : LinkKept Scope.all s (t.oclBack slot) :=
  (h.onOpt _ rfl).foldl (fun _ n h => (h.restoreRings n).ringsChanged (Scope.all_retrains n).1.2) _

theorem ringSampled (h : LinkKept W s t) (slot : Nat) (up : OclUp) (r : Nat) : LinkKept W s (Proofs.ringSampled slot up t r) := by
  rw [Proofs.ringSampled]
  split
  · exact h.onRing ..
  · exact h

end LinkKept

/-- What the samples of a frame leave of the link. -/
theorem ringsSampled_kept (W : Scope) (s : State) (slot : Nat) (up : OclUp) : LinkKept W s (ringsSampled s slot up) :=
  (LinkKept.refl W s).foldl (fun _ r h => h.ringSampled slot up r) _

/-- Fields that an upstream frame of the link is answered by. -/
def answerFields : List Fld := [.optModStatus_present, .optModAcc_start, .optModAcc_slot]

/-- R209, R210: the link with eight good frames in a row is in sync, and nothing else of it is touched. -/
theorem linkSynced_shows (s : State) (slot good : Nat) (up : OclUp) : (linkSynced s slot good up).off = s.off ∧
    linkFrames (linkSynced s slot good up).opt = linkFrames (goodFrame s slot good up).opt ∧
    (∀ f ∈ answerFields, ∀ i, (linkSynced s slot good up).rd f i = s.rd f i) ∧
    (7 ≤ good → (linkSynced s slot good up).rd .oclStatus_sync slot = 1) := by
  have hsampled := ringsSampled_kept Scope.all (goodFrame s slot good up) slot up
  have hquiet : ∀ f ∈ answerFields, f ∈ quietFields ∧ f ≠ .oclStatus_sync := by decide
  rw [linkSynced]
  cases hback : decide (8 ≤ good + 1) && !s.flag .oclStatus_sync slot with
  | false =>
    rw [when_false]
    refine ⟨hsampled.off, hsampled.frames, fun f hf i => hsampled.quiet f (hquiet f hf).1 i, fun h7 => ?_⟩
    have hsync : s.flag .oclStatus_sync slot = true := by
      rw [decide_eq_true (by omega), Bool.true_and] at hback
      rwa [Bool.not_eq_false'] at hback
    rw [flag_def, beq_iff_eq] at hsync
    exact (hsampled.quiet _ (by decide) slot).trans hsync
  | true =>
    have hkept := (LinkKept.refl Scope.all ((ringsSampled (goodFrame s slot good up) slot up).wr .oclStatus_sync slot 1)).oclBack slot
    rw [when_true]
    refine ⟨hkept.off.trans hsampled.off, hkept.frames.trans hsampled.frames, fun f hf i => ?_, fun _ => ?_⟩
    · obtain ⟨hf, hne⟩ := hquiet f hf
      exact (hkept.quiet f hf i).trans ((rd_wr_other _ _ (.inl hne)).trans (hsampled.quiet f hf i))
    · exact (hkept.quiet _ (by decide) slot).trans (rd_wr_same ..)

/-- What the answer to a frame leaves of the link (R216). -/
theorem oclUpstream_keeps (s : State) (slot utype aux : Nat) : (s.oclUpstream slot utype aux).opt.ocl = s.opt.ocl ∧
    ∀ j, (s.oclUpstream slot utype aux).rd .oclStatus_sync j = s.rd .oclStatus_sync j := by
  have haccess : ∀ (ack : Bool) (data : Nat), (s.modAccDone ack data).opt.ocl = s.opt.ocl ∧
      ∀ j, (s.modAccDone ack data).rd .oclStatus_sync j = s.rd .oclStatus_sync j := fun ack data => by
    refine ⟨?_, fun j => (modAccDone_stores s ack data).place _ _ (.inl (by decide))⟩
    simp [State.modAccDone, State.onOpt]
  have hinterrupt : (s.modInterrupt slot).opt.ocl = s.opt.ocl ∧ ∀ j, (s.modInterrupt slot).rd .oclStatus_sync j = s.rd .oclStatus_sync j := by
    rw [State.modInterrupt]
    split
    · exact ⟨rfl, fun _ => rfl⟩
    · exact ⟨by rw [event_opt], fun j => rd_event_other _ _ _ _ (by decide) j⟩
  simp only [State.oclUpstream]
  repeat' split
  · exact hinterrupt
  · exact ⟨rfl, fun _ => rfl⟩
  · exact haccess ..
  · exact ⟨rfl, fun _ => rfl⟩
  · exact haccess ..
  · exact ⟨rfl, fun _ => rfl⟩

/-- R216: the module interrupts. -/
theorem oclUpstream_event (s : State) (slot aux : Nat) : s.oclUpstream slot 4 aux = s.modInterrupt slot := by
  rw [State.oclUpstream]
  exact if_pos rfl

/-- A frame may bring nothing. -/
theorem oclUpstream_none (s : State) (slot aux : Nat) : s.oclUpstream slot 0 aux = s := by
  simp [State.oclUpstream]

/-- R216: data that the last of an access's frames brings ends it. -/
theorem oclUpstream_data {s : State} {slot : Nat} (hstart : s.rd .optModAcc_start 0 = 1) (hslot : s.rd .optModAcc_slot 0 = slot)
    (hlast : s.opt.twi = 0) (aux : Nat) : s.oclUpstream slot 2 aux = s.modAccDone true aux := by
  simp [State.oclUpstream, flag_def, hstart, hslot, hlast]

/-! The samples of a frame (R211). -/

/-- The rings of a slot are told apart. -/
theorem slotRing_inj {slot r r' : Nat} (hr : r < 16) (hr' : r' < 16) (h : slotRing slot r = slotRing slot r') : r = r' := by
  simp only [slotRing] at h
  omega

@[simp] theorem ringSt_onRing_same (s : State) (key : Nat) (g : RingSt → RingSt) : (s.onRing key g).ringSt key = g (s.ringSt key) := by
  simp [State.ringSt, State.onRing, State.onOpt]

theorem ringSt_onRing_other (s : State) {key k : Nat} (h : k ≠ key) (g : RingSt → RingSt) : (s.onRing key g).ringSt k = s.ringSt k := by
  simp [State.ringSt, State.onRing, State.onOpt, kget_kput_other _ _ _ _ h]

/-- A sample touches the rings alone. -/
theorem ringSampled_keeps (slot : Nat) (up : OclUp) (s : State) (r : Nat) : (ringSampled slot up s r).regs = s.regs ∧
    (ringSampled slot up s r).opt.restore = s.opt.restore := by
  rw [ringSampled]
  split
  · exact ⟨rfl, rfl⟩
  · exact ⟨rfl, rfl⟩

theorem ringsSampled_keeps (s : State) (slot : Nat) (up : OclUp) : (ringsSampled s slot up).regs = s.regs ∧
    (ringsSampled s slot up).opt.restore = s.opt.restore := by
  refine List.foldlRecOn (motive := fun t : State => t.regs = s.regs ∧ t.opt.restore = s.opt.restore) _ (ringSampled slot up) ⟨rfl, rfl⟩ ?_
  intro t ⟨hregs, hrestore⟩ r _
  obtain ⟨hregs', hrestore'⟩ := ringSampled_keeps slot up t r
  exact ⟨hregs'.trans hregs, hrestore'.trans hrestore⟩

/-- The sample of one ring. -/
theorem ringSampled_same {slot r : Nat} {up : OclUp} {v : BitVec 11} (hv : up.rings[r]? = some v) (s : State) :
    (ringSampled slot up s r).ringSt (slotRing slot r) =
      (s.ringSt (slotRing slot r)).sample (s.rd .optLoopCfg_lpf 0) (s.ringDither (slotRing slot r)) v.toNat := by
  simp only [ringSampled, hv, ringSt_onRing_same]

theorem ringSampled_other {slot r k : Nat} (up : OclUp) (h : k ≠ slotRing slot r) (s : State) :
    (ringSampled slot up s r).ringSt k = s.ringSt k := by
  rw [ringSampled]
  split
  · exact ringSt_onRing_other _ h _
  · rfl

/-- Rings that are not sampled stay as they are. -/
theorem foldl_ringSampled_other {slot k : Nat} (up : OclUp) (rs : List Nat) (h : ∀ r ∈ rs, k ≠ slotRing slot r) (s : State) :
    (rs.foldl (ringSampled slot up) s).ringSt k = s.ringSt k := by
  induction rs generalizing s with
  | nil => rfl
  | cons r rs ih => rw [List.foldl_cons, ih (fun r hr => h r (by simp [hr])), ringSampled_other up (h r (by simp))]

/-- R211: every ring of the frame is sampled once. -/
theorem foldl_ringSampled_mem {slot r : Nat} {up : OclUp} {v : BitVec 11} (hv : up.rings[r]? = some v) (rs : List Nat) (hnodup : rs.Nodup)
    (h16 : ∀ r ∈ rs, r < 16) (hr : r ∈ rs) (s : State) : (rs.foldl (ringSampled slot up) s).ringSt (slotRing slot r) =
      (s.ringSt (slotRing slot r)).sample (s.rd .optLoopCfg_lpf 0) (s.ringDither (slotRing slot r)) v.toNat := by
  induction rs generalizing s with
  | nil => exact absurd hr List.not_mem_nil
  | cons r' rs ih =>
    obtain ⟨hnew, hnodup⟩ := List.nodup_cons.mp hnodup
    have hapart : ∀ q ∈ r' :: rs, r ≠ q → slotRing slot r ≠ slotRing slot q := fun q hq hne h => hne (slotRing_inj (h16 r hr) (h16 q hq) h)
    rw [List.foldl_cons]
    by_cases hr' : r = r'
    · subst hr'
      rw [foldl_ringSampled_other up rs (fun q hq => hapart q (by simp [hq]) (fun h => hnew (h ▸ hq))), ringSampled_same hv]
    · have hregs : ∀ f i, (ringSampled slot up s r').rd f i = s.rd f i := fun f i => by
        rw [State.rd, (ringSampled_keeps slot up s r').1, ← State.rd]
      rw [ih hnodup (fun q hq => h16 q (by simp [hq])) ((List.mem_cons.mp hr).resolve_left hr'),
        ringSampled_other up (hapart r' (by simp) hr'), hregs, State.ringDither, hregs, hregs, ← State.ringDither]

/-- A link that is back has no ring to restore where none waits for it. -/
theorem oclBack_none {s : State} {slot : Nat} (h : s.opt.restore.filter (fun n => n / 8 == slot) = []) :
    s.oclBack slot = s.onOpt (fun o => { o with restore := o.restore.filter (fun n => n / 8 != slot) }) := by
  simp only [State.oclBack, h, List.foldl_nil]

/-- What is held of rings is part of the optical control. -/
theorem ringSt_of_ring {s t : State} (h : t.opt.ring = s.opt.ring) (k : Nat) : t.ringSt k = s.ringSt k := by
  rw [State.ringSt, h, State.ringSt]

/-- A frame without data changes the samples, and the sync at most (R210, R211). -/
theorem linkSynced_plain {s : State} {slot : Nat} (good : Nat) (up : OclUp) (hrest : ∀ n ∈ s.opt.restore, n / 8 ≠ slot) :
    StoresAt [.opt, .regs] [.oclStatus_sync] slot s (linkSynced s slot good up) ∧
      ∀ k, (linkSynced s slot good up).ringSt k = (ringsSampled (goodFrame s slot good up) slot up).ringSt k := by
  have hframe : StoresAt [.opt, .regs] [.oclStatus_sync] slot s (goodFrame s slot good up) := (StoresAt.refl _ _ _ s).onOpt _ (by decide)
  have hsampled : StoresAt [.opt, .regs] [.oclStatus_sync] slot s (ringsSampled (goodFrame s slot good up) slot up) := by
    refine hframe.foldl (fun _ r h => ?_) _
    rw [ringSampled]
    split
    · exact h.onRing _ _ (by decide)
    · exact h
  have hnone : ((ringsSampled (goodFrame s slot good up) slot up).wr .oclStatus_sync slot 1).opt.restore.filter (fun n => n / 8 == slot) =
      [] := by
    rw [wr_opt, (ringsSampled_keeps ..).2]
    exact List.filter_eq_nil_iff.mpr (fun n hn => by simpa using hrest n hn)
  rw [linkSynced]
  cases decide (8 ≤ good + 1) && !s.flag .oclStatus_sync slot
  · exact ⟨hsampled, fun _ => rfl⟩
  · rw [when_true, oclBack_none hnone]
    exact ⟨(hsampled.wr 1 (by decide)).onOpt _ (by decide), fun k => ringSt_of_ring rfl k⟩

end Sys2Proof.Proofs

namespace Sys2Proof.Proofs
open Sys2Proof Sys2Proof.Machine Sys2Proof.Laws

/-- R209, R211, R216: what a good frame leaves of the link, and how it is answered. -/
theorem doOclFrame_good_shows {slot : Fin 64} {up : OclUp} {good bad : Nat} {s : State} (hon : s.off = false) (hgood : oclGood up = true)
    (hframes : (kget s.opt.ocl slot).getD (0, 0) = (good, bad)) :
    kget (doOclFrame slot up s).opt.ocl slot = some (min 8 (good + 1), 0) ∧
      (7 ≤ good → (doOclFrame slot up s).rd .oclStatus_sync slot = 1) ∧
      (up.utype = 4 → s.rd .optModStatus_present slot = 1 → (doOclFrame slot up s).rd .optModStatus_modEvent slot = 1) ∧
      (up.utype = 2 → s.rd .optModAcc_start 0 = 1 → s.rd .optModAcc_slot 0 = slot → s.opt.twi = 0 →
        (doOclFrame slot up s).rd .optModAcc_start 0 = 0 ∧ (doOclFrame slot up s).rd .optModAcc_status 0 = 0) ∧
      (up.utype = 0 → (∀ n ∈ s.opt.restore, n / 8 ≠ slot.val) →
        StoresAt [.opt, .regs] [.oclStatus_sync] slot s (doOclFrame slot up s) ∧
        ∀ (r : Nat) (v : BitVec 11), r < 16 → up.rings[r]? = some v → (doOclFrame slot up s).ringSt (slotRing slot r) =
          (s.ringSt (slotRing slot r)).sample (s.rd .optLoopCfg_lpf 0) (s.ringDither (slotRing slot r)) v.toNat) := by
  obtain ⟨hoff, hkept, hfields, hsynced⟩ := linkSynced_shows s slot good up
  obtain ⟨hocl, hsync⟩ := oclUpstream_keeps (linkSynced s slot good up) slot up.utype.toNat up.aux.toNat
  obtain ⟨hocl', htwi⟩ := Prod.mk.inj hkept
  rw [doOclFrame_good hon hgood hframes]
  refine ⟨?_, fun h7 => (hsync slot).trans (hsynced h7), fun htype hin => ?_, fun htype hstart hslot hlast => ?_, fun htype hrest => ?_⟩
  · rw [hocl, hocl']
    exact kget_kput_same ..
  · have hutype : up.utype.toNat = 4 := by rw [htype]; rfl
    rw [hutype, oclUpstream_event, modInterrupt_event (hoff.trans hon) ((hfields _ (by decide) _).trans hin)]
    exact rd_event_flag _ _ _ (by decide) rfl
  · have hutype : up.utype.toNat = 2 := by rw [htype]; rfl
    obtain ⟨hended, hstatus, -, -⟩ := modAccDone_shows (linkSynced s slot good up) true up.aux
    rw [hutype, oclUpstream_data ((hfields _ (by decide) 0).trans hstart) ((hfields _ (by decide) 0).trans hslot) (htwi.trans hlast)]
    exact ⟨hended, hstatus⟩
  · have hutype : up.utype.toNat = 0 := by rw [htype]; rfl
    obtain ⟨hstored, hrings⟩ := linkSynced_plain good up hrest
    rw [hutype, oclUpstream_none]
    refine ⟨hstored, fun r v hr hv => (hrings _).trans ?_⟩
    exact foldl_ringSampled_mem hv _ List.nodup_range (fun _ h => List.mem_range.mp h) (List.mem_range.mpr hr) _

/-- Settles O42: how a drain ends, and what a good frame and a bad one leave of the link. -/
theorem drainsAndControlLink : Obligations.DrainsAndControlLink := by
  refine ⟨fun n s hstate => ⟨fun hdrain hempty => ?_, fun hdrain => ?_, fun htime => ?_⟩, ?good, ?bad⟩
  · have hdo : doDrainComplete n s = s.drained n := if_pos ⟨hstate, hdrain, hempty⟩
    refine completes_of_effect rfl hdo ?_
    rw [rd_settled, pst_settled]
    exact drained_shows s n
  · have hdo : doDrainTimeout n s = (s.flushPort n .drainDrop).drained n := if_pos ⟨hstate, hdrain⟩
    refine completes_of_effect rfl hdo ?_
    rw [rd_settled, pst_settled]
    exact drained_shows _ n
  · have hpassed : s.passed (s.pst n).drainAt s.calHold = true := decide_eq_true htime
    have hdo : doCalHoldExpiry n s = (s.setPst n (fun x => { x with holdDone := true })).tryCal n := if_pos ⟨hstate, hpassed⟩
    refine completes_of_effect rfl hdo ?_
    rw [pst_settled, (tryCal_keeps ..).2.2, pst_setPst_same]
  case good =>
    intro slot up good bad s hon hgood hframes
    obtain ⟨hocl, hsync, hevent, hended, hplain⟩ := doOclFrame_good_shows hon hgood hframes
    refine completes_of_effect rfl rfl ⟨hocl, hsync, hevent, hended, fun htype hrest => ?_⟩
    obtain ⟨hstored, hrings⟩ := hplain htype hrest
    exact ⟨hstored.settled.parts, hstored.settled.place, hrings⟩
  case bad =>
    intro slot up good bad s hon hbad hframes
    exact completes_of_effect rfl rfl (doOclFrame_bad_shows hon hbad hframes)

end Sys2Proof.Proofs

namespace Sys2Proof.Proofs
open Sys2Proof Sys2Proof.Machine Sys2Proof.Laws

/-! Rings: their heater, their lock, and the port that waits for them (R206, R211, R214). -/

namespace Stores
variable {ps : List Part} {fs : List Fld} {s t : State}

theorem setLock (h : Stores ps fs s t) (key : Nat) (b : Bool)
    (hf : (.optRingStatus_lock ∈ fs ∧ .optChanStatus_txLock ∈ fs ∧ .optChanStatus_rxLock ∈ fs) ∧ .regs ∈ ps) :
    Stores ps fs s (t.setLock key b) := by
  obtain ⟨⟨hlock, htx, hrx⟩, hregs⟩ := hf
  refine (h.wr _ _ ⟨hlock, hregs⟩).wr _ _ ⟨?_, hregs⟩
  split
  · exact htx
  · exact hrx

theorem heat (h : Stores ps fs s t) (key code : Nat)
    (hf : (.optRingStatus_heater ∈ fs ∧ .optRingStatus_sweepDue ∈ fs) ∧ .regs ∈ ps ∧ .out ∈ ps) : Stores ps fs s (t.heat key code) :=
  ((h.wr _ _ ⟨hf.1.1, hf.2.1⟩).when (fun _ h => h.wr _ _ ⟨hf.1.2, hf.2.1⟩) _).sendOcl _ _ _ hf.2.2

/-- The rings let a port that waits for them begin its attempt, and do nothing else to it. -/
theorem ringsChanged (h : Stores ps fs s t) (n : Nat) (hf : .corePortStatus_attempts ∈ fs ∧ .regs ∈ ps ∧ .ports ∈ ps) :
    Stores ps fs s (t.ringsChanged n) := by
  rw [State.ringsChanged]
  split
  · next hready =>
    rw [beginAttempt_of_ready hready.2.2]
    exact (h.onPorts _ hf.2.2).wr _ _ ⟨hf.1, hf.2.1⟩
  · exact h

theorem opt (h : Stores ps fs s t) (hp : .opt ∉ ps) : t.opt = s.opt := h.parts.2 .opt hp

theorem tel (h : Stores ps fs s t) (hp : .tel ∉ ps) : t.tel = s.tel := h.parts.2 .tel hp

theorem out (h : Stores ps fs s t) (hp : .out ∉ ps) : t.out = s.out := h.parts.2 .out hp

theorem ringSt (h : Stores ps fs s t) (hp : .opt ∉ ps) (key : Nat) : t.ringSt key = s.ringSt key := by
  rw [State.ringSt, h.opt hp, State.ringSt]

end Stores

/-- A lock that is shown. -/
theorem rd_setLock (s : State) (key : Nat) (b : Bool) : (s.setLock key b).rd .optRingStatus_lock key = b2n b := by
  have hwidth : Fld.width .optRingStatus_lock = 1 := rfl
  have hother : Fld.optRingStatus_lock ≠ if key % 2 = 0 then .optChanStatus_txLock else .optChanStatus_rxLock := by split <;> decide
  rw [State.setLock, rd_wr_other _ _ (.inl hother), rd_wr_same, hwidth]
  cases b <;> rfl

/-- R206: a heater code is shown, and sent to the module. -/
theorem heat_shows (s : State) (key : Nat) {code : Nat} (hcode : code ≤ 4095) : (s.heat key code).rd .optRingStatus_heater key = code ∧
    (s.heat key code).out =
      .ocl (key / 16) 1 (heaterPay (ringOnModule key) code) (downFrame 1 (heaterPay (ringOnModule key) code)) :: s.out := by
  have hwidth : Fld.width .optRingStatus_heater = 12 := rfl
  refine ⟨?_, ?_⟩
  · rw [State.heat, State.sendOcl, rd_emit, rd_when, rd_wr_other _ _ (.inl (by decide)), ite_self, rd_wr_same, hwidth]
    omega
  · rw [State.heat, State.sendOcl]
    cases decide (code < 256) || decide (3839 < code) <;> rfl

theorem clampCode_le (v : Int) : clampCode v ≤ 4095 := Nat.min_le_left ..

/-! The loop (R211). -/

/-- The filtered sample of a ring. -/
def loopSample (s : State) (key : Nat) : Int := (s.ringSt key).acc / 2 ^ 16

/-- The heater code that the loop sends. -/
def loopCode (s : State) (key : Nat) : Nat :=
  clampCode (s.rd .optRingStatus_heater key + (s.rd .optLoopCfg_kp 0 : Int) * (loopSample s key - (s.ringSt key).y) / 256 +
    (s.rd .optLoopCfg_ki 0 : Int) * loopSample s key / 256)

/-- A ring heated by its loop, before its lock is judged. -/
def loopHeated (s : State) (key up down : Nat) : State :=
  ((s.onRing key (fun x => { x with y := loopSample s key, up := up, down := down })).wr .optRingStatus_err key
    (loopSample s key % 65536).toNat).heat key (loopCode s key)

theorem loopHeated_shows (s : State) (key up down : Nat) : ((loopHeated s key up down).ringSt key).y = loopSample s key ∧
    (loopHeated s key up down).rd .optRingStatus_heater key = loopCode s key ∧
    Emits s (loopHeated s key up down) (.ocl (key / 16) 1 (heaterPay (ringOnModule key) (loopCode s key))
      (downFrame 1 (heaterPay (ringOnModule key) (loopCode s key)))) := by
  have hheated := heat_shows ((s.onRing key (fun x => { x with y := loopSample s key, up := up, down := down })).wr .optRingStatus_err key
    (loopSample s key % 65536).toNat) key (code := loopCode s key) (clampCode_le _)
  have hstored : Stores [.regs, .out] [.optRingStatus_err, .optRingStatus_heater, .optRingStatus_sweepDue]
      (s.onRing key (fun x => { x with y := loopSample s key, up := up, down := down })) (loopHeated s key up down) :=
    ((Stores.refl _ _ _).wr _ _ (by decide)).heat _ _ (by decide)
  refine ⟨?_, hheated.1, [], hheated.2⟩
  rw [hstored.ringSt (by decide), ringSt_onRing_same]

/-- R211, R212: the lock is judged once the ring is heated, and the port follows. -/
theorem doRingLoopUpdate_stores {lane : Fin 512} {rx : Bool} {s : State} (hon : s.off = false) (hsync : s.rd .oclStatus_sync (lane / 8) = 1)
    (hsweep : s.rd .optRingStatus_sweep (ringKey lane rx) = 0) (hstate : s.portState lane ≠ 5) : ∃ up down,
    Stores [.regs, .ports] [.optRingStatus_lock, .optChanStatus_txLock, .optChanStatus_rxLock, .corePortStatus_attempts]
      (loopHeated s (ringKey lane rx) up down) (doRingLoopUpdate lane rx s) := by
  have hgoes : (s.off || !s.flag .oclStatus_sync (lane / 8) || s.flag .optRingStatus_sweep (ringKey lane rx) || s.portState lane == 5) =
      false := by
    rw [hon, flag_def, flag_def, hsync, hsweep, beq_eq_false_iff_ne.mpr hstate]
    rfl
  simp only [doRingLoopUpdate, hgoes, Bool.false_eq_true, if_false]
  refine ⟨_, _, (((Stores.refl _ _ _).when (fun _ h => ?_) _).when (fun _ h => ?_) _).ringsChanged _ (by decide)⟩
  · exact h.setLock _ _ (by decide)
  · exact h.setLock _ _ (by decide)

/-! Pilots (R213). -/

/-- The strongest of a list's bins is one of them. -/
theorem argMax_lt {l : List Nat} (h : 0 < l.length) : argMax l < l.length := by
  refine List.foldlRecOn (motive := fun b : Nat × Nat => b.2 < l.length) l.zipIdx _ h (fun b hb x hx => ?_)
  split
  · exact List.snd_lt_of_mem_zipIdx hx
  · exact hb

/-- A window of a ring is judged by its 32 pilots. -/
theorem argMax_ringBins_lt (s : State) (key : Nat) : argMax (s.ringBins key) < 32 := by
  have hlength : (s.ringBins key).length = 32 := by rw [State.ringBins, pilotBins, List.length_map, List.length_range]
  have hlt := argMax_lt (l := s.ringBins key) (by omega)
  omega

/-- A window as it is shown, and counted for or against its line. -/
def windowShown (s : State) (key bad : Nat) : State :=
  (s.wr .optRingStatus_idLine key (argMax (s.ringBins key))).onRing key (fun x => { x with bad := bad })

theorem windowShown_shows (s : State) (key bad : Nat) : (windowShown s key bad).rd .optRingStatus_idLine key = argMax (s.ringBins key) ∧
    ((windowShown s key bad).ringSt key).bad = bad ∧ StoresAt [.opt, .regs] [.optRingStatus_idLine] key s (windowShown s key bad) := by
  have hwidth : Fld.width .optRingStatus_idLine = 5 := rfl
  refine ⟨?_, ?_, ((StoresAt.refl _ _ _ s).wr _ (by decide)).onRing _ _ (by decide)⟩
  · have hread : (windowShown s key bad).rd .optRingStatus_idLine key = argMax (s.ringBins key) % 2 ^ 5 := rd_wr_same ..
    exact hread.trans (Nat.mod_eq_of_lt (argMax_ringBins_lt s key))
  · rw [windowShown, ringSt_onRing_same]

/-- A ring on another line than its own: the event, and the record of it. -/
def wrongLineTold (s : State) (lane : Nat) (detail : List Nat) : State :=
  ((s.event .optChanStatus .optChanStatus_wrongLine lane).bumpOpt lane .wrongLine).fault 0x0030 1 detail

theorem rd_wrongLineTold (s : State) (lane : Nat) (detail : List Nat) :
    (wrongLineTold s lane detail).rd .optChanStatus_wrongLine lane = 1 := by
  rw [wrongLineTold, rd_fault _ _ _ _ _ (by decide), State.bumpOpt, rd_bumpN _ _ _ _ _ (by decide)]
  exact rd_event_flag _ _ _ (by decide) rfl

/-- R213: a ring that is parked begins a sweep, without its lock. -/
theorem beginSweep_shows (s : State) (key : Nat) : (s.beginSweep key).rd .optRingStatus_sweep key = 1 ∧
    (s.beginSweep key).rd .optRingStatus_lock key = 0 := by
  have hlock : Stores [.regs] [.optRingStatus_lock, .optChanStatus_txLock, .optChanStatus_rxLock] (s.wr .optRingStatus_sweep key 1)
      (s.beginSweep key) := (Stores.refl _ _ _).setLock _ _ (by decide)
  exact ⟨(hlock.regs _ _ (by decide)).trans (rd_wr_same ..), rd_setLock ..⟩

end Sys2Proof.Proofs

namespace Sys2Proof.Proofs
open Sys2Proof Sys2Proof.Machine Sys2Proof.Laws

section Window
variable {lane : Fin 512} {rx : Bool} {s : State} (hon : s.off = false) (hlock : s.rd .optRingStatus_lock (ringKey lane rx) = 1)
  (hstate : s.portState lane ≠ 5) (hlit : (s.ringSt (ringKey lane rx)).faint = false)
include hon hlock hstate hlit

theorem pilotWindow_judged : (s.off || !s.flag .optRingStatus_lock (ringKey lane rx) || s.portState lane == 5 ||
    (s.ringSt (ringKey lane rx)).faint) = false := by
  rw [hon, flag_def, hlock, beq_eq_false_iff_ne.mpr hstate, hlit]
  rfl

/-- R213: a window that names its line clears what counts against it; the first that does not is counted. -/
theorem doPilotWindow_shown (hcase : s.windowPasses (ringKey lane rx) = true ∨ (s.ringSt (ringKey lane rx)).bad = 0) :
    doPilotWindow lane rx s = windowShown s (ringKey lane rx) (if s.windowPasses (ringKey lane rx) = true then 0 else 1) := by
  have hjudged := pilotWindow_judged hon hlock hstate hlit
  simp only [doPilotWindow, hjudged, Bool.false_eq_true, if_false]
  by_cases hpasses : s.windowPasses (ringKey lane rx) = true
  · rw [if_pos hpasses, if_pos hpasses]
    rfl
  · rw [if_neg hpasses, if_neg hpasses, if_pos (hcase.resolve_left hpasses)]
    rfl

/-- R213: the second window in a row that names another line parks the ring, and begins a sweep. -/
theorem doPilotWindow_sweeps (hfails : s.windowPasses (ringKey lane rx) = false) (hbad : (s.ringSt (ringKey lane rx)).bad ≠ 0) :
    ∃ u detail park, doPilotWindow lane rx s = ((wrongLineTold u lane detail).heat (ringKey lane rx) park).beginSweep (ringKey lane rx) := by
  have hjudged := pilotWindow_judged hon hlock hstate hlit
  simp only [doPilotWindow, hjudged, hfails, hbad, Bool.false_eq_true, if_false]
  exact ⟨_, _, _, rfl⟩

end Window

/-- What a sweep that begins shows. -/
theorem sweepBegun_shows (u : State) (lane key park : Nat) (detail : List Nat) :
    (((wrongLineTold u lane detail).heat key park).beginSweep key).rd .optChanStatus_wrongLine lane = 1 ∧
      (((wrongLineTold u lane detail).heat key park).beginSweep key).rd .optRingStatus_sweep key = 1 ∧
      (((wrongLineTold u lane detail).heat key park).beginSweep key).rd .optRingStatus_lock key = 0 := by
  have hstored : Stores [.regs, .out] [.optRingStatus_heater, .optRingStatus_sweepDue, .optRingStatus_sweep, .optRingStatus_lock,
      .optChanStatus_txLock, .optChanStatus_rxLock] (wrongLineTold u lane detail)
      (((wrongLineTold u lane detail).heat key park).beginSweep key) :=
    (((Stores.refl _ _ _).heat _ _ (by decide)).wr _ _ (by decide)).setLock _ _ (by decide)
  exact ⟨(hstored.regs _ _ (by decide)).trans (rd_wrongLineTold ..), beginSweep_shows _ _⟩

/-! Sweeps (R211). -/

/-- A ring found on its line, heated by a code of its table or, where it has none, by one left open. -/
def ringFound (lane key : Nat) (found : Nat × State) : State :=
  ((((found.2.onRing key (fun x => { x with sweeps := 0, up := 0, down := 0 })).wr .optRingStatus_sweep key 0).heat key found.1).setLock key
    true).wr .optChanStatus_ringFailed lane 0

theorem ringFound_shows (lane key : Nat) (found : Nat × State) : (ringFound lane key found).rd .optRingStatus_sweep key = 0 ∧
    (ringFound lane key found).rd .optRingStatus_lock key = 1 ∧ (ringFound lane key found).rd .optChanStatus_ringFailed lane = 0 := by
  have hlocked : Stores [.regs, .out] [.optRingStatus_heater, .optRingStatus_sweepDue, .optRingStatus_lock, .optChanStatus_txLock,
      .optChanStatus_rxLock, .optChanStatus_ringFailed] ((found.2.onRing key (fun x => { x with sweeps := 0, up := 0, down := 0 })).wr
      .optRingStatus_sweep key 0) (ringFound lane key found) :=
    (((Stores.refl _ _ _).heat _ _ (by decide)).setLock _ _ (by decide)).wr _ _ (by decide)
  refine ⟨(hlocked.regs _ _ (by decide)).trans ?_, ?_, ?_⟩
  · rw [rd_wr_same, Nat.zero_mod]
  · exact (rd_wr_other _ _ (.inl (by decide))).trans (rd_setLock ..)
  · exact (rd_wr_same ..).trans (Nat.zero_mod _)

/-- A ring that is given up, as it is told. -/
def ringLost (s : State) (lane key : Nat) : State :=
  ((s.onRing key (fun x => { x with sweeps := 3 })).wr .optRingStatus_sweep key 0).wr .optChanStatus_ringFailed lane 1

section Sweep
variable {lane : Fin 512} {rx : Bool} {s : State} (hon : s.off = false) (hsweep : s.rd .optRingStatus_sweep (ringKey lane rx) = 1)
  (hcal : s.opt.cal ≠ some lane.val)
include hon hsweep hcal

theorem ringSweep_ends : (s.off || !s.flag .optRingStatus_sweep (ringKey lane rx) || s.opt.cal == some lane.val) = false := by
  rw [hon, flag_def, hsweep, beq_eq_false_iff_ne.mpr hcal]
  rfl

/-- R211: a sweep that finds its line locks the ring, and the port follows. -/
theorem doRingSweepComplete_found (hlit : s.ringDark (ringKey lane rx) = false) :
    ∃ found, doRingSweepComplete lane rx true s = (ringFound lane (ringKey lane rx) found).ringsChanged lane := by
  have hends := ringSweep_ends hon hsweep hcal
  simp only [doRingSweepComplete, hends, hlit, Bool.not_false, Bool.and_self, Bool.false_eq_true, if_false, if_true]
  exact ⟨_, rfl⟩

/-- R211: the third sweep in a row that does not find it gives the ring up. -/
theorem doRingSweepComplete_lost (hthird : (s.ringSt (ringKey lane rx)).sweeps = 2) :
    doRingSweepComplete lane rx false s = ((ringLost s lane (ringKey lane rx)).fault 0x0031 1 [lane]).ringsChanged lane := by
  have hends := ringSweep_ends hon hsweep hcal
  simp only [doRingSweepComplete, hends, hthird, Bool.false_and, Bool.false_eq_true, if_false]
  rfl

end Sweep

theorem ringLost_told (s : State) (lane key : Nat) : ((ringLost s lane key).fault 0x0031 1 [lane]).rd .optRingStatus_sweep key = 0 ∧
    ((ringLost s lane key).fault 0x0031 1 [lane]).rd .optChanStatus_ringFailed lane = 1 ∧
    (((ringLost s lane key).fault 0x0031 1 [lane]).ringSt key).sweeps = 3 ∧
    Recorded 0x0031 1 [lane] s ((ringLost s lane key).fault 0x0031 1 [lane]) := by
  have hopt : ((ringLost s lane key).fault 0x0031 1 [lane]).opt = (s.onRing key (fun x => { x with sweeps := 3 })).opt := by
    rw [fault_opt]
    rfl
  have hseq : (ringLost s lane key).rd .telFaultSeq_seq 0 = s.rd .telFaultSeq_seq 0 := by
    rw [ringLost, rd_wr_other _ _ (.inl (by decide)), rd_wr_other _ _ (.inl (by decide))]
    rfl
  refine ⟨?_, ?_, ?_, recorded_fault_of_seq hseq ..⟩
  · rw [rd_fault _ _ _ _ _ (by decide), ringLost, rd_wr_other _ _ (.inl (by decide)), rd_wr_same, Nat.zero_mod]
  · rw [rd_fault _ _ _ _ _ (by decide), ringLost, rd_wr_same]
    rfl
  · rw [State.ringSt, hopt, ← State.ringSt, ringSt_onRing_same]

@[simp] theorem ringSt_settled (s t : State) (key : Nat) : (s.settled t).ringSt key = t.ringSt key := rfl

theorem recorded_settled {code sev : Nat} {detail : List Nat} {s t : State} :
    Recorded code sev detail s (s.settled t) ↔ Recorded code sev detail s t := by
  rw [Recorded, settled_tel, ← Recorded]

/-- What the port that follows its rings stores. -/
theorem ringsChanged_stores (s : State) (n : Nat) : Stores [.regs, .ports] [.corePortStatus_attempts] s (s.ringsChanged n) :=
  (Stores.refl _ _ s).ringsChanged n (by decide)

theorem ringFound_port (lane key : Nat) (found : Nat × State) :
    ((ringFound lane key found).ringsChanged lane).rd .optRingStatus_sweep key = 0 ∧
      ((ringFound lane key found).ringsChanged lane).rd .optRingStatus_lock key = 1 ∧
      ((ringFound lane key found).ringsChanged lane).rd .optChanStatus_ringFailed lane = 0 := by
  have hstored := ringsChanged_stores (ringFound lane key found) lane
  rw [hstored.regs _ _ (by decide), hstored.regs _ _ (by decide), hstored.regs _ _ (by decide)]
  exact ringFound_shows lane key found

theorem ringLost_port (s : State) (lane key : Nat) :
    (((ringLost s lane key).fault 0x0031 1 [lane]).ringsChanged lane).rd .optRingStatus_sweep key = 0 ∧
      (((ringLost s lane key).fault 0x0031 1 [lane]).ringsChanged lane).rd .optChanStatus_ringFailed lane = 1 ∧
      ((((ringLost s lane key).fault 0x0031 1 [lane]).ringsChanged lane).ringSt key).sweeps = 3 ∧
      Recorded 0x0031 1 [lane] s (((ringLost s lane key).fault 0x0031 1 [lane]).ringsChanged lane) := by
  have hstored := ringsChanged_stores ((ringLost s lane key).fault 0x0031 1 [lane]) lane
  obtain ⟨hended, hfailed, hsweeps, hrecorded⟩ := ringLost_told s lane key
  rw [hstored.regs _ _ (by decide), hstored.regs _ _ (by decide), hstored.ringSt (by decide)]
  exact ⟨hended, hfailed, hsweeps, recorded_congr hrecorded rfl (by rw [hstored.tel (by decide)])⟩

/-! Channel settings (R208). -/

/-- The settings of a channel, as they are applied. -/
def chanStored (s : State) (n val : Nat) : State :=
  (((s.wr .optChanCfg_txLine n (bits val 23 5)).wr .optChanCfg_rxLine n (bits val 18 5)).wr .optChanCfg_txDither n (bits val 9 9)).wr
    .optChanCfg_rxDither n (bits val 0 9)

theorem chanStored_shows (s : State) (n val : Nat) : (chanStored s n val).rd .optChanCfg_txLine n = bits val 23 5 ∧
    (chanStored s n val).rd .optChanCfg_rxLine n = bits val 18 5 ∧ (chanStored s n val).rd .optChanCfg_txDither n = bits val 9 9 ∧
    (chanStored s n val).rd .optChanCfg_rxDither n = bits val 0 9 := by
  have htx : bits val 23 5 % 2 ^ Fld.width .optChanCfg_txLine = bits val 23 5 := Nat.mod_mod ..
  have hrx : bits val 18 5 % 2 ^ Fld.width .optChanCfg_rxLine = bits val 18 5 := Nat.mod_mod ..
  have htd : bits val 9 9 % 2 ^ Fld.width .optChanCfg_txDither = bits val 9 9 := Nat.mod_mod ..
  have hrd : bits val 0 9 % 2 ^ Fld.width .optChanCfg_rxDither = bits val 0 9 := Nat.mod_mod ..
  refine ⟨?_, ?_, ?_, ?_⟩ <;> simp [chanStored, rd_wr, htx, hrx, htd, hrd]

theorem doChanCfgWrite_refused {src : Src} {n : Fin 512} {val : BitVec 32} {s : State} (hacc : s.accepts src .optChanCfg n = true)
    (href : (s.ready src .optChanCfg n).chanRefused n (bits val.toNat 23 5) (bits val.toNat 18 5) (bits val.toNat 9 9)
      (bits val.toNat 0 9) = true) :
    doChanCfgWrite src n val s = (s.ready src .optChanCfg n).wr .optChanStatus_cfgRefused n 1 := by
  rw [doChanCfgWrite, onWrite_of_accepts hacc]
  exact if_pos href

/-- R208: settings that are applied are shown by their rings, and their dither is sent. -/
theorem doChanCfgWrite_stores {src : Src} {n : Fin 512} {val : BitVec 32} {s : State} (hacc : s.accepts src .optChanCfg n = true)
    (href : (s.ready src .optChanCfg n).chanRefused n (bits val.toNat 23 5) (bits val.toNat 18 5) (bits val.toNat 9 9)
      (bits val.toNat 0 9) = false) :
    Stores [.regs, .opt, .out] [.optRingStatus_tableCode] (chanStored (s.ready src .optChanCfg n) n val.toNat)
      (doChanCfgWrite src n val s) := by
  rw [doChanCfgWrite, onWrite_of_accepts hacc]
  simp only [href, Bool.false_eq_true, if_false]
  refine ((((Stores.refl _ _ _).wr _ _ (by decide)).wr _ _ (by decide)).when (fun _ h => ?_) _).when (fun _ h => ?_) _
  · exact (h.sendOcl _ _ _ (by decide)).phaseSync _ (by decide)
  · exact (h.sendOcl _ _ _ (by decide)).phaseSync _ (by decide)

/-! A lane that waits for its peer, and one that is asked for a fast retrain (R97, R217). -/

section Peer
variable {n : Fin 512} {s : State} (hstate : s.portState n = 1)
include hstate

/-- R217: where the time is over, the attempt begins and is not a fast one. -/
theorem doPeerWaitExpiry_begins (hpeer : (s.pst n).at_ = .peer) (hready : s.ringsReady n = true)
    (htime : s.passed (s.pst n).peerAt s.peerWait = true) :
    ((doPeerWaitExpiry n s).pst n).at_ = .attempt ∧ ((doPeerWaitExpiry n s).pst n).fast = false ∧
      ((doPeerWaitExpiry n s).pst n).tries = (s.pst n).tries + 1 := by
  have hdo : doPeerWaitExpiry n s = (s.setPst n (fun x => { x with fast := false })).beginAttempt n := if_pos ⟨hstate, hpeer, htime⟩
  have hready' : (s.setPst n (fun x => { x with fast := false })).ringsReady n = true := hready
  rw [hdo, pst_beginAttempt hready', pst_setPst_same]
  exact ⟨rfl, rfl, rfl⟩

/-- R217: where the peer is heard, the attempt begins as it was asked for. -/
theorem doPeerSignalArrival_begins (hpeer : (s.pst n).at_ = .peer) (hready : s.ringsReady n = true) :
    ((doPeerSignalArrival n s).pst n).at_ = .attempt ∧ ((doPeerSignalArrival n s).pst n).fast = (s.pst n).fast ∧
      ((doPeerSignalArrival n s).pst n).tries = (s.pst n).tries + 1 := by
  have hdo : doPeerSignalArrival n s = s.beginAttempt n := if_pos ⟨hstate, hpeer⟩
  rw [hdo, pst_beginAttempt hready]
  exact ⟨rfl, rfl, rfl⟩

/-- R97: a port between attempts waits for its peer at once. -/
theorem askFast_now (hbypass : s.isBypass n = true) (hattempt : (s.pst n).at_ ≠ .attempt) (hpowerup : (s.pst n).at_ ≠ .powerup) :
    s.askFast n = s.setPst n (fun x => { x with fast := true, at_ := .peer, peerAt := s.tb.mono }) := by
  simp only [State.askFast, hbypass, Bool.not_true, Bool.false_eq_true, if_false]
  exact if_pos ⟨hstate, hattempt, hpowerup⟩

omit hstate in
/-- R97: a port in an attempt remembers the request for its next one. -/
theorem askFast_later (hbypass : s.isBypass n = true) (hbusy : (s.pst n).at_ = .attempt ∨ (s.pst n).at_ = .powerup) :
    s.askFast n = s.setPst n (fun x => { x with nextFast := true }) := by
  simp only [State.askFast, hbypass, Bool.not_true, Bool.false_eq_true, if_false]
  exact if_neg (fun ⟨_, hattempt, hpowerup⟩ => hbusy.elim hattempt hpowerup)

end Peer

/-- Settles O43: what the loop sends, what windows and sweeps make of a ring, channel settings whole or not at all, and a lane that
waits for its peer. -/
theorem ringsAndChannelSettings : Obligations.RingsAndChannelSettings := by
  refine ⟨?loop, ?window, ?sweep, ?settings, ?peer⟩
  case loop =>
    intro lane rx s hon hsync hsweep hstate
    obtain ⟨up, down, hstored⟩ := doRingLoopUpdate_stores hon hsync hsweep hstate
    obtain ⟨hy, hheater, hsent⟩ := loopHeated_shows s (ringKey lane rx) up down
    refine completes_of_effect rfl rfl ⟨loopSample s (ringKey lane rx), loopCode s (ringKey lane rx), rfl, rfl, clampCode_le _, ?_, ?_, ?_⟩
    · exact (congrArg RingSt.y (hstored.ringSt (by decide) _)).trans hy
    · exact (hstored.regs _ _ (by decide)).trans hheater
    · rw [Emits, settled_out, hstored.out (by decide)]
      exact hsent
  case window =>
    rintro slot chan lane rx s rfl hon hlock hstate hlit
    refine ⟨fun hpasses => ?_, fun hfails hbad => ?_, fun hfails hbad => ?_⟩
    · have hdo := doPilotWindow_shown hon hlock hstate hlit (.inl hpasses)
      rw [if_pos hpasses] at hdo
      obtain ⟨hline, hclear, hstored⟩ := windowShown_shows s (ringKey (laneOf slot chan) rx) 0
      exact completes_of_effect rfl hdo ⟨hline, hclear, hstored.settled.parts, hstored.settled.place⟩
    · have hdo := doPilotWindow_shown hon hlock hstate hlit (.inr hbad)
      rw [hfails, if_neg (by decide)] at hdo
      obtain ⟨-, hcounted, hstored⟩ := windowShown_shows s (ringKey (laneOf slot chan) rx) 1
      exact completes_of_effect rfl hdo ⟨hcounted, hstored.settled.parts, hstored.settled.place⟩
    · obtain ⟨u, detail, park, hdo⟩ := doPilotWindow_sweeps hon hlock hstate hlit hfails hbad
      refine completes_of_effect rfl hdo ?_
      simp only [rd_settled]
      exact sweepBegun_shows ..
  case sweep =>
    intro lane rx s hon hsweep hcal
    refine ⟨fun hlit => ?_, fun hthird => ?_⟩
    · obtain ⟨found, hdo⟩ := doRingSweepComplete_found hon hsweep hcal hlit
      refine completes_of_effect rfl hdo ?_
      simp only [rd_settled]
      exact ringFound_port lane (ringKey lane rx) found
    · refine completes_of_effect rfl (doRingSweepComplete_lost hon hsweep hcal hthird) ?_
      simp only [rd_settled, ringSt_settled, recorded_settled]
      exact ringLost_port s lane (ringKey lane rx)
  case settings =>
    rintro src n val s u hacc rfl
    refine ⟨fun href => completes_of_effect rfl (doChanCfgWrite_refused hacc href) ?_, fun href => completes_of_effect rfl rfl ?_⟩
    · have hstored := ((StoresAt.refl [.regs] [.optChanStatus_cfgRefused] n (s.ready src .optChanCfg n)).wr
        (f := .optChanStatus_cfgRefused) 1 (by decide)).settled
      rw [settled_ready s src .optChanCfg n]
      refine ⟨?_, hstored.parts, hstored.place⟩
      rw [rd_settled, rd_wr_same]
      rfl
    · have hstored := doChanCfgWrite_stores hacc href
      have hwritten : OnlyParts [.regs, .opt, .out] (s.ready src .optChanCfg n) (chanStored (s.ready src .optChanCfg n) n val.toNat) :=
        onlyParts_trans (onlyParts_trans (onlyParts_trans (onlyParts_wr (by simp) ..) (onlyParts_wr (by simp) ..)) (onlyParts_wr (by simp) ..))
          (onlyParts_wr (by simp) ..)
      obtain ⟨htx, hrx, htd, hrd⟩ := chanStored_shows (s.ready src .optChanCfg n) n val.toNat
      rw [settled_ready s src .optChanCfg n]
      exact ⟨(hstored.regs _ _ (by decide)).trans htx, (hstored.regs _ _ (by decide)).trans hrx, (hstored.regs _ _ (by decide)).trans htd,
        (hstored.regs _ _ (by decide)).trans hrd, onlyParts_settled (onlyParts_trans hwritten hstored.parts)⟩
  case peer =>
    intro n s hstate
    refine ⟨fun hpeer hready => ⟨fun htime => completes_of_effect rfl rfl ?_, completes_of_effect rfl rfl ?_⟩,
      fun hbypass hattempt hpowerup => completes_of_effect rfl (askFast_now hstate hbypass hattempt hpowerup) ?_,
      fun hbypass hbusy => completes_of_effect rfl (askFast_later hbypass hbusy) ?_⟩
    · rw [pst_settled]
      exact doPeerWaitExpiry_begins hstate hpeer hready (decide_eq_true htime)
    · rw [pst_settled]
      exact doPeerSignalArrival_begins hstate hpeer hready
    · rw [pst_settled, pst_setPst_same]
      exact ⟨rfl, rfl, onlyParts_settled (onlyParts_setPst (by simp) ..)⟩
    · rw [pst_settled, pst_setPst_same]
      exact ⟨rfl, onlyParts_settled (onlyParts_setPst (by simp) ..)⟩

end Sys2Proof.Proofs

/-! Packets that the part originates and commands on the tables: the components and the register fields that each stores. -/

namespace Sys2Proof.Proofs
open Sys2Proof Sys2Proof.Machine Sys2Proof.Laws

/-- The components that the admission of a packet may change. -/
def packetParts : List Part := [.regs, .tel, .sw, .tab, .freeCtr]

/-- The components that a change of a table entry may change: a service entry answers requests, measures and wakes its region, and
a reload makes a record. -/
def tableParts : List Part := [.regs, .tel, .mgmt, .flash, .sw, .tab, .svc, .pwr, .chip, .out, .freeCtr]

/-- The register fields that it may change. -/
def tableFields : List Fld := faultFields ++ svcFields ++ poolFields

/-- A free value drawn changes `freeCtr` alone. -/
theorem onlyParts_free {l : List Part} (hl : .freeCtr ∈ l) (s : State) (tag n : Nat) : OnlyParts l s (s.free tag n).2 := by
  refine ⟨rfl, fun p hp => ?_⟩
  cases p with
  | freeCtr => exact absurd hl hp
  | _ => rfl

/-- A change of the services changes `svc` alone. -/
theorem onlyParts_onSvc {l : List Part} (hl : .svc ∈ l) (s : State) (g : Svc → Svc) : OnlyParts l s (s.onSvc g) := by
  refine ⟨rfl, fun p hp => ?_⟩
  cases p with
  | svc => exact absurd hl hp
  | _ => rfl

/-- A change of the power manager changes `pwr` alone. -/
theorem onlyParts_onPwr {l : List Part} (hl : .pwr ∈ l) (s : State) (g : Pwr → Pwr) : OnlyParts l s (s.onPwr g) := by
  refine ⟨rfl, fun p hp => ?_⟩
  cases p with
  | pwr => exact absurd hl hp
  | _ => rfl

/-- A change of the chip level changes `chip` alone. -/
theorem onlyParts_onChip {l : List Part} (hl : .chip ∈ l) (s : State) (g : Chip → Chip) : OnlyParts l s (s.onChip g) := by
  refine ⟨rfl, fun p hp => ?_⟩
  cases p with
  | chip => exact absurd hl hp
  | _ => rfl

/-- A fault record changes the registers, the telemetry, the rings of the host, the flash log and what leaves the part. -/
theorem onlyParts_fault (s : State) (code sev : Nat) (detail : List Nat) :
    OnlyParts [.regs, .tel, .mgmt, .flash, .out] s (s.fault code sev detail) := by
  refine ⟨fault_pending .., fun p hp => ?_⟩
  cases p with
  | regs | tel | mgmt | flash | out => exact absurd (by decide) hp
  | _ => simp [Part.same]

namespace Stores
variable {ps qs : List Part} {fs gs : List Fld} {s t u : State}

theorem trans (hst : Stores ps fs s t) (htu : Stores ps fs t u) : Stores ps fs s u :=
  ⟨onlyParts_trans hst.parts htu.parts, fun f i hf => (htu.regs f i hf).trans (hst.regs f i hf)⟩

/-- More may be named. -/
theorem mono (h : Stores ps fs s t) (hp : ps ⊆ qs) (hf : fs ⊆ gs) : Stores qs gs s t :=
  ⟨onlyParts_mono h.parts hp, fun f i hg => h.regs f i (fun hfs => hg (hf hfs))⟩

/-- Steps that carry a second component along. -/
theorem foldl_fst {α β : Type} {g : State × β → α → State × β} {x : State × β} (h : Stores ps fs s x.1)
    (hg : ∀ x a, Stores ps fs s x.1 → Stores ps fs s (g x a).1) (l : List α) : Stores ps fs s (l.foldl g x).1 := by
  induction l generalizing x with
  | nil => exact h
  | cons a l ih => exact ih (hg x a h)

theorem onSw (h : Stores ps fs s t) (g : Sw → Sw) (hp : .sw ∈ ps := by decide) : Stores ps fs s (t.onSw g) :=
  h.aside (onlyParts_onSw hp t g) rfl

theorem onTab (h : Stores ps fs s t) (g : Tab → Tab) (hp : .tab ∈ ps := by decide) : Stores ps fs s (t.onTab g) :=
  h.aside (onlyParts_onTab hp t g) rfl

theorem onSvc (h : Stores ps fs s t) (g : Svc → Svc) (hp : .svc ∈ ps := by decide) : Stores ps fs s (t.onSvc g) :=
  h.aside (onlyParts_onSvc hp t g) rfl

theorem free (h : Stores ps fs s t) (tag n : Nat) (hp : .freeCtr ∈ ps := by decide) : Stores ps fs s (t.free tag n).2 :=
  h.aside (onlyParts_free hp t tag n) rfl

/-- R421: a counter is kept in the telemetry, and a traffic counter that wraps sets its TEL_WRAP bit. -/
theorem bumpN (h : Stores ps fs s t) (g i n : Nat)
    (hp : .tel ∈ ps ∧ .regs ∈ ps ∧ .telWrap_wrap ∈ fs := by decide) : Stores ps fs s (t.bumpN g i n) := by
  obtain ⟨htel, hregs, hwrap⟩ := hp
  have hcount := fun v => h.aside (onlyParts_onTel htel t (fun w => { w with cnt := sset 0 w.cnt (Nat.pair g i) v })) rfl
  simp only [State.bumpN]
  split
  · exact h
  · split
    · exact (hcount _).wr _ _ ⟨hwrap, hregs⟩
    · exact hcount _

/-! The admission of a packet (R119, R133, R135, R137). -/

section Packet
variable (h : Stores packetParts poolFields s t)
include h

theorem bumpPort (n : Nat) (e : PortEv) : Stores packetParts poolFields s (t.bumpPort n e) := h.when (fun _ h => h.bumpN ..) _

theorem bumpTab (e : TabEv) (n : Nat) : Stores packetParts poolFields s (t.bumpTab e n) := h.bumpN ..

theorem poolSub (k n : Nat) : Stores packetParts poolFields s (t.poolSub k n) := h.wr _ _ (by decide)

theorem updStops (k : Nat) : Stores packetParts poolFields s (t.updStops k) := by
  obtain ⟨_, _, hmoved⟩ := StopsMoved.updStops t k
  rw [hmoved]
  exact h.onSw _

theorem enqueue (p : Pkt) : Stores packetParts poolFields s (t.enqueue p) := by
  simp only [State.enqueue, State.setVoq]
  exact (h.onSw _).onSw _

theorem spillPacket (p : Pkt) : Stores packetParts poolFields s (t.spillPacket p).1 := by
  simp only [State.spillPacket]
  split
  · exact (h.free ..).bumpN ..
  · exact (((h.free ..).onSw _).wr _ _ (by decide)).enqueue _

theorem admitPkt (p : Pkt) : Stores packetParts poolFields s (t.admitPkt p).1 := by
  simp only [State.admitPkt]
  repeat' split
  · exact h.spillPacket p
  · dsimp only
    exact (((h.onSw _).poolSub ..).enqueue _).updStops _
  · dsimp only
    exact ((h.poolSub ..).enqueue _).updStops _
  · exact h.spillPacket p
  · exact h.bumpN ..

theorem segIn (pid n : Nat) : Stores packetParts poolFields s (t.segIn pid n) := by
  simp only [State.segIn, State.onPkt]
  split
  · exact (h.onSw _).onSw _
  · exact h.onSw _

theorem admitWhole (p : Pkt) : Stores packetParts poolFields s (t.admitWhole p) := by
  have hadmit := h.admitPkt { p with whole := true }
  simp only [State.admitWhole]
  split <;> rename_i heq <;> rw [heq] at hadmit
  · exact hadmit.segIn ..
  · exact hadmit

theorem puntToken : Stores packetParts poolFields s t.puntToken.1 := by
  have hrefresh : Stores packetParts poolFields s t.puntRefresh := by
    simp only [State.puntRefresh]
    exact h.onSw _
  have htaken := fun g => hrefresh.onSw g
  have hcounted := hrefresh.bumpTab .puntDrop 1
  simp only [State.puntToken]
  repeat' split
  all_goals simp only [htaken, hcounted]

theorem injectAt (k : Nat) (b : Body) (cls : Nat) (v : Verdict) (puntPort itime : Nat) :
    Stores packetParts poolFields s (t.injectAt k b cls v puntPort itime) := by
  simp only [State.injectAt]
  split
  · exact h
  · split
    · split
      · exact h.puntToken.admitWhole _
      · exact h.puntToken
    · exact h.admitWhole _

/-! The lookup (R105, R108 to R111, R124). -/

theorem pickMember (g blk c : Nat) (spray : Bool) (input : List Byte) (ms : List (Nat × Nat × Nat)) :
    Stores packetParts poolFields s (t.pickMember g blk c spray input ms).1 := by
  have hspray : ∀ x, Stores packetParts poolFields s { t with tab := { t.tab with spray := x } } :=
    fun x => h.onTab (fun w => { w with spray := x })
  simp only [State.pickMember]
  repeat' split
  all_goals simp only [h, hspray]

theorem bumpIn (port : Option Nat) (e : PortEv) : Stores packetParts poolFields s (t.bumpIn port e) := by
  cases port with
  | none => exact h
  | some n => exact h.bumpPort n e

theorem toGroup (k blk c g : Nat) (eth spray : Bool) (input : List Byte) :
    Stores packetParts poolFields s (t.toGroup k blk c g eth spray input).1 := by
  simp only [State.toGroup]
  repeat' split
  all_goals simp only [h, bumpTab, pickMember]

theorem dtAction (k blk : Nat) (port : Option Nat) (p : Packet) : Stores packetParts poolFields s (t.dtAction k blk port p).1 := by
  simp only [State.dtAction]
  repeat' split
  all_goals simp only [h, bumpTab, bumpIn, toGroup]

theorem lookup (k blk : Nat) (port : Option Nat) (p : Packet) : Stores packetParts poolFields s (t.lookup k blk port p).1 := by
  simp only [State.lookup]
  repeat' split
  · exact h
  · exact h.bumpIn ..
  · exact h.bumpN ..
  · exact h.bumpTab ..
  · exact h.bumpN ..
  · exact h
  · exact h.dtAction ..

theorem originate (k : Nat) (p : Packet) : Stores packetParts poolFields s (t.originate k p) := by
  simp only [State.originate]
  split
  · exact h
  · exact (h.lookup ..).injectAt ..

end Packet
end Stores
end Sys2Proof.Proofs

namespace Sys2Proof.Proofs
open Sys2Proof Sys2Proof.Machine Sys2Proof.Laws

/-! Commands on the tables: what they store, and the commands in progress (R123, R125 to R129). -/

/-- One command's turn in the order of the commands: it takes effect where none before it waits and it need not wait itself. -/
def pumpStep (acc : State × List TblJob × Bool) (j : TblJob) : State × List TblJob × Bool :=
  if acc.2.2 then (acc.1, acc.2.1 ++ [j], true)
  else if j.done.isSome then (acc.1, acc.2.1 ++ [j], false)
  else if acc.1.jobWaits j then (acc.1, acc.2.1 ++ [j], true)
  else ((acc.1.tblAct j.by_ j.cmd).1, acc.2.1 ++ [{ j with done := some (acc.1.tblAct j.by_ j.cmd).2 }], false)

theorem tblPump_eq (s : State) :
    s.tblPump = (s.tab.jobs.foldl pumpStep (s, [], false)).1.onTab
      (fun w => { w with jobs := (s.tab.jobs.foldl pumpStep (s, [], false)).2.1 }) := rfl

/-- A turn keeps the command in its place. -/
theorem pumpStep_cmds (acc : State × List TblJob × Bool) (j : TblJob) :
    (pumpStep acc j).2.1.map (·.cmd) = acc.2.1.map (·.cmd) ++ [j.cmd] := by
  simp only [pumpStep]
  repeat' split
  all_goals simp only [List.map_append, List.map_cons, List.map_nil]

theorem foldl_pumpStep_cmds (js : List TblJob) (acc : State × List TblJob × Bool) :
    (js.foldl pumpStep acc).2.1.map (·.cmd) = acc.2.1.map (·.cmd) ++ js.map (·.cmd) := by
  induction js generalizing acc with
  | nil => simp
  | cons j js ih => rw [List.foldl_cons, ih, pumpStep_cmds, List.map_cons, List.append_assoc, List.singleton_append]

/-- R129: that commands take effect removes none of them. -/
theorem tblPump_cmds (s : State) : s.tblPump.tab.jobs.map (·.cmd) = s.tab.jobs.map (·.cmd) :=
  (foldl_pumpStep_cmds s.tab.jobs (s, [], false)).trans (List.nil_append _)

namespace Stores
variable {s t : State}

section Table
variable (h : Stores tableParts tableFields s t)
include h

/-- What the admission of a packet stores, a change of a table may store. -/
theorem admission {u : State} (hpacket : Stores packetParts poolFields t u) : Stores tableParts tableFields s u :=
  h.trans (hpacket.mono (by decide) (by decide))

theorem fault (code sev : Nat) (detail : List Nat) : Stores tableParts tableFields s (t.fault code sev detail) := by
  have hfields : faultFields ⊆ tableFields := by decide
  exact h.trans ⟨onlyParts_mono (onlyParts_fault ..) (by decide), fun _ i hf => rd_fault _ _ _ _ i (fun hmem => hf (hfields hmem))⟩

/-! Service entries (R177, R291, R401, R414). -/

theorem dropReq (n slot : Nat) : Stores tableParts tableFields s (t.dropReq n slot) := by
  simp only [State.dropReq]
  split
  · exact h
  · split
    · exact h.onSvc _
    · exact h.onSvc _

theorem unbind (sv : Nat) : Stores tableParts tableFields s (t.unbind sv) :=
  h.foldl (fun _ _ h => h.foldl (fun t _ h => (h.admission ((refl packetParts poolFields t).originate ..)).dropReq ..) _) _

theorem svcShow (sv : Nat) (ready building : Bool) : Stores tableParts tableFields s (t.svcShow sv ready building) :=
  (((h.wr _ _ (by decide)).wr _ _ (by decide)).wr _ _ (by decide)).wr _ _ (by decide)

theorem measureSvc (e : Nat) : Stores tableParts tableFields s (t.measureSvc e) :=
  h.aside (onlyParts_onChip (by decide) t (fun c => { c with m4 := (t.measureSvc e).chip.m4 })) rfl

theorem wakeRegion (k : Nat) : Stores tableParts tableFields s (t.wakeRegion k) := by
  simp only [State.wakeRegion]
  split
  · exact h.aside (onlyParts_onPwr (by decide) t (fun w => { w with waking := w.waking ++ [k] })) rfl
  · exact h

theorem goodAgain (tb i : Nat) : Stores tableParts tableFields s (t.goodAgain tb i) := h.onTab _

theorem setSvcEntry (sv e : Nat) : Stores tableParts tableFields s (t.setSvcEntry sv e) := by
  have hset : Stores tableParts tableFields s ((((t.onTab (fun w => { w with svc := sset 0 w.svc sv e })).goodAgain 7 sv).onSvc
      (fun w => { w with adm := kdel w.adm sv })).when (seLive e) (fun s => s.measureSvc e)) :=
    (((h.onTab _).goodAgain ..).onSvc _).when (fun _ h => h.measureSvc e) _
  simp only [State.setSvcEntry]
  repeat' split
  · exact (hset.svcShow ..).when (fun _ h => h.unbind sv) _
  · exact hset.svcShow ..
  · exact hset.svcShow ..
  · exact (hset.svcShow ..).when (fun _ h => h.wakeRegion _) _

/-! The other tables (R120, R126). -/

theorem setLg (i v : Nat) : Stores tableParts tableFields s (t.setLg i v) := (h.onTab _).goodAgain ..

theorem setShadow (i e : Nat) : Stores tableParts tableFields s (t.setShadow i e) := by
  simp only [State.setShadow]
  split
  · exact (((h.onTab _).goodAgain ..).onTab _).goodAgain ..
  · exact (h.onTab _).goodAgain ..

theorem setLpm (i e : Nat) : Stores tableParts tableFields s (t.setLpm i e) := by
  have hslot : Stores tableParts tableFields s ((t.setTcam i e).setShadow i e) := (h.onTab _).setShadow ..
  simp only [State.setLpm]
  split
  · exact hslot.onTab _
  · exact hslot

theorem tblPut (tb i v : Nat) : Stores tableParts tableFields s (t.tblPut tb i v) := by
  simp only [State.tblPut]
  split
  · exact h.onTab (fun w => { w with dt := sset 0 w.dt i v })
  · exact h.setLg ..
  · exact h.setLpm ..
  · exact h.setShadow ..
  · exact (h.onTab _).goodAgain ..
  · exact h.onTab (fun w => { w with cgt := sset 0 w.cgt i v })
  · exact h.onTab (fun w => { w with ses := sset 0 w.ses i v })
  · exact h.setSvcEntry ..

/-! Reloads (R36, R123). -/

theorem doReload (tb i k : Nat) : Stores tableParts tableFields s (t.doReload tb i k) := by
  have hcount : Stores tableParts tableFields s (t.when (tb == 3) (fun s => s.bumpTab .tableEcc)) :=
    h.when (fun _ h => h.bumpN ..) _
  simp only [State.doReload]
  repeat' split
  · exact h
  · exact (hcount.onTab _).fault ..
  · exact ((hcount.tblPut ..).goodAgain ..).fault ..
  · exact ((hcount.tblPut ..).goodAgain ..).fault ..

theorem reloadAll : Stores tableParts tableFields s t.reloadAll := h.foldl (fun _ _ h => h.doReload ..) _

/-! The operations (Table 4.10). -/

theorem lpmInsert (e : Nat) : Stores tableParts tableFields s (t.lpmInsert e).1 := by
  simp only [State.lpmInsert]
  repeat' split
  · exact h.setLpm ..
  · exact h.setLpm ..
  · next x heq =>
    simp only [State.lpmRepack, Option.ite_none_left_eq_some, Option.some.injEq] at heq
    obtain ⟨-, rfl⟩ := heq
    exact (h.onTab _).foldl (fun _ _ h => h.setLpm ..) _
  · exact h

theorem lpmDelete (e : Nat) : Stores tableParts tableFields s (t.lpmDelete e).1 := by
  simp only [State.lpmDelete]
  split
  · dsimp only
    exact h.setLpm ..
  · exact h

theorem learnFlush (tb : Nat) (all : Bool) (target : Nat) : Stores tableParts tableFields s (t.learnFlush tb all target).1 := by
  simp only [State.learnFlush]
  split
  · dsimp only
    exact h.onTab _
  · dsimp only
    exact h.onTab _

theorem tblWriteEntry (key tb i data : Nat) : Stores tableParts tableFields s (t.tblWriteEntry key tb i data).1 := by
  simp only [State.tblWriteEntry]
  repeat' split
  · exact h
  · exact h
  · dsimp only
    exact h.onTab _
  · exact ((h.onTab _).setLg ..).setLg ..
  · exact h.setLg ..
  · exact h.tblPut ..

theorem tblDo (key : Nat) (c : TblCmd) : Stores tableParts tableFields s (t.tblDo key c).1 := by
  simp only [State.tblDo]
  split
  · split <;> exact h
  · exact h.tblWriteEntry ..
  · split
    · exact h
    · exact h.tblPut ..
  · exact h
  · split
    · exact h
    · exact h.lpmInsert _
  · exact h.lpmDelete _
  · exact h.learnFlush ..

theorem noteChange (was : State) (c : TblCmd) : Stores tableParts tableFields s (t.noteChange was c) := by
  simp only [State.noteChange]
  exact h.onTab _

/-- R126 to R128: a command that takes effect stores no more than an entry's change does. -/
theorem tblAct (key : Nat) (c : TblCmd) : Stores tableParts tableFields s (t.tblAct key c).1 := by
  have hheld : Stores tableParts tableFields s
      (if t.reloadAll.discards key c then t.reloadAll.dropHeld key else t.reloadAll) := by
    split
    · exact h.reloadAll.onTab _
    · exact h.reloadAll
  simp only [State.tblAct]
  split
  · exact h.reloadAll
  · split
    · exact hheld
    · split
      · exact hheld
      · exact (hheld.tblDo ..).noteChange ..

theorem tblPump : Stores tableParts tableFields s t.tblPump := by
  rw [tblPump_eq]
  refine (foldl_fst h (fun x j hx => ?_) _).onTab _
  simp only [pumpStep]
  repeat' split
  · exact hx
  · exact hx
  · exact hx
  · exact hx.tblAct ..

end Table
end Stores
end Sys2Proof.Proofs

namespace Sys2Proof.Proofs
open Sys2Proof Sys2Proof.Machine Sys2Proof.Laws

/-! A command joins those in progress (R125). -/

/-- The fields of TBL_CMD. -/
def tblCmdFields : List Fld := [.tblCmd_op, .tblCmd_table, .tblCmd_all, .tblCmd_index, .tblCmd_start]

/-- One set of the TBL_ registers shows a command, with START 1. -/
def cmdShown (s : State) (n : Nat) (c : TblCmd) : State :=
  ((((s.wr .tblCmd_op n c.op).wr .tblCmd_table n c.table).wr .tblCmd_all n (b2n c.all)).wr .tblCmd_index n c.index).wr .tblCmd_start n 1

/-- The parts of a command fit their fields of TBL_CMD. -/
structure FitsTblCmd (c : TblCmd) : Prop where
  op : c.op < 8
  table : c.table < 8
  index : c.index < 2 ^ 18

theorem cmdShown_stores (s : State) (n : Nat) (c : TblCmd) : Stores [.regs] tblCmdFields s (cmdShown s n c) :=
  (((((Stores.refl _ _ s).wr _ _ (by decide)).wr _ _ (by decide)).wr _ _ (by decide)).wr _ _ (by decide)).wr _ _ (by decide)

theorem cmdShown_shows (s : State) (n : Nat) {c : TblCmd} (h : FitsTblCmd c) : (cmdShown s n c).rd .tblCmd_start n = 1 ∧
    (cmdShown s n c).rd .tblCmd_op n = c.op ∧ (cmdShown s n c).rd .tblCmd_table n = c.table ∧
    (cmdShown s n c).rd .tblCmd_index n = c.index ∧ (cmdShown s n c).rd .tblCmd_all n = b2n c.all := by
  have hall : b2n c.all < 2 := by cases c.all <;> decide
  simp only [cmdShown, rd_wr, reduceCtorEq, false_and, if_false, true_and, if_true]
  exact ⟨rfl, Nat.mod_eq_of_lt h.op, Nat.mod_eq_of_lt h.table, Nat.mod_eq_of_lt h.index, Nat.mod_eq_of_lt hall⟩

theorem tblData_of_rd {s t : State} (h : ∀ i, t.rd .tblData_data i = s.rd .tblData_data i) (n : Nat) : t.tblData n = s.tblData n := by
  simp only [State.tblData, h]

/-- R125: a write of TBL_CMD with START 1 shows the command and starts it, with the data that TBL_DATA holds. -/
theorem tblCommand_eq {op : Nat} (hop : op ≠ 7) (s : State) (src : Src) (table index : Nat) (all : Bool) {d : Nat}
    (hd : d = s.tblData (tblInst src)) : s.tblCommand src op table index all =
      (cmdShown s (tblInst src) ⟨op, table, index, all, d⟩).tblStart (tblInst src) (srcFn src) ⟨op, table, index, all, d⟩ none := by
  have hdata := tblData_of_rd (fun i => (cmdShown_stores s (tblInst src) ⟨op, table, index, all, d⟩).regs .tblData_data i (by decide))
    (tblInst src)
  rw [State.tblCommand, if_neg hop, hd, ← hdata]
  rfl

/-- A command that starts stands behind the others, and TBL_CMD goes on showing it. -/
theorem tblStart_queued (s : State) (n : Nat) (fn seq : Option Nat) {c : TblCmd} (h : FitsTblCmd c) :
    s.tblQueued n c ((cmdShown s n c).tblStart n fn c seq) := by
  have hstored : Stores tableParts tableFields (cmdShown s n c) ((cmdShown s n c).tblStart n fn c seq) :=
    ((Stores.refl _ _ _).onTab _).tblPump
  have hkept : ∀ f ∈ tblCmdFields, ((cmdShown s n c).tblStart n fn c seq).rd f n = (cmdShown s n c).rd f n := by
    have hother : ∀ f ∈ tblCmdFields, f ∉ tableFields := by decide
    exact fun f hf => hstored.regs f n (hother f hf)
  obtain ⟨hstart, hop, htable, hindex, hall⟩ := cmdShown_shows s n h
  refine ⟨(hkept _ (by decide)).trans hstart, (hkept _ (by decide)).trans hop, (hkept _ (by decide)).trans htable,
    (hkept _ (by decide)).trans hindex, (hkept _ (by decide)).trans hall, ?_⟩
  rw [State.tblStart, tblPump_cmds, onTab_tab, List.map_append, (cmdShown_stores s n c).parts.2 .tab (by decide)]
  rfl

/-- R125: an accepted command row queues its command. -/
theorem tblRow_queued {s : State} {src : Src} (hacc : s.accepts src .tblCmd (tblInst src) = true) {op : Nat} (hop : op < 7)
    (table : BitVec 3) (index : BitVec 18) (all : Bool) {d : Nat} (hd : d = (s.ready src .tblCmd (tblInst src)).tblData (tblInst src)) :
    (s.ready src .tblCmd (tblInst src)).tblQueued (tblInst src) ⟨op, table.toNat, index.toNat, all, d⟩
      (s.settled (s.tblRow src op table index all)) := by
  rw [State.tblRow, onWrite_of_accepts hacc, tblCommand_eq (Nat.ne_of_lt hop) _ _ _ _ _ hd]
  exact tblStart_queued _ _ _ _ ⟨Nat.lt_succ_of_lt hop, table.isLt, index.isLt⟩

/-! The oldest command ends (R129). -/

/-- The first `k` words of one TBL_DATA hold an entry. -/
def dataShown (s : State) (n d k : Nat) : State :=
  (List.range k).foldl (fun s i => s.wr .tblData_data (16 * n + i) (bits d (32 * i) 32)) s

theorem rd_dataShown (s : State) (n d : Nat) {k i : Nat} (hi : i < k) :
    (dataShown s n d k).rd .tblData_data (16 * n + i) = bits d (32 * i) 32 := by
  have hwidth : Fld.width .tblData_data = 32 := rfl
  induction k with
  | zero => exact absurd hi (Nat.not_lt_zero i)
  | succ k ih =>
    have hlast : dataShown s n d (k + 1) = (dataShown s n d k).wr .tblData_data (16 * n + k) (bits d (32 * k) 32) := by
      simp only [dataShown, List.range_succ, List.foldl_append, List.foldl_cons, List.foldl_nil]
    rw [hlast]
    obtain hlt | rfl := Nat.lt_succ_iff_lt_or_eq.mp hi
    · rw [rd_wr_other _ _ (.inr (by omega)), ih hlt]
    · rw [rd_wr_same, hwidth, bits, Nat.mod_mod]

/-- The fields in which a command's answer is shown. -/
def answeredFields : List Fld := [.tblCmd_start, .tblStatus_result, .tblStatus_rindex, .tblData_data]

/-- RESULT shows, START reads 0, and RINDEX shows where the answer has one. -/
def resultShown (s : State) (n : Nat) (r : TblRes) : State :=
  match r.rindex with
  | some i => ((s.wr .tblStatus_result n r.result).wr .tblCmd_start n 0).wr .tblStatus_rindex n i
  | none => (s.wr .tblStatus_result n r.result).wr .tblCmd_start n 0

theorem tblShow_eq (s : State) (n : Nat) (r : TblRes) : s.tblShow n r =
    match r.data with
    | some d => dataShown (resultShown s n r) n d 16
    | none => resultShown s n r := rfl

theorem dataShown_stores (s : State) (n d k : Nat) : Stores [.regs] [.tblData_data] s (dataShown s n d k) :=
  (Stores.refl _ _ s).foldl (fun _ _ h => h.wr _ _ (by decide)) _

theorem resultShown_stores (s : State) (n : Nat) (r : TblRes) : Stores [.regs] answeredFields s (resultShown s n r) := by
  have hresult : Stores [.regs] answeredFields s ((s.wr .tblStatus_result n r.result).wr .tblCmd_start n 0) :=
    ((Stores.refl _ _ s).wr _ _ (by decide)).wr _ _ (by decide)
  simp only [resultShown]
  split
  · exact hresult.wr _ _ (by decide)
  · exact hresult

theorem tblShow_stores (s : State) (n : Nat) (r : TblRes) : Stores [.regs] answeredFields s (s.tblShow n r) := by
  rw [tblShow_eq]
  split
  · exact (resultShown_stores s n r).trans ((dataShown_stores ..).mono (by decide) (by decide))
  · exact resultShown_stores s n r

theorem resultShown_shows (s : State) (n : Nat) {r : TblRes} (h : r.result < 16) :
    (resultShown s n r).rd .tblCmd_start n = 0 ∧ (resultShown s n r).rd .tblStatus_result n = r.result := by
  simp only [resultShown]
  split <;> simp only [rd_wr, reduceCtorEq, false_and, if_false, true_and, if_true] <;> exact ⟨rfl, Nat.mod_eq_of_lt h⟩

/-- R129, R131: what the registers show of an answer. -/
theorem tblShow_shows (s : State) (n : Nat) {r : TblRes} (h : r.result < 16) :
    (s.tblShow n r).rd .tblCmd_start n = 0 ∧ (s.tblShow n r).rd .tblStatus_result n = r.result ∧
      ∀ d i : Nat, r.data = some d → i < 16 → (s.tblShow n r).rd .tblData_data (16 * n + i) = bits d (32 * i) 32 := by
  obtain ⟨hstart, hresult⟩ := resultShown_shows s n h
  rw [tblShow_eq]
  cases r.data with
  | none => exact ⟨hstart, hresult, fun d i hd => nomatch hd⟩
  | some d =>
    have hstored := dataShown_stores (resultShown s n r) n d 16
    refine ⟨(hstored.regs _ _ (by decide)).trans hstart, (hstored.regs _ _ (by decide)).trans hresult, ?_⟩
    rintro _ i ⟨⟩ hi
    exact rd_dataShown _ n d hi

/-- R129: a command that has taken effect and stands alone ends, and its registers show the answer. -/
theorem tblComplete_shown {s : State} {j : TblJob} {r : TblRes} (hjobs : s.tab.jobs = [j]) (hdone : j.done = some r) (hby : j.by_ < 2) :
    s.tblComplete = (s.onTab (fun w => { w with jobs := [] })).tblShow j.by_ r := by
  have hpump : s.tblPump = s.onTab (fun w => { w with jobs := [j] }) := by
    simp only [tblPump_eq, hjobs, List.foldl_cons, List.foldl_nil, pumpStep, hdone, Option.isSome_some, Bool.false_eq_true, if_false,
      if_true, List.nil_append]
  simp only [State.tblComplete, hpump, onTab_tab, hdone, hby, if_true]
  rfl

/-! Learning (R113 to R115, Table 4.5). -/

/-- Bits of a mask that stand in one run are those of one field. -/
theorem and_run (v lo w : Nat) : v &&& ((2 ^ w - 1) * 2 ^ lo) = bits v lo w * 2 ^ lo := by
  apply Nat.eq_of_testBit_eq
  intro i
  simp only [bits, Nat.testBit_and, Nat.testBit_mul_two_pow, Nat.testBit_mod_two_pow, Nat.testBit_div_two_pow, Nat.testBit_two_pow_sub_one]
  by_cases hi : lo ≤ i
  · rw [Nat.sub_add_cancel hi, Bool.and_comm]
    simp [hi]
  · simp [hi]

/-- To clear the mask of a field is to take the field away. -/
theorem clearMask_run (v lo w : Nat) : clearMask v ((2 ^ w - 1) * 2 ^ lo) = v - bits v lo w * 2 ^ lo := by
  rw [clearMask, and_run]

/-- An entry that has moved holds the MOVES and the TARGET given. -/
theorem dtMoved_fields (e : Nat) {moves target : Nat} (hmoves : moves < 16) (htarget : target < 2 ^ 18) :
    bits (dtMoved e moves target) 53 4 = moves ∧ bits (dtMoved e moves target) 0 18 = target := by
  have hclear : ∀ v, clearMask v (15 * 2 ^ 53) = v - bits v 53 4 * 2 ^ 53 := fun v => clearMask_run v 53 4
  have hlow : ∀ v, clearMask v (2 ^ 18 - 1) = v - bits v 0 18 := fun v => by simpa using clearMask_run v 0 18
  simp only [dtMoved, hclear, hlow, bits]
  omega

/-- A DT entry reads as it was set. -/
@[simp] theorem dt_setDt_same (s : State) (g e : Nat) : (s.setDt g e).dt g = e := sget_sset_same g e

/-- R422: an event of the tables is counted in the telemetry and nowhere else. -/
theorem onlyParts_bumpTab {l : List Part} (hl : .tel ∈ l) (s : State) (e : TabEv) : OnlyParts l s (s.bumpTab e) := by
  cases hon : s.off with
  | true =>
    rw [State.bumpTab, State.bumpN, if_pos hon]
    exact onlyParts_refl l s
  | false =>
    rw [State.bumpTab, bumpN_event hon (by decide)]
    exact onlyParts_onTel hl s _

/-- The learning events that wait. -/
def learnQueued (s : State) (q : List (Nat × Nat)) : State := s.onTab (fun w => { w with learnQ := q })

/-- A DT entry is replaced by what was learned, and LEARN_MOVE counts it. -/
def learned (s : State) (g e : Nat) : State := (s.setDt g e).bumpTab .learnMove

theorem onlyParts_setDt {l : List Part} (hl : .tab ∈ l) (s : State) (g e : Nat) : OnlyParts l s (s.setDt g e) :=
  onlyParts_onTab hl s (fun w => { w with dt := sset 0 w.dt g e })

theorem learned_shows (s : State) (q : List (Nat × Nat)) (g e : Nat) : (learned (learnQueued s q) g e).tab.learnQ = q ∧
    (learned (learnQueued s q) g e).dt g = e ∧ OnlyParts [.tab, .tel] s (learned (learnQueued s q) g e) := by
  have hparts : OnlyParts [.tab, .tel] s (learnQueued s q) := onlyParts_onTab (by decide) ..
  refine ⟨?_, ?_, onlyParts_trans (onlyParts_trans hparts (onlyParts_setDt (by decide) ..)) (onlyParts_bumpTab (by decide) ..)⟩
  · rw [learned, bumpTab_tab]
    rfl
  · rw [learned, State.dt, bumpTab_tab]
    exact dt_setDt_same ..

/-- The oldest learning event, of an entry that no command changed in this instant, is applied. -/
theorem exec_learnApply {g port : Nat} {rest : List (Nat × Nat)} {s : State} (hqueue : s.tab.learnQ = (g, port) :: rest)
    (hchanged : s.changedNow 0 g = none) : exec .learnApply s = settle s ((learnQueued s rest).learnOne g port) := by
  have hchanged' : (s.onTab (fun w => { w with learnQ := rest })).changedNow 0 g = none := hchanged
  show execLearnApply s = _
  simp only [execLearnApply, hqueue, hchanged', learnQueued]

section Learn
variable {g : Nat} (port : Nat) {s : State}

theorem learnOne_creates (hfree : bitAt (s.dt g) 63 = false) (hcreate : s.flag .dtLearnCfg_create 0 = true) :
    s.learnOne g port = learned s g (2 ^ 63 + 2 ^ 59 + 2 ^ 53 + s.rd .dtPortLearn_group port) := by
  simp only [State.learnOne, learned, hfree, hcreate, Bool.not_false, if_true]

theorem learnOne_static (hvalid : bitAt (s.dt g) 63 = true) (hstatic : bitAt (s.dt g) 62 = true) : s.learnOne g port = s := by
  simp only [State.learnOne, hvalid, hstatic, Bool.not_true, Bool.false_eq_true, Bool.true_or, if_false, if_true]

theorem learnOne_moves (hvalid : bitAt (s.dt g) 63 = true) (hstatic : bitAt (s.dt g) 62 = false) (htype : bits (s.dt g) 59 3 = 1)
    (hfrozen : bitAt (s.dt g) 57 = false) (hmoves : bits (s.dt g) 53 4 < 8)
    (hmember : (s.lgMembers (bits (s.dt g) 0 12)).any (fun m => m.2.2 == port) = false) :
    s.learnOne g port = learned s g (dtMoved (s.dt g) (bits (s.dt g) 53 4 + 1) (s.rd .dtPortLearn_group port)) := by
  simp only [State.learnOne, learned, hvalid, hstatic, htype, hfrozen, hmember, Nat.not_le.mpr hmoves, bne_self_eq_false, Bool.or_self,
    Bool.not_true, Bool.false_eq_true, if_false]

end Learn

/-! The learning window (R115). -/

/-- A key below those of a map has no entry. -/
theorem kget_eq_none_of_kwf {α : Type} : ∀ {m : KMap α} {b k : Nat}, kwf (some b) m = true → k ≤ b → kget m k = none
  | [], _, _, _, _ => rfl
  | (a, x) :: m, b, k, hw, hk => by
    simp only [kwf, Bool.and_eq_true, decide_eq_true_eq] at hw
    obtain ⟨hba, hm⟩ := hw
    rw [kget, if_neg (by omega), kget_eq_none_of_kwf hm (by omega)]

/-- R115: a field cleared in every entry of a table is cleared in each. -/
theorem sget_clearAll (mask k : Nat) : ∀ {m : SMap}, kwf none m = true → sget 0 (clearAll m mask) k = clearMask (sget 0 m k) mask
  | [], _ => by simp [clearAll, sget, kget, clearMask]
  | (a, v) :: m, hw => by
    have hm : kwf (some a) m = true := hw
    have ih := sget_clearAll mask k (kwf_none hm)
    have hcons : clearAll ((a, v) :: m) mask =
        if clearMask v mask = 0 then clearAll m mask else (a, clearMask v mask) :: clearAll m mask := by
      by_cases hv : clearMask v mask = 0 <;> simp [clearAll, hv]
    by_cases hak : a = k
    · subst hak
      have hnone : kget m a = none := kget_eq_none_of_kwf hm le_rfl
      have hzero : clearMask 0 mask = 0 := by simp [clearMask]
      rw [hcons]
      split
      · next hv => rw [ih]; simp [sget, kget, hnone, hv, hzero]
      · simp [sget, kget]
    · rw [hcons]
      have hskip : sget 0 ((a, v) :: m) k = sget 0 m k := by simp only [sget, kget, if_neg hak]
      rw [hskip, ← ih]
      split
      · rfl
      · simp only [sget, kget, if_neg hak]

/-! The scrub (R123). -/

/-- A TCAM slot of one region is written again from the shadow, and LPM_SCRUB_FIX counts it. -/
def slotRepaired (s : State) (k i : Nat) : State :=
  (s.onTab (fun w => { w with tcam := sset 0 w.tcam (32768 * k + i) (sget 0 w.shadow i) })).bumpTab .lpmScrubFix

theorem slotRepaired_shows {s : State} (hon : s.off = false) (k i : Nat) :
    sget 0 (slotRepaired s k i).tab.tcam (32768 * k + i) = sget 0 s.tab.shadow i ∧
      Counted 5 TabEv.lpmScrubFix.ctorIdx s (slotRepaired s k i) ∧ OnlyParts [.tab, .tel] s (slotRepaired s k i) := by
  refine ⟨?_, (bumpN_counts (s := s.onTab _) hon (by decide) _).1,
    onlyParts_trans (onlyParts_onTab (by decide) ..) (onlyParts_bumpTab (by decide) ..)⟩
  rw [slotRepaired, bumpTab_tab]
  exact sget_sset_same ..

/-- R123: a slot that differs from the shadow, and that no command acts on, is repaired. -/
theorem doLpmScrub_repairs {s : State} {k i : Nat} (hon : s.off = false) (hen : s.flag .lpmScrubCfg_en 0 = true)
    (hregion : s.regionDead k = false) (hacted : s.slotActed i = false) (hgood : s.tab.bad.contains (3, i, k) = false)
    (hdiffers : sget 0 s.tab.tcam (32768 * k + i) ≠ sget 0 s.tab.shadow i) : s.doLpmScrub k i = slotRepaired s k i := by
  simp only [State.doLpmScrub, hon, hen, hregion, hacted, hgood, beq_eq_false_iff_ne.mpr hdiffers, Bool.not_true, Bool.or_self,
    Bool.false_eq_true, if_false]
  rfl

/-! The obligation. -/

/-- Settles O49: a command is queued by its row and shown when it ends; learning creates, leaves or moves its entry; the window clears
MOVES; and the scrub repairs a slot. -/
theorem tablesAreCommandedLearnedAndScrubbed : Obligations.TablesAreCommandedLearnedAndScrubbed := by
  refine ⟨?commands, ?completion, ?learning, ?window, ?scrub⟩
  case commands =>
    rintro src s u hacc rfl table index d hd
    have hqueued := fun op (hop : op < 7) all => tblRow_queued hacc hop table index all hd
    exact ⟨⟨_, rfl, hqueued 0 (by decide) false⟩, ⟨_, rfl, hqueued 1 (by decide) false⟩, ⟨_, rfl, hqueued 2 (by decide) false⟩,
      ⟨_, rfl, hqueued 3 (by decide) false⟩, ⟨_, rfl, hqueued 4 (by decide) false⟩, ⟨_, rfl, hqueued 5 (by decide) false⟩,
      fun all => ⟨_, rfl, hqueued 6 (by decide) all⟩⟩
  case completion =>
    intro j r s hjobs hdone hby hresult
    refine completes_of_effect rfl (tblComplete_shown hjobs hdone hby) ?_
    have hstored := tblShow_stores (s.onTab (fun w => { w with jobs := [] })) j.by_ r
    obtain ⟨hstart, hshown, hdata⟩ := tblShow_shows (s.onTab (fun w => { w with jobs := [] })) j.by_ hresult
    refine ⟨congrArg Tab.jobs (hstored.parts.2 .tab (by decide)), hstart, hshown, hdata, onlyParts_settled ?_, hstored.regs⟩
    exact onlyParts_trans (onlyParts_onTab (by decide) ..) (onlyParts_mono hstored.parts (by decide))
  case learning =>
    intro g port rest s hqueue hchanged
    have hexec := exec_learnApply hqueue hchanged
    refine ⟨fun hfree hcreate => completes_of_effect hexec (learnOne_creates port hfree hcreate) ?_,
      fun hvalid hstatic => completes_of_effect hexec (learnOne_static port hvalid hstatic) ⟨rfl, rfl⟩,
      fun hvalid hstatic htype hfrozen hmoves hmember =>
        completes_of_effect hexec (learnOne_moves port hvalid hstatic htype hfrozen hmoves hmember) ?_⟩
    · obtain ⟨hrest, hentry, hparts⟩ := learned_shows s rest g (2 ^ 63 + 2 ^ 59 + 2 ^ 53 + s.rd .dtPortLearn_group port)
      exact ⟨hrest, hentry, onlyParts_settled hparts⟩
    · have htarget : s.rd .dtPortLearn_group port < 2 ^ 18 := (rd_lt ..).trans (by decide)
      obtain ⟨hmoved, hgroup⟩ := dtMoved_fields (s.dt g) (moves := bits (s.dt g) 53 4 + 1) (by omega) htarget
      obtain ⟨hrest, hentry, -⟩ := learned_shows s rest g (dtMoved (s.dt g) (bits (s.dt g) 53 4 + 1) (s.rd .dtPortLearn_group port))
      exact ⟨hrest, (congrArg (bits · 53 4) hentry).trans hmoved, (congrArg (bits · 0 18) hentry).trans hgroup⟩
  case window =>
    intro s hwf hcounting hreached
    exact completes_of_effect rfl (if_pos (by rw [hcounting, hreached]; rfl)) ⟨rfl, fun g => sget_clearAll _ _ (swf_kwf hwf),
      onlyParts_settled (onlyParts_onTab (by decide) ..)⟩
  case scrub =>
    intro k slot s hon hen hregion hacted hgood hdiffers
    obtain ⟨hslot, hcounted, hparts⟩ := slotRepaired_shows hon k slot.toNat
    exact completes_of_effect rfl (doLpmScrub_repairs hon hen hregion hacted hgood hdiffers) ⟨hslot, hcounted, onlyParts_settled hparts⟩

end Sys2Proof.Proofs

/-! The switch core: what its operations leave as it was. -/

namespace Sys2Proof.Proofs
open Sys2Proof Sys2Proof.Machine Sys2Proof.Laws

/-- A view of the state is the same before and after. -/
def Kept {β : Type} (b : State → β) (s t : State) : Prop := b t = b s

namespace Kept
variable {β : Type} {b : State → β} {s t u : State}

theorem refl (b : State → β) (s : State) : Kept b s s := rfl

/-- What the view shows is as it was. -/
theorem eq (h : Kept b s t) : b t = b s := h

theorem trans (hst : Kept b s t) (htu : Kept b t u) : Kept b s u := Eq.trans htu hst

theorem foldl {α : Type} {g : State → α → State} (hg : ∀ s a, Kept b s (g s a)) (l : List α) (s : State) : Kept b s (l.foldl g s) := by
  induction l generalizing s with
  | nil => exact refl b s
  | cons a l ih => exact (hg s a).trans (ih _)

/-- Steps that carry a second component along. -/
theorem foldl_fst {α γ : Type} {g : State × γ → α → State × γ} (hg : ∀ x a, Kept b x.1 (g x a).1) (l : List α) (x : State × γ) :
    Kept b x.1 (l.foldl g x).1 := by
  induction l generalizing x with
  | nil => exact refl b x.1
  | cons a l ih => exact (hg x a).trans (ih _)

theorem when {g : State → State} (hg : ∀ s, Kept b s (g s)) (c : Bool) (s : State) : Kept b s (s.when c g) := by
  cases c
  · exact refl b s
  · exact hg s

theorem ite {c : Prop} [Decidable c] (ht : Kept b s t) (hu : Kept b s u) : Kept b s (if c then t else u) := by
  split
  · exact ht
  · exact hu

/-- A change of the switch core that the view does not show. -/
theorem onSw (h : Kept b s t) (g : Sw → Sw) (hg : ∀ u : State, b (u.onSw g) = b u := by intro; rfl) : Kept b s (t.onSw g) :=
  h.trans (hg t)

/-- A store of a register field, where the view shows no registers. -/
theorem wr (h : Kept b s t) (f : Fld) (i v : Nat) (hg : ∀ u : State, b (u.wr f i v) = b u := by intro; rfl) : Kept b s (t.wr f i v) :=
  h.trans (hg t)

end Kept

/-- The state beside the packets, the pools and what is held at the egress blocks: what the freeing of segments leaves as it was. -/
def besideSegs (s : State) : State := { s with regs := [], sw := { s.sw with pkts := [], eh := [], rsvUsed := [] } }

/-- The counters of the core, TC7_CORE_LATE not shown. -/
def coreCounts (s : State) (i : Nat) : Nat := if i % 16 = CoreEv.tc7CoreLate.ctorIdx then 0 else s.count 4 i

/-- The state beside all that lies behind the resequencers, with the counters of the core: what the release of a segment and the
discard of a packet leave as it was. -/
def besideEgress (s : State) : State × (Nat → Nat) :=
  ({ s with
      regs := [], tel := State.reset.tel,
      sw := { s.sw with pkts := [], eh := [], rsvUsed := [], egq := [], gather := [], tx := [], act := [], deficit := [], credited := [],
                        punt := none, puntQ := [], localQ := [] } }, coreCounts s)

/-- The state beside the switch core, with the slot count: what the two stages of the Reel leave as it was. -/
def besideReel (s : State) : State :=
  { s with regs := [], tel := State.reset.tel, freeCtr := 0, sw := { State.reset.sw with slot := s.sw.slot } }

namespace Kept
variable {s t : State}

theorem egress (h : Kept besideSegs s t) : Kept besideEgress s t := (congrArg besideEgress h.eq :)

theorem reel (h : Kept besideEgress s t) : Kept besideReel s t := (congrArg (fun v : State × (Nat → Nat) => besideReel v.1) h.eq :)

theorem parts_of_reel (h : Kept besideReel s t) : OnlyParts [.sw, .tel, .regs, .freeCtr] s t := by
  refine ⟨(congrArg State.pending h.eq :), fun p hp => ?_⟩
  have hsame : p.same (besideReel s) (besideReel t) := by
    rw [h.eq]
    exact (onlyParts_refl [] _).2 p (by simp)
  cases p with
  | sw | tel | regs | freeCtr => exact absurd (by decide) hp
  | _ => exact hsame

end Kept

/-! Segments freed (R135). -/

theorem onPkt_kept (s : State) (pid : Nat) (g : Pkt → Pkt) : Kept besideSegs s (s.onPkt pid g) := by
  rw [State.onPkt]
  split <;> rfl

theorem gc_kept (s : State) (pid : Nat) : Kept besideSegs s (s.gc pid) := by
  rw [State.gc]
  split <;> rfl

theorem egFree_kept (s : State) (d c n : Nat) : Kept besideSegs s (s.egFree d c n) := .when (fun s => (Kept.refl _ s).wr ..) ..

theorem egTake_kept (s : State) (d c n : Nat) : Kept besideSegs s (s.egTake d c n) := .when (fun s => (Kept.refl _ s).wr ..) ..

theorem holdSeg_kept (s : State) (pid d c : Nat) : Kept besideSegs s (s.holdSeg pid d c) :=
  ((Kept.refl _ s).onSw _).trans (egTake_kept ..)

theorem copyDone_kept (s : State) (pid d c : Nat) : Kept besideSegs s (s.copyDone pid d c) := by
  simp only [State.copyDone]
  repeat' split
  · rfl
  · exact (((Kept.refl _ s).onSw _).trans (egFree_kept ..)).trans (gc_kept ..)
  · exact ((Kept.refl _ s).onSw _).trans (egFree_kept ..)
  · rfl

theorem freeIngress_kept (s : State) (pid n : Nat) : Kept besideSegs s (s.freeIngress pid n) := by
  simp only [State.freeIngress]
  split
  · rfl
  · exact ((onPkt_kept s pid _).onSw _).wr ..

/-! Packets dropped (R135, R145, R148, R161). -/

theorem setEgq_kept (s : State) (n c : Nat) (q : List EPkt) : Kept besideEgress s (s.setEgq n c q) := rfl

theorem bumpN_kept {s : State} {g : Nat} (hg : g ≠ 4) (i n : Nat) : Kept besideEgress s (s.bumpN g i n) := by
  refine Prod.ext ?_ (funext fun j => ?_)
  · simp only [State.bumpN]
    repeat' split
    all_goals rfl
  · exact congrArg (fun v => if j % 16 = CoreEv.tc7CoreLate.ctorIdx then 0 else v) (count_bumpN_other s (Ne.symm hg) i n j)

theorem bumpPort_kept (s : State) (n : Nat) (e : PortEv) : Kept besideEgress s (s.bumpPort n e) :=
  .when (fun _ => bumpN_kept (by decide) ..) ..

theorem bumpIn_kept (s : State) (port : Option Nat) (e : PortEv) : Kept besideEgress s (s.bumpIn port e) := by
  cases port with
  | none => rfl
  | some n => exact bumpPort_kept s n e

theorem dropEgress_kept (s : State) (n c : Nat) (e : EPkt) : Kept besideEgress s (s.dropEgress n c e) := by
  simp only [State.dropEgress]
  refine Kept.trans ?_ (copyDone_kept ..).egress
  exact ((setEgq_kept ..).trans (.when (fun s => (Kept.refl _ s).wr ..) ..)).trans (.when (fun s => (Kept.refl _ s).onSw _) ..)

theorem dropCopies_kept (s : State) (pid d c : Nat) : Kept besideEgress s (s.dropCopies pid d c) :=
  .foldl (fun _ _ => .foldl (fun _ _ => dropEgress_kept ..) ..) ..

theorem dropGather_kept (s : State) (pid d : Nat) : Kept besideEgress s (s.dropGather pid d) := by
  simp only [State.dropGather]
  split
  · rfl
  · exact ((Kept.refl _ s).onSw _).trans (egFree_kept ..).egress

theorem discardAt_kept (s : State) (pid d : Nat) : Kept besideEgress s (s.discardAt pid d) := by
  simp only [State.discardAt]
  split
  · rfl
  · exact (((onPkt_kept ..).egress.trans (dropCopies_kept ..)).onSw _).trans (dropGather_kept ..)

theorem lose_kept (s : State) (pid : Nat) : Kept besideEgress s (s.lose pid) := by
  rw [State.lose]
  split
  · rfl
  · exact .foldl (fun _ _ => discardAt_kept ..) ..

theorem numSkipped_kept (s : State) (d src c : Nat) (mc : Bool) (seq : Nat) : Kept besideEgress s (s.numSkipped d src c mc seq) := by
  rw [State.numSkipped]
  split
  · exact ((onPkt_kept ..).egress.trans (discardAt_kept ..)).trans (gc_kept ..).egress
  · rfl

/-! Segments released (R148, R178). -/

theorem expressAdmit_kept (s : State) (n : Nat) (b : Body) : Kept besideEgress s (s.expressAdmit n b).1 := by
  simp only [State.expressAdmit, apply_ite Prod.fst]
  exact .ite (bumpPort_kept ..) (((Kept.refl _ s).wr ..).trans (.when (fun s => (Kept.refl _ s).wr ..) ..))

theorem enterEgress_kept (s : State) (n c : Nat) (e : EPkt) : Kept besideEgress s (s.enterEgress n c e) := by
  simp only [State.enterEgress]
  exact (Kept.when (fun s => (Kept.refl _ s).onSw _) ..).trans (setEgq_kept ..)

theorem growAt_kept (s : State) (n c pid : Nat) : Kept besideEgress s (s.growAt n c pid).1 := by
  simp only [State.growAt]
  repeat' split
  all_goals rfl

theorem puntRefresh_kept (s : State) : Kept besideEgress s s.puntRefresh := rfl

theorem deliver_kept (s : State) (p : Pkt) (d segs : Nat) : Kept besideEgress s (s.deliver p d segs) := by
  simp only [State.deliver]
  repeat' split
  · rfl
  · exact (bumpIn_kept ..).trans (egFree_kept ..).egress
  · exact (((Kept.refl _ s).onSw _).trans (puntRefresh_kept _)).trans (egFree_kept ..).egress
  · exact (egFree_kept ..).egress

theorem deliverIfGathered_kept (s : State) (pid : Nat) : Kept besideEgress s (s.deliverIfGathered pid) := by
  simp only [State.deliverIfGathered]
  repeat' split
  · rfl
  · exact (((Kept.refl _ s).onSw _).trans (deliver_kept ..)).trans (gc_kept ..).egress
  · rfl

theorem gatherSeg_kept (s : State) (g : Seg) : Kept besideEgress s (s.gatherSeg g).1 := by
  simp only [State.gatherSeg]
  split
  · exact discardAt_kept ..
  · exact (((Kept.refl _ s).onSw _).trans (egTake_kept ..).egress).trans (deliverIfGathered_kept ..)

theorem queueSeg_kept (s : State) (g : Seg) (p : Pkt) : Kept besideEgress s (s.queueSeg g p).1 := by
  simp only [State.queueSeg, apply_ite Prod.fst]
  generalize hfold : List.foldl _ _ _ = x
  have hqueued : Kept besideEgress s x.1 := by
    rw [← hfold]
    refine .foldl_fst (fun x n => ?_) _ (s, false)
    have hadmitted := expressAdmit_kept x.1 n p.body
    repeat' split
    · exact growAt_kept ..
    · next hadmit =>
      rw [hadmit] at hadmitted
      exact hadmitted.trans (enterEgress_kept ..)
    · next hadmit =>
      rw [hadmit] at hadmitted
      exact hadmitted
    · exact enterEgress_kept ..
  exact .ite (hqueued.trans (holdSeg_kept ..).egress) (hqueued.trans (gc_kept ..).egress)

/-- TC7_CORE_LATE is no counter that the view shows. -/
theorem bumpLate_kept (s : State) (k : Nat) : Kept besideEgress s (s.bumpCore k 7 .tc7CoreLate) := by
  refine Prod.ext ?_ (funext fun j => ?_)
  · simp only [State.bumpCore, State.bumpN]
    repeat' split
    all_goals rfl
  · simp only [besideEgress, coreCounts]
    split
    · rfl
    · next hj => exact count_bumpN_same s (fun h : j = _ => hj (by rw [h]; exact Nat.mul_add_mod ..)) 1

theorem release_kept (s : State) (g : Seg) : Kept besideEgress s (s.release g) := by
  simp only [State.release]
  split
  · exact (onPkt_kept ..).egress
  · refine (onPkt_kept ..).egress.trans (.ite (gc_kept ..).egress ?_)
    repeat' split
    all_goals refine Kept.trans ?_ (.when (fun s => bumpLate_kept s _) ..)
    · exact gatherSeg_kept ..
    · exact gatherSeg_kept ..
    · exact gatherSeg_kept ..
    · exact gatherSeg_kept ..
    · exact queueSeg_kept ..
    · exact queueSeg_kept ..

end Sys2Proof.Proofs

namespace Sys2Proof.Proofs
open Sys2Proof Sys2Proof.Machine Sys2Proof.Laws

/-! The first stage of the Reel keeps the slot (R140, R141). -/

theorem bumpCore_kept (s : State) (k c : Nat) (e : CoreEv) (n : Nat) : Kept besideReel s (s.bumpCore k c e n) := by
  simp only [State.bumpCore, State.bumpN]
  repeat' split
  all_goals rfl

theorem present_kept (s : State) (g w : Nat) : Kept besideReel s (s.present g w) := by
  rw [State.present]
  split <;> rfl

theorem presentSend_kept (s : State) (i c dst seq : Nat) : Kept besideReel s (s.presentSend i c dst seq) :=
  .ite (present_kept ..) (.refl ..)

theorem presentIdle_kept (s : State) : Kept besideReel s s.presentIdle := .ite (present_kept ..) (.refl ..)

theorem presentMcast_kept (s : State) (i c : Nat) : Kept besideReel s (s.presentMcast i c) := by
  simp only [State.presentMcast]
  exact .ite (Kept.trans (t := (s.free 42 4096).2) rfl (presentSend_kept ..)) (.refl ..)

theorem spillEnds_kept (s : State) (i c m : Nat) : Kept besideReel s (s.spillEnds i c m) := .ite ((Kept.refl _ s).onSw _) (.refl ..)

theorem dropQueued_kept (s : State) (pid m : Nat) : Kept besideReel s (s.dropQueued pid m) := by
  simp only [State.dropQueued]
  split
  · rfl
  · refine Kept.trans (Kept.trans ?_ (lose_kept ..).reel) (gc_kept ..).egress.reel
    exact ((((freeIngress_kept ..).wr ..).trans (onPkt_kept ..)).egress.reel.onSw _).trans (spillEnds_kept ..)

theorem do1_kept (s : State) (i k : Nat) (x : Choice1) : Kept besideReel s (s.do1 i k x) := by
  cases x with
  | stream x =>
    simp only [State.do1]
    exact ((((freeIngress_kept ..).trans (onPkt_kept ..)).egress.reel.onSw _).onSw _).trans (presentMcast_kept ..)
  | record pid c =>
    simp only [State.do1]
    split
    · rfl
    · exact ((((onPkt_kept ..).egress.reel.onSw _).onSw _).onSw _).trans (presentMcast_kept ..)
  | unicast pid c d =>
    simp only [State.do1]
    split
    · rfl
    · refine Kept.trans ?_ (.when (fun s => (Kept.refl _ s).onSw _) ..)
      exact ((((freeIngress_kept ..).trans (onPkt_kept ..)).egress.reel.onSw _).onSw _).trans (presentSend_kept ..)

theorem turn1_kept (s : State) (i k fuel : Nat) : Kept besideReel s (s.turn1 i k fuel) := by
  induction fuel generalizing s with
  | zero => rfl
  | succ fuel ih =>
    simp only [State.turn1]
    split
    · rfl
    · generalize Option.bind _ s.pkt? = found
      cases found with
      | none => exact do1_kept ..
      | some p => exact .ite (((dropQueued_kept ..).trans (bumpCore_kept ..)).trans (ih _)) (do1_kept ..)

theorem stage1_kept (s : State) : Kept besideReel s s.stage1 := by
  simp only [State.stage1]
  exact (presentIdle_kept s).trans (.foldl (fun s i => .ite (.refl ..) (turn1_kept ..)) ..)

/-! So does the second (R143, R157, R158). -/

theorem skipCopy_kept (s : State) (x : Copy) : Kept besideReel s (s.skipCopy x) := Kept.onSw (.refl ..) (fun w => { w with skips := w.skips ++ [_] })

theorem freeMroom_kept (s : State) (k pid idx : Nat) : Kept besideReel s (s.freeMroom k pid idx) := by
  simp only [State.freeMroom]
  exact .ite (.refl ..) (((Kept.refl _ s).onSw _).trans (gc_kept ..).egress.reel)

theorem park_kept (s : State) (x : Copy) : Kept besideReel s (s.park x) := by
  simp only [State.park]
  refine Kept.trans ?_ (freeMroom_kept ..)
  exact .ite (((Kept.refl _ s).onSw _).onSw _) ((((Kept.refl _ s).onSw _).trans (skipCopy_kept ..)).trans (bumpCore_kept ..))

theorem send2_kept (s : State) (g : Seg) : Kept besideReel s (s.send2 g) := (Kept.refl _ s).onSw _

theorem wallAged_kept (s : State) (k d c pid : Nat) : Kept besideReel s (s.wallAged k d c pid) := by
  simp only [State.wallAged]
  refine Kept.trans (Kept.trans ?_ (bumpCore_kept ..)) (gc_kept ..).egress.reel
  exact ((Kept.refl _ s).onSw _).trans (.foldl (fun _ _ => (skipCopy_kept ..).trans (bumpCore_kept ..)) ..)

theorem fromWall_kept (s : State) (k d c fuel : Nat) : Kept besideReel s (s.fromWall k d c fuel).1 := by
  induction fuel generalizing s with
  | zero => rfl
  | succ fuel ih =>
    simp only [State.fromWall]
    split
    · rfl
    · rw [apply_ite Prod.fst]
      exact .ite ((wallAged_kept ..).trans (ih _)) (((Kept.refl _ s).onSw _).trans (send2_kept ..))

theorem turn2_kept (s : State) (k d c : Nat) : Kept besideReel s (s.turn2 k d c) := by
  induction c generalizing s with
  | zero => rfl
  | succ c ih =>
    simp only [State.turn2]
    refine .ite (Kept.trans (.foldl park_kept ..) (ih _)) ((fromWall_kept s k d c _).trans (.ite (.refl ..) ?_))
    split
    · exact (((Kept.refl _ _).onSw _).trans (send2_kept ..)).trans (freeMroom_kept ..)
    · split
      · exact .ite (ih _) (((Kept.refl _ _).onSw _).trans (send2_kept ..))
      · exact ih _

theorem notice2_kept (s : State) (k d : Nat) : Kept besideReel s (s.notice2 k d) := by
  rw [State.notice2]
  split
  · rfl
  · exact (Kept.refl _ s).onSw _

theorem stage2_kept (s : State) : Kept besideReel s s.stage2 := by
  simp only [State.stage2]
  exact .foldl (fun s k => .ite (.refl ..) ((turn2_kept ..).trans (notice2_kept ..))) ..

/-! A slot of the Reel (R140, R145). -/

/-- The failed blocks leave the Reel at the start of its cycle. -/
def cycleBegun (s : State) : State :=
  s.when (s.sw.slot % 72 == 0) (fun s => s.onSw (fun w => { w with outOf := (List.range 72).filter s.blockDead }))

/-- The sends of a slot are made. -/
def slotEnded (s : State) : State := s.onSw (fun w => { w with slot := w.slot + 1, fresh := [] })

theorem doReelSlot_moved {s : State} (hon : s.off = false) : StopsMoved (slotEnded (cycleBegun s).stage1.stage2) (doReelSlot s) := by
  simp only [doReelSlot, hon, Bool.false_eq_true, if_false]
  exact .foldl (fun s k => .updStops s k) _ _

theorem Kept.slot {s t : State} (h : Kept besideReel s t) : t.sw.slot = s.sw.slot :=
  (congrArg (fun v : State => v.sw.slot) h.eq :)

theorem stages_kept (s : State) : Kept besideReel s (cycleBegun s).stage1.stage2 := by
  refine Kept.trans (Kept.trans (.when (fun s => (Kept.refl _ s).onSw _) ..) (stage1_kept _)) (stage2_kept _)

/-- R140: the slot count advances, and what arrived in the slot may be sent from now on. -/
theorem doReelSlot_advances {s : State} (hon : s.off = false) : (doReelSlot s).sw.slot = s.sw.slot + 1 ∧ (doReelSlot s).sw.fresh = [] ∧
    OnlyParts [.sw, .tel, .regs, .freeCtr] s (doReelSlot s) := by
  have hmoved := doReelSlot_moved hon
  have hkept := stages_kept s
  generalize (cycleBegun s).stage1.stage2 = u at hmoved hkept
  obtain ⟨flows, stop, h⟩ := hmoved
  rw [h]
  exact ⟨congrArg (· + 1) hkept.slot, rfl, onlyParts_trans (onlyParts_trans hkept.parts_of_reel (onlyParts_onSw (by simp) ..))
    (onlyParts_onSw (by simp) ..)⟩

end Sys2Proof.Proofs

namespace Sys2Proof.Proofs
open Sys2Proof Sys2Proof.Machine Sys2Proof.Laws

/-! The words that a block presents to the debug port (R457). -/

theorem present_shown (s : State) (g w : Nat) : ∃ x, s.present g w = s.onSw (fun u => { u with shown := x }) := by
  rw [State.present]
  split
  · exact ⟨w, rfl⟩
  · exact ⟨s.sw.shown, rfl⟩

theorem presentSend_shown (s : State) (i c dst seq : Nat) :
    ∃ x, s.presentSend i c dst seq = s.onSw (fun u => { u with shown := x }) := by
  rw [State.presentSend]
  split
  · exact present_shown ..
  · exact ⟨s.sw.shown, rfl⟩

theorem presentIdle_shown (s : State) : ∃ x, s.presentIdle = s.onSw (fun u => { u with shown := x }) := by
  simp only [State.presentIdle]
  split
  · exact present_shown ..
  · exact ⟨s.sw.shown, rfl⟩

/-- Before its sends a slot changes which blocks have left the Reel, and what the debug port shows. -/
def slotBegun (s : State) (gone : List Nat) (x : Nat) : State := s.onSw (fun w => { w with outOf := gone, shown := x })

theorem cycleBegun_presentIdle (s : State) : ∃ gone x, (cycleBegun s).presentIdle = slotBegun s gone x := by
  obtain ⟨x, hshown⟩ := presentIdle_shown (cycleBegun s)
  rw [hshown, cycleBegun]
  cases s.sw.slot % 72 == 0 with
  | true => exact ⟨_, x, rfl⟩
  | false => exact ⟨s.sw.outOf, x, rfl⟩

theorem cycleBegun_voq (s : State) : (cycleBegun s).sw.voq = s.sw.voq ∧ (cycleBegun s).sw.streams = s.sw.streams := by
  rw [cycleBegun]
  cases s.sw.slot % 72 == 0 <;> exact ⟨rfl, rfl⟩

/-! The first stage with one packet in the ingress queues (R133, R141). -/

theorem voqKey_block {i c d : Nat} (hd : d < 128) : voqKey i c d / 1024 = i := by
  rw [voqKey]
  omega

theorem voqKey_class {i c d : Nat} (hd : d < 128) : voqKey i c d / 128 = 8 * i + (7 - c) := by
  rw [voqKey]
  omega

/-- With no queue in the Reel its first stage sends nothing. -/
theorem stage1_of_idle {s : State} (hvoq : s.sw.voq = []) (hstreams : s.sw.streams = []) : s.stage1 = s.presentIdle := by
  simp only [State.stage1, hvoq, hstreams]
  rfl

/-- With one queue, the block of that queue has its turn. -/
theorem stage1_of_single {s : State} {i c d : Nat} {q : List Nat} (hvoq : s.sw.voq = [(voqKey i c d, q)]) (hstreams : s.sw.streams = [])
    (hd : d < 128) (hin : s.presentIdle.outOfReel i = false) (hmeets : s.presentIdle.outOfReel ((i + s.presentIdle.sw.slot) % 72) = false) :
    s.stage1 = s.presentIdle.turn1 i ((i + s.presentIdle.sw.slot) % 72) (s.presentIdle.sw.pkts.length + 1) := by
  have hblocks : ([voqKey i c d / 1024].eraseDups : List Nat) = [i] := by
    rw [voqKey_block hd]
    rfl
  simp only [State.stage1, hvoq, hstreams, List.map_cons, List.map_nil, List.append_nil, hblocks, List.foldl_cons, List.foldl_nil, hin,
    hmeets, Bool.or_self, Bool.false_eq_true, if_false]

theorem outOfReel_of_alive {s : State} {b : Nat} (h : s.blockDead b = false) : s.outOfReel b = false := by
  rw [State.outOfReel, h, Bool.false_and]

/-- With nothing at the intermediates the second stage sends nothing. -/
theorem stage2_of_idle {s : State} (hiq : s.sw.iq = []) (hcopies : s.sw.copies = []) (hwall : s.sw.wall = []) (hskips : s.sw.skips = []) :
    s.stage2 = s := by
  simp only [State.stage2, hiq, hcopies, hwall, hskips]
  rfl

section Single
variable {s : State} {i c d pid : Nat} {p : Pkt} (hvoq : s.sw.voq = [(voqKey i c d, [pid])]) (hstreams : s.sw.streams = [])
variable (hc : c < 8) (hd : d < 72) (hpkt : s.pkt? pid = some p) (hready : p.ready1 = true) (hord : (p.ord[p.sent]?).isSome = true)
include hvoq hstreams hc hd hpkt hready hord

omit hstreams hpkt hready hord in
theorem members_of_single {n : Nat} (hn : n < 8) : s.members i n = if n = c then [(d, [pid])] else [] := by
  have hclass : voqKey i c d / 128 = 8 * i + (7 - c) := voqKey_class (by omega)
  have hbase : voqKey i n 0 / 128 = 8 * i + (7 - n) := voqKey_class (by omega)
  simp only [State.members, hvoq, List.filter_cons, List.filter_nil, hclass, hbase]
  split
  · next heq =>
    have hnc : n = c := by simp only [beq_iff_eq] at heq; omega
    subst hnc
    have hmember : voqKey i n d - voqKey i n 0 = d := by simp only [voqKey]; omega
    by_cases hptr : sget 72 s.sw.ptr (8 * i + n) < d
    · simp [hmember, hptr]
    · simp [hmember, hptr, Nat.le_of_not_lt hptr]
  · next hne =>
    rw [if_neg (fun h => hne (by simp [h]))]
    rfl

omit hvoq hstreams hc hd in
theorem headPkt_of_single : s.headPkt [pid] = some pid := by
  obtain ⟨v, hv⟩ := Option.isSome_iff_exists.mp hord
  have hsent : p.sent < p.arrived := by
    simp only [Pkt.ready1, Bool.and_eq_true, decide_eq_true_eq] at hready
    exact hready.1
  simp [State.headPkt, State.least, hpkt, hsent, hv]

/-- The classes from `n` down offer the packet once its class is among them. -/
theorem choose1_of_single {k : Nat} (hroom : s.iqRoom k d c = true) (hout : s.outstanding d i c false < 2048) {n : Nat} (hn : n ≤ 8) :
    s.choose1 i k n = if c < n then some (.unicast pid c d) else none := by
  induction n with
  | zero => rfl
  | succ n ih =>
    simp only [State.choose1, hstreams, List.find?_nil, members_of_single hvoq hc hd (show n < 8 by omega), ih (by omega)]
    by_cases hnc : n = c
    · subst hnc
      simp only [if_true, State.pickMemberQ, headPkt_of_single hpkt hready hord, hpkt, show d ≠ 72 by omega, if_false, hready, hroom, hout,
        decide_true, Bool.and_self, Nat.lt_succ_self]
    · simp only [hnc, if_false, State.pickMemberQ]
      exact if_congr (by omega) rfl rfl

/-- R141: the turn of its block sends the packet's next segment, where it may be sent. -/
theorem turn1_of_single {k : Nat} (hroom : s.iqRoom k d c = true) (hout : s.outstanding d i c false < 2048) (hage : s.agedPkt p = false)
    (fuel : Nat) : s.turn1 i k (fuel + 1) = s.do1 i k (.unicast pid c d) := by
  simp only [State.turn1, choose1_of_single hvoq hstreams hc hd hpkt hready hord hroom hout (Nat.le_refl 8), hc, if_true,
    Option.bind_some, hpkt, hage, Bool.false_eq_true, and_false, if_false]

end Single

theorem when_setVoq_moves (b : Bool) (i c m : Nat) (f : List Nat → List Nat) (s : State) :
    ∃ voq, s.when b (fun s => s.setVoq i c m (f (s.voq i c m))) = s.onSw (fun w => { w with voq := voq }) := by
  cases b
  · exact ⟨s.sw.voq, rfl⟩
  · exact ⟨_, rfl⟩

/-- Freeing segments moves nothing else of the switch core. -/
theorem Kept.sw_of_segs {s t : State} {γ : Type} (h : Kept besideSegs s t) (f : Sw → γ)
    (hf : ∀ w : Sw, f { w with pkts := [], eh := [], rsvUsed := [] } = f w := by intro; rfl) : f t.sw = f s.sw :=
  (hf t.sw).symm.trans ((congrArg (fun v : State => f v.sw) h.eq).trans (hf s.sw))

/-- A unicast segment sent leaves its block for the intermediate with the next number of its flow (R141, R146). -/
theorem do1_unicast {s : State} {pid : Nat} {p : Pkt} (hpkt : s.pkt? pid = some p) (i k c d : Nat) :
    (s.do1 i k (.unicast pid c d)).sw.t1 = s.sw.t1 ++ [⟨k, s.sw.slot + 8,
      .uni ⟨pid, p.sent, i, d, c, false, sget 0 s.sw.seqs (flowKey d i c false), 0⟩⟩] ∧
    sget 0 (s.do1 i k (.unicast pid c d)).sw.seqs (flowKey d i c false) = (sget 0 s.sw.seqs (flowKey d i c false) + 1) % 4096 ∧
    (s.do1 i k (.unicast pid c d)).sw.iq = s.sw.iq ∧ (s.do1 i k (.unicast pid c d)).sw.copies = s.sw.copies ∧
    (s.do1 i k (.unicast pid c d)).sw.wall = s.sw.wall ∧ (s.do1 i k (.unicast pid c d)).sw.skips = s.sw.skips := by
  simp only [State.do1, hpkt]
  have hfreed := ((freeIngress_kept s pid 1).trans (onPkt_kept _ pid
    (fun p => { p with sent := p.sent + 1, nums := p.nums ++ [(d, sget 0 s.sw.seqs (flowKey d i c false))] })))
  generalize State.onPkt (s.freeIngress pid 1) pid _ = u at hfreed ⊢
  obtain ⟨x, hshown⟩ := presentSend_shown _ i c d (sget 0 s.sw.seqs (flowKey d i c false))
  obtain ⟨voq, hqueue⟩ := when_setVoq_moves (p.sent + 1 == p.nseg) i c d (fun q => q.filter (· != pid)) _
  rw [hqueue, hshown]
  exact ⟨hfreed.sw_of_segs (fun w => w.t1 ++ [⟨k, w.slot + 8, .uni
    ⟨pid, p.sent, i, d, c, false, sget 0 s.sw.seqs (flowKey d i c false), 0⟩⟩]), sget_sset_same _ _, hfreed.sw_of_segs Sw.iq,
    hfreed.sw_of_segs Sw.copies, hfreed.sw_of_segs Sw.wall, hfreed.sw_of_segs Sw.skips⟩

/-- R140, R141, R146: a slot sends the one packet's next segment to the intermediate that its block meets. -/
theorem doReelSlot_sends {s : State} {i c d pid : Nat} {p : Pkt} (hon : s.off = false) (hvoq : s.sw.voq = [(voqKey i c d, [pid])])
    (hc : c < 8) (hd : d < 72) (hstreams : s.sw.streams = []) (hiq : s.sw.iq = []) (hcopies : s.sw.copies = []) (hwall : s.sw.wall = [])
    (hskips : s.sw.skips = []) (hpkt : s.pkt? pid = some p) (hin : s.blockDead i = false)
    (hmeets : s.blockDead ((i + s.sw.slot) % 72) = false) (hready : p.ready1 = true) (hord : (p.ord[p.sent]?).isSome = true)
    (hage : s.agedPkt p = false) (hroom : s.iqRoom ((i + s.sw.slot) % 72) d c = true) (hout : s.outstanding d i c false < 2048) :
    (doReelSlot s).sw.t1 = s.sw.t1 ++ [⟨(i + s.sw.slot) % 72, s.sw.slot + 8,
      .uni ⟨pid, p.sent, i, d, c, false, sget 0 s.sw.seqs (flowKey d i c false), 0⟩⟩] ∧
    sget 0 (doReelSlot s).sw.seqs (flowKey d i c false) = (sget 0 s.sw.seqs (flowKey d i c false) + 1) % 4096 := by
  obtain ⟨flows, stop, hmoved⟩ := doReelSlot_moved hon
  obtain ⟨gone, x, hbegun⟩ := cycleBegun_presentIdle s
  have hturn := turn1_of_single (s := slotBegun s gone x) hvoq hstreams hc hd hpkt hready hord hroom hout
    hage s.sw.pkts.length
  have hfirst := stage1_of_single (s := cycleBegun s) ((cycleBegun_voq s).1.trans hvoq) ((cycleBegun_voq s).2.trans hstreams)
    (show d < 128 by omega)
  rw [hbegun] at hfirst
  replace hfirst := (hfirst (outOfReel_of_alive hin) (outOfReel_of_alive hmeets)).trans hturn
  obtain ⟨ht1, hseqs, hiq', hcopies', hwall', hskips'⟩ := do1_unicast (s := slotBegun s gone x) hpkt i
    ((i + s.sw.slot) % 72) c d
  rw [hmoved, hfirst, stage2_of_idle (hiq'.trans hiq) (hcopies'.trans hcopies) (hwall'.trans hwall) (hskips'.trans hskips)]
  exact ⟨ht1, hseqs⟩

end Sys2Proof.Proofs

namespace Sys2Proof.Proofs
open Sys2Proof Sys2Proof.Machine Sys2Proof.Laws

/-! The second stage with one segment at the intermediates (R143). -/

theorem iqKey_block {k d c : Nat} (hd : d < 72) : iqKey k d c / 8 / 72 = k := by
  rw [iqKey]
  omega

/-- The one segment of an intermediate queue has left it. -/
def segTaken (s : State) (key : Nat) : State := s.onSw (fun w => { w with iq := kdel w.iq key })

section Single
variable {s : State} {k d c : Nat} {g : Seg} (hiq : s.sw.iq = [(iqKey k d c, [g])]) (hc : c < 8) (hcopies : s.sw.copies = [])
variable (hwall : s.sw.wall = [])
include hiq hc hcopies hwall

omit hcopies hwall in
theorem kget_iq_of_single {n : Nat} (hn : n < 8) : kget s.sw.iq (iqKey k d n) = if n = c then some [g] else none := by
  rw [hiq]
  simp only [kget, iqKey]
  exact if_congr (by omega) rfl rfl

/-- The classes from `n` down send the segment once its class is among them, unless it arrived in this slot. -/
theorem turn2_of_single (hstop : c < 7 → s.stopped d c = false) {n : Nat} (hn : n ≤ 8) :
    s.turn2 k d n = if c < n ∧ s.isFresh k g = false then (segTaken s (iqKey k d c)).send2 g else s := by
  induction n with
  | zero => rfl
  | succ n ih =>
    simp only [State.turn2, hcopies, hwall, List.filter_nil, List.length_nil, List.foldl_nil, State.fromWall, Bool.false_eq_true, if_false,
      kget_iq_of_single hiq hc (show n < 8 by omega)]
    by_cases hnc : n = c
    · subst hnc
      have hgoes : (decide (n < 7) && s.stopped d n) = false := by
        by_cases h7 : n < 7
        · rw [hstop h7, Bool.and_false]
        · rw [decide_eq_false h7, Bool.false_and]
      cases hfresh : s.isFresh k g with
      | true => simp [hgoes, hfresh, ih (by omega)]
      | false => simp [hgoes, hfresh, segTaken]
    · have hclass : (c < n + 1 ∧ s.isFresh k g = false) ↔ (c < n ∧ s.isFresh k g = false) :=
        and_congr_left' (by omega)
      simp only [hnc, if_false, ite_self, ih (by omega), hclass]

end Single

/-- The segments sent in the second stage, and what is left at the intermediates, after the turns of one slot. -/
theorem stage2_of_single {s : State} {k d c : Nat} {g : Seg} (hiq : s.sw.iq = [(iqKey k d c, [g])]) (hc : c < 8)
    (hd : d = (k + s.sw.slot) % 72) (hcopies : s.sw.copies = []) (hwall : s.sw.wall = []) (hskips : s.sw.skips = [])
    (hin : s.blockDead k = false) (hmeets : s.blockDead d = false) (hstop : c < 7 → s.stopped d c = false) :
    s.stage2 = if s.isFresh k g = false then (segTaken s (iqKey k d c)).send2 g else s := by
  have hblocks : ([iqKey k d c / 8 / 72].eraseDups : List Nat) = [k] := by
    rw [iqKey_block (by omega)]
    rfl
  have hturn := turn2_of_single hiq hc hcopies hwall hstop (Nat.le_refl 8)
  simp only [State.stage2, hiq, hcopies, hwall, hskips, List.map_cons, List.map_nil, List.append_nil, hblocks, List.foldl_cons,
    List.foldl_nil, ← hd, outOfReel_of_alive hin, outOfReel_of_alive hmeets, Bool.or_self, Bool.false_eq_true, if_false, hturn, hc, true_and]
  split <;> simp [State.notice2, segTaken, State.send2, hskips]

/-- R143: a slot sends the one segment at the intermediates to its resequencer, unless it arrived in this slot. -/
theorem doReelSlot_forwards {s : State} {k d c : Nat} {g : Seg} (hon : s.off = false) (hiq : s.sw.iq = [(iqKey k d c, [g])]) (hc : c < 8)
    (hd : d = (k + s.sw.slot) % 72) (hvoq : s.sw.voq = []) (hstreams : s.sw.streams = []) (hcopies : s.sw.copies = [])
    (hwall : s.sw.wall = []) (hskips : s.sw.skips = []) (hin : s.blockDead k = false) (hmeets : s.blockDead d = false)
    (hstop : c < 7 → s.stopped d c = false) :
    (s.isFresh k g = false → (doReelSlot s).sw.t2 = s.sw.t2 ++ [(s.sw.slot + 8, g)] ∧ (doReelSlot s).sw.iq = []) ∧
    (s.isFresh k g = true → (doReelSlot s).sw.t2 = s.sw.t2 ∧ (doReelSlot s).sw.iq = s.sw.iq) := by
  obtain ⟨flows, stop, hmoved⟩ := doReelSlot_moved hon
  obtain ⟨gone, x, hbegun⟩ := cycleBegun_presentIdle s
  have hsecond := stage2_of_single (s := slotBegun s gone x) hiq hc hd hcopies hwall hskips hin hmeets hstop
  rw [hmoved, stage1_of_idle ((cycleBegun_voq s).1.trans hvoq) ((cycleBegun_voq s).2.trans hstreams), hbegun, hsecond]
  refine ⟨fun hfresh => ?_, fun hfresh => ?_⟩
  · have hempty : kdel s.sw.iq (iqKey k d c) = [] := by
      rw [hiq]
      exact if_pos rfl
    rw [if_pos (show (slotBegun s gone x).isFresh k g = false from hfresh)]
    exact ⟨rfl, hempty⟩
  · rw [if_neg (show ¬ (slotBegun s gone x).isFresh k g = false from ne_false_of_eq_true hfresh)]
    exact ⟨rfl, rfl⟩

end Sys2Proof.Proofs

namespace Sys2Proof.Proofs
open Sys2Proof Sys2Proof.Machine Sys2Proof.Laws

/-! Arrival at an intermediate (R142, R143). -/

/-- A unicast segment has joined the queue of its destination and class at intermediate `k`; `fresh` is what has arrived in the slot. -/
def segQueued (s : State) (pos k : Nat) (g : Seg) (fresh : List (Nat × Nat × Nat)) : State := s.onSw (fun w => { w with
  t1 := w.t1.eraseIdx pos, iq := kput w.iq (iqKey k g.dst g.cls) (((kget w.iq (iqKey k g.dst g.cls)).getD []) ++ [g]), fresh := fresh })

theorem doSegmentArriveIntermediate_queues {pos k due : Nat} {g : Seg} {s : State} (hat : s.sw.t1[pos]? = some ⟨k, due, .uni g⟩)
    (hdue : due ≤ s.sw.slot) (halive : s.blockDead k = false) : doSegmentArriveIntermediate pos s =
      segQueued s pos k g (if due = s.sw.slot then (k, g.pid, g.idx) :: s.sw.fresh else s.sw.fresh) := by
  have halive' : (s.onSw (fun w => { w with t1 := w.t1.eraseIdx pos })).blockDead k = false := halive
  simp only [doSegmentArriveIntermediate, hat, hdue, if_true, halive', Bool.false_eq_true, if_false, State.arrive1, State.markFresh, onSw_sw]
  by_cases hnow : due = s.sw.slot
  · rw [if_pos hnow, beq_iff_eq.mpr hnow]
    rfl
  · rw [if_neg hnow, beq_eq_false_iff_ne.mpr hnow]
    rfl

theorem segQueued_fresh (s : State) (pos k : Nat) (g : Seg) (l : List (Nat × Nat × Nat)) :
    (segQueued s pos k g ((k, g.pid, g.idx) :: l)).isFresh k g = true := by
  simp [State.isFresh, segQueued]

/-! The flows at a resequencer (R146, R148). -/

@[simp] theorem flow_setFlow_same (s : State) (key : Nat) (f : Flow) : (s.setFlow key f).flow key = f := by
  simp only [State.flow, State.setFlow, onSw_sw, kget_kput_same, Option.getD_some]

theorem flow_setFlow_other (s : State) {key k : Nat} (f : Flow) (h : k ≠ key) : (s.setFlow key f).flow k = s.flow k := by
  simp only [State.flow, State.setFlow, onSw_sw, kget_kput_other _ _ _ _ h]

/-- The release of a segment and the discard of a packet leave the flows as they were. -/
theorem Kept.flow {s t : State} (h : Kept besideEgress s t) (key : Nat) : t.flow key = s.flow key :=
  (congrArg (fun v : State × (Nat → Nat) => v.1.flow key) h.eq :)

/-- The view beside the egress queues and the resequencers: what the work of a resequencer leaves as it was. -/
def besideReseq (s : State) : State × (Nat → Nat) :=
  ((besideEgress s).1.onSw (fun w => { w with flows := [], stop := [] }), coreCounts s)

namespace Kept
variable {s t : State}

theorem reseq (h : Kept besideEgress s t) : Kept besideReseq s t :=
  (congrArg (fun v : State × (Nat → Nat) => (v.1.onSw (fun w => { w with flows := [], stop := [] }), v.2)) h.eq :)

theorem t2 (h : Kept besideReseq s t) : t.sw.t2 = s.sw.t2 := (congrArg (fun v : State × (Nat → Nat) => v.1.sw.t2) h.eq :)

theorem skipT (h : Kept besideReseq s t) : t.sw.skipT = s.sw.skipT :=
  (congrArg (fun v : State × (Nat → Nat) => v.1.sw.skipT) h.eq :)

/-- A resequencer counts nothing in the core but TC7_CORE_LATE as it releases segments. -/
theorem coreCount (h : Kept besideReseq s t) {i : Nat} (hi : i % 16 ≠ CoreEv.tc7CoreLate.ctorIdx) : t.count 4 i = s.count 4 i := by
  have hcounts : coreCounts t i = coreCounts s i := (congrArg (fun v : State × (Nat → Nat) => v.2 i) h.eq :)
  rwa [coreCounts, if_neg hi, coreCounts, if_neg hi] at hcounts

end Kept

theorem setFlow_kept (s : State) (key : Nat) (f : Flow) : Kept besideReseq s (s.setFlow key f) := rfl

theorem StopsMoved.kept {s t : State} (h : StopsMoved s t) : Kept besideReseq s t := by
  obtain ⟨_, _, rfl⟩ := h
  rfl

/-- Between `s` and `t` at most the timers of gaps were halted or went on; a flow that holds nothing has no gap (R148). -/
structure TimersMoved (s t : State) : Prop where
  exp : ∀ key, (t.flow key).exp = (s.flow key).exp
  held : ∀ key, (t.flow key).held = (s.flow key).held
  skip : ∀ key, (t.flow key).skip = (s.flow key).skip
  idle : ∀ key, (s.flow key).held = [] → (s.flow key).since = none → t.flow key = s.flow key

namespace TimersMoved

theorem refl (s : State) : TimersMoved s s := ⟨fun _ => rfl, fun _ => rfl, fun _ => rfl, fun _ _ _ => rfl⟩

theorem trans {s t u : State} (hst : TimersMoved s t) (htu : TimersMoved t u) : TimersMoved s u where
  exp key := (htu.exp key).trans (hst.exp key)
  held key := (htu.held key).trans (hst.held key)
  skip key := (htu.skip key).trans (hst.skip key)
  idle key hheld hsince := by
    have hst' := hst.idle key hheld hsince
    exact (htu.idle key (hst' ▸ hheld) (hst' ▸ hsince)).trans hst'

theorem foldl {α : Type} {g : State → α → State} (hg : ∀ s a, TimersMoved s (g s a)) (l : List α) (s : State) :
    TimersMoved s (l.foldl g s) := by
  induction l generalizing s with
  | nil => exact refl s
  | cons a l ih => exact (hg s a).trans (ih _)

/-- A flow whose timer alone is set, because something is held or the timer ran. -/
theorem setTimer (s : State) (key ran : Nat) (since : Option Nat) (hgap : (s.flow key).held = [] → (s.flow key).since ≠ none) :
    TimersMoved s (s.setFlow key { s.flow key with ran := ran, since := since }) := by
  have hfield {γ : Type} (π : Flow → γ) (hπ : π { s.flow key with ran := ran, since := since } = π (s.flow key)) (k : Nat) :
      π ((s.setFlow key { s.flow key with ran := ran, since := since }).flow k) = π (s.flow k) := by
    by_cases hk : k = key
    · rw [hk, flow_setFlow_same, hπ]
    · rw [flow_setFlow_other _ _ hk]
  refine ⟨hfield Flow.exp rfl, hfield Flow.held rfl, hfield Flow.skip rfl, fun k hheld hsince => flow_setFlow_other _ _ fun hk => ?_⟩
  subst hk
  exact hgap hheld hsince

theorem gapJudge (s : State) (key : Nat) : TimersMoved s (s.gapJudge key) := by
  simp only [State.gapJudge]
  split
  · next hruns _ => exact setTimer s key _ _ (fun hheld => by simp [State.gapRuns, hheld] at hruns)
  · next _ hsince => exact setTimer s key _ _ (fun _ => by rw [hsince]; exact Option.some_ne_none _)
  · exact refl s

theorem setStop (s : State) (d c : Nat) (on : Bool) : TimersMoved s (s.setStop d c on) := by
  refine trans ?_ (foldl gapJudge _ _)
  exact ⟨fun _ => rfl, fun _ => rfl, fun _ => rfl, fun _ _ _ => rfl⟩

theorem updStop (s : State) (d c : Nat) : TimersMoved s (s.updStop d c) := by
  simp only [State.updStop]
  repeat' split
  · exact refl s
  · exact setStop s d c true
  · exact setStop s d c false
  · exact refl s

theorem updStops (s : State) (k : Nat) : TimersMoved s (s.updStops k) :=
  foldl (fun s d => foldl (fun s c => updStop s d c) _ s) _ s

end TimersMoved

/-! Releases (R148). -/

/-- A flow that holds nothing and skips nothing releases nothing more. -/
theorem releaseRun_of_idle {s : State} {key e ran : Nat} {since : Option Nat} (hflow : s.flow key = ⟨e, [], [], ran, since⟩) (fuel : Nat) :
    s.releaseRun key fuel = s := by
  cases fuel with
  | zero => rfl
  | succ fuel => simp [State.releaseRun, hflow]

theorem releaseRun_kept (s : State) (key fuel : Nat) : Kept besideReseq s (s.releaseRun key fuel) := by
  induction fuel generalizing s with
  | zero => rfl
  | succ fuel ih =>
    simp only [State.releaseRun]
    repeat' split
    · exact (setFlow_kept ..).trans (ih _)
    · exact ((setFlow_kept ..).trans (release_kept ..).reseq).trans (ih _)
    · rfl
    · rfl

theorem runOn_kept (s : State) (key : Nat) : Kept besideReseq s (s.runOn key) := (releaseRun_kept ..).trans (setFlow_kept ..)

/-- A flow that has moved on past all it held. -/
def idleFlow (exp : Nat) : Flow := ⟨exp, [], [], 0, none⟩

section Flow
variable {s : State} {key e ran : Nat} {since : Option Nat}

/-- R148: a timer that starts anew where nothing is held does not run. -/
theorem flow_gapRestart_of_idle (hflow : s.flow key = ⟨e, [], [], ran, since⟩) : (s.gapRestart key).flow key = idleFlow e := by
  simp [State.gapRestart, State.gapRuns, hflow, idleFlow]

/-- What a resequencer does once its flow holds and skips nothing more. -/
theorem flow_runOn_of_idle (hflow : s.flow key = ⟨e, [], [], ran, since⟩) : (s.runOn key).flow key = idleFlow e := by
  rw [State.runOn, releaseRun_of_idle hflow, flow_gapRestart_of_idle hflow]

/-- R148: the one segment held, with the number that the flow expects, is released. -/
theorem flow_runOn_of_single {g : Seg} (hflow : s.flow key = ⟨g.seq, [g], [], ran, since⟩) :
    (s.runOn key).flow key = idleFlow ((g.seq + 1) % 4096) := by
  have hreleased : ((s.setFlow key ⟨(g.seq + 1) % 4096, [], [], ran, since⟩).release g).flow key = ⟨(g.seq + 1) % 4096, [], [], ran, since⟩ := by
    rw [(release_kept ..).flow, flow_setFlow_same]
  have hrun : s.releaseRun key 2 = (s.setFlow key ⟨(g.seq + 1) % 4096, [], [], ran, since⟩).release g := by
    simp only [State.releaseRun, hflow, List.contains_nil, Bool.false_eq_true, if_false, if_true, hreleased]
  simp only [State.runOn, hflow, List.length_cons, List.length_nil, hrun]
  exact flow_gapRestart_of_idle hreleased

end Flow

/-- Stop judged again leaves an idle flow idle. -/
theorem flow_updStops_of_idle {s : State} {key exp : Nat} (h : s.flow key = idleFlow exp) (k : Nat) :
    (s.updStops k).flow key = idleFlow exp :=
  ((TimersMoved.updStops s k).idle key (by rw [h]; rfl) (by rw [h]; rfl)).trans h

/-! Arrival at a resequencer (R143, R148). -/

/-- The segment at a place of the second stage has left it. -/
def t2Taken (s : State) (pos : Nat) : State := s.onSw (fun w => { w with t2 := w.t2.eraseIdx pos })

/-- The segment is held by its flow. -/
def segHeld (s : State) (pos : Nat) (g : Seg) : State :=
  let f := s.flow (flowKey g.dst g.src g.cls g.mc)
  (t2Taken s pos).setFlow (flowKey g.dst g.src g.cls g.mc) { f with held := insertHeld f.exp g f.held }

theorem flow_segHeld (s : State) (pos : Nat) (g : Seg) : (segHeld s pos g).flow (flowKey g.dst g.src g.cls g.mc) =
    { s.flow (flowKey g.dst g.src g.cls g.mc) with
      held := insertHeld (s.flow (flowKey g.dst g.src g.cls g.mc)).exp g (s.flow (flowKey g.dst g.src g.cls g.mc)).held } :=
  flow_setFlow_same ..

section Arrival
variable {pos due : Nat} {g : Seg} {s : State} (hat : s.sw.t2[pos]? = some (due, g)) (hdue : due ≤ s.sw.slot)
variable (halive : s.blockDead g.dst = false)
include hat hdue halive

theorem doSegmentArriveResequencer_eq : doSegmentArriveResequencer pos s = (t2Taken s pos).arrive2 g := by
  have halive' : (t2Taken s pos).blockDead g.dst = false := halive
  simp only [doSegmentArriveResequencer, hat, hdue, if_true]
  exact if_neg (ne_true_of_eq_false halive')

/-- R148: the segment that the flow expects is released, and the flow moves on. -/
theorem doSegmentArriveResequencer_inOrder {ran : Nat} {since : Option Nat}
    (hflow : s.flow (flowKey g.dst g.src g.cls g.mc) = ⟨g.seq, [], [], ran, since⟩) :
    (doSegmentArriveResequencer pos s).sw.t2 = s.sw.t2.eraseIdx pos ∧
    (doSegmentArriveResequencer pos s).flow (flowKey g.dst g.src g.cls g.mc) = idleFlow ((g.seq + 1) % 4096) := by
  rw [doSegmentArriveResequencer_eq hat hdue halive]
  have hflow' : (t2Taken s pos).flow (flowKey g.dst g.src g.cls g.mc) = ⟨g.seq, [], [], ran, since⟩ := hflow
  have hahead : (g.seq + 4096 - g.seq) % 4096 = 0 := by simp
  simp only [State.arrive2, hflow', hahead, List.contains_nil, Bool.false_eq_true, or_false, if_true,
    show ¬ 2048 ≤ 0 from Nat.not_succ_le_zero _, if_false]
  generalize flowKey g.dst g.src g.cls g.mc = key
  refine ⟨?_, flow_updStops_of_idle (flow_runOn_of_idle (((release_kept ..).flow key).trans (flow_setFlow_same ..))) _⟩
  exact (((setFlow_kept ..).trans (release_kept ..).reseq).trans (runOn_kept ..)).trans (StopsMoved.updStops ..).kept |>.t2

/-- R148: a segment ahead of the one expected is held, and the timer of its gap goes on or starts. -/
theorem doSegmentArriveResequencer_ahead
    (hahead : 0 < (g.seq + 4096 - (s.flow (flowKey g.dst g.src g.cls g.mc)).exp) % 4096)
    (hnear : (g.seq + 4096 - (s.flow (flowKey g.dst g.src g.cls g.mc)).exp) % 4096 < 2048)
    (hskip : (s.flow (flowKey g.dst g.src g.cls g.mc)).skip.contains g.seq = false) :
    TimersMoved (segHeld s pos g) (doSegmentArriveResequencer pos s) ∧ StopsMoved (segHeld s pos g) (doSegmentArriveResequencer pos s) := by
  rw [doSegmentArriveResequencer_eq hat hdue halive]
  have hheld : (t2Taken s pos).arrive2 g =
      ((segHeld s pos g).gapJudge (flowKey g.dst g.src g.cls g.mc)).updStops (regionOfBlock g.dst) := by
    have hflow : (t2Taken s pos).flow (flowKey g.dst g.src g.cls g.mc) = s.flow (flowKey g.dst g.src g.cls g.mc) := rfl
    simp only [State.arrive2, hflow, Nat.not_le.mpr hnear, hskip, Nat.pos_iff_ne_zero.mp hahead, Bool.false_eq_true, or_self, if_false]
    rfl
  rw [hheld]
  exact ⟨(TimersMoved.gapJudge ..).trans (TimersMoved.updStops ..), (StopsMoved.gapJudge ..).trans (StopsMoved.updStops ..)⟩

/-- R148: a segment behind the one expected is late, and counted. -/
theorem doSegmentArriveResequencer_late (hon : s.off = false)
    (hlate : 2048 ≤ (g.seq + 4096 - (s.flow (flowKey g.dst g.src g.cls g.mc)).exp) % 4096) :
    (doSegmentArriveResequencer pos s).sw.t2 = s.sw.t2.eraseIdx pos ∧
    Counted 4 (16 * (8 * regionOfBlock g.dst + g.cls) + CoreEv.reseqLate.ctorIdx) s (doSegmentArriveResequencer pos s) := by
  rw [doSegmentArriveResequencer_eq hat hdue halive]
  have hlate' : 2048 ≤ (g.seq + 4096 - ((t2Taken s pos).flow (flowKey g.dst g.src g.cls g.mc)).exp) % 4096 := hlate
  simp only [State.arrive2, hlate', true_or, if_true]
  have hcounted := (bumpN_counts (s := t2Taken s pos) hon (show 2 ≤ 4 by decide) (16 * (8 * regionOfBlock g.dst + g.cls) + CoreEv.reseqLate.ctorIdx)).1
  have hforgot : Kept besideReseq ((t2Taken s pos).bumpCore (regionOfBlock g.dst) g.cls .reseqLate) _ :=
    (gc_kept _ g.pid).egress.reseq.trans (StopsMoved.updStops _ (regionOfBlock g.dst)).kept
  refine ⟨?_, ?_⟩
  · exact hforgot.t2.trans (congrArg Sw.t2 (bumpCore_sw ..))
  · exact counted_congr hcounted rfl (hforgot.coreCount (by rw [Nat.mul_add_mod]; decide))

end Arrival

/-! Skips and gaps (R148, R156). -/

/-- The notice at a place has reached its resequencer. -/
def skipTaken (s : State) (pos : Nat) : State := s.onSw (fun w => { w with skipT := w.skipT.eraseIdx pos })

/-- R156: a notice for the one number that its flow expects moves the flow on. -/
theorem doSkipNoticeReceived_skips {pos : Nat} {n : Notice} {s : State} (hat : s.sw.skipT[pos]? = some n) (hdue : n.due ≤ s.sw.slot)
    (hone : n.n = 1) {ran : Nat} {since : Option Nat} (hflow : s.flow (flowKey n.d n.src n.cls true) = ⟨n.base % 4096, [], [], ran, since⟩) :
    (doSkipNoticeReceived pos s).sw.skipT = s.sw.skipT.eraseIdx pos ∧
    (doSkipNoticeReceived pos s).flow (flowKey n.d n.src n.cls true) = idleFlow ((n.base % 4096 + 1) % 4096) := by
  have hflow' : (skipTaken s pos).flow (flowKey n.d n.src n.cls true) = ⟨n.base % 4096, [], [], ran, since⟩ := hflow
  have hbehind : (n.base % 4096 + 4096 - n.base % 4096) % 4096 = 0 := by simp
  have hpast := numSkipped_kept (skipTaken s pos) n.d n.src n.cls true (n.base % 4096)
  have hexec : doSkipNoticeReceived pos s = ((((skipTaken s pos).numSkipped n.d n.src n.cls true (n.base % 4096)).setFlow
      (flowKey n.d n.src n.cls true) ⟨(n.base % 4096 + 1) % 4096, [], [], ran, since⟩).runOn (flowKey n.d n.src n.cls true)).updStops
        (regionOfBlock n.d) := by
    simp only [doSkipNoticeReceived, hat, hdue, if_true, hone]
    refine congrArg (fun u : State => u.updStops (regionOfBlock n.d)) (?_ : (skipTaken s pos).skipNums n.d n.src n.cls true n.base 1 = _)
    simp only [State.skipNums, hflow', hbehind, hpast.flow, List.contains_nil, Bool.false_eq_true, or_false,
      show ¬ 2048 ≤ 0 from Nat.not_succ_le_zero _, if_false, if_true]
  rw [hexec]
  refine ⟨?_, flow_updStops_of_idle (flow_runOn_of_idle (flow_setFlow_same ..)) _⟩
  exact ((hpast.reseq.trans (setFlow_kept ..)).trans (runOn_kept ..)).trans (StopsMoved.updStops ..).kept |>.skipT

/-- R148: the flow whose timer is asked for has a gap. -/
theorem gapRuns_of_held {s : State} {d i c : Nat} {mc : Bool} (hi : i < 72) (hc : c < 8)
    (hstop : s.stopped d c = false) (hheld : (s.flow (flowKey d i c mc)).held ≠ []) : s.gapRuns (flowKey d i c mc) = true := by
  have hmc : b2n mc < 2 := by cases mc <;> decide
  have hblock : flowKey d i c mc / 16 / 72 = d := by rw [flowKey]; omega
  have hclass : flowKey d i c mc / 2 % 8 = c := by rw [flowKey]; omega
  rw [State.gapRuns, hblock, hclass, hstop, Bool.not_false, Bool.and_true, Bool.not_eq_true', List.isEmpty_eq_false_iff]
  exact hheld

/-- R148: at its timeout the gap before the one segment held is skipped, and the segment released. -/
theorem doReseqTimeout_skips {d i : Fin 72} {c : Fin 8} {mc : Bool} {g : Seg} {s : State} (hon : s.off = false)
    (hstop : s.stopped d c = false) {e ran : Nat} {since : Option Nat} (hflow : s.flow (flowKey d i c mc) = ⟨e, [g], [], ran, since⟩)
    (hlimit : s.reseqLimit ≤ s.gapTime (flowKey d i c mc)) :
    (doReseqTimeout d i c mc s).flow (flowKey d i c mc) = idleFlow ((g.seq + 1) % 4096) ∧
    Counted 4 (16 * (8 * regionOfBlock d + c) + CoreEv.reseqSkip.ctorIdx) s (doReseqTimeout d i c mc s) := by
  have hruns : s.gapRuns (flowKey d i c mc) = true := gapRuns_of_held i.isLt c.isLt hstop (by rw [hflow]; exact List.cons_ne_nil _ _)
  simp only [doReseqTimeout, hruns, hlimit, decide_true, Bool.and_self, if_true]
  have hcounted := (bumpN_counts (s := s) hon (show 2 ≤ 4 by decide) (16 * (8 * regionOfBlock d + c) + CoreEv.reseqSkip.ctorIdx)).1
  have hflow' : (s.bumpCore (regionOfBlock d) c .reseqSkip).flow (flowKey d i c mc) = ⟨e, [g], [], ran, since⟩ := by
    rw [State.flow, bumpCore_sw]
    exact hflow
  generalize hu : s.bumpCore (regionOfBlock d) c .reseqSkip = u at hflow'
  replace hcounted : Counted 4 (16 * (8 * regionOfBlock d + c) + CoreEv.reseqSkip.ctorIdx) s u := hu ▸ hcounted
  simp only [State.skipGap, hflow']
  generalize hfold : List.foldl _ _ _ = v
  have hpast : Kept besideEgress u v := hfold ▸ .foldl (fun _ _ => numSkipped_kept ..) ..
  have hsingle := flow_setFlow_same v (flowKey d i c mc) ⟨g.seq, [g], [], ran, since⟩
  simp only [hpast.flow, hflow', List.filter_nil]
  refine ⟨flow_updStops_of_idle (flow_runOn_of_single hsingle) _, counted_congr hcounted rfl ?_⟩
  refine Kept.coreCount ?_ (by rw [Nat.mul_add_mod]; decide)
  exact ((hpast.reseq.trans (setFlow_kept ..)).trans (runOn_kept ..)).trans (StopsMoved.updStops ..).kept

end Sys2Proof.Proofs

namespace Sys2Proof.Proofs
open Sys2Proof Sys2Proof.Machine Sys2Proof.Laws

/-! Spill (R137). -/

/-- `n` segments of a packet have been read from the HBM part of its queue into the pool of region `k`. -/
structure Refilled (k pid : Nat) (p : Pkt) (n : Nat) (s t : State) : Prop where
  pkt : t.pkt? pid = some { p with hseg := p.hseg - n }
  free : t.poolFree k = s.poolFree k - n
  voq : t.sw.voq = s.sw.voq
  parts : OnlyParts [.sw, .regs] s t

theorem Refilled.refl {k pid : Nat} {p : Pkt} {s : State} (hpkt : s.pkt? pid = some p) : Refilled k pid p 0 s s :=
  ⟨hpkt, rfl, rfl, onlyParts_refl _ s⟩

theorem Refilled.cons {k pid n : Nat} {p : Pkt} {s t u : State} (hone : Refilled k pid p 1 s t)
    (hrest : Refilled k pid { p with hseg := p.hseg - 1 } n t u) : Refilled k pid p (n + 1) s u where
  pkt := by rw [hrest.pkt, Nat.sub_sub, Nat.add_comm]
  free := by rw [hrest.free, hone.free, Nat.sub_sub, Nat.add_comm]
  voq := hrest.voq.trans hone.voq
  parts := onlyParts_trans hone.parts hrest.parts

/-- One segment read from the HBM part. -/
def refillOne (s : State) (k pid : Nat) : State :=
  ((s.onPkt pid (fun p => { p with hseg := p.hseg - 1 })).poolSub k 1).wr .corePoolStatus_spillUsed k (s.rd .corePoolStatus_spillUsed k - 1)

theorem refillOne_refilled {k pid : Nat} {p : Pkt} {s : State} (hpkt : s.pkt? pid = some p) : Refilled k pid p 1 s (refillOne s k pid) where
  pkt := by
    rw [refillOne, pkt?_wr, State.poolSub, pkt?_wr, pkt?_onPkt_same, hpkt]
    rfl
  free := by
    have hregs : (s.onPkt pid (fun p => { p with hseg := p.hseg - 1 })).poolFree k = s.poolFree k := by
      rw [onPkt_of_pkt hpkt]
      rfl
    have hfits : s.poolFree k < 2 ^ Fld.width .corePoolStatus_free := rd_lt ..
    rw [refillOne, State.poolFree, rd_wr_other _ _ (.inl (by decide)), State.poolSub, rd_wr_same, hregs]
    exact Nat.mod_eq_of_lt (by omega)
  voq := by
    rw [refillOne, onPkt_of_pkt hpkt]
    rfl
  parts := by
    rw [refillOne, onPkt_of_pkt hpkt]
    exact onlyParts_trans (onlyParts_trans (onlyParts_onSw (by simp) ..) (onlyParts_wr (by simp) ..)) (onlyParts_wr (by simp) ..)

theorem occ_of_single {s : State} {pid : Nat} {p : Pkt} (hpkt : s.pkt? pid = some p) : s.occ [pid] = p.sram := by
  simp [State.occ, hpkt]

theorem hbmPart_of_single {s : State} {pid : Nat} {p : Pkt} (hpkt : s.pkt? pid = some p) : s.hbmPart [pid] = p.hseg := by
  simp [State.hbmPart, hpkt]

theorem nextHbm_of_single {s : State} {pid : Nat} {p : Pkt} (hpkt : s.pkt? pid = some p) (hhbm : 0 < p.hseg) (hnseg : p.hseg ≤ p.nseg)
    (hord : p.nseg ≤ p.ord.length) : s.nextHbm [pid] = some pid := by
  have hat : p.ord[p.nseg - p.hseg]? = some p.ord[p.nseg - p.hseg] := List.getElem?_eq_getElem (by omega)
  simp [State.nextHbm, State.least, hpkt, Nat.pos_iff_ne_zero.mp hhbm, hat]

theorem nextHbm_of_empty {s : State} {pid : Nat} {p : Pkt} (hpkt : s.pkt? pid = some p) (hhbm : p.hseg = 0) : s.nextHbm [pid] = none := by
  simp [State.nextHbm, State.least, hpkt, hhbm]

/-- R137: the one packet of a queue is refilled by what its HBM part holds, what its SRAM head lacks and what the pool has free. -/
theorem refillRun_of_single {i c m pid : Nat} {fuel : Nat} {p : Pkt} {s : State} (hvoq : s.voq i c m = [pid]) (hpkt : s.pkt? pid = some p)
    (hnseg : p.sent + p.hseg ≤ p.nseg) (hord : p.nseg ≤ p.ord.length)
    (hfuel : min (min p.hseg (64 - p.sram)) (s.poolFree (regionOfBlock i)) ≤ fuel) :
    Refilled (regionOfBlock i) pid p (min (min p.hseg (64 - p.sram)) (s.poolFree (regionOfBlock i))) s (s.refillRun i c m fuel) := by
  induction fuel generalizing s p with
  | zero =>
    rw [Nat.le_zero.mp hfuel]
    exact .refl hpkt
  | succ fuel ih =>
    simp only [State.refillRun, hvoq, occ_of_single hpkt]
    by_cases hroom : p.sram < 64 ∧ 0 < s.poolFree (regionOfBlock i)
    · rw [if_pos hroom]
      obtain ⟨hlacks, hfree⟩ := hroom
      by_cases hhbm : p.hseg = 0
      · rw [nextHbm_of_empty hpkt hhbm, hhbm, Nat.zero_min, Nat.zero_min]
        exact .refl hpkt
      · rw [nextHbm_of_single hpkt (by omega) (by omega) hord]
        have hone := refillOne_refilled (k := regionOfBlock i) hpkt
        have hsram : ({ p with hseg := p.hseg - 1 } : Pkt).sram = p.sram + 1 := by
          simp only [Pkt.sram] at hlacks ⊢
          omega
        have hrest := ih (s := refillOne s (regionOfBlock i) pid) (p := { p with hseg := p.hseg - 1 })
          ((congrArg (fun q => (kget q (voqKey i c m)).getD []) hone.voq).trans hvoq) hone.pkt (by dsimp only; omega) hord
          (by rw [hone.free, hsram]; dsimp only; omega)
        rw [hone.free, hsram] at hrest
        have hcount : min (min p.hseg (64 - p.sram)) (s.poolFree (regionOfBlock i)) =
            min (min (p.hseg - 1) (64 - (p.sram + 1))) (s.poolFree (regionOfBlock i) - 1) + 1 := by omega
        rw [hcount]
        exact hone.cons hrest
    · rw [if_neg hroom]
      have hnone : min (min p.hseg (64 - p.sram)) (s.poolFree (regionOfBlock i)) = 0 := by omega
      rw [hnone]
      exact .refl hpkt

theorem spillEnds_moves (s : State) (i c m : Nat) : ∃ spill, s.spillEnds i c m = s.onSw (fun w => { w with spill := spill }) ∧
    (s.hbmPart (s.voq i c m) = 0 → voqKey i c m ∉ spill) := by
  rw [State.spillEnds]
  split
  · exact ⟨_, rfl, fun _ h => by simp at h⟩
  · next hne => exact ⟨s.sw.spill, rfl, fun h => absurd h hne⟩

/-- R137: a queue of one packet is refilled, and leaves spill when its HBM part is empty. -/
theorem doSpillRefill_refills {i d : Fin 72} {c : Fin 4} {pid n : Nat} {p : Pkt} {s : State}
    (halive : s.stackDead (stackOf (regionOfBlock i)) = false) (hvoq : s.voq i c d = [pid]) (hpkt : s.pkt? pid = some p)
    (hnseg : p.sent + p.hseg ≤ p.nseg) (hord : p.nseg ≤ p.ord.length)
    (hn : n = min (min p.hseg (64 - p.sram)) (s.poolFree (regionOfBlock i))) :
    (doSpillRefill i d c s).pkt? pid = some { p with hseg := p.hseg - n } ∧
    (doSpillRefill i d c s).poolFree (regionOfBlock i) = s.poolFree (regionOfBlock i) - n ∧
    (n = p.hseg → voqKey i c d ∉ (doSpillRefill i d c s).sw.spill) ∧ OnlyParts [.sw, .regs] s (doSpillRefill i d c s) := by
  subst hn
  have hrun := refillRun_of_single (fuel := 64) hvoq hpkt hnseg hord (by omega)
  obtain ⟨spill, hspill, hempty⟩ := spillEnds_moves (s.refillRun i c d 64) i c d
  obtain ⟨flows, stop, hstops⟩ := StopsMoved.updStops (s.refill i c d) (regionOfBlock i)
  have hparts : OnlyParts [.sw, .regs] s (s.refill i c d) := by
    rw [State.refill, hspill]
    exact onlyParts_trans hrun.parts (onlyParts_onSw (by simp) ..)
  have hexec : doSpillRefill i d c s = (s.refill i c d).updStops (regionOfBlock i) := if_neg (ne_true_of_eq_false halive)
  rw [hexec, hstops]
  refine ⟨?_, ?_, ?_, onlyParts_trans hparts (onlyParts_onSw (by simp) ..)⟩ <;> rw [State.refill, hspill]
  · exact hrun.pkt
  · exact hrun.free
  intro hall
  refine hempty ?_
  have hvoq' : (s.refillRun i c d 64).voq i c d = [pid] := (congrArg (fun q => (kget q (voqKey i c d)).getD []) hrun.voq).trans hvoq
  rw [hvoq', hbmPart_of_single hrun.pkt]
  dsimp only
  omega

/-! The sweep of aged packets (R161). -/

/-- With no egress queue there is no copy to drop. -/
theorem dropCopies_of_empty {s : State} (hegq : s.sw.egq = []) (pid d c : Nat) : s.dropCopies pid d c = s := by
  have hnone : ∀ n, s.egq n c = [] := fun n => by rw [State.egq, hegq]; rfl
  rw [State.dropCopies]
  generalize (List.range 8).map (fun j => 8 * d + j) = ports
  induction ports with
  | nil => rfl
  | cons n ports ih => rw [List.foldl_cons, hnone n]; exact ih

theorem discardAt_egq {s : State} (hegq : s.sw.egq = []) (pid d : Nat) : (s.discardAt pid d).sw.egq = [] := by
  simp only [State.discardAt]
  split
  · exact hegq
  · rw [dropCopies_of_empty (((onPkt_kept ..).sw_of_segs Sw.egq).trans hegq), State.dropGather]
    split
    · exact ((onPkt_kept ..).sw_of_segs Sw.egq).trans hegq
    · exact ((egFree_kept ..).sw_of_segs Sw.egq).trans (((onPkt_kept ..).sw_of_segs Sw.egq).trans hegq)

theorem lose_egq {s : State} (hegq : s.sw.egq = []) (pid : Nat) : (s.lose pid).sw.egq = [] := by
  rw [State.lose]
  split
  · exact hegq
  · next p hpkt =>
    clear hpkt
    generalize p.blocks = blocks
    induction blocks generalizing s with
    | nil => exact hegq
    | cons d blocks ih => exact ih (discardAt_egq hegq pid d)

/-- What a packet holds in its ingress queue is freed. -/
def ingressFreed (s : State) (pid : Nat) (p : Pkt) : State :=
  let k := regionOfBlock p.blk
  let s := s.freeIngress pid p.sram
  let s := s.wr .corePoolStatus_spillUsed k (s.rd .corePoolStatus_spillUsed k - p.hseg)
  s.onPkt pid (fun p => { p with hseg := 0, nseg := p.sent })

theorem ingressFreed_kept (s : State) (pid : Nat) (p : Pkt) : Kept besideSegs s (ingressFreed s pid p) :=
  ((freeIngress_kept ..).wr ..).trans (onPkt_kept ..)

theorem dropQueued_of_pkt {s : State} {pid : Nat} {p : Pkt} (hpkt : s.pkt? pid = some p) (m : Nat) :
    s.dropQueued pid m = ((((ingressFreed s pid p).setVoq p.blk p.cls m
      (((ingressFreed s pid p).voq p.blk p.cls m).filter (· != pid))).spillEnds p.blk p.cls m).lose pid).gc pid := by
  simp only [State.dropQueued, hpkt]
  rfl

/-- A packet taken out of its ingress queue, where no copy of it stands at an egress. -/
structure Dequeued (pid m : Nat) (p : Pkt) (s t : State) : Prop where
  voq : t.voq p.blk p.cls m = (s.voq p.blk p.cls m).filter (· != pid)
  wall : t.sw.wall = s.sw.wall
  egq : t.sw.egq = []
  off : t.off = s.off
  counts : coreCounts t = coreCounts s

theorem dropQueued_dequeued {s : State} {pid : Nat} {p : Pkt} (hpkt : s.pkt? pid = some p) (hegq : s.sw.egq = []) (m : Nat) :
    Dequeued pid m p s (s.dropQueued pid m) := by
  rw [dropQueued_of_pkt hpkt]
  have hfreed := ingressFreed_kept s pid p
  generalize ingressFreed s pid p = u at hfreed
  obtain ⟨spill, hspill, -⟩ := spillEnds_moves (u.setVoq p.blk p.cls m ((u.voq p.blk p.cls m).filter (· != pid))) p.blk p.cls m
  rw [hspill]
  have hvoq : u.voq p.blk p.cls m = s.voq p.blk p.cls m := hfreed.sw_of_segs (fun w => (kget w.voq (voqKey p.blk p.cls m)).getD [])
  generalize hqueue : (u.setVoq p.blk p.cls m ((u.voq p.blk p.cls m).filter (· != pid))).onSw (fun w => { w with spill := spill }) = v
  have hegq' : v.sw.egq = [] := by
    rw [← hqueue]
    exact (hfreed.sw_of_segs Sw.egq).trans hegq
  have hlost := lose_egq hegq' pid
  have hgone := gc_kept (v.lose pid) pid
  have hafter := (lose_kept v pid).trans hgone.egress
  generalize (v.lose pid).gc pid = t at hgone hafter
  refine ⟨?_, ?_, (hgone.sw_of_segs Sw.egq).trans hlost, ?_, ?_⟩
  · calc t.voq p.blk p.cls m
      _ = v.voq p.blk p.cls m := (congrArg (fun b : State × (Nat → Nat) => b.1.voq p.blk p.cls m) hafter.eq :)
      _ = (u.voq p.blk p.cls m).filter (· != pid) := by rw [← hqueue]; exact voq_setVoq_same ..
      _ = (s.voq p.blk p.cls m).filter (· != pid) := by rw [hvoq]
  · calc t.sw.wall
      _ = v.sw.wall := (congrArg (fun b : State × (Nat → Nat) => b.1.sw.wall) hafter.eq :)
      _ = u.sw.wall := by rw [← hqueue]; rfl
      _ = s.sw.wall := hfreed.sw_of_segs Sw.wall
  · calc t.off
      _ = v.off := (congrArg (fun b : State × (Nat → Nat) => b.1.off) hafter.eq :)
      _ = u.off := by rw [← hqueue]; rfl
      _ = s.off := (congrArg State.off hfreed.eq :)
  · calc coreCounts t
      _ = coreCounts v := (congrArg Prod.snd hafter.eq :)
      _ = coreCounts u := by rw [← hqueue]; rfl
      _ = coreCounts s := (congrArg coreCounts hfreed.eq :)

/-- With nothing held and no egress queue, the sweep tests the ingress queues alone. -/
theorem doAgeSweep_drops {s : State} {pid : Nat} {p : Pkt} {rest : List Nat} (hon : s.off = false)
    (hvoq : s.sw.voq = [(voqKey p.blk p.cls p.member, pid :: rest)]) (hwall : s.sw.wall = []) (hegq : s.sw.egq = [])
    (hpkt : s.pkt? pid = some p) (hsent : p.sent = 0) (haged : s.agedPkt p = true) :
    doAgeSweep s = (s.dropQueued pid p.member).bumpCore (regionOfBlock p.blk) p.cls .ageDrop := by
  have hdropped := dropQueued_dequeued hpkt hegq p.member
  have hwall' : ((s.dropQueued pid p.member).bumpCore (regionOfBlock p.blk) p.cls .ageDrop).sw.wall = [] := by
    rw [bumpCore_sw, hdropped.wall, hwall]
  have hegq' : ((s.dropQueued pid p.member).bumpCore (regionOfBlock p.blk) p.cls .ageDrop).sw.egq = [] := by
    rw [bumpCore_sw, hdropped.egq]
  simp only [doAgeSweep, hon, Bool.false_eq_true, if_false, hvoq, List.foldl_cons, List.foldl_nil, hpkt, hsent, haged, and_self, if_true,
    hwall', hegq']

/-- R161: the aged head of an ingress queue is dropped and counted. -/
theorem ageSweep_effect {s : State} {pid : Nat} {p : Pkt} {rest : List Nat} (hon : s.off = false)
    (hvoq : s.sw.voq = [(voqKey p.blk p.cls p.member, pid :: rest)]) (hegq : s.sw.egq = []) (hpkt : s.pkt? pid = some p) :
    ((s.dropQueued pid p.member).bumpCore (regionOfBlock p.blk) p.cls .ageDrop).voq p.blk p.cls p.member = rest.filter (· != pid) ∧
    Counted 4 (16 * (8 * regionOfBlock p.blk + p.cls) + CoreEv.ageDrop.ctorIdx) s
      ((s.dropQueued pid p.member).bumpCore (regionOfBlock p.blk) p.cls .ageDrop) := by
  have hdropped := dropQueued_dequeued hpkt hegq p.member
  generalize s.dropQueued pid p.member = t at hdropped
  constructor
  · have hqueue : s.voq p.blk p.cls p.member = pid :: rest := by
      rw [State.voq, hvoq]
      exact congrArg (Option.getD · []) (kget_kput_same [] _ _)
    rw [State.voq, bumpCore_sw]
    refine hdropped.voq.trans ?_
    rw [hqueue]
    simp
  · have hcount : coreCounts t (16 * (8 * regionOfBlock p.blk + p.cls) + CoreEv.ageDrop.ctorIdx) = _ := congrFun hdropped.counts _
    have hshown : (16 * (8 * regionOfBlock p.blk + p.cls) + CoreEv.ageDrop.ctorIdx) % 16 ≠ CoreEv.tc7CoreLate.ctorIdx := by
      rw [Nat.mul_add_mod]
      decide
    simp only [coreCounts, if_neg hshown] at hcount
    exact counted_congr (bumpN_counts (hdropped.off.trans hon) (by decide) _).1 hcount.symm rfl

end Sys2Proof.Proofs

namespace Sys2Proof.Proofs
open Sys2Proof Sys2Proof.Machine Sys2Proof.Laws

/-! The Reel (R137, R140 to R148, R161). -/

/-- A flow that skips nothing, by the segments it holds. -/
theorem flow_of_held {f : Machine.Flow} {held : List Seg} (hheld : f.held = held) (hskip : f.skip = []) :
    f = ⟨f.exp, held, [], f.ran, f.since⟩ := by
  cases f
  subst hheld hskip
  rfl

/-- Settles O47: each command's effect is the lemma that says what its `do` function does. -/
theorem reelMovesSegments : Obligations.ReelMovesSegments := by
  refine ⟨?advances, ?sends, ?forwards, ?intermediate, ?resequencer, ?notice, ?timeout, ?refill, ?sweep⟩
  case advances =>
    intro s hon
    obtain ⟨hslot, hfresh, hparts⟩ := doReelSlot_advances hon
    exact ⟨_, rfl, hslot, hfresh, onlyParts_settled hparts⟩
  case sends =>
    intro i c d pid p s hon hvoq _ hc hd hstreams hiq hcopies hwall hskips hpkt hin hmeets hready hord hage hroom hout
    exact ⟨_, rfl, doReelSlot_sends hon hvoq hc hd hstreams hiq hcopies hwall hskips hpkt hin hmeets hready hord hage hroom hout⟩
  case forwards =>
    intro k d c g s hon hiq _ hc hd hvoq hstreams hcopies hwall hskips hin hmeets hstop
    obtain ⟨hgoes, hwaits⟩ := doReelSlot_forwards hon hiq hc hd hvoq hstreams hcopies hwall hskips hin hmeets hstop
    exact ⟨fun hfresh => ⟨_, rfl, hgoes hfresh⟩, fun hfresh => ⟨_, rfl, hwaits hfresh⟩⟩
  case intermediate =>
    intro pos k due g s hat hdue halive
    refine completes_of_effect rfl (doSegmentArriveIntermediate_queues hat hdue halive)
      ⟨rfl, kget_kput_same .., fun hnow => ?_, onlyParts_settled (onlyParts_onSw (by simp) ..)⟩
    rw [if_pos hnow]
    exact segQueued_fresh ..
  case resequencer =>
    intro pos due g f s hat hdue hon halive hf _
    subst hf
    refine ⟨fun hseq hheld hskip => ?_, fun hahead hnear hskip => ?_, fun hlate _ => ?_⟩
    · have hidle := flow_of_held hheld hskip
      rw [← hseq] at hidle
      obtain ⟨htaken, hflow⟩ := doSegmentArriveResequencer_inOrder hat hdue halive hidle
      exact ⟨_, rfl, htaken, hseq ▸ hflow⟩
    · obtain ⟨htimers, flows, stop, hmoved⟩ := doSegmentArriveResequencer_ahead hat hdue halive hahead hnear hskip
      refine ⟨_, rfl, ?_, ?_, ?_, ?_, onlyParts_settled ?_⟩
      · exact congrArg (fun t : State => t.sw.t2) hmoved
      · exact (htimers.exp _).trans (by rw [flow_segHeld])
      · exact (htimers.held _).trans (by rw [flow_segHeld])
      · exact (htimers.skip _).trans (by rw [flow_segHeld])
      · rw [hmoved]
        exact onlyParts_trans (onlyParts_trans (onlyParts_onSw (by simp) ..) (onlyParts_onSw (by simp) ..)) (onlyParts_onSw (by simp) ..)
    · exact ⟨_, rfl, doSegmentArriveResequencer_late hat hdue halive hon hlate⟩
  case notice =>
    intro pos n f s hat hdue hone hf hbase hheld hskip
    subst hf
    have hidle := flow_of_held hheld hskip
    rw [← hbase] at hidle
    have hskipped := doSkipNoticeReceived_skips hat hdue hone hidle
    rw [hbase] at hskipped
    exact ⟨_, rfl, hskipped⟩
  case timeout =>
    intro d i c mc g s hon hstop hheld hskip _ hlimit
    exact ⟨_, rfl, doReseqTimeout_skips hon hstop (flow_of_held hheld hskip) hlimit⟩
  case refill =>
    intro i d c pid n p s halive hvoq hpkt hnseg hord hn
    obtain ⟨hrefilled, hfree, hends, hparts⟩ := doSpillRefill_refills halive hvoq hpkt hnseg hord hn
    exact ⟨_, rfl, hrefilled, hfree, hends, onlyParts_settled hparts⟩
  case sweep =>
    intro pid p rest s hon hvoq hwall hegq hpkt hsent haged
    exact completes_of_effect rfl (doAgeSweep_drops hon hvoq hwall hegq hpkt hsent haged) (ageSweep_effect hon hvoq hegq hpkt)

end Sys2Proof.Proofs

namespace Sys2Proof.Proofs
open Sys2Proof Sys2Proof.Machine Sys2Proof.Laws

/-! A drained port whose last packet leaves (R98, R168, R476). -/

/-- The last packet of port 8, whole and released in one segment. -/
def lastTx : Tx := { ep := { pid := 0, rel := 1, ent := 0, chg := 0 }, cls := 0, body := .frame [], stomp := false, underrun := false, left := 0 }

/-- What the packet buffer holds of it. -/
def lastPkt : Pkt :=
  { body := .frame [], inPort := none, blk := 0, dst := 1, cls := 0, itime := 0, mono := 0, steps := 0, dest := .port 8, inRate := 0, pport := 0,
    nseg := 1, arrived := 1, whole := true, err := false, begun := true, gone := [], nums := [], segT := [0], ord := [0], rsv := 0, sent := 1,
    hseg := 0 }

/-- A part in which port 8 is DRAINING with its queues empty, a deferred test of its lane 8 waits for it, and its last packet is
being sent. -/
def drainedPort : State :=
  let s := (State.reset.wr .corePortCfg_en 8 1).wr .corePortStatus_state 8 4
  { s with
      sw := { s.sw with pkts := [(0, lastPkt)], tx := [(16, lastTx)] }
      ports := { s.ports with port := [(8, { PortSt.init with waits := [.test] })], test := some ⟨[8], none, true, some 8⟩ } }

/-- The port enters CAL as the packet ends, and its lane is put under test. -/
theorem drainedPort_lane :
    (((doPacketTxEnd 8 true drainedPort).tryCal 8).ports.test.bind LaneTest.lane) = some 8 := by
  decide +kernel

/-- Refutes O48, in the frame of its fourth clause: the end of the last packet of `drainedPort` takes the port from DRAINING to CAL
(R476), where the test that waited for it begins (R98), so that more than the switch core, the counters, the registers and the
outputs changes. -/
theorem not_egressFollowsTheScheduler : ¬ Obligations.EgressFollowsTheScheduler := by
  rintro ⟨-, -, -, hend, -, -⟩
  obtain ⟨t, hexec, -, -, -, -, -, hsame⟩ :=
    hend 8 lastTx drainedPort rfl rfl (by decide) rfl (by decide +kernel) (by decide) rfl
  have hports : t.ports = drainedPort.ports := hsame .ports (by decide)
  obtain rfl : drainedPort.settled ((doPacketTxEnd 8 true drainedPort).tryCal 8) = t := by
    injection hexec
  have hlane := drainedPort_lane
  rw [← settled_ports drainedPort, hports] at hlane
  exact absurd hlane (by decide)

end Sys2Proof.Proofs

/-! The cycle timer and the gate lists: what a boundary, a stop and a write of a list change (R184 to R190, R203). -/

namespace Sys2Proof.Proofs
open Sys2Proof Sys2Proof.Machine Sys2Proof.Laws

/-- A store at one place of some fields is a store of those fields. -/
theorem StoresAt.stores {ps : List Part} {fs : List Fld} {n : Nat} {s t : State} (h : StoresAt ps fs n s t) : Stores ps fs s t :=
  ⟨h.parts, fun f i hf => h.place f i (.inl hf)⟩

theorem Stores.gate {ps : List Part} {fs : List Fld} {s t : State} (h : Stores ps fs s t) (hp : .gate ∉ ps) : t.gate = s.gate :=
  h.parts.2 .gate hp

/-- Steps that each store at a place of their own, for the places of a list. -/
theorem foldl_stores {ps : List Part} {fs : List Fld} {g : State → Nat → State} (hg : ∀ s n, StoresAt ps fs n s (g s n))
    (l : List Nat) (s : State) : Stores ps fs s (l.foldl g s) :=
  (Stores.refl ps fs s).foldl (fun t n h => h.trans (hg t n).stores) l

/-- They leave a place alone that is not in the list. -/
theorem rd_foldl_other_place {ps : List Part} {fs : List Fld} {g : State → Nat → State} (hg : ∀ s n, StoresAt ps fs n s (g s n))
    {l : List Nat} {n : Nat} (hn : n ∉ l) (s : State) (f : Fld) : (l.foldl g s).rd f n = s.rd f n := by
  induction l generalizing s with
  | nil => rfl
  | cons a l ih =>
    obtain ⟨hna, hnl⟩ := List.ne_and_not_mem_of_not_mem_cons hn
    rw [List.foldl_cons, ih hnl]
    exact (hg s a).place f n (.inr hna)

/-! The entry in force (R184, R185). -/

/-- What shows a port's place in its gate list. -/
def entryFields : List Fld := [.gatePortStatus_curEntry, .gatePortStatus_curState]

/-- Entry e of a list is shown with its gates. -/
def entryShown (s : State) (n e gates : Nat) : State := (s.wr .gatePortStatus_curEntry n e).wr .gatePortStatus_curState n gates

theorem rd_entryShown (s : State) (n e gates : Nat) :
    (entryShown s n e gates).rd .gatePortStatus_curEntry n = e % 2 ^ 6 ∧
      (entryShown s n e gates).rd .gatePortStatus_curState n = gates % 2 ^ 8 :=
  ⟨(rd_wr_other _ _ (.inl (by decide))).trans (rd_wr_same ..), rd_wr_same ..⟩

/-- R184: every gate of a port that follows no list is open. -/
theorem gateShow_of_not_follows {s : State} {n : Nat} (h : s.follows n = false) : s.gateShow n = entryShown s n 0 0xFF := by
  simp [State.gateShow, h, entryShown]

/-- R185: a port that follows its list shows the last entry that has begun, and class 7 open. -/
theorem gateShow_of_inForce {s : State} {n : Nat} {w : Nat × Nat × Nat × Nat} (h : s.follows n = true)
    (hw : (s.gateSpans n).reverse.find? (fun w => decide (w.2.1 ≤ span32 s.gate.last s.now)) = some w) :
    s.gateShow n = entryShown s n w.1 (w.2.2.2 ||| 0x80) := by
  simp [State.gateShow, h, hw, entryShown]

theorem gateShow_storesAt (s : State) (n : Nat) : StoresAt [.regs] entryFields n s (s.gateShow n) :=
  ((StoresAt.refl ..).wr _ (by decide)).wr _ (by decide)

theorem gateShowAll_stores (s : State) : Stores [.regs] entryFields s s.gateShowAll := by
  refine foldl_stores (g := fun s n => if s.flag .gatePortCtrl_en n then s.gateShow n else s) (fun s n => ?_) _ s
  split
  · exact gateShow_storesAt s n
  · exact StoresAt.refl ..

/-! SYNC_OUT (R203). -/

theorem pin_stores (s : State) (name : String) (level : Bool) : Stores [.out] [] s (s.pin name level) := by
  rw [State.pin]
  split
  · exact Stores.refl ..
  · exact (Stores.refl ..).emit _ (by decide)

theorem onGate_stores (s : State) (g : Gate → Gate) : Stores [.gate] [] s (s.onGate g) := by
  refine ⟨⟨rfl, fun p hp => ?_⟩, fun _ _ _ => rfl⟩
  cases p with
  | gate => exact absurd (List.mem_singleton.mpr rfl) hp
  | _ => rfl

/-- A change of the timer that is driven on a pin. -/
theorem pin_onGate_stores (s : State) (g : Gate → Gate) (name : String) (level : Bool) :
    Stores [.gate, .out] [] s ((s.onGate g).pin name level) :=
  ((onGate_stores s g).mono (by simp) (by simp)).trans ((pin_stores ..).mono (by simp) (by simp))

theorem syncLow_stores (s : State) : Stores [.gate, .out] [] s s.syncLow := by
  rw [State.syncLow]
  split
  · exact pin_onGate_stores ..
  · exact Stores.refl ..

/-- No pulse is high then. -/
@[simp] theorem syncLow_gate (s : State) : s.syncLow.gate = { s.gate with pulse := none } := by
  rw [State.syncLow]
  split
  · rw [pin_gate, onGate_gate]
  · next hlow =>
    have hnone : s.gate.pulse = none := by simpa using hlow
    rw [← hnone]

theorem syncPulse_stores (s : State) : Stores [.gate, .out] [] s s.syncPulse := by
  rw [State.syncPulse]
  split
  · exact pin_onGate_stores ..
  · exact Stores.refl ..

/-- A pulse that begins changes nothing else of the timer. -/
theorem syncPulse_gate (s : State) : ∃ pulse, s.syncPulse.gate = { s.gate with pulse := pulse } := by
  rw [State.syncPulse]
  split
  · exact ⟨some s.tb.mono, by rw [pin_gate, onGate_gate]⟩
  · exact ⟨s.gate.pulse, rfl⟩

/-- R203: SYNC_OUT_PULSE_END takes SYNC_OUT low 1,000 ns after its rising edge. -/
theorem exec_syncOutPulseEnd {s : State} {t0 : Nat} (hpulse : s.gate.pulse = some t0) (hover : t0 + 1000 ≤ s.tb.mono) :
    exec .syncOutPulseEnd s = settle s s.syncLow := by
  show execSyncOutPulseEnd s = _
  simp only [execSyncOutPulseEnd, hpulse, if_pos hover]

/-! Boundaries (R187, R188, R190). -/

/-- A pending commit of a port applies: the other bank becomes active. -/
def commitApplied (s : State) (n : Nat) : State :=
  if s.flag .gatePortCtrl_commit n then
    (s.wr .gatePortCtrl_active n (1 - s.rd .gatePortCtrl_active n)).wr .gatePortCtrl_commit n 0
  else s

theorem gateCommits_eq (s : State) : s.gateCommits = (List.range 512).foldl commitApplied s := rfl

/-- What a commit that applies stores. -/
def commitFields : List Fld := [.gatePortCtrl_active, .gatePortCtrl_commit]

theorem commitApplied_storesAt (s : State) (n : Nat) : StoresAt [.regs] commitFields n s (commitApplied s n) := by
  rw [commitApplied]
  split
  · exact ((StoresAt.refl ..).wr _ (by decide)).wr _ (by decide)
  · exact StoresAt.refl ..

theorem commitApplied_swaps {s : State} {n : Nat} (h : s.rd .gatePortCtrl_commit n = 1) :
    (commitApplied s n).rd .gatePortCtrl_commit n = 0 ∧
      (commitApplied s n).rd .gatePortCtrl_active n = (1 - s.rd .gatePortCtrl_active n) % 2 := by
  rw [commitApplied, if_pos (by rw [flag_def, h]; rfl)]
  exact ⟨rd_wr_same .., (rd_wr_other _ _ (.inl (by decide))).trans (rd_wr_same ..)⟩

theorem gateCommits_stores (s : State) : Stores [.regs] commitFields s s.gateCommits := foldl_stores commitApplied_storesAt _ s

/-- R188: the pending commit of every port applies once. -/
theorem gateCommits_swaps {s : State} {n : Nat} (hn : n < 512) (h : s.rd .gatePortCtrl_commit n = 1) :
    s.gateCommits.rd .gatePortCtrl_commit n = 0 ∧
      s.gateCommits.rd .gatePortCtrl_active n = (1 - s.rd .gatePortCtrl_active n) % 2 := by
  obtain ⟨before, after, hsplit⟩ := List.append_of_mem (List.mem_range.mpr hn)
  have hnodup : (before ++ n :: after).Nodup := hsplit ▸ List.nodup_range
  have hbefore : n ∉ before := fun hmem => (List.nodup_append.mp hnodup).2.2 n hmem n List.mem_cons_self rfl
  have hafter : n ∉ after := (List.nodup_cons.mp (List.nodup_append.mp hnodup).2.1).1
  have hkept := rd_foldl_other_place commitApplied_storesAt hbefore s
  have hswaps := commitApplied_swaps ((hkept _).trans h)
  rw [hkept] at hswaps
  rwa [gateCommits_eq, hsplit, List.foldl_append, List.foldl_cons, rd_foldl_other_place commitApplied_storesAt hafter,
    rd_foldl_other_place commitApplied_storesAt hafter]

/-- With no ARM pending, the boundary that is due is the running timer's own. -/
theorem boundaryDue_of_running {s : State} (harmed : s.gate.armed = none) (hruns : s.gateRuns = true)
    (hdue : s.reached s.gate.next = true) : s.boundaryDue = s.boundaryAt s.gate.next false false := by
  simp only [State.boundaryDue, harmed, hruns, hdue, Bool.and_self, if_true]

/-- The timer at a boundary at instant t, its commits applied. -/
def boundaryMoved (s : State) (t : Nat) (fresh stepped : Bool) : State :=
  s.gateCommits.onGate (fun g => { g with
    last := t, next := (t + g.cycle) % 2 ^ 32, lastStepped := stepped, nextStepped := false,
    count := if fresh then 0 else (s.gateCommits.gate.count + 1) % s.gateCommits.outDiv })

theorem boundaryAt_eq (s : State) (t : Nat) (fresh stepped : Bool) :
    s.boundaryAt t fresh stepped = (boundaryMoved s t fresh stepped).syncPulse.gateShowAll := rfl

/-- After its commits a boundary stores only what shows the entries. -/
theorem boundaryAt_stores (s : State) (t : Nat) (fresh stepped : Bool) :
    Stores [.regs, .gate, .out] entryFields s.gateCommits (s.boundaryAt t fresh stepped) := by
  have hmoved : Stores [.gate] [] s.gateCommits (boundaryMoved s t fresh stepped) := onGate_stores ..
  rw [boundaryAt_eq]
  exact ((hmoved.mono (by simp) (by simp)).trans ((syncPulse_stores _).mono (by simp) (by simp))).trans
    ((gateShowAll_stores _).mono (by simp) (List.Subset.refl _))

/-- R187, R190: a boundary that is not a start moves on to the next one, and counts. -/
theorem boundaryAt_gate (s : State) (t : Nat) (stepped : Bool) :
    ∃ pulse, (s.boundaryAt t false stepped).gate =
      { s.gate with last := t, next := (t + s.gate.cycle) % 2 ^ 32, lastStepped := stepped, nextStepped := false,
                    count := (s.gate.count + 1) % s.outDiv, pulse := pulse } := by
  have hdiv : s.gateCommits.outDiv = s.outDiv := by
    rw [State.outDiv, (gateCommits_stores s).regs _ 0 (by decide), State.outDiv]
  obtain ⟨pulse, hpulse⟩ := syncPulse_gate (boundaryMoved s t false stepped)
  refine ⟨pulse, ?_⟩
  rw [boundaryAt_eq, (gateShowAll_stores _).gate (by decide), hpulse, boundaryMoved, onGate_gate,
    (gateCommits_stores s).gate (by decide), hdiv]
  rfl

/-! The cycle timer is armed and stops (R187). -/

/-- START_LATE is told of a start that had passed. -/
def lateTold (s : State) (late : Bool) : State := s.when late (fun s => s.wr .gateCycleCtrl_startLate 0 1)

theorem lateTold_stores (s : State) (late : Bool) : Stores [.regs] [.gateCycleCtrl_startLate] s (lateTold s late) :=
  (Stores.refl ..).when (fun _ h => h.wr _ _ (by decide)) late

/-- It changes none of the timer's settings. -/
theorem cycleTime_lateTold (s : State) (late : Bool) : (lateTold s late).cycleTime = s.cycleTime := by
  rw [State.cycleTime, (lateTold_stores s late).regs _ 0 (by decide), State.cycleTime]

theorem stepLimit_lateTold (s : State) (late : Bool) : (lateTold s late).stepLimit = s.stepLimit := by
  rw [State.stepLimit, (lateTold_stores s late).regs _ 0 (by decide), cycleTime_lateTold, State.stepLimit]

/-- The timer with an ARM pending, its start at instant t. -/
def armPending (s : State) (t : Nat) : State :=
  (s.onGate (fun g => { g with armed := some (t, s.cycleTime, s.stepLimit) })).wr .gateCycleCtrl_arm 0 1

theorem armPending_shows (s : State) (t : Nat) :
    (armPending s t).rd .gateCycleCtrl_arm 0 = 1 ∧ (armPending s t).gate.armed = some (t, s.cycleTime, s.stepLimit) :=
  ⟨rd_wr_same .., rfl⟩

theorem doArm_of_enabled {s : State} (hen : s.rd .gateCycleCfg_en 0 = 1) :
    s.doArm = armPending (lateTold s (startAhead (s.rd .gateNextCycleStart_start 0) s.now s.cycleTime).2)
      (startAhead (s.rd .gateNextCycleStart_start 0) s.now s.cycleTime).1 := by
  rw [State.doArm, if_pos (by rw [flag_def, hen]; rfl)]
  rfl

/-- ARM captures the start and the settings of the cycle. -/
theorem doArm_captures {s : State} (hen : s.rd .gateCycleCfg_en 0 = 1) :
    s.doArm.rd .gateCycleCtrl_arm 0 = 1 ∧
      s.doArm.gate.armed = some ((startAhead (s.rd .gateNextCycleStart_start 0) s.now s.cycleTime).1, s.cycleTime, s.stepLimit) := by
  obtain ⟨harm, harmed⟩ := armPending_shows (lateTold s (startAhead (s.rd .gateNextCycleStart_start 0) s.now s.cycleTime).2)
    (startAhead (s.rd .gateNextCycleStart_start 0) s.now s.cycleTime).1
  rw [cycleTime_lateTold, stepLimit_lateTold] at harmed
  rw [doArm_of_enabled hen]
  exact ⟨harm, harmed⟩

/-- What a stop stores. -/
def stopFields : List Fld := [.gateCycleCtrl_arm, .gateCycleCtrl_running] ++ entryFields

/-- The timer with its ARM cancelled and RUNNING at 0. -/
def timerCleared (s : State) : State :=
  ((s.onGate (fun g => { g with armed := none })).wr .gateCycleCtrl_arm 0 0).wr .gateCycleCtrl_running 0 0

theorem timerCleared_stores (s : State) : Stores [.regs, .gate, .out] stopFields s (timerCleared s) :=
  (((onGate_stores ..).mono (by simp) (by simp)).wr _ _ (by decide)).wr _ _ (by decide)

/-- Then SYNC_OUT is low, and the gates are shown. -/
theorem gateStop_shows (s : State) : Stores [.regs, .gate, .out] entryFields (timerCleared s) s.gateStop :=
  ((syncLow_stores _).mono (by simp) (by simp)).trans ((gateShowAll_stores _).mono (by simp) (List.Subset.refl _))

theorem gateStop_stores (s : State) : Stores [.regs, .gate, .out] stopFields s s.gateStop :=
  (timerCleared_stores s).trans ((gateStop_shows s).mono (List.Subset.refl _) (by decide))

theorem gateStop_gate (s : State) : s.gateStop.gate = { s.gate with armed := none, pulse := none } :=
  ((gateShowAll_stores _).gate (by decide)).trans (syncLow_gate _)

theorem rd_gateStop (s : State) : s.gateStop.rd .gateCycleCtrl_running 0 = 0 ∧ s.gateStop.rd .gateCycleCtrl_arm 0 = 0 := by
  rw [(gateStop_shows s).regs _ 0 (by decide), (gateStop_shows s).regs _ 0 (by decide)]
  exact ⟨rd_wr_same .., (rd_wr_other _ _ (.inl (by decide))).trans (rd_wr_same ..)⟩

/-- A write of GATE_CYCLE_CFG stores no field of its own beside those written. -/
theorem writeCycleCfg_stores (s : State) (val mask : Nat) :
    Stores [.regs, .gate, .out] stopFields (s.writeFields .gateCycleCfg 0 val mask) (s.writeCycleCfg val mask) := by
  rw [State.writeCycleCfg]
  split
  · exact Stores.refl ..
  · exact gateStop_stores _

theorem rd_writeCycleCfg (s : State) (val : Nat) {x : FieldAt} (hx : x ∈ Reg.gateCycleCfg.fields) :
    (s.writeCycleCfg val (2 ^ 64 - 1)).rd x.fld 0 = bits val x.lo x.fld.width := by
  obtain ⟨hacc, hwidth, hkept⟩ : x.acc = .rw ∧ x.lo + x.fld.width ≤ 64 ∧ x.fld ∉ stopFields := by
    revert x; decide
  rw [(writeCycleCfg_stores s val _).regs _ 0 hkept]
  exact rd_writeFields_full s 0 val hx hacc hwidth (by decide)

/-- R187: EN written to 0 stops the timer at once. -/
theorem writeCycleCfg_of_disabled (s : State) {val : Nat} (hen : bits val 0 1 = 0) :
    s.writeCycleCfg val (2 ^ 64 - 1) = (s.writeFields .gateCycleCfg 0 val (2 ^ 64 - 1)).gateStop := by
  have hoff : (s.writeFields .gateCycleCfg 0 val (2 ^ 64 - 1)).rd .gateCycleCfg_en 0 = 0 :=
    (rd_writeFields_full (x := ⟨.gateCycleCfg_en, 0, .rw⟩) s 0 val (by decide) rfl (by decide) (by decide)).trans hen
  rw [State.writeCycleCfg, flag_def, hoff]
  rfl

/-! Writes of a gate list (R188). -/

/-- What a write of GATE_PORT_CTRL may store beside the fields written. -/
def portCtrlFields : List Fld :=
  [.gatePortCtrl_len0, .gatePortCtrl_len1, .gatePortStatus_activeWrite, .gatePortCtrl_commit] ++ entryFields

/-- A write that is accepted finds COMMIT at 0 (R10). -/
theorem commit_of_accepts {s : State} {src : Src} {n : Nat} (h : s.accepts src .gatePortCtrl n = true) :
    s.flag .gatePortCtrl_commit n = false := by
  have hidle : s.cmdBusy .gatePortCtrl n = false := by
    simp only [State.accepts, Bool.and_eq_true, Bool.not_eq_true'] at h
    exact h.2
  have hzero : s.rd .gatePortCtrl_commit n = 0 := by simpa [State.cmdBusy, Reg.fields] using hidle
  rw [flag_def, hzero]
  rfl

theorem portCtrlWrite_of_accepts {s : State} {src : Src} {n : Nat} (h : s.accepts src .gatePortCtrl n = true) (val mask : Nat) :
    s.portCtrlWrite src n val mask = (s.ready src .gatePortCtrl n).writePortCtrl n val mask := by
  simp only [State.portCtrlWrite, commit_of_accepts h, Bool.false_and, Bool.false_eq_true, if_false]
  exact onWrite_of_accepts h _

theorem writePortCtrl_stores (s : State) (n val mask : Nat) :
    Stores [.regs] portCtrlFields (s.writeFields .gatePortCtrl n val mask) (s.writePortCtrl n val mask) := by
  have hact : (if s.rd .gatePortCtrl_active n = 1 then Fld.gatePortCtrl_len1 else .gatePortCtrl_len0) ∈ portCtrlFields := by
    split <;> decide
  simp only [State.writePortCtrl]
  refine (((Stores.refl ..).when ?guarded _).when ?commits _).when ?shows _
  case guarded => exact fun t h => (h.wr _ _ ⟨hact, by decide⟩).wr _ _ (by decide)
  case commits => exact fun t h => h.wr _ _ (by decide)
  case shows => exact fun t h => h.trans ((gateShow_storesAt t n).stores.mono (List.Subset.refl _) (by decide))

/-- R188: COMMIT written reads 1 until the next boundary. -/
theorem rd_writePortCtrl_commit (s : State) (n : Nat) {val : Nat} (hval : bitAt val 30 = true) :
    (s.writePortCtrl n val (2 ^ 32 - 1)).rd .gatePortCtrl_commit n = 1 := by
  have hcommits : (bitAt val 30 && bitAt (2 ^ 32 - 1) 30) = true := by rw [hval]; decide
  have hshow : ∀ (t : State) (c : Bool), (t.when c (fun t => t.gateShow n)).rd .gatePortCtrl_commit n = t.rd .gatePortCtrl_commit n :=
    fun t c => ((Stores.refl [.regs] entryFields t).when (fun u h => h.trans (gateShow_storesAt u n).stores) c).regs _ n (by decide)
  simp only [State.writePortCtrl, hshow, hcommits, when_true]
  exact rd_wr_same ..

theorem rd_writePortCtrl_en (s : State) (n val : Nat) :
    (s.writePortCtrl n val (2 ^ 32 - 1)).rd .gatePortCtrl_en n = bits val 31 1 := by
  rw [(writePortCtrl_stores s n val _).regs _ n (by decide)]
  exact rd_writeFields_full (x := ⟨.gatePortCtrl_en, 31, .rw⟩) s n val (by decide) rfl (by decide) (by decide)

/-- The port and the bank of an entry of the lists. -/
theorem gateIdx_parts (port : Nat) (bank : Fin 2) (entry : Fin 64) :
    gateIdx port bank entry / 128 = port ∧ gateIdx port bank entry / 64 % 2 = bank := by
  simp only [gateIdx]
  omega

theorem exec_gateListWrite {s : State} {src : Src} {port : Fin 512} {bank : Fin 2} {entry : Fin 64}
    (h : s.accepts src .gateList (gateIdx port bank entry) = true) (val : BitVec 32) :
    exec (.gateListWrite src port bank entry val) s = settle s
      ((s.ready src .gateList (gateIdx port bank entry)).writeGateList (gateIdx port bank entry) val.toNat (2 ^ 32 - 1)) := by
  show execGateListWrite src port bank entry val s = _
  rw [execGateListWrite, onWrite_of_accepts h]

/-- ACTIVE_WRITE set at a port. -/
theorem activeWrite_shows (s : State) (n : Nat) :
    (s.wr .gatePortStatus_activeWrite n 1).rd .gatePortStatus_activeWrite n = 1 ∧
      OnlyAt [.gatePortStatus_activeWrite] n s (s.wr .gatePortStatus_activeWrite n 1) :=
  ⟨rd_wr_same .., ((StoresAt.refl [.regs] [.gatePortStatus_activeWrite] n s).wr 1 (by decide)).place⟩

/-- A list in use is not written; ACTIVE_WRITE tells it. -/
theorem writeGateList_of_guarded {s : State} {port : Nat} {bank : Fin 2} (entry : Fin 64) (h : s.listGuarded port bank = true)
    (val mask : Nat) : s.writeGateList (gateIdx port bank entry) val mask = s.wr .gatePortStatus_activeWrite port 1 := by
  obtain ⟨hport, hbank⟩ := gateIdx_parts port bank entry
  simp only [State.writeGateList, hport, hbank, h, if_true]

/-- Any other list is written. -/
theorem writeGateList_of_free {s : State} {port : Nat} {bank : Fin 2} (entry : Fin 64) (h : s.listGuarded port bank = false)
    (val mask : Nat) :
    s.writeGateList (gateIdx port bank entry) val mask = s.writeFields .gateList (gateIdx port bank entry) val mask := by
  obtain ⟨hport, hbank⟩ := gateIdx_parts port bank entry
  simp only [State.writeGateList, hport, hbank, h, Bool.false_eq_true, if_false]

/-- Settles O19: the timer's commands by what an ARM, a stop, a boundary and the end of a pulse change, the gate lists by the entry
shown and by what a write of a list or of its COMMIT stores. -/
theorem gatesFollowTheCycle : Obligations.GatesFollowTheCycle := by
  refine ⟨?arm, ?stop, ?boundary, ?pulseEnd, ?openGates, ?inForce, ?commit, ?listFree, ?listGuarded⟩
  case arm =>
    intro src s hacc hen
    have hnow : (s.ready src .gateCycleCtrl 0).now = s.now :=
      congrArg (fun tb : TimeBase => tb.ns.toNat) (NothingToSettle.ready s src .gateCycleCtrl 0).tb
    refine completes_of_effect rfl (onWrite_of_accepts hacc _) ?_
    rw [← hnow]
    exact doArm_captures hen
  case stop =>
    intro src val s hacc
    refine completes_of_effect rfl (onWrite_of_accepts hacc _) ⟨?_, ?_, ?_, fun hen => ?_⟩
    · exact rd_writeCycleCfg (x := ⟨.gateCycleCfg_cycleTime, 40, .rw⟩) _ _ (by decide)
    · exact rd_writeCycleCfg (x := ⟨.gateCycleCfg_stepLimit, 20, .rw⟩) _ _ (by decide)
    · exact rd_writeCycleCfg (x := ⟨.gateCycleCfg_en, 0, .rw⟩) _ _ (by decide)
    · rw [writeCycleCfg_of_disabled _ hen, rd_settled, rd_settled, settled_gate, gateStop_gate]
      exact ⟨(rd_gateStop _).1, (rd_gateStop _).2, rfl, rfl⟩
  case boundary =>
    intro s harmed hruns hdue
    obtain ⟨pulse, hgate⟩ := boundaryAt_gate s s.gate.next false
    refine completes_of_effect rfl (boundaryDue_of_running harmed hruns hdue) ?_
    rw [settled_gate, hgate]
    refine ⟨rfl, rfl, rfl, fun n hn hcommit => ?_⟩
    rw [rd_settled, rd_settled, (boundaryAt_stores s ..).regs _ n (by decide), (boundaryAt_stores s ..).regs _ n (by decide)]
    exact gateCommits_swaps hn hcommit
  case pulseEnd =>
    intro t0 s hpulse hover
    exact completes_of_effect (exec_syncOutPulseEnd hpulse hover) rfl ⟨syncLow_gate s, onlyParts_settled (syncLow_stores s).parts⟩
  case openGates =>
    intro port s hfollows
    obtain ⟨hparts, hplace⟩ := (gateShow_storesAt s port).settled
    obtain ⟨hentry, hgates⟩ := rd_entryShown s port 0 0xFF
    rw [← gateShow_of_not_follows hfollows] at hentry hgates
    exact ⟨_, rfl, hentry, hgates, hparts, hplace⟩
  case inForce =>
    intro port w s hfollows hw
    obtain ⟨hparts, hplace⟩ := (gateShow_storesAt s port).settled
    obtain ⟨hentry, hgates⟩ := rd_entryShown s port w.1 (w.2.2.2 ||| 0x80)
    rw [← gateShow_of_inForce hfollows hw] at hentry hgates
    exact ⟨_, rfl, hentry, hgates, hparts, hplace⟩
  case commit =>
    intro src port val s hacc hval
    exact completes_of_effect rfl (portCtrlWrite_of_accepts hacc _ _) ⟨rd_writePortCtrl_commit _ _ hval, rd_writePortCtrl_en ..⟩
  case listFree =>
    intro src port bank entry val s hacc hfree
    refine completes_of_effect (exec_gateListWrite hacc val) (writeGateList_of_free entry hfree _ _) ⟨?_, ?_, fun f i hf => ?_⟩
    · exact rd_writeFields_full (x := ⟨.gateList_state, 24, .rw⟩) _ _ _ (by decide) rfl (by decide) (by decide)
    · exact rd_writeFields_full (x := ⟨.gateList_duration, 0, .rw⟩) _ _ _ (by decide) rfl (by decide) (by decide)
    · exact rd_writeFields_other _ _ _ _ _ hf
  case listGuarded =>
    intro src port bank entry val s hacc hguarded
    obtain ⟨hset, hplace⟩ := activeWrite_shows (s.ready src .gateList (gateIdx port bank entry)) port
    exact completes_of_effect (exec_gateListWrite hacc val) (writeGateList_of_guarded entry hguarded _ _)
      ⟨(rd_settled ..).trans hset, fun f i hf => (rd_settled ..).trans (hplace f i hf)⟩

end Sys2Proof.Proofs

/-! What every operation of switching, links, compute and tables leaves as it was: the time base, the sideband, JTAG and the queue. -/

namespace Sys2Proof.Proofs
open Sys2Proof Sys2Proof.Machine Sys2Proof.Laws

namespace NothingToSettle
variable {s t u : State}

section Rules
variable (h : NothingToSettle s t)
include h

/-- Steps taken for the members of a list. -/
theorem steps {α : Type} {g : State → α → State} (hg : ∀ t a, NothingToSettle s t → NothingToSettle s (g t a)) (l : List α) :
    NothingToSettle s (l.foldl g t) := by
  induction l generalizing t with
  | nil => exact h
  | cons a l ih => exact ih (hg t a h)

omit h in
/-- The same for steps that carry a second component along. -/
theorem steps_fst {α β : Type} {g : State × β → α → State × β} {x : State × β} (h : NothingToSettle s x.1)
    (hg : ∀ x a, NothingToSettle s x.1 → NothingToSettle s (g x a).1) (l : List α) : NothingToSettle s (l.foldl g x).1 := by
  induction l generalizing x with
  | nil => exact h
  | cons a l ih => exact ih (hg x a h)

theorem when {g : State → State} (hg : ∀ t, NothingToSettle s t → NothingToSettle s (g t)) (c : Bool) :
    NothingToSettle s (t.when c g) := by
  cases c
  · exact h
  · exact hg t h

omit h in
theorem ite {c : Prop} [Decidable c] (ht : NothingToSettle s t) (hu : NothingToSettle s u) : NothingToSettle s (if c then t else u) := by
  split
  · exact ht
  · exact hu

/-- A change of stores, where none of them is settled. -/
theorem stores {ps : List Part} {fs : List Fld} (hu : Stores ps fs t u) (hps : .tb ∉ ps ∧ .i3c ∉ ps ∧ .jtag ∉ ps) :
    NothingToSettle s u := by
  obtain ⟨htb, hi3c, hjtag⟩ := hps
  exact h.trans (of_onlyParts hu.parts htb hi3c hjtag)

theorem reel (hu : Kept besideReel t u) : NothingToSettle s u :=
  h.trans (of_onlyParts hu.parts_of_reel (by decide) (by decide) (by decide))

/-! Updates of one component. -/

theorem wr (f : Fld) (i v : Nat) : NothingToSettle s (t.wr f i v) := h.trans ⟨rfl, rfl, rfl, rfl⟩
theorem emit (o : Output) : NothingToSettle s (t.emit o) := h.trans ⟨rfl, rfl, rfl, rfl⟩
theorem free (tag n : Nat) : NothingToSettle s (t.free tag n).2 := h.trans ⟨rfl, rfl, rfl, rfl⟩
theorem setRing (fn r : Nat) (x : Ring) : NothingToSettle s (t.setRing fn r x) := h.trans ⟨rfl, rfl, rfl, rfl⟩
theorem onSw (g : Sw → Sw) : NothingToSettle s (t.onSw g) := h.trans ⟨rfl, rfl, rfl, rfl⟩
theorem onTab (g : Tab → Tab) : NothingToSettle s (t.onTab g) := h.trans ⟨rfl, rfl, rfl, rfl⟩
theorem onGate (g : Gate → Gate) : NothingToSettle s (t.onGate g) := h.trans ⟨rfl, rfl, rfl, rfl⟩
theorem onOpt (g : Opt → Opt) : NothingToSettle s (t.onOpt g) := h.trans ⟨rfl, rfl, rfl, rfl⟩
theorem onRing (key : Nat) (g : RingSt → RingSt) : NothingToSettle s (t.onRing key g) := h.trans ⟨rfl, rfl, rfl, rfl⟩
theorem onPorts (g : Ports → Ports) : NothingToSettle s (t.onPorts g) := h.trans ⟨rfl, rfl, rfl, rfl⟩
theorem setPst (n : Nat) (g : PortSt → PortSt) : NothingToSettle s (t.setPst n g) := h.trans ⟨rfl, rfl, rfl, rfl⟩
theorem onTest (g : LaneTest → LaneTest) : NothingToSettle s (t.onTest g) := h.trans ⟨rfl, rfl, rfl, rfl⟩
theorem onGw (g : Gw → Gw) : NothingToSettle s (t.onGw g) := h.trans ⟨rfl, rfl, rfl, rfl⟩
theorem onEng (g : Eng → Eng) : NothingToSettle s (t.onEng g) := h.trans ⟨rfl, rfl, rfl, rfl⟩
theorem setInst (i : Nat) (g : Inst → Inst) : NothingToSettle s (t.setInst i g) := h.trans ⟨rfl, rfl, rfl, rfl⟩
theorem onSvc (g : Svc → Svc) : NothingToSettle s (t.onSvc g) := h.trans ⟨rfl, rfl, rfl, rfl⟩
theorem onCmn (g : Cmn → Cmn) : NothingToSettle s (t.onCmn g) := h.trans ⟨rfl, rfl, rfl, rfl⟩
theorem onChip (g : Chip → Chip) : NothingToSettle s (t.onChip g) := h.trans ⟨rfl, rfl, rfl, rfl⟩

/-! Counters, records and host events. -/

theorem bumpN (g i n : Nat) : NothingToSettle s (t.bumpN g i n) :=
  h.trans ⟨bumpN_pending .., bumpN_tb .., bumpN_i3c .., bumpN_jtag ..⟩

theorem bumpPort (n : Nat) (e : PortEv) : NothingToSettle s (t.bumpPort n e) := h.when (fun _ h => h.bumpN ..) _

theorem event (r : Reg) (f : Fld) (i b : Nat) : NothingToSettle s (t.event r f i b) :=
  h.trans ⟨event_pending .., event_tb .., event_i3c .., event_jtag ..⟩

theorem fault (code sev : Nat) (detail : List Nat) : NothingToSettle s (t.fault code sev detail) :=
  h.trans ⟨fault_pending .., fault_tb .., fault_i3c .., fault_jtag ..⟩

theorem raiseIbi (c : Nat) : NothingToSettle s (t.raiseIbi c) :=
  h.trans ⟨raiseIbi_pending .., raiseIbi_tb .., raiseIbi_i3c .., raiseIbi_jtag ..⟩

theorem postOverflow (fn : Nat) : NothingToSettle s (t.postOverflow fn) :=
  h.trans ⟨postOverflow_pending .., postOverflow_tb .., postOverflow_i3c .., postOverflow_jtag ..⟩

/-! Rings and calibrations. -/

theorem showTable (key : Nat) : NothingToSettle s (t.showTable key) := h.wr ..
theorem setLock (key : Nat) (b : Bool) : NothingToSettle s (t.setLock key b) := (h.wr ..).wr ..
theorem heat (key code : Nat) : NothingToSettle s (t.heat key code) := ((h.wr ..).when (fun _ h => h.wr ..) _).emit _

theorem restoreRings (n : Nat) : NothingToSettle s (t.restoreRings n) :=
  h.steps (fun _ _ h => ((((h.onRing ..).wr ..).heat ..).setLock ..).showTable _) _

theorem calOver : NothingToSettle s t.calOver := (h.onOpt _).wr ..

theorem calDrop (n : Nat) : NothingToSettle s (t.calDrop n) := by
  simp only [State.calDrop]
  repeat' split
  · exact (h.restoreRings n).calOver
  · exact h.calOver
  · exact h

theorem beginSweep (key : Nat) : NothingToSettle s (t.beginSweep key) := (h.wr ..).setLock ..

theorem sweepUnlocked (n : Nat) : NothingToSettle s (t.sweepUnlocked n) := by
  rw [State.sweepUnlocked]
  split
  · exact h.steps (fun _ _ h => .ite h (h.beginSweep _)) _
  · exact h

theorem moveRing (key line : Nat) : NothingToSettle s (t.moveRing key line) := ((h.wr ..).heat ..).showTable _

/-! Transmission and the port's queues. -/

theorem updStops (k : Nat) : NothingToSettle s (t.updStops k) := by
  obtain ⟨_, _, hmoved⟩ := StopsMoved.updStops t k
  rw [hmoved]
  exact h.trans ⟨rfl, rfl, rfl, rfl⟩

theorem endTx (n key : Nat) (x : Tx) : NothingToSettle s (t.endTx n key x) :=
  (((h.onSw _).when (fun _ h => h.wr ..) _).reel (copyDone_kept ..).egress.reel).updStops _

theorem linkAbort (n : Nat) : NothingToSettle s (t.linkAbort n) := by
  refine h.steps (fun t key h => ?_) _
  split
  · exact ((h.emit _).bumpPort ..).endTx ..
  · exact h

theorem abortIfLinked (n : Nat) : NothingToSettle s (t.abortIfLinked n) := h.when (fun _ h => h.linkAbort n) _

theorem fixBuckets (n : Nat) : NothingToSettle s (t.fixBuckets n) := h.steps (fun _ _ h => h.onSw _) _

theorem sendHello (n : Nat) (fast : Bool) : NothingToSettle s (t.sendHello n fast) := by
  simp only [State.sendHello]
  exact (((((h.free ..).free ..).setPst ..).onSw _).reel (enterEgress_kept ..).reel).reel (holdSeg_kept ..).egress.reel

/-! The states of a port (Table 3.4). -/

theorem showLanes (n : Nat) : NothingToSettle s (t.showLanes n) := h.wr ..

theorem setPort (n st : Nat) : NothingToSettle s (t.setPort n st) := by
  rw [State.setPort]
  split
  · exact h.showLanes n
  · exact (((h.wr ..).when (fun _ h => h.wr ..) _).showLanes n).event ..

theorem failReason (n : Nat) (reason : Option Nat) : NothingToSettle s (t.failReason n reason) := by
  cases reason
  · exact h
  · exact h.wr ..

theorem goDown (n : Nat) (reason : Option Nat) : NothingToSettle s (t.goDown n reason) := by
  simp only [State.goDown]
  exact (((((((h.abortIfLinked n).calDrop n).setPst ..).steps (fun _ _ h => ((h.wr ..).wr ..).wr ..) _).failReason n reason).fixBuckets
    n).wr ..).setPort ..

theorem toDraining (n : Nat) : NothingToSettle s (t.toDraining n) := (((h.setPort ..).wr ..).setPst ..).when
  (fun _ h => h.sendHello ..) _

theorem reDrain (n : Nat) : NothingToSettle s (t.reDrain n) := by
  simp only [State.reDrain]
  repeat' split
  · exact h.toDraining n
  · exact (h.setPst ..).setPort ..
  · exact h

theorem syncFence (n : Nat) : NothingToSettle s (t.syncFence n) := ((h.wr ..).wr ..).reDrain n

theorem beginAttempt (n : Nat) : NothingToSettle s (t.beginAttempt n) := by
  simp only [State.beginAttempt]
  split
  · exact (h.setPst ..).wr ..
  · exact (h.setPst ..).sweepUnlocked n

theorem nextAttempt (n : Nat) : NothingToSettle s (t.nextAttempt n) := by
  rw [State.nextAttempt]
  split
  · exact h.setPst ..
  · exact h.beginAttempt n

theorem toTraining (n : Nat) (run : Nat × Nat) (how : TrainAt) (fast : Bool) (reason : Option Nat) :
    NothingToSettle s (t.toTraining n run how fast reason) := by
  simp only [State.toTraining]
  exact (((((((((((h.abortIfLinked n).setPst ..).failReason n reason).fixBuckets n).wr ..).steps (fun _ _ h => h.wr ..) _).when
    (fun _ h => h.wr ..) _).setPort n 1).when (fun _ h => h.syncFence n) _).when (fun _ h => h.event ..) _).when
    (fun _ h => h.setPst ..) _).when (fun _ h => h.nextAttempt n) _

theorem selectApp (n : Nat) : NothingToSettle s (t.selectApp n) := by
  simp only [State.selectApp]
  repeat' split
  · exact h
  · exact (h.wr ..).when (fun _ h => h.setPst ..) _
  · exact h.failReason ..

theorem leaveDown (n : Nat) : NothingToSettle s (t.leaveDown n) := by
  have happ := h.selectApp n
  simp only [State.leaveDown]
  refine .ite ?_ happ
  split
  · exact happ.toTraining ..
  · exact happ.failReason ..

theorem beginLane (l : Nat) : NothingToSettle s (t.beginLane l) := (h.wr ..).onPorts _

theorem calBegins (n : Nat) (w : CalWait) : NothingToSettle s (t.calBegins n w) := by
  cases w with
  | cal => exact (h.onOpt _).steps (fun _ _ h => (h.onRing ..).beginSweep _) _
  | laser => exact ((h.wr ..).wr ..).emit _
  | test =>
    simp only [State.calBegins]
    split
    · exact h.beginLane _
    · exact h
  | plan => exact h

theorem tryCal (n : Nat) : NothingToSettle s (t.tryCal n) := by
  simp only [State.tryCal]
  repeat' split
  · exact ((h.setPst ..).setPort ..).calBegins ..
  · exact h
  · exact h

theorem request (n : Nat) (w : CalWait) : NothingToSettle s (t.request n w) := (h.setPst ..).reDrain n

theorem skipLanes (ls : List Nat) : NothingToSettle s (t.skipLanes ls) := (h.steps (fun _ _ h => h.wr ..) _).onTest _

omit h in
theorem nextTest (h : NothingToSettle s t) (fuel : Nat) : NothingToSettle s (t.nextTest fuel) := by
  induction fuel generalizing t with
  | zero => exact h
  | succ fuel ih =>
    simp only [State.nextTest]
    repeat' split
    · exact h
    · exact (h.onPorts _).wr ..
    · exact h.beginLane _
    · exact h.beginLane _
    · exact ih (h.skipLanes _)
    · exact ((h.onTest _).request ..).tryCal _

theorem endTests (n : Nat) : NothingToSettle s (t.endTests n) := by
  simp only [State.endTests]
  repeat' split
  · exact h
  · exact h
  · exact ((((h.skipLanes _).onTest _).steps (fun _ _ h => h.wr ..) _).setPst ..).nextTest _

theorem portFollows (n : Nat) (was : Bool) : NothingToSettle s (t.portFollows n was) := by
  simp only [State.portFollows]
  repeat' split
  · exact ((h.goDown ..).endTests n).setPst ..
  · exact h
  · exact (h.setPst ..).leaveDown n
  · exact h.leaveDown n
  · exact h.reDrain n

/-! The gateway and the device state (R343 to R352, R377, R395). -/

theorem originate (k : Nat) (p : Packet) : NothingToSettle s (t.originate k p) :=
  h.stores ((Stores.refl packetParts poolFields t).originate k p) (by decide)

theorem gwSend (r : GwReq) : NothingToSettle s (t.gwSend r) := ((h.onGw _).when (fun _ h => h.bumpN ..) _).originate ..

theorem gwRelease (k : Nat) : NothingToSettle s (t.gwRelease k) := by
  refine steps_fst h (fun x r h => ?_) _
  dsimp only
  split
  · exact h.gwSend r
  · exact h

theorem gwFlush (b : GwBuf) : NothingToSettle s (t.gwFlush b) := ((h.onGw _).onGw _).gwRelease _

theorem setGwMode (mode : Nat) : NothingToSettle s (t.setGwMode mode) := by
  simp only [State.setGwMode]
  split
  · exact h
  · exact (((h.wr ..).event ..).fault ..).when (fun _ h => h.steps (fun _ _ h => h.gwFlush _) _) _

theorem syncLow : NothingToSettle s t.syncLow := h.stores (syncLow_stores t) (by decide)

theorem setDevState (st : Nat) : NothingToSettle s (t.setDevState st) := by
  simp only [State.setDevState]
  split
  · exact h
  · exact ((((h.wr ..).event ..).raiseIbi 4).when (fun _ h => h.setGwMode 0) _).when (fun _ h => h.syncLow) _

theorem darken (n : Nat) : NothingToSettle s (t.darken n) := (h.goDown ..).setPst ..

theorem enterSafe (cause : Nat) : NothingToSettle s (t.enterSafe cause) :=
  ((h.steps (fun _ n h => h.darken n) _).wr ..).setDevState _

/-! Core blocks and regions fail (R36 to R41, R145, R286, R420). -/

theorem degrade : NothingToSettle s t.degrade := (h.wr ..).when (fun _ h => h.setDevState _) _

theorem regionEvent (k : Nat) : NothingToSettle s (t.regionEvent k) := h.degrade.event ..

theorem voqLost (i c m pid : Nat) : NothingToSettle s (t.voqLost i c m pid) := (h.reel (dropQueued_kept ..)).bumpN ..

theorem gc (pid : Nat) : NothingToSettle s (t.gc pid) := h.reel (gc_kept ..).egress.reel

theorem egFree (d c n : Nat) : NothingToSettle s (t.egFree d c n) := h.reel (egFree_kept ..).egress.reel

theorem coreBlockLost (b : Nat) : NothingToSettle s (t.coreBlockLost b) := by
  simp only [State.coreBlockLost]
  refine ((((((((h.steps ?toIt _).steps ?ofIt _).steps ?pinned _).steps ?queued _).steps ?gathered _).steps ?delivered _).steps
    ?held _).onSw _).steps ?forgotten _
  case toIt => exact fun _ _ h => h.steps (fun _ _ h => h.steps (fun _ _ h => h.voqLost ..) _) _
  case ofIt => exact fun _ _ h => h.steps (fun _ _ h => h.steps (fun _ _ h => h.voqLost ..) _) _
  case pinned => exact fun _ _ h => h.reel (dropQueued_kept ..)
  case queued => exact fun _ _ h => .ite (h.steps (fun _ _ h => h.steps (fun _ _ h => h.reel (dropEgress_kept ..).reel) _) _) h
  case gathered => exact fun _ _ h => h.reel (dropGather_kept ..).reel
  case delivered => exact fun _ _ h => h.egFree ..
  case held => exact fun _ _ h => h.egFree ..
  case forgotten => exact fun _ _ h => h.gc _

theorem lanesDown (b : Nat) : NothingToSettle s (t.lanesDown b) := by
  refine h.steps (fun t n h => ?_) _
  have hcal : NothingToSettle s (if t.opt.cal = some n then t.calOver else t) := .ite h.calOver h
  exact (hcal.goDown ..).setPst ..

theorem chunksLost (b : Nat) : NothingToSettle s (t.chunksLost b) := h.trans ⟨rfl, rfl, rfl, rfl⟩

theorem promShareLost (k : Nat) : NothingToSettle s (t.promShareLost k) := by
  refine h.steps (fun t o h => h.steps (fun t c h => ?_) _) _
  split
  · have hfree := h.free 26 2
    dsimp only
    split
    · exact hfree
    · split
      · exact hfree.trans ⟨rfl, rfl, rfl, rfl⟩
      · exact hfree
  · exact h

/-! Instances, their services and their tiles (R285, R286, R299). -/

theorem idleAll (cs : List Nat) : NothingToSettle s (t.idleAll cs) := h.trans (foldl NothingToSettle.idleC1 cs t)

theorem stopInst (i : Nat) : NothingToSettle s (t.stopInst i) := (((h.onEng _).onSvc _).setInst ..).idleAll _

theorem answerReq (n : Nat) (q : SvcReq) (reason detail : Nat) : NothingToSettle s (t.answerReq n q reason detail) := by
  have hsent : NothingToSettle s (t.svcError q.first reason detail) := h.originate ..
  simp only [State.answerReq, State.markAnswered]
  repeat' split
  · exact h
  · exact hsent.onSvc _
  · exact hsent

theorem svcEnded (n reason detail : Nat) : NothingToSettle s (t.svcEnded n reason detail) := by
  rw [State.svcEnded]
  split
  · exact (h.steps (fun _ q h => h.answerReq n q reason detail) _).onSvc _
  · exact h

theorem instAnswers (i reason detail : Nat) : NothingToSettle s (t.instAnswers i reason detail) := by
  rw [State.instAnswers]
  split
  · exact h.svcEnded ..
  · exact h

theorem instFault (i code desc : Nat) : NothingToSettle s (t.instFault i code desc) := by
  simp only [State.instFault]
  split
  · exact (((h.stopInst i).setInst ..).fault ..).instAnswers ..
  · exact h

theorem faultInsts (code : Nat) (pick : Nat → Bool) (at_ : Job → Bool) : NothingToSettle s (t.faultInsts code pick at_) :=
  h.steps (fun _ _ h => h.instFault ..) _

theorem wakeRegion (k : Nat) : NothingToSettle s (t.wakeRegion k) :=
  h.stores ((Stores.refl tableParts tableFields t).wakeRegion k) (by decide)

theorem pumpJob (j : Nat) : NothingToSettle s (t.pumpJob j) := by
  simp only [State.pumpJob]
  split
  · exact h
  · refine (steps_fst h (fun x a h => ?_) _).onEng _
    split
    · exact (h.onEng _).wakeRegion _
    · exact h

theorem pump : NothingToSettle s t.pump := h.steps (fun _ _ h => h.pumpJob _) _

theorem restartTile (x : Tile) : NothingToSettle s (t.restartTile x) := by
  simp only [State.restartTile]
  split
  · exact h
  · exact (h.onEng _).onEng _

theorem instDone? (i : Nat) : NothingToSettle s (t.instDone? i) := by
  simp only [State.instDone?]
  split
  · exact (h.setInst ..).instAnswers ..
  · exact h

theorem signal (i c : Nat) : NothingToSettle s (t.signal i c) := .ite (h.setInst ..) h

theorem jobDone (j : Nat) : NothingToSettle s (t.jobDone j) := by
  simp only [State.jobDone]
  split
  · exact h
  · have hended := fun g c st => (h.onEng g).when (g := fun s => s.askStep st) (fun _ h => h.onEng _) c
    split
    · exact (((hended ..).setInst ..).when (fun _ h => h.signal ..) _).instDone? _
    · exact hended ..

theorem jobDone? (j : Nat) : NothingToSettle s (t.jobDone? j) := by
  rw [State.jobDone?]
  split
  · exact .ite (h.jobDone j) h
  · exact h

theorem tileLeft (j : Nat) (x : Tile) : NothingToSettle s (t.tileLeft j x) := by
  rw [State.tileLeft]
  split
  · exact h.onEng _
  · exact h

theorem loseTile (x : Tile) : NothingToSettle s (t.loseTile x) := ((h.onEng _).tileLeft ..).jobDone? _

theorem restartTiles (xs : List Tile) : NothingToSettle s (t.restartTiles xs) := by
  refine (h.steps (fun t x h => ?_) _).pump
  repeat' split
  · exact h.restartTile x
  · exact h.loseTile x
  · exact h.loseTile x

theorem noGrant (c : Nat) : NothingToSettle s (t.noGrant c) := (h.wr ..).wr ..

/-! BAR2 accesses that waited for a region (R414, R442). -/

theorem memPut (a : Nat) (bs : List Byte) : NothingToSettle s (t.memPut a bs) := h.onEng _

theorem bar2Do (fn a n : Nat) (data : Option (List Byte)) : NothingToSettle s (t.bar2Do fn a n data) := by
  have haccess : NothingToSettle s (t.hbmAccess a) := by
    rw [State.hbmAccess]
    split
    · exact h.trans ⟨rfl, rfl, rfl, rfl⟩
    · exact h
  cases data with
  | some bs => exact haccess.memPut ..
  | none => exact haccess.emit _

theorem bar2Pump : NothingToSettle s t.bar2Pump := by
  refine (steps_fst h (fun x a h => ?_) _).trans ⟨rfl, rfl, rfl, rfl⟩
  split
  · exact h
  · exact h.bar2Do ..

theorem startWaiting : NothingToSettle s t.startWaiting := by
  simp only [State.startWaiting]
  repeat' split
  · exact h
  · exact h
  · simp only [State.instCmd, State.doInstStart]
    have hshown := fun g v w => ((((h.onEng g).wr .engInstCmd_start 0 0).wr .engInstCmd_op 0 v).wr .engInstCmd_inst 0 w)
    repeat' split
    · exact (hshown ..).wr ..
    · exact (hshown ..).wr ..
    · exact (((hshown ..).setInst ..).wakeRegion _).wr ..

theorem bar2Gone : NothingToSettle s t.bar2Gone :=
  (h.bar2Pump.stores ((Stores.refl tableParts tableFields _).tblPump) (by decide)).startWaiting

theorem bar2Fails (k : Nat) : NothingToSettle s (t.bar2Fails k) := by
  simp only [State.bar2Fails]
  refine NothingToSettle.bar2Gone (NothingToSettle.steps (h.trans (by exact ⟨rfl, rfl, rfl, rfl⟩)) (fun t x h => ?_) _)
  split
  · exact h.emit _
  · exact h

theorem inflight (ws : List InWrite) : NothingToSettle s { t with acc := { t.acc with inflight := ws } } := h.trans ⟨rfl, rfl, rfl, rfl⟩

theorem cmnWipe (regions : Nat) : NothingToSettle s (t.cmnWipe regions) := h.onCmn _

theorem commonsLost (k : Nat) : NothingToSettle s (t.commonsLost k) := by
  simp only [State.commonsLost]
  exact (h.cmnWipe _).onCmn _

theorem blockLost (b : Nat) : NothingToSettle s (((t.lanesDown b).coreBlockLost b).chunksLost b) :=
  ((h.lanesDown b).coreBlockLost b).chunksLost b

theorem failRegion (k cause : Nat) : NothingToSettle s (t.failRegion k cause) := by
  obtain _ | _ | cause := cause
  all_goals
    simp only [State.failRegion]
    refine .ite h (.ite (h.wr ..) (((((((((((((((((h.wr ..).wr ..).wr ..).fault ..).regionEvent k).steps ?blocks _).coreBlockLost
      _).inflight _).onGw _).commonsLost k).promShareLost k).faultInsts ..).restartTiles _).steps ?grants _).bar2Fails k).steps ?services
      _).onTab _))
    case blocks => exact fun _ b h => h.blockLost b
    case grants => exact fun _ c h => h.noGrant c
    case services => exact fun _ _ h => .ite ((h.wr ..).wr ..) h

theorem failBlock (kind : BlockKind) (num cause : Nat) : NothingToSettle s (t.failBlock kind num cause) := by
  simp only [State.failBlock]
  repeat' split
  · exact h
  · exact h.failRegion ..
  · exact h.wr ..
  · exact (((((h.wr ..).fault ..).regionEvent _).lanesDown _).coreBlockLost _).chunksLost _
  · exact h.wr ..
  · exact ((((h.wr ..).fault ..).regionEvent _).noGrant _).restartTiles _

theorem unitsFail (units : List (BlockKind × Fin 64)) : NothingToSettle s (t.unitsFail units) := h.steps (fun _ _ h => h.failBlock ..) _

/-! Register writes (R30 to R32). -/

theorem markIgnored (src : Src) (off : Nat) : NothingToSettle s (t.markIgnored src off) := by
  rw [State.markIgnored]
  split
  · exact .ite h (h.wr ..)
  · exact h

theorem onWrite (src : Src) (r : Reg) (i : Nat) {g : State → State} (hg : ∀ t, NothingToSettle s t → NothingToSettle s (g t)) :
    NothingToSettle s (t.onWrite src r i g) :=
  .ite (hg _ (h.trans (ready t src r i))) (h.markIgnored ..)

theorem fields (r : Reg) (i val mask : Nat) : NothingToSettle s (t.writeFields r i val mask) := h.trans (writeFields t r i val mask)

theorem half (src : Src) (off val : Nat) : NothingToSettle s (t.half src off val).1 := by
  simp only [State.half]
  repeat' split
  · exact h.markIgnored ..
  · exact h
  · exact h.trans ⟨rfl, rfl, rfl, rfl⟩
  · exact h
  · exact h.trans ⟨rfl, rfl, rfl, rfl⟩
  · exact h.markIgnored ..

theorem access (src : Src) (off : Nat) (is64 : Bool) (val : Nat) : NothingToSettle s (t.access src off is64 val).1 := by
  simp only [State.access]
  repeat' split
  · exact h.half ..
  · exact h
  · exact h
  · exact (h.half ..).half ..

/-! The registers whose every write is a row of its own. -/

theorem doPortCfgWrite (src : Src) (n : Fin 512) (val : BitVec 32) : NothingToSettle s (doPortCfgWrite src n val t) := by
  refine h.onWrite _ _ _ (fun t h => .ite (h.wr ..) ?_)
  have hfixed := (h.when (fun _ h => h.abortIfLinked n) (t.flag .corePortCfg_en n && !bitAt val.toNat 31)).fixBuckets n
  exact (((hfixed.fields ..).onOpt _).wr ..).portFollows ..

theorem writeCycleCfg (val mask : Nat) : NothingToSettle s (t.writeCycleCfg val mask) :=
  (h.fields ..).stores (writeCycleCfg_stores t val mask) (by decide)

theorem writePortCtrl (n val mask : Nat) : NothingToSettle s (t.writePortCtrl n val mask) :=
  (h.fields ..).stores (writePortCtrl_stores t n val mask) (by decide)

theorem portCtrlWrite (src : Src) (n val mask : Nat) : NothingToSettle s (t.portCtrlWrite src n val mask) :=
  .ite (h.when (fun _ h => h.wr ..) _) (h.onWrite _ _ _ (fun _ h => h.writePortCtrl ..))

theorem writeGateList (i val mask : Nat) : NothingToSettle s (t.writeGateList i val mask) := .ite (h.wr ..) (h.fields ..)

theorem phaseSync (slot : Nat) : NothingToSettle s (t.phaseSync slot) := (h.emit _).steps (fun _ _ h => h.onRing ..) _

theorem doChanCfgWrite (src : Src) (n : Fin 512) (val : BitVec 32) : NothingToSettle s (doChanCfgWrite src n val t) := by
  refine h.onWrite _ _ _ (fun t h => .ite (h.wr ..) ?_)
  exact (((((((h.wr ..).wr ..).wr ..).wr ..).showTable _).showTable _).when (fun _ h => (h.emit _).phaseSync _) _).when
    (fun _ h => (h.emit _).phaseSync _) _

theorem setDt (g e : Nat) : NothingToSettle s (t.setDt g e) := h.trans ⟨rfl, rfl, rfl, rfl⟩

theorem doSvcGidWrite (g val : Nat) : NothingToSettle s (t.doSvcGidWrite g val) :=
  .ite (h.wr ..) (((((h.when (fun _ h => h.wr ..) _).when (fun _ h => h.setDt ..) _).wr ..).wr ..).when (fun _ h => h.setDt ..) _)

theorem doGwModeWrite (src : Src) (val : BitVec 32) : NothingToSettle s (doGwModeWrite src val t) := by
  refine h.onWrite _ _ _ (fun t h => .ite h (.ite ?_ (h.wr ..)))
  exact ((h.when (fun _ h => h.wr ..) _).when (fun _ h => h.wr ..) _).setGwMode _

theorem assignGid (g : Nat) : NothingToSettle s (t.assignGid g) := ((h.wr ..).wr ..).setDt ..

theorem writeGid (val : Nat) : NothingToSettle s (t.writeGid val) := by
  have hcleared := h.when (g := fun s => s.wr .cfgGid_refused 0 0) (fun _ h => h.wr ..) (bitAt val 30)
  exact .ite (hcleared.wr ..) (.ite (hcleared.assignGid _) (hcleared.wr ..))

theorem puntRefresh : NothingToSettle s t.puntRefresh := h.reel (puntRefresh_kept t).reel

theorem ringStarts (fn r : Nat) : NothingToSettle s (t.ringStarts fn r) :=
  (((h.wr ..).wr ..).setRing ..).when (fun _ h => h.postOverflow _) _

theorem ringCfgWrite (fn r val mask : Nat) : NothingToSettle s (t.ringCfgWrite fn r val mask) :=
  (((h.puntRefresh.fields ..).when (fun _ h => h.wr ..) _).when (fun _ h => h.ringStarts ..) _).puntRefresh

theorem hostIdxWrite (fn r val mask : Nat) : NothingToSettle s (t.hostIdxWrite fn r val mask) :=
  (h.fields ..).when (fun _ h => h.postOverflow _) _

/-! A step of TIME_NS carries deadlines along, and starts what it passes (R193 to R195, R222). -/

theorem moveTimers (d : Int) : NothingToSettle s (t.moveTimers d) := by
  simp only [State.moveTimers]
  cases t.gateRuns <;> exact h.trans ⟨rfl, rfl, rfl, rfl⟩

theorem wrapped : NothingToSettle s t.wrapped := by
  simp only [State.wrapped]
  exact (h.trans (by exact ⟨rfl, rfl, rfl, rfl⟩)).event ..

theorem startCycle (at_ : Nat) (stepped : Bool) : NothingToSettle s (t.startCycle at_ stepped) := by
  simp only [State.startCycle]
  split
  · exact h
  · refine (stores ?_ (gateCommits_stores _) (by decide)).stores (boundaryAt_stores ..) (by decide)
    exact ((h.onGate _).wr ..).wr ..

theorem stepGate (old : Nat) (d : Int) : NothingToSettle s (t.stepGate old d) := by
  rw [State.stepGate]
  split
  · exact .ite ((h.startCycle ..).wr ..) h
  · exact h

theorem askFast (n : Nat) : NothingToSettle s (t.askFast n) := .ite h (.ite (h.setPst ..) (h.setPst ..))

theorem retune (n : Nat) : NothingToSettle s (t.retune n) := by
  simp only [State.retune]
  have hmoved := fun g₁ g₂ v₁ v₂ v₃ c => ((((((((h.when (g := fun s => ((s.restoreRings n).calOver).setPst n g₁)
    (fun _ h => ((h.restoreRings n).calOver).setPst ..) c).wr .coreNbrExpect_valid n v₁).wr .coreNbrExpect_peerGid n v₂).wr
    .coreNbrExpect_peerPort n v₃).setPst n g₂).moveRing (2 * n) (t.rd .optPlanNext_nextTx n)).moveRing (2 * n + 1)
    (t.rd .optPlanNext_nextRx n)).wr .optPlanNext_pending n 0).bumpN 6 (8 * n + OptEv.retune.ctorIdx) 1
  repeat' split
  · exact (((hmoved ..).request ..).setPst ..).tryCal n
  · exact hmoved ..
  · exact ((hmoved ..).setPst ..).askFast n

theorem activatePlan : NothingToSettle s t.activatePlan := ((h.onOpt _).wr ..).steps (fun _ n h => h.retune n) _

theorem stepPlan (old : Nat) (d : Int) : NothingToSettle s (t.stepPlan old d) := by
  rw [State.stepPlan]
  split
  · exact .ite (h.activatePlan.wr ..) h
  · exact h

/-! The first steps of start-up (R376, R385, R398, R401). -/

theorem logScan : NothingToSettle s t.logScan := by
  simp only [State.logScan]
  exact .ite ((h.wr ..).wr ..) ((h.wr ..).wr ..)

theorem showAnchor : NothingToSettle s t.showAnchor := by
  rw [State.showAnchor]
  split
  · exact h
  · exact (h.wr ..).steps (fun _ _ h => h.wr ..) _

theorem drawNonce : NothingToSettle s t.drawNonce := h.steps (fun _ _ h => (h.free 27 (2 ^ 32)).wr ..) _

theorem showSlot (i : Nat) (v : SlotView) : NothingToSettle s (t.showSlot i v) := ((h.wr ..).wr ..).wr ..

theorem holdPins : NothingToSettle s t.holdPins := h.steps (fun _ _ h => .ite h (h.emit _)) _

theorem takeSlot (i : Nat) (v : SlotView) : NothingToSettle s (t.takeSlot i v) := h.trans ⟨rfl, rfl, rfl, rfl⟩

end Rules
end NothingToSettle
end Sys2Proof.Proofs

namespace Sys2Proof.Proofs
open Sys2Proof Sys2Proof.Machine Sys2Proof.Laws

/-! A step of TIME_NS (R193). -/

/-- The time base with TIME_NS stepped by D. -/
def timeMoved (s : State) (d : Int) : TimeBase :=
  { s.tb with ns := BitVec.ofNat 32 (movedBy d s.now), steps := s.tb.steps + 1, stepAt := some s.tb.mono }

/-- A step of 0 does nothing. -/
theorem stepTime_zero {v : Nat} (h : signed 32 v = 0) (s : State) : s.stepTime v = s := by
  simp only [State.stepTime, h, if_true]

/-- Any other moves TIME_NS alone of the time base; what it starts on its way changes no more of it. -/
theorem stepTime_settles {v : Nat} (h : signed 32 v ≠ 0) (s : State) :
    NothingToSettle { s with tb := timeMoved s (signed 32 v) } (s.stepTime v) := by
  simp only [State.stepTime, h, if_false]
  refine (((((((NothingToSettle.refl _).moveTimers _).wr ..).when (fun _ h => h.wrapped) _).when (fun _ h => ?_)
    _).stepGate ..)).stepPlan ..
  exact (h.trans (by exact ⟨rfl, rfl, rfl, rfl⟩)).event ..

/-! The ranges of the time base and of the sideband (R191, R454). -/

/-- The remainder of the time base is below its unit, and the I3C length limits are those the part supports. -/
def InRange (s : State) : Prop := s.tb.ok ∧ s.i3c.ok

theorem NothingToSettle.inRange {s t : State} (h : NothingToSettle s t) (hs : InRange s) : InRange t := by
  rw [InRange, h.tb, h.i3c]
  exact hs

namespace InRange
variable {s t : State}

theorem ite_fst {α : Type} {c : Prop} [Decidable c] {x y : State × α} (hx : InRange x.1) (hy : ¬c → InRange y.1) :
    InRange (if c then x else y).1 := by
  split
  · exact hx
  · next hc => exact hy hc

theorem stepTime (hs : InRange s) (v : Nat) : InRange (s.stepTime v) := by
  by_cases hd : signed 32 v = 0
  · rwa [stepTime_zero hd]
  · exact (stepTime_settles hd s).inRange hs

/-! Register writes that start no command. -/

/-- A write of a register whose every write is a row of its own. -/
theorem cmdEffect {r : Reg} (hs : InRange s) (hown : r.ownRow = true) (src : Src) (i val mask : Nat) :
    InRange (s.cmdEffect src r i val mask) := by
  have h := NothingToSettle.refl s
  cases r with
  | corePortCfg => exact (h.doPortCfgWrite ..).inRange hs
  | gateCycleCfg => exact (h.writeCycleCfg ..).inRange hs
  | gatePortCtrl => exact (h.writePortCtrl ..).inRange hs
  | gateList => exact (h.writeGateList ..).inRange hs
  | optChanCfg => exact (h.doChanCfgWrite ..).inRange hs
  | svcGid => exact (h.doSvcGidWrite ..).inRange hs
  | gwMode => exact (h.doGwModeWrite ..).inRange hs
  | timeStep => exact hs.stepTime val
  | cfgGid => exact (h.writeGid _).inRange hs
  | pcieRingCfg => exact (h.ringCfgWrite ..).inRange hs
  | pcieRingHostIdx => exact (h.hostIdxWrite ..).inRange hs
  | _ => cases hown

theorem onWrite (hs : InRange s) (src : Src) (r : Reg) (i : Nat) {g : State → State} (hg : ∀ t, InRange t → InRange (g t)) :
    InRange (s.onWrite src r i g) := by
  rw [State.onWrite]
  split
  · exact hg _ ((NothingToSettle.ready s src r i).inRange hs)
  · exact ((NothingToSettle.refl s).markIgnored ..).inRange hs

theorem writeNow {r : Reg} {val mask : Nat} (hs : InRange s) (hstarts : r.starts val mask = false) (src : Src) (i : Nat) :
    InRange (s.writeNow src r i val mask) := by
  have heffect : ∀ t, InRange t → InRange (if actsNow r val mask then t.cmdEffect src r i val mask else t.plainWrite r i val mask) := by
    intro t ht
    split
    · next hacts =>
      rw [actsNow, hstarts, Bool.or_false] at hacts
      exact ht.cmdEffect hacts ..
    · exact (NothingToSettle.plainWrite ..).inRange ht
  rw [State.writeNow]
  split
  · exact ((NothingToSettle.refl s).portCtrlWrite ..).inRange hs
  split
  · rw [State.onPromWrite]
    split
    · exact heffect _ ((NothingToSettle.ready s src .promCmd 0).inRange hs)
    · exact hs.onWrite _ _ _ heffect
  · exact hs.onWrite _ _ _ heffect

theorem writeAll (hs : InRange s) {ws : List InWrite} (hws : ∀ w ∈ ws, w.reg.starts w.val w.mask = false) :
    InRange (s.writeAll ws).1 := by
  rw [State.writeAll]
  generalize false = bad
  induction ws generalizing s bad with
  | nil => exact hs
  | cons w ws ih =>
    rw [List.forall_mem_cons] at hws
    exact ih (hs.writeNow hws.1 ..) hws.2 _

/-! The application of an image (R390). -/

end InRange

/-- No field is empty. -/
theorem fld_width_pos (f : Fld) : 0 < f.width := by cases f <;> decide

/-- A write that sets no CMD field starts no command. -/
theorem starts_of_setsCmd {r : Reg} {val mask : Nat} (h : r.setsCmd val mask = false) : r.starts val mask = false := by
  simp only [Reg.setsCmd, Reg.starts, List.any_eq_false, Bool.and_eq_true, Bool.or_eq_true, decide_eq_true_eq, bne_iff_ne,
    not_and, not_not, bitAt] at h ⊢
  intro f hf hcmd hmask
  have hbits := h f hf (.inl hcmd.1)
  have hlow : (bits (val &&& mask) f.lo f.fld.width).testBit 0 = true := by
    rw [bits, Nat.testBit_mod_two_pow, Nat.testBit_div_two_pow, Nat.zero_add, Nat.testBit_and, hcmd.2, hmask,
      decide_eq_true (fld_width_pos _)]
    rfl
  rw [hbits] at hlow
  simp at hlow

namespace InRange
variable {s t : State}

theorem imageWrite (hs : InRange s) (ty off : Nat) (is64 : Bool) (val : Nat) : InRange (s.imageWrite ty off is64 val).1 := by
  refine ite_fst hs fun _ => ite_fst hs fun hfit => ?_
  refine writeAll (((NothingToSettle.refl s).access ..).inRange hs) (fun w hw => starts_of_setsCmd ?_)
  simp only [List.any_eq_true, not_exists, not_and, Bool.or_eq_true, not_or, Bool.not_eq_true] at hfit
  exact (hfit w hw).1

theorem eachEntry {g : State → List Byte → State × Bool} (hg : ∀ t e, InRange t → InRange (g t e).1) (n : Nat) (hs : InRange s)
    (k : Nat) (bs : List Byte) : InRange (s.eachEntry g n k bs).1 := by
  induction k generalizing s bs with
  | zero => exact hs
  | succ k ih =>
    simp only [State.eachEntry]
    repeat' split
    · exact hs
    · exact hg _ _ hs
    · exact ih (hg _ _ hs) _

theorem applyPermits (hs : InRange s) (v : List Byte) : InRange (s.applyPermits v) := by
  have h := NothingToSettle.refl s
  simp only [State.applyPermits]
  split
  · exact (((h.when (fun _ h => h.wr ..) _).when (fun _ h => h.wr ..) _).when (fun _ h => h.wr ..) _).inRange hs
  · exact hs

theorem applyIdent (hs : InRange s) (v : List Byte) : InRange (s.applyIdent v).1 := by
  simp only [State.applyIdent]
  repeat' split
  · exact hs
  · exact hs
  · exact hs
  · exact hs

theorem applyEntry (hs : InRange s) (e : List Byte) : InRange (s.applyEntry e).1 :=
  ((NothingToSettle.refl s).stores ((Stores.refl tableParts tableFields s).tblAct ..) (by decide)).inRange hs

theorem applyLoad (hs : InRange s) (v : List Byte) : InRange (s.applyLoad v).1 := by
  simp only [State.applyLoad]
  split
  · exact hs
  · exact hs

theorem applyRec (hs : InRange s) (r : ImgRec) : InRange (s.applyRec r).1 := by
  simp only [State.applyRec]
  repeat' split
  · exact hs.applyPermits _
  · exact hs.applyIdent _
  · exact eachEntry (fun _ e ht => ht.applyEntry e) _ hs ..
  · exact hs.applyLoad _
  · exact eachEntry (fun _ _ ht => ht.imageWrite ..) _ hs ..
  · exact hs

theorem applyRecs (hs : InRange s) (i : Nat) (rs : List ImgRec) : InRange (s.applyRecs i rs).1 := by
  induction rs generalizing s i with
  | nil => exact hs
  | cons r rs ih =>
    simp only [State.applyRecs]
    split
    · exact hs.applyRec r
    · exact ih (hs.applyRec r) _

/-! Start-up (R380, R389). -/

/-- A part whose remainder and whose sideband are those of reset is in range. -/
theorem of_reset (hfrac : s.tb.frac = State.reset.tb.frac) (hi3c : s.i3c = State.reset.i3c) : InRange s := by
  rw [InRange, TimeBase.ok, I3c.ok, hfrac, hi3c]
  decide

theorem romStep (s : State) : InRange s.romStep :=
  (NothingToSettle.refl _).logScan.showAnchor.drawNonce.inRange (of_reset rfl rfl)

theorem joins (hs : InRange s) : InRange s.joins := by
  simp only [State.joins]
  exact ((((NothingToSettle.trans (.refl s) (by exact ⟨rfl, rfl, rfl, rfl⟩)).setDevState 3).steps (fun _ n h => h.leaveDown n)
    _).idleAll _).inRange hs

theorem noImage (hs : InRange s) (cause : Nat) : InRange (s.noImage cause) :=
  ((NothingToSettle.trans (.refl s) (by exact ⟨rfl, rfl, rfl, rfl⟩)).enterSafe cause).inRange hs

theorem runSlots (hs : InRange s) (i : Nat) (v w : SlotView) (units : List (BlockKind × Fin 64)) : InRange (s.runSlots i v w units) := by
  have htaken := ((((NothingToSettle.refl s).takeSlot i v).setDevState 2).unitsFail units).inRange hs
  simp only [State.runSlots]
  generalize ((s.takeSlot i v).setDevState 2).unitsFail units = u at htaken
  have happlied := htaken.applyRecs 0 v.recs
  repeat' split
  · exact happlied.joins
  · exact noImage (((NothingToSettle.refl _).wr ..).inRange happlied) _
  · refine joins (applyRecs (NothingToSettle.inRange ?_ htaken) ..)
    exact ((((NothingToSettle.trans (.refl u) (by exact ⟨rfl, rfl, rfl, rfl⟩)).wr ..).takeSlot ..).event ..).fault ..
  · refine noImage (((NothingToSettle.refl _).wr ..).inRange (applyRecs (NothingToSettle.inRange ?_ htaken) ..)) _
    exact ((((NothingToSettle.trans (.refl u) (by exact ⟨rfl, rfl, rfl, rfl⟩)).wr ..).takeSlot ..).event ..).fault ..

/-- Every start-up sequence ends in range: it sets the time base and the sideband anew, and no image moves either out of its range. -/
theorem startUp (s : State) (found : BootFindings) : InRange (s.startUp found) := by
  have hrom := romStep s
  simp only [State.startUp]
  generalize s.romStep = u at hrom
  have hshown := ((((NothingToSettle.refl u).showSlot 0 (u.viewSlot 0 found.readErrA)).showSlot 1 (u.viewSlot 1 found.readErrB)).onChip
    (fun c => { c with torn := [] }))
  have htold := fun b detail => (hshown.when (g := fun s => (s.event .cfgState .cfgState_slotConflict 0).fault 0x0060 0 detail)
    (fun _ h => (h.event ..).fault ..) b).inRange hrom
  repeat' split
  · exact (htold ..).noImage 1
  · exact (htold ..).runSlots ..
  · exact (htold ..).runSlots ..

/-- R379: so does every restart. -/
theorem restart (s : State) (found : BootFindings) : InRange (s.restart found) :=
  (((((NothingToSettle.refl _).wr ..).wr ..).wr ..).wr ..).inRange (startUp _ found)

/-- R376: so does every loss of power. -/
theorem powerOff (s : State) (pin : PowerPin) : InRange (s.powerOff pin) := by
  simp only [State.powerOff]
  split
  · exact of_reset rfl rfl
  · exact ((NothingToSettle.refl _).holdPins.when (fun _ h => .ite h (h.emit _)) _).inRange (of_reset rfl rfl)

theorem ringWrites (src : Src) (bad : Bool) (ws : List RegW) (s : State) (h : (s.ringWrites src bad ws).2.2 = true) :
    InRange (s.ringWrites src bad ws).1 := by
  induction ws generalizing s bad with
  | nil => cases h
  | cons w ws ih =>
    simp only [State.ringWrites] at h ⊢
    split at h
    · next hrestarts =>
      simp only [hrestarts, if_true]
      exact restart ..
    · next hrestarts =>
      simp only [hrestarts]
      exact ih _ _ h

/-! The outcomes that keep what they settle. -/

theorem settle {u : State} (hs : InRange s) (h : settle s u = .next t) : InRange t := by
  cases h
  exact hs

theorem settleT {u : State} (hs : InRange s) (h : settleT s u = .next t) : InRange t := by
  cases h
  exact hs

theorem settleJ {u : State} (hs : InRange s) (h : settleJ s u = .next t) : InRange t := by
  cases h
  exact hs

theorem settleI {u : State} (hs : InRange s) (h : settleI s u = .next t) (hu : u.i3c.ok) : InRange t := by
  cases h
  exact ⟨hs.1, hu⟩

theorem restarted {u : State} (hu : InRange u) (h : restarted s u = .next t) : InRange t := by
  cases h
  exact hu

/-! The sideband (R453 to R456). -/

section Sideband
variable {g : State → State} (hs : s.i3c.ok) (hg : ∀ t, t.i3c.ok → (g t).i3c.ok)
include hs

theorem sendIbi : s.sendIbi.i3c.ok := by
  rw [State.sendIbi]
  split
  · split
    · exact hs
    · exact hs
  · exact hs

include hg

theorem broadcast : (s.broadcast g).i3c.ok := by
  rw [State.broadcast]
  split
  · exact hg _ (sendIbi hs)
  · exact hs

theorem addressed : (s.addressed g).i3c.ok := by
  rw [State.addressed]
  repeat' split
  · exact hs
  · exact hg _ (sendIbi hs)
  · exact hs

theorem ccc (direct : Bool) : (s.ccc direct g).i3c.ok := by
  cases direct
  · exact broadcast hs hg
  · exact addressed hs hg

end Sideband

theorem ite_i3c {c : Prop} [Decidable c] {u : State} (hs : s.i3c.ok) (hu : u.i3c.ok) : (if c then s else u).i3c.ok := by
  split
  · exact hs
  · exact hu

/-- R454: a length limit that is set lies between what the commands need and what the part has. -/
theorem lenUsed_ge (lo hi n : Nat) : lo ≤ lenUsed lo hi n := Nat.le_max_left ..

theorem lenUsed_le {lo hi : Nat} (h : lo ≤ hi) (n : Nat) : lenUsed lo hi n ≤ hi := Nat.max_le.mpr ⟨h, Nat.min_le_left ..⟩

/-- RSTACT leaves the target as it was, or as reset leaves it. -/
theorem targetReset (hs : s.i3c.ok) (direct : Bool) (defByte : BitVec 8) :
    (if defByte = 0x00 then s else if defByte = 0x01 then s.i3cReset else s.when direct (fun s => s.emit .i3cNak)).i3c.ok := by
  refine ite_i3c hs (ite_i3c (of_reset (s := State.reset) rfl rfl).2 ?_)
  cases direct
  · exact hs
  · exact hs

theorem i3cRead (hs : s.i3c.ok) (off : Nat) : (s.i3cRead off).i3c.ok := by
  simp only [State.i3cRead]
  exact ite_i3c hs (by split <;> exact hs)

theorem i3cGid (hs : s.i3c.ok) (g : Nat) : (s.i3cGid g).i3c.ok := by
  rw [State.i3cGid]
  exact ite_i3c hs hs

/-! The commands that may restart the part (R376, R379, R397, R449, R454), and the count of time (R191). -/

theorem execRegisterWrite {src : Src} {off : BitVec 26} {is64 : Bool} {val : BitVec 64} (hs : InRange s)
    (h : execRegisterWrite src off is64 val s = .next t) : InRange t := by
  simp only [Machine.execRegisterWrite] at h
  split at h
  · exact hs.settle h
  split at h
  · exact restarted (restart ..) h
  · exact hs.settleT h

theorem execResetNRelease {found : BootFindings} (hs : InRange s) (h : execResetNRelease found s = .next t) : InRange t := by
  cases h
  show InRange (if s.off || !s.started then s.startUp found else s)
  split
  · exact startUp ..
  · exact hs

theorem ctrlWrite (hs : InRange s) (src : Src) (val : Nat) (found : BootFindings) : InRange (s.ctrlWrite src val found) := by
  rw [State.ctrlWrite]
  repeat' split
  · exact restart ..
  · exact hs
  · exact ((NothingToSettle.refl s).markIgnored ..).inRange hs

theorem execSelftestComplete {failed : BitVec 6} {errors : BitVec 16} {units : List (BlockKind × Fin 64)} {found : BootFindings}
    (hs : InRange s) (h : execSelftestComplete failed errors units found s = .next t) : InRange t := by
  simp only [Machine.execSelftestComplete] at h
  repeat' split at h
  · cases h
    exact hs
  · exact restarted (restart ..) h
  · exact hs.settle h

theorem execCmdRegWrite {fn : Fin 2} {complete : Bool} {seq : BitVec 32} {writes : List RegW} (hs : InRange s)
    (h : execCmdRegWrite fn complete seq writes s = .next t) : InRange t := by
  simp only [Machine.execCmdRegWrite] at h
  repeat' split at h
  · next hrestarts => exact restarted (ringWrites _ _ _ _ hrestarts) h
  · exact hs.settleT h
  · cases h
    exact hs

theorem execI3cReboot {key : BitVec 16} {found : BootFindings} (hs : InRange s) (h : execI3cReboot key found s = .next t) :
    InRange t := by
  rw [Machine.execI3cReboot] at h
  split at h
  · exact restarted (restart ..) h
  · exact hs.settleI h (addressed hs.2 fun _ hu => hu)

theorem execJtagInternal {instr : BitVec 8} (hs : InRange s) (h : execJtagInternal instr s = .next t) : InRange t := by
  rw [Machine.execJtagInternal] at h
  repeat' split at h
  · cases h
    exact hs
  · cases h
  · exact hs.settleJ h

theorem execTimeClkTick (hs : InRange s) (h : execTimeClkTick s = .next t) : InRange t := by
  rw [Machine.execTimeClkTick] at h
  split at h
  · cases h
    exact ⟨Nat.mod_lt _ (by decide), hs.2⟩
  · cases h
    exact hs

/-- Every command keeps the ranges: it settles the time base and the sideband as they were, or is one of those that may change them. -/
theorem exec {c : Instr} (hs : InRange s) (h : exec c s = .next t) : InRange t := by
  cases c with
  | timeClkTick => exact hs.execTimeClkTick h
  | timeStep => exact hs.settleT h
  | registerWrite => exact hs.execRegisterWrite h
  | cmdRegWrite => exact hs.execCmdRegWrite h
  | powerGoodLoss => exact restarted (powerOff ..) h
  | resetNRelease => exact hs.execResetNRelease h
  | reboot => exact restarted (hs.ctrlWrite ..) h
  | selftestComplete => exact hs.execSelftestComplete h
  | i3cReboot => exact hs.execI3cReboot h
  | setmwl =>
    refine hs.settleI h (ccc hs.2 (fun u hu => ?_) _)
    exact ⟨lenUsed_ge .., lenUsed_le (by decide) _, hu.2.2⟩
  | setmrl =>
    refine hs.settleI h (ccc hs.2 (fun u hu => ?_) _)
    exact ⟨hu.1, hu.2.1, lenUsed_ge .., lenUsed_le (by decide) _⟩
  | rstact => exact hs.settleI h (ccc hs.2 (fun _ hu => targetReset hu ..) _)
  | entdaa => exact hs.settleI h (broadcast hs.2 fun _ hu => ite_i3c hu hu)
  | rstdaa => exact hs.settleI h (broadcast hs.2 fun _ hu => hu)
  | enec | disec =>
    refine hs.settleI h (ccc hs.2 (fun u hu => ?_) _)
    exact hu
  | getpid | getbcr | getdcr | getstatus | getmwl | getmrl | i3cHealth => exact hs.settleI h (addressed hs.2 fun _ hu => hu)
  | i3cReadReg => exact hs.settleI h (addressed hs.2 fun _ hu => i3cRead hu _)
  | i3cSetGid => exact hs.settleI h (addressed hs.2 fun _ hu => i3cGid hu _)
  | i3cPrivateRead =>
    refine hs.settleI h (addressed hs.2 fun u hu => ?_)
    split
    · exact hu
    · exact hu
  | i3cUnsupportedCcc => exact hs.settleI h (ite_i3c (sendIbi hs.2) hs.2)
  | i3cBadCmd => exact hs.settleI h (ite_i3c hs.2 (addressed hs.2 fun _ hu => hu))
  | jtagBypass | jtagIdcode | jtagSamplePreload | jtagExtest | jtagClamp | jtagHighz => exact hs.settleJ h
  | jtagInternal => exact hs.execJtagInternal h
  | _ => exact hs.settle h

end InRange

/-- Settles O3: every step runs one command or none, and no command leaves the ranges. -/
theorem everyStepKeepsTimeAndSidebandInvariant : Obligations.EveryStepKeepsTimeAndSidebandInvariant := by
  intro s t htb hi3c hstep
  rw [step] at hstep
  split at hstep
  · cases hstep
    exact ⟨htb, hi3c⟩
  · next rest _ =>
    have hs : InRange { s with pending := rest } := ⟨htb, hi3c⟩
    exact hs.exec hstep

end Sys2Proof.Proofs

/-! TIME_STEP (R193): TIME_NS moves, and the rest of the time base stays. -/

namespace Sys2Proof.Proofs
open Sys2Proof Sys2Proof.Machine Sys2Proof.Laws

/-- A step of TIME_NS by a two's complement value is the addition of the value, modulo 2^32. -/
theorem ofNat_movedBy_signed (n d : BitVec 32) : BitVec.ofNat 32 (movedBy (signed 32 d.toNat) n.toNat) = n + d := by
  apply BitVec.eq_of_toNat_eq
  simp only [movedBy, signed, BitVec.toNat_ofNat, BitVec.toNat_add]
  split <;> omega

theorem signed_eq_zero {d : BitVec 32} : signed 32 d.toNat = 0 ↔ d = 0 := by
  rw [← BitVec.toNat_inj]
  simp only [signed, BitVec.ofNat_eq_ofNat, BitVec.toNat_zero]
  split <;> omega

/-- What has nothing to settle is left as it is. -/
theorem settledT_of_nothingToSettle {s t : State} (h : NothingToSettle s t) : s.settledT t = t := by
  rw [State.settledT, ← h.pending, ← h.i3c, ← h.jtag, ← h.tb]

theorem exec_timeStep {src : Src} {s : State} (h : s.accepts src .timeStep 0 = true) (d : BitVec 32) :
    exec (.timeStep src d) s = .next (s.settledT ((s.ready src .timeStep 0).stepTime d.toNat)) := by
  show execTimeStep src d s = _
  rw [execTimeStep, onWrite_of_accepts h, settleT]

/-- R193: whatever the value, TIME_NS moves by it, and the fraction, the free-running count and the count's state stay. -/
theorem settledT_stepTime (src : Src) (d : BitVec 32) (s : State) :
    ∃ steps stepAt, (s.settledT ((s.ready src .timeStep 0).stepTime d.toNat)).tb =
      { s.tb with ns := s.tb.ns + d, steps := steps, stepAt := stepAt } := by
  have hready := NothingToSettle.ready s src .timeStep 0
  by_cases hd : d = 0
  · rw [stepTime_zero (signed_eq_zero.mpr hd), settledT_of_nothingToSettle hready, hready.tb, hd]
    exact ⟨s.tb.steps, s.tb.stepAt, by simp⟩
  · have hstep := stepTime_settles (mt signed_eq_zero.mp hd) (s.ready src .timeStep 0)
    rw [settledT_tb, hstep.tb, timeMoved, State.now, ofNat_movedBy_signed, hready.tb]
    exact ⟨_, _, rfl⟩

/-- Settles O18: a step moves the time base by its value alone, and one of 0 leaves the state in which the write acts. -/
theorem timeStepAddsSignedValue : Obligations.TimeStepAddsSignedValue := by
  refine ⟨?step, ?zero, ?twice⟩
  case step =>
    intro src d s hacc _
    obtain ⟨steps, stepAt, htb⟩ := settledT_stepTime src d s
    refine ⟨_, exec_timeStep hacc d, ?_⟩
    simp only [htb, and_self]
  case zero =>
    intro src s hacc
    refine ⟨_, exec_timeStep hacc 0, ?_⟩
    rw [stepTime_zero (signed_eq_zero.mpr rfl), settledT_of_nothingToSettle (.ready ..)]
  case twice =>
    intro src d e s t hacc hexec hacc'
    obtain ⟨_, _, htb⟩ := settledT_stepTime src d s
    obtain ⟨_, _, htb'⟩ := settledT_stepTime src e t
    rw [exec_timeStep hacc, Host.Outcome.next.injEq] at hexec
    rw [hexec] at htb
    refine ⟨_, exec_timeStep hacc' e, (congrArg TimeBase.ns htb').trans ?_, (congrArg TimeBase.frac htb').trans ?_⟩
    · rw [htb]
    · rw [htb]

end Sys2Proof.Proofs

/-! The count of TIME_CLK (R191, R192, R194, R435). -/

namespace Sys2Proof.Proofs
open Sys2Proof Sys2Proof.Machine Sys2Proof.Laws

/-- R191: no RATE takes the sum of a cycle below 0. -/
theorem fracSum_eq (s : State) : (s.fracSum : Int) = s.tb.frac + 65536000000000 + signed 32 (s.rd .timeRate_rate 0) := by
  simp only [State.fracSum, timeQ, signed]
  split <;> omega

theorem exec_timeClkTick {s : State} (hcounting : s.tb.counting = true) (hon : s.off = false) :
    exec .timeClkTick s =
      .next { (if s.tickWraps then s.wrapped else s) with pending := s.pending, tb := s.ticked, i3c := s.i3c, jtag := s.jtag } := by
  show execTimeClkTick s = _
  simp only [execTimeClkTick, hcounting, hon, Bool.not_false, Bool.and_self, if_true]

theorem ticked_frac_lt (s : State) : s.ticked.frac < 65536000000000 := Nat.mod_lt _ (by decide)

theorem ticked_mono (s : State) : s.ticked.mono - s.tb.mono = s.fracSum / timeQ := by
  rw [State.ticked, Nat.add_sub_cancel_left]

/-- R191: the sum of a cycle is the fraction that stays and the nanoseconds counted. -/
theorem ticked_sum (s : State) :
    (s.ticked.frac : Int) + 65536000000000 * (s.ticked.mono - s.tb.mono : Nat) =
      s.tb.frac + 65536000000000 + signed 32 (s.rd .timeRate_rate 0) := by
  rw [← fracSum_eq, ticked_mono]
  exact_mod_cast Nat.mod_add_div s.fracSum timeQ

theorem ticked_ns (s : State) : s.ticked.ns = s.tb.ns + BitVec.ofNat 32 (s.ticked.mono - s.tb.mono) := by
  rw [ticked_mono]
  simp only [State.ticked, State.now, BitVec.ofNat_add, BitVec.ofNat_toNat, BitVec.setWidth_eq]

theorem tickWraps_iff (s : State) : s.tickWraps = true ↔ 2 ^ 32 ≤ s.tb.ns.toNat + (s.ticked.mono - s.tb.mono) := by
  rw [ticked_mono, State.tickWraps, decide_eq_true_eq, State.now]

/-- R194, R435: a wrap is told and counted in the epoch. -/
theorem wrapped_shows (s : State) : s.wrapped.rd .timeStatus_wrap 0 = 1 ∧ s.wrapped.tel.epoch = s.tel.epoch + 1 := by
  rw [State.wrapped, event_tel]
  exact ⟨rd_event_flag _ _ _ (by decide) (by decide), rfl⟩

/-! Edges of SYNC_IN (R189, R202). -/

/-- What was told of the last edge is as it was: its timestamp, and when it came. -/
structure EdgeKept (s t : State) : Prop where
  te : t.rd .gateSyncEdge_te 0 = s.rd .gateSyncEdge_te 0
  edge : t.gate.edge = s.gate.edge

namespace EdgeKept
variable {s t u : State}

theorem refl (s : State) : EdgeKept s s := ⟨rfl, rfl⟩

theorem trans (hst : EdgeKept s t) (htu : EdgeKept t u) : EdgeKept s u := ⟨htu.te.trans hst.te, htu.edge.trans hst.edge⟩

theorem ite {c : Prop} [Decidable c] (ht : EdgeKept s t) (hu : EdgeKept s u) : EdgeKept s (if c then t else u) := by
  split
  · exact ht
  · exact hu

theorem of_stores {ps : List Part} {fs : List Fld} (h : Stores ps fs s t) (hgate : .gate ∉ ps) (hte : .gateSyncEdge_te ∉ fs) :
    EdgeKept s t :=
  ⟨h.regs _ 0 hte, congrArg Gate.edge (h.gate hgate)⟩

section Rules
variable (h : EdgeKept s t)
include h

theorem wr {f : Fld} (i v : Nat) (hf : .gateSyncEdge_te ≠ f) : EdgeKept s (t.wr f i v) :=
  ⟨(rd_wr_other _ _ (.inl hf)).trans h.te, h.edge⟩

theorem onGate (g : Gate → Gate) (hg : ∀ gate, (g gate).edge = gate.edge) : EdgeKept s (t.onGate g) :=
  ⟨(rd_onGate ..).trans h.te, (hg _).trans h.edge⟩

theorem bumpChip (e : ChipEv) : EdgeKept s (t.bumpChip e) :=
  ⟨(rd_bumpChip _ _ _ (by decide)).trans h.te, (congrArg Gate.edge (bumpChip_gate t e)).trans h.edge⟩

theorem event (r : Reg) {f : Fld} (i b : Nat) (hf : .gateSyncEdge_te ∉ f :: ringFields) : EdgeKept s (t.event r f i b) :=
  ⟨(rd_event_other _ _ _ _ hf _).trans h.te, (congrArg Gate.edge (event_gate ..)).trans h.edge⟩

theorem syncPulse : EdgeKept s t.syncPulse := by
  obtain ⟨pulse, hpulse⟩ := syncPulse_gate t
  exact ⟨((syncPulse_stores t).regs _ 0 (by decide)).trans h.te, (congrArg Gate.edge hpulse).trans h.edge⟩

theorem gateCommits : EdgeKept s t.gateCommits := h.trans (of_stores (gateCommits_stores t) (by decide) (by decide))

theorem gateShowAll : EdgeKept s t.gateShowAll := h.trans (of_stores (gateShowAll_stores t) (by decide) (by decide))

theorem boundaryMoved (at_ : Nat) (fresh stepped : Bool) : EdgeKept s (boundaryMoved t at_ fresh stepped) := by
  rw [Proofs.boundaryMoved]
  exact h.gateCommits.onGate _ fun _ => rfl

theorem boundaryAt (at_ : Nat) (fresh stepped : Bool) : EdgeKept s (t.boundaryAt at_ fresh stepped) := by
  rw [boundaryAt_eq]
  exact (h.boundaryMoved ..).syncPulse.gateShowAll

theorem startCycle (at_ : Nat) (stepped : Bool) : EdgeKept s (t.startCycle at_ stepped) := by
  simp only [State.startCycle]
  split
  · exact h
  · exact (((h.onGate _ (by exact fun _ => rfl)).wr _ _ (by decide)).wr _ _ (by decide)).boundaryAt ..

theorem boundaryDue : EdgeKept s t.boundaryDue := by
  have hown : EdgeKept s (if t.gateRuns && t.reached t.gate.next then t.boundaryAt t.gate.next false false else t) :=
    .ite (h.boundaryAt ..) h
  simp only [State.boundaryDue]
  split
  · exact .ite (h.startCycle ..) hown
  · exact hown

theorem edgeMatched (te : Nat) (late pend : Bool) (off : Nat) : EdgeKept s (t.edgeMatched te late pend off) := by
  have hoffset : EdgeKept s (t.wr .gateSyncStatus_lastOffset 0 (offset24 (if late then (off : Int) else -(off : Int)))) :=
    h.wr _ _ (by decide)
  rw [State.edgeMatched]
  generalize t.wr .gateSyncStatus_lastOffset 0 _ = u at hoffset ⊢
  refine .ite ((hoffset.bumpChip _).event _ _ _ (by decide)) (.ite (hoffset.bumpChip _) (EdgeKept.event ?_ _ _ _ (by decide)))
  exact .ite (hoffset.onGate _ fun _ => rfl) (.ite (hoffset.startCycle ..) (hoffset.boundaryAt ..))

theorem edgeMatch (te : Nat) : EdgeKept s (t.edgeMatch te) := h.boundaryDue.edgeMatched ..

end Rules
end EdgeKept

/-- The edge that has come: when, on the free-running count, and its timestamp. -/
def edgeTimed (s : State) : State := (s.onGate (fun g => { g with edge := some s.tb.mono })).wr .gateSyncEdge_te 0 s.now

theorem edgeTimed_stores (s : State) : Stores [.gate, .regs] [.gateSyncEdge_te] s (edgeTimed s) :=
  ((onGate_stores ..).mono (by simp) (by simp)).wr _ _ (by decide)

theorem rd_edgeTimed (s : State) : (edgeTimed s).rd .gateSyncEdge_te 0 = s.now :=
  (rd_wr_same ..).trans (Nat.mod_eq_of_lt s.tb.ns.isLt)

/-- R202: an edge is accepted where the last one lies 100 ns back or more. -/
theorem exec_syncInEdge {s : State} (hon : s.off = false) (hlands : s.landsHeld = false)
    (hspaced : ∀ t0, s.gate.edge = some t0 → t0 + 100 ≤ s.tb.mono) :
    exec .syncInEdge s = settle s
      (if (edgeTimed s).flag .gateSyncCfg_syncInEn 0 && (edgeTimed s).gateRuns then (edgeTimed s).edgeMatch s.now else edgeTimed s) := by
  have haccepted : s.gate.edge.any (fun t => decide (s.tb.mono < t + 100)) = false := by
    cases hedge : s.gate.edge with
    | none => rfl
    | some t0 => simpa using hspaced t0 hedge
  show execSyncInEdge s = _
  simp only [execSyncInEdge, hon, hlands, haccepted, Bool.or_self, Bool.false_eq_true, if_false]
  rfl

/-- Settles O17: a cycle's sum divided by the unit of the fraction, and an edge's timestamp, which no match of the edge changes. -/
theorem timeTicksAndEdges : Obligations.TimeTicksAndEdges := by
  refine ⟨?tick, ?still, ?edge⟩
  case tick =>
    intro s hcounting hon _
    refine ⟨_, exec_timeClkTick hcounting hon, ticked_sum s, ticked_frac_lt s, ticked_ns s, fun hwraps => ?_, fun hwithin => ?_⟩
    · rw [← tickWraps_iff] at hwraps
      simp only [hwraps, if_true]
      exact wrapped_shows s
    · have hwraps : s.tickWraps = false := by
        rw [← Bool.not_eq_true, tickWraps_iff]
        exact Nat.not_le.mpr hwithin
      simp only [hwraps, Bool.false_eq_true, if_false]
      refine ⟨rfl, fun p hp => ?_⟩
      cases p with
      | tb => exact absurd (List.mem_singleton.mpr rfl) hp
      | _ => rfl
  case still =>
    intro s hstill
    refine ⟨s, ?_, rfl⟩
    show execTimeClkTick s = _
    have hcount : (s.tb.counting && !s.off) = false := by
      obtain h | h := hstill <;> simp [h]
    rw [execTimeClkTick, hcount]
    rfl
  case edge =>
    intro s hon hlands hspaced
    have hexec := exec_syncInEdge hon hlands hspaced
    have hkept : EdgeKept (edgeTimed s)
        (if (edgeTimed s).flag .gateSyncCfg_syncInEn 0 && (edgeTimed s).gateRuns then (edgeTimed s).edgeMatch s.now else edgeTimed s) :=
      .ite ((EdgeKept.refl _).edgeMatch _) (.refl _)
    refine ⟨⟨_, hexec, ?_, ?_⟩, fun hquiet => ?_⟩
    · exact (rd_settled ..).trans (hkept.te.trans (rd_edgeTimed s))
    · exact hkept.edge
    · have hstores := edgeTimed_stores s
      have hunmatched : ((edgeTimed s).flag .gateSyncCfg_syncInEn 0 && (edgeTimed s).gateRuns) = false := by
        rw [State.gateRuns, hstores.flag _ (by decide), hstores.flag _ (by decide)]
        obtain h | h := hquiet
        · simp [flag_def, h]
        · rw [← State.gateRuns, h, Bool.and_false]
      rw [hunmatched] at hexec
      exact ⟨_, hexec, fun f i hf => (rd_settled ..).trans (hstores.regs f i hf), onlyParts_settled hstores.parts, rfl⟩

end Sys2Proof.Proofs

/-! Calibration and the circuit plan: what work on ports leaves of the optical control. -/

namespace Sys2Proof.Proofs
open Sys2Proof Sys2Proof.Machine Sys2Proof.Laws

/-- Register fields of the optical control that no work on ports changes. -/
def circuitFields : List Fld :=
  [.optCalStatus_lane, .optChanStatus_spare, .optChanCfg_txLine, .optChanCfg_rxLine, .optPlanNext_pending, .optPlanNext_nextTx,
   .optPlanNext_nextRx, .optPlanCtrl_arm]

/-- Between `s` and `t` the fields above stand, and so does a view of the optical control together with its mark of a calibration in
progress. Each rule below takes the relation through one more operation. -/
structure OpticsKept {β : Type} (v : Opt → Nat → β) (s t : State) : Prop where
  view : v t.opt (t.rd .optCalStatus_active 0) = v s.opt (s.rd .optCalStatus_active 0)
  regs : ∀ f ∈ circuitFields, ∀ i, t.rd f i = s.rd f i

/-- A view that shows neither the rings nor the calibration. -/
def CalBlind {β : Type} (v : Opt → Nat → β) : Prop := ∀ o ring cal a b, v { o with ring := ring, cal := cal } a = v o b

/-- A port in CAL has no packet to cut off. -/
theorem abortIfLinked_of_cal {s : State} {n : Nat} (h : s.portState n = 5) : s.abortIfLinked n = s := by
  simp [State.abortIfLinked, State.linked, h]

namespace OpticsKept
variable {β : Type} {v : Opt → Nat → β} {s t u : State}

theorem refl (v : Opt → Nat → β) (s : State) : OpticsKept v s s := ⟨rfl, fun _ _ _ => rfl⟩

theorem trans (hst : OpticsKept v s t) (htu : OpticsKept v t u) : OpticsKept v s u :=
  ⟨htu.view.trans hst.view, fun f hf i => (htu.regs f hf i).trans (hst.regs f hf i)⟩

/-- Steps taken for the members of a list. -/
theorem foldl {α : Type} {g : State → α → State} (h : OpticsKept v s t) (hg : ∀ t a, OpticsKept v s t → OpticsKept v s (g t a))
    (l : List α) : OpticsKept v s (l.foldl g t) := by
  induction l generalizing t with
  | nil => exact h
  | cons a l ih => exact ih (hg t a h)

theorem when {g : State → State} (h : OpticsKept v s t) (hg : ∀ t, OpticsKept v s t → OpticsKept v s (g t)) (c : Bool) :
    OpticsKept v s (t.when c g) := by
  cases c
  · exact h
  · exact hg t h

theorem ite {c : Prop} [Decidable c] (ht : OpticsKept v s t) (hu : OpticsKept v s u) : OpticsKept v s (if c then t else u) := by
  split
  · exact ht
  · exact hu

/-! The updates of the state. -/

/-- A change of what the relation does not speak of. -/
theorem aside_of (h : OpticsKept v s t) (hopt : u.opt = t.opt)
    (hrd : ∀ f ∈ .optCalStatus_active :: circuitFields, ∀ i, u.rd f i = t.rd f i) : OpticsKept v s u :=
  h.trans ⟨by rw [hopt, hrd _ List.mem_cons_self], fun f hf => hrd f (List.mem_cons_of_mem _ hf)⟩

theorem aside (h : OpticsKept v s t) (hopt : u.opt = t.opt) (hregs : u.regs = t.regs) : OpticsKept v s u :=
  h.aside_of hopt (fun f _ i => by rw [State.rd, hregs, State.rd])

theorem emit (h : OpticsKept v s t) (o : Output) : OpticsKept v s (t.emit o) := h.aside rfl rfl
theorem free (h : OpticsKept v s t) (tag n : Nat) : OpticsKept v s (t.free tag n).2 := h.aside rfl rfl
theorem onSw (h : OpticsKept v s t) (g : Sw → Sw) : OpticsKept v s (t.onSw g) := h.aside rfl rfl
theorem onPorts (h : OpticsKept v s t) (g : Ports → Ports) : OpticsKept v s (t.onPorts g) := h.aside rfl rfl
theorem setPst (h : OpticsKept v s t) (n : Nat) (g : PortSt → PortSt) : OpticsKept v s (t.setPst n g) := h.onPorts _

/-- A change of the optical control that the view does not show. -/
theorem onOpt (h : OpticsKept v s t) (g : Opt → Opt) (hg : ∀ o a, v (g o) a = v o a := by intros; rfl) :
    OpticsKept v s (t.onOpt g) :=
  h.trans ⟨hg _ _, fun _ _ _ => rfl⟩

theorem wr (h : OpticsKept v s t) {f : Fld} (i x : Nat) (hf : f ∉ .optCalStatus_active :: circuitFields := by decide) :
    OpticsKept v s (t.wr f i x) :=
  h.aside_of rfl (fun _ hg _ => rd_wr_other _ _ (.inl (ne_of_mem_of_not_mem hg hf)))

theorem event (h : OpticsKept v s t) (r : Reg) {f : Fld} (i b : Nat) (hf : f ∉ .optCalStatus_active :: circuitFields := by decide) :
    OpticsKept v s (t.event r f i b) := by
  have hring : ∀ g ∈ .optCalStatus_active :: circuitFields, g ∉ ringFields := by decide
  refine h.aside_of (event_opt ..) (fun g hg j => rd_event_other t r i b ?_ j)
  exact fun hmem => (List.mem_cons.mp hmem).elim (ne_of_mem_of_not_mem hg hf) (hring g hg)

theorem bumpOpt (h : OpticsKept v s t) (n : Nat) (e : OptEv) : OpticsKept v s (t.bumpOpt n e) := by
  have hwrap : ∀ g ∈ .optCalStatus_active :: circuitFields, g ∉ [Fld.telWrap_wrap] := by decide
  exact h.aside_of (bumpN_opt ..) (fun g hg j => rd_bumpN _ _ _ _ j (hwrap g hg))

theorem fault (h : OpticsKept v s t) (code sev : Nat) (detail : List Nat) : OpticsKept v s (t.fault code sev detail) := by
  have hfault : ∀ g ∈ .optCalStatus_active :: circuitFields, g ∉ faultFields := by decide
  exact h.aside_of (fault_opt ..) (fun g hg j => rd_fault _ _ _ _ j (hfault g hg))

theorem hostEvent (h : OpticsKept v s t) (off bit : Nat) : OpticsKept v s (t.hostEvent off bit) := by
  have hring : ∀ g ∈ .optCalStatus_active :: circuitFields, g ∉ ringFields := by decide
  exact h.aside_of (hostEvent_opt ..) (fun g hg j => rd_hostEvent _ _ _ j (hring g hg))

/-! HELLOs and the queues of a port (R92, R164). -/

theorem holdSeg (h : OpticsKept v s t) (pid d c : Nat) : OpticsKept v s (t.holdSeg pid d c) :=
  (h.onSw _).when (fun _ h => h.wr _ _) _

theorem enterEgress (h : OpticsKept v s t) (n c : Nat) (e : EPkt) : OpticsKept v s (t.enterEgress n c e) := by
  simp only [State.enterEgress]
  exact (h.when (fun _ h => h.onSw _) _).onSw _

theorem fixBuckets (h : OpticsKept v s t) (n : Nat) : OpticsKept v s (t.fixBuckets n) := h.foldl (fun _ _ h => h.onSw _) _

theorem sendHello (h : OpticsKept v s t) (n : Nat) (fast : Bool) : OpticsKept v s (t.sendHello n fast) :=
  (((((h.free 1 (2 ^ 24)).free 2 (2 ^ 16)).setPst n _).onSw _).enterEgress ..).holdSeg ..

/-! The states of a port (Table 3.4). -/

theorem showLanes (h : OpticsKept v s t) (n : Nat) : OpticsKept v s (t.showLanes n) := h.wr ..

theorem portEvent (h : OpticsKept v s t) (n : Nat) : OpticsKept v s (t.portEvent n) := h.event ..

theorem setPort (h : OpticsKept v s t) (n st : Nat) : OpticsKept v s (t.setPort n st) := by
  rw [State.setPort]
  exact .ite (h.showLanes n) ((((h.wr _ _).when (fun _ h => h.wr _ _) _).showLanes n).portEvent n)

theorem failReason (h : OpticsKept v s t) (n : Nat) (reason : Option Nat) : OpticsKept v s (t.failReason n reason) := by
  cases reason with
  | none => exact h
  | some r => exact h.wr n r

theorem toDraining (h : OpticsKept v s t) (n : Nat) : OpticsKept v s (t.toDraining n) :=
  (((h.setPort n 4).wr _ _).setPst _ _).when (fun _ h => h.sendHello ..) _

theorem reDrain (h : OpticsKept v s t) (n : Nat) : OpticsKept v s (t.reDrain n) :=
  .ite (h.toDraining n) (.ite ((h.setPst ..).setPort ..) h)

theorem request (h : OpticsKept v s t) (n : Nat) (w : CalWait) : OpticsKept v s (t.request n w) := (h.setPst ..).reDrain n

theorem syncFence (h : OpticsKept v s t) (n : Nat) : OpticsKept v s (t.syncFence n) := ((h.wr _ _).wr _ _).reDrain n

theorem askFast (h : OpticsKept v s t) (n : Nat) : OpticsKept v s (t.askFast n) := .ite h (.ite (h.setPst ..) (h.setPst ..))

/-! Rings and attempts (R206, R214, R217). -/

theorem heat (h : OpticsKept v s t) (key code : Nat) : OpticsKept v s (t.heat key code) :=
  ((h.wr _ _).when (fun _ h => h.wr _ _) _).emit _

theorem showTable (h : OpticsKept v s t) (key : Nat) : OpticsKept v s (t.showTable key) := h.wr ..

theorem setLock (h : OpticsKept v s t) (key : Nat) (b : Bool) : OpticsKept v s (t.setLock key b) :=
  (h.wr _ _).wr (hf := by split <;> decide) ..

theorem beginSweep (h : OpticsKept v s t) (key : Nat) : OpticsKept v s (t.beginSweep key) := (h.wr _ _).setLock ..

theorem sweepUnlocked (h : OpticsKept v s t) (n : Nat) : OpticsKept v s (t.sweepUnlocked n) :=
  .ite (h.foldl (fun _ k h => .ite h (h.beginSweep k)) _) h

theorem nextAttempt (h : OpticsKept v s t) (n : Nat) : OpticsKept v s (t.nextAttempt n) :=
  .ite (h.setPst ..) (.ite ((h.setPst ..).wr _ _) ((h.setPst ..).sweepUnlocked n))

/-! Calibrations (R219 to R221). -/

section Blind
variable (hv : CalBlind v)
include hv

theorem onRing (h : OpticsKept v s t) (key : Nat) (g : RingSt → RingSt) : OpticsKept v s (t.onRing key g) :=
  h.onOpt _ (fun _ _ => hv ..)

theorem calOver (h : OpticsKept v s t) : OpticsKept v s t.calOver :=
  h.trans ⟨hv .., fun _ hf _ => rd_wr_other _ _ (.inl (ne_of_mem_of_not_mem hf (by decide)))⟩

theorem restoreRings (h : OpticsKept v s t) (n : Nat) : OpticsKept v s (t.restoreRings n) :=
  h.foldl (fun _ _ h => ((((h.onRing hv ..).wr _ _).heat ..).setLock ..).showTable _) _

theorem calDrop (h : OpticsKept v s t) (n : Nat) : OpticsKept v s (t.calDrop n) :=
  .ite ((h.restoreRings hv n).calOver hv) (.ite (h.calOver hv) h)

theorem calBegins (h : OpticsKept v s t) (n : Nat) (w : CalWait) : OpticsKept v s (t.calBegins n w) := by
  cases w with
  | cal => exact (h.onOpt _ (fun _ _ => hv ..)).foldl (fun _ _ h => (h.onRing hv ..).beginSweep _) _
  | laser => exact ((h.wr _ _).wr _ _).emit _
  | test =>
    simp only [State.calBegins]
    split
    · exact (h.wr _ _).onPorts _
    · exact h
  | plan => exact h

theorem tryCal (h : OpticsKept v s t) (n : Nat) : OpticsKept v s (t.tryCal n) := by
  obtain hstays | ⟨w, hbegins⟩ := tryCal_cases t n
  · rwa [hstays]
  · rw [hbegins]
    exact ((h.setPst ..).setPort ..).calBegins hv n w

end Blind

/-! Out of CAL (R217). -/

/-- A port in CAL that retrains. -/
theorem toTraining_of_cal (h : OpticsKept v s t) {n : Nat} (hcal : t.portState n = 5) (run : Nat × Nat) (how : TrainAt) (fast : Bool)
    (reason : Option Nat) : OpticsKept v s (t.toTraining n run how fast reason) := by
  simp only [State.toTraining, abortIfLinked_of_cal hcal]
  refine ((((((((((h.setPst ..).failReason ..).fixBuckets n).wr _ _).foldl ?_ _).when ?_ _).setPort n 1).when ?_ _).when ?_ _).when ?_
    _).when ?_ _
  · exact fun _ _ h => h.wr _ _
  · exact fun _ h => h.wr _ _
  · exact fun _ h => h.syncFence n
  · exact fun _ h => h.portEvent n
  · exact fun _ h => h.setPst ..
  · exact fun _ h => h.nextAttempt n

/-- A port in CAL that goes down gives up its calibration, and the rest of the optical control stands. -/
theorem goDown_of_cal {n : Nat} (hcal : t.portState n = 5) (hdrop : OpticsKept v s (t.calDrop n)) (reason : Option Nat) :
    OpticsKept v s (t.goDown n reason) := by
  simp only [State.goDown, abortIfLinked_of_cal hcal]
  exact (((((hdrop.setPst ..).foldl (fun _ _ h => ((h.wr _ _).wr _ _).wr _ _) _).failReason ..).fixBuckets n).wr _ _).setPort n 0

/-- What a port that leaves CAL gives up of a calibration is all that may change. -/
theorem leaveCal_of (h : OpticsKept v s t) (n : Nat) (hdrop : ∀ u, OpticsKept v t u → OpticsKept v s (u.calDrop n)) :
    OpticsKept v s (t.leaveCal n) := by
  simp only [State.leaveCal]
  split
  · next hcal =>
    have hended := fun g => (portState_setPst t n g n).trans hcal
    split
    · exact goDown_of_cal (hended _) (hdrop _ ((refl v t).setPst ..)) _
    · exact .ite ((h.setPst ..).toTraining_of_cal (hended _) ..) ((h.setPst ..).toTraining_of_cal (hended _) ..)
  · exact h

theorem leaveCal (hv : CalBlind v) (h : OpticsKept v s t) (n : Nat) : OpticsKept v s (t.leaveCal n) :=
  h.leaveCal_of n (fun _ hu => (h.trans hu).calDrop hv n)

end OpticsKept
end Sys2Proof.Proofs

namespace Sys2Proof.Proofs
open Sys2Proof Sys2Proof.Machine Sys2Proof.Laws

/-! The rotation (R219). -/

/-- R220: a port in UP that is to go through CAL enters DRAINING, and one in DRAINING stays there. -/
theorem portState_request {s : State} {n : Nat} (h : s.portState n = 3 ∨ s.portState n = 4) (w : CalWait) :
    (s.request n w).portState n = 4 := by
  have hwaits : ((if (s.pst n).waits.contains w then (s.pst n).waits else (s.pst n).waits ++ [w]).isEmpty) = false := by
    split
    · next hin => exact List.isEmpty_eq_false_iff_exists_mem.mpr ⟨w, List.contains_iff_mem.mp hin⟩
    · simp
  simp only [State.request, State.reDrain, pst_setPst_same, portState_setPst, hwaits, Bool.not_false, Bool.or_true, Bool.not_true]
  obtain h | h := h
  · simp only [h, true_and, if_true, portState_toDraining]
  · simp [h]

/-- The port that the rotation would take of a list: one with a sweep due, and otherwise the next of the round. -/
def calPick (s : State) (ns : List Nat) : Option Nat :=
  let free := fun n => s.calTakes n && !s.opt.early.contains n
  match ns.find? (fun n => free n && (s.flag .optRingStatus_sweepDue (2 * n) || s.flag .optRingStatus_sweepDue (2 * n + 1))) with
  | some n => some n
  | none => ns.find? (fun n => decide (s.opt.next ≤ n) && free n)

theorem calNext_eq (s : State) : s.calNext = calPick s (List.range 512) := by
  delta State.calNext calPick
  generalize List.range 512 = ns
  rfl

/-- A port that the rotation takes is in UP. -/
theorem calPick_up {s : State} {ns : List Nat} {n : Nat} (h : calPick s ns = some n) : n ∈ ns ∧ s.portState n = 3 := by
  have hup : ∀ m, (s.calTakes m && !s.opt.early.contains m) = true → s.portState m = 3 := fun m hm => by
    simp only [State.calTakes, Bool.and_eq_true, beq_iff_eq] at hm
    obtain ⟨⟨⟨⟨⟨⟨⟨-, hup⟩, -⟩, -⟩, -⟩, -⟩, -⟩, -⟩ := hm
    exact hup
  simp only [calPick] at h
  split at h
  · next m hm =>
    cases h
    have hfree := List.find?_some hm
    exact ⟨List.mem_of_find?_eq_some hm, hup _ (Bool.and_eq_true_iff.mp hfree).1⟩
  · have hfree := List.find?_some h
    exact ⟨List.mem_of_find?_eq_some h, hup _ (Bool.and_eq_true_iff.mp hfree).2⟩

theorem calNext_up {s : State} {n : Nat} (h : s.calNext = some n) : n < 512 ∧ s.portState n = 3 := by
  rw [calNext_eq] at h
  exact (calPick_up h).imp_left List.mem_range.mp

/-- The first port of a round is the same before and after the round's ports are counted. -/
theorem calPick_newRound {s : State} (hnext : s.opt.next = 0) (hearly : s.opt.early = []) (ns : List Nat) :
    calPick s.newRound ns = calPick s ns := by
  have hopt : s.newRound.opt.next = s.opt.next ∧ s.newRound.opt.early = s.opt.early := ⟨hnext.symm, hearly.symm⟩
  rw [calPick, hopt.1, hopt.2]
  rfl

/-- R219: a rotation that may take a port takes the next one, in the round that goes on or in a new one. -/
theorem doCalibrationStart_takes {s : State} {n : Nat} (hon : s.off = false) (hen : s.rd .optCfg_calEn 0 = 1)
    (hidle : s.rd .optCalStatus_active 0 = 0) (htest : s.ports.test = none)
    (hspaced : ∀ t0, s.opt.last = some t0 → t0 + s.calSpacing ≤ s.tb.mono) (hnext : s.calNext = some n) :
    ∃ u : State, doCalibrationStart s = u.takeCal n ∧ u.calNext = some n := by
  simp only [doCalibrationStart]
  rw [if_neg ?due]
  case due =>
    cases hlast : s.opt.last with
    | none => simp [hon, flag_def, hen, hidle, htest]
    | some t0 => simp [hon, flag_def, hen, hidle, htest, hspaced t0 hlast]
  cases hfirst : s.opt.next == 0 && s.opt.early.isEmpty with
  | true =>
    simp only [Bool.and_eq_true, beq_iff_eq, List.isEmpty_iff] at hfirst
    obtain ⟨hnone, hearly⟩ := hfirst
    have hround : s.newRound.calNext = some n := by
      rw [calNext_eq, calPick_newRound hnone hearly, ← calNext_eq, hnext]
    exact ⟨s.newRound, by simp only [if_true, hround], hround⟩
  | false => exact ⟨s, by simp only [Bool.false_eq_true, if_false, hnext], hnext⟩

/-- R219, R220: the port taken is shown, and drains. -/
theorem takeCal_shows {s : State} {n : Nat} (hn : n < 512) (hup : s.portState n = 3) : (s.takeCal n).rd .optCalStatus_active 0 = 1 ∧
    (s.takeCal n).rd .optCalStatus_lane 0 = n ∧ (s.takeCal n).portState n = 4 := by
  have hlane : n % 2 ^ Fld.width .optCalStatus_lane = n := Nat.mod_eq_of_lt hn
  have hkept := fun g =>
    (OpticsKept.refl (fun _ a => a) (((s.onOpt g).wr .optCalStatus_active 0 1).wr .optCalStatus_lane 0 n)).request n .cal
  refine ⟨(hkept _).view.trans ?_, ((hkept _).regs _ (by decide) 0).trans ?_, portState_request (.inl ?_) .cal⟩
  · rw [rd_wr_other _ _ (.inl (by decide)), rd_wr_same]
    rfl
  · rw [rd_wr_same, hlane]
  · rwa [portState_wr_other _ _ _ _ (by decide), portState_wr_other _ _ _ _ (by decide)]

/-! The end of a calibration (R221, R225). -/

/-- A port that has left CAL is no longer in it. -/
theorem portState_leaveCal (s : State) (n : Nat) : (s.leaveCal n).portState n ≠ 5 := by
  simp only [State.leaveCal]
  split
  · split
    · rw [(goDown_shows ..).1]
      decide
    · split
      · rw [(toTraining_trains ..).state]
        decide
      · rw [(toTraining_trains ..).state]
        decide
  · next hcal => exact hcal

/-- A port that goes down has nothing to give up of a calibration that is over. -/
theorem calDrop_of_over {s : State} (hcal : s.opt.cal = none) (hactive : s.rd .optCalStatus_active 0 = 0) (n : Nat) : s.calDrop n = s := by
  simp [State.calDrop, flag_def, hcal, hactive]

/-- The optical control with its mark of a calibration in progress. -/
def wholeOptics (o : Opt) (active : Nat) : Opt × Nat := (o, active)

/-- R219: once a calibration is over nothing of the optical control changes as its port leaves CAL. -/
theorem leaveCal_over (s : State) (n : Nat) : OpticsKept wholeOptics s.calOver (s.calOver.leaveCal n) := by
  refine (OpticsKept.refl _ _).leaveCal_of n (fun u hu => ?_)
  obtain ⟨hopt, hactive⟩ := Prod.mk.inj hu.view
  rwa [calDrop_of_over (by rw [hopt]; rfl) (hactive.trans ((rd_wr_same ..).trans (Nat.zero_mod _)))]

/-- What the end of a calibration leaves, however it ends. -/
theorem calOver_leaveCal_shows (s : State) (n : Nat) : (s.calOver.leaveCal n).opt.cal = none ∧
    (s.calOver.leaveCal n).rd .optCalStatus_active 0 = 0 ∧ (∀ key, (s.calOver.leaveCal n).ringSt key = s.ringSt key) ∧
    (s.calOver.leaveCal n).portState n ≠ 5 := by
  obtain ⟨hopt, hactive⟩ := Prod.mk.inj (leaveCal_over s n).view
  refine ⟨by rw [hopt]; rfl, hactive.trans ((rd_wr_same ..).trans (Nat.zero_mod _)), ringSt_of_ring ?_, portState_leaveCal s.calOver n⟩
  rw [hopt]
  rfl

/-- The rings alone. -/
def ringsOnly (o : Opt) (_ : Nat) : KMap RingSt := o.ring

/-- R220: the table that a ring takes. -/
theorem takeTable_shows (s : State) (key : Nat) (table : List Nat) : ((s.takeTable key table).ringSt key).table = table ∧
    (∀ k, k ≠ key → (s.takeTable key table).ringSt k = s.ringSt k) := by
  have hkept := fun g code => ((((((OpticsKept.refl ringsOnly (s.onRing key g)).wr (f := .optRingStatus_sweep) key 0).wr
    (f := .optRingStatus_sweepDue) key 0).showTable key).heat key code).setLock key true)
  have hrings := fun g code => ringSt_of_ring (hkept g code).view
  simp only [State.takeTable, hrings, ringSt_onRing_same, true_and]
  exact fun k hk => ringSt_onRing_other _ hk _

/-- A calibration that has succeeded is counted, and references are captured where none are held (R221, R225). -/
def calWon (s : State) (n : Nat) : State :=
  let t := ((s.bumpOpt n .calDone).wr .optChanStatus_calAge n 0).wr .optChanStatus_ringFailed n 0
  let t := t.onOpt (fun o => { o with fails := sset 0 o.fails n 0 })
  t.when (!t.flag .optSlotCtrl_refValid (n / 8) && sget 0 t.opt.capN (n / 8) == 0)
    (fun s => s.onOpt (fun o => { o with capN := sset 0 o.capN (n / 8) 16 }))

theorem calSucceeds_eq (s : State) (n : Nat) : s.calSucceeds n = (calWon s n).calOver.leaveCal n := rfl

theorem ringSt_calWon (s : State) (n key : Nat) : (calWon s n).ringSt key = s.ringSt key := by
  have hcounted := (((OpticsKept.refl ringsOnly s).bumpOpt n .calDone).wr (f := .optChanStatus_calAge) n 0).wr
    (f := .optChanStatus_ringFailed) n 0
  have hkept : OpticsKept ringsOnly s (calWon s n) := (hcounted.onOpt _).when (fun _ h => h.onOpt _) _
  exact ringSt_of_ring hkept.view key

section CalibrationEnd
variable {n : Nat} {codes : List (BitVec 12)} {own far : Option (Fin 32)} {seen : List (Fin 32 × BitVec 12)} {s : State}
  (hcal : s.opt.cal = some n) (hstate : s.portState n = 5)
include hcal hstate

/-- R220: a calibration that has identified both rings' lines, and whose windows pass, succeeds with the new tables. -/
theorem doCalibrationEnd_succeeds {tx rx : List Nat} (htx : txTable (s.rd .optChanCfg_txLine n) codes own far = some tx)
    (hrx : rxTable (s.rd .optChanCfg_rxLine n) tx seen = some rx) (hpass : s.windowPasses (2 * n) = true)
    (hpass' : s.windowPasses (2 * n + 1) = true) :
    doCalibrationEnd codes own far seen s = ((s.takeTable (2 * n) tx).takeTable (2 * n + 1) rx).calSucceeds n := by
  simp [doCalibrationEnd, hcal, hstate, htx, hrx, hpass, hpass']

/-- R221: one with a window that does not pass fails. -/
theorem doCalibrationEnd_fails (hfails : s.windowPasses (2 * n) = false ∨ s.windowPasses (2 * n + 1) = false) :
    doCalibrationEnd codes own far seen s = s.calFails n := by
  have hnot : ¬ (s.windowPasses (2 * n) = true ∧ s.windowPasses (2 * n + 1) = true) := fun ⟨hpass, hpass'⟩ => by
    simp [hpass, hpass'] at hfails
  simp only [doCalibrationEnd, hcal, hstate, ne_eq, not_true_eq_false, if_false, hnot]
  split <;> rfl

end CalibrationEnd

/-- What a calibration that succeeds leaves. -/
theorem calSucceeds_shows (s : State) (n : Nat) : (s.calSucceeds n).opt.cal = none ∧ (s.calSucceeds n).rd .optCalStatus_active 0 = 0 ∧
    (∀ key, (s.calSucceeds n).ringSt key = s.ringSt key) ∧ (s.calSucceeds n).portState n ≠ 5 := by
  rw [calSucceeds_eq]
  obtain ⟨hover, hactive, hrings, hleft⟩ := calOver_leaveCal_shows (calWon s n) n
  exact ⟨hover, hactive, fun key => (hrings key).trans (ringSt_calWon ..), hleft⟩

/-- The two rings of a port take their tables. -/
theorem tablesTaken_show (s : State) (n : Nat) (tx rx : List Nat) :
    ((((s.takeTable (2 * n) tx).takeTable (2 * n + 1) rx).ringSt (2 * n)).table = tx) ∧
      ((((s.takeTable (2 * n) tx).takeTable (2 * n + 1) rx).ringSt (2 * n + 1)).table = rx) := by
  refine ⟨?_, (takeTable_shows ..).1⟩
  rw [(takeTable_shows ..).2 _ (by omega), (takeTable_shows ..).1]

/-- R221: a calibration that fails is counted once, and leaves its port where it was. -/
theorem calFailCounted_shows {s : State} (hon : s.off = false) (n : Nat) : (calFailCounted s n).portState n = s.portState n ∧
    Counted 6 (8 * n + OptEv.calFail.ctorIdx) s (calFailCounted s n) := by
  have hrestored : LinkKept Scope.none s (calRestored s n) := by
    rw [calRestored]
    exact .ite (.refl _ s) (.ite ((LinkKept.refl _ s).restoreRings n) ((LinkKept.refl _ s).onOpt _ rfl))
  have hcounted := (bumpN_counts (hrestored.off.trans hon) (g := 6) (by decide) (8 * n + OptEv.calFail.ctorIdx)).1
  have hbumped : ((calRestored s n).bumpOpt n .calFail).portState n = s.portState n :=
    (rd_bumpN _ _ _ _ _ (by decide)).trans (hrestored.portState (by simp [Scope.none]))
  simp only [calFailCounted]
  cases sget 0 ((calRestored s n).bumpOpt n .calFail).opt.fails n + 1 == 3
  · rw [when_false]
    exact ⟨hbumped, counted_congr hcounted (hrestored.optics _).symm rfl⟩
  · rw [when_true]
    refine ⟨(rd_fault _ _ _ _ _ (by decide)).trans ((rd_wr_other _ _ (.inl (by decide))).trans hbumped),
      counted_congr hcounted (hrestored.optics _).symm (count_fault _ _ _ _ (by decide) _)⟩

/-- What a calibration that fails in CAL leaves. -/
theorem calFails_shows {s : State} {n : Nat} (hon : s.off = false) (hstate : s.portState n = 5) : (s.calFails n).opt.cal = none ∧
    (s.calFails n).rd .optCalStatus_active 0 = 0 ∧ Counted 6 (8 * n + OptEv.calFail.ctorIdx) s (s.calFails n) ∧
    (s.calFails n).portState n ≠ 5 := by
  obtain ⟨hkept, hcounted⟩ := calFailCounted_shows hon n
  obtain ⟨hover, hactive, -, hleft⟩ := calOver_leaveCal_shows (calFailCounted s n) n
  have hleaves := ((LinkKept.refl (Scope.port n) (calFailCounted s n)).calOver).leaveCal (Scope.port_retrains n)
  rw [calFails_eq, if_pos (hkept.trans hstate)]
  exact ⟨hover, hactive, counted_congr hcounted rfl (hleaves.optics _), hleft⟩

/-! A port that was retuned, and one given the spare laser (R223, R227). -/

/-- R227: the ring is locked on the spare laser, which is shown. -/
theorem doSpareSettled_shows {n : Fin 512} {s : State} (hin : s.inCalFor n .laser = true) :
    (doSpareSettled n true s).portState n ≠ 5 ∧ (doSpareSettled n true s).rd .optChanStatus_spare n = 1 := by
  have hleaves := (((OpticsKept.refl (fun _ _ => ()) ((s.bumpOpt n .spareSwap).wr .optChanStatus_spare n 1)).setLock (2 * n) true)).leaveCal
    (fun _ _ _ _ _ => rfl) n
  have hdo : doSpareSettled n true s =
      (((s.bumpOpt n .spareSwap).wr .optChanStatus_spare n 1).setLock (2 * n) true).leaveCal n := if_pos hin
  rw [hdo]
  exact ⟨portState_leaveCal _ _, (hleaves.regs _ (by decide) n).trans (rd_wr_same ..)⟩

end Sys2Proof.Proofs

namespace Sys2Proof.Proofs
open Sys2Proof Sys2Proof.Machine Sys2Proof.Laws

/-! Windows of a slot's lines (R225 to R227). -/

/-- The windows that captures in progress still take. -/
def windowsLeft (o : Opt) (_ : Nat) : SMap := o.capN

namespace OpticsKept
variable {s t : State}

theorem fadeHold (h : OpticsKept windowsLeft s t) (n line : Nat) : OpticsKept windowsLeft s (t.fadeHold n line) :=
  ((((h.onOpt _).wr _ _).wr _ _).bumpOpt ..).reDrain n

theorem fadeFree (h : OpticsKept windowsLeft s t) (n : Nat) : OpticsKept windowsLeft s (t.fadeFree n) :=
  (h.onOpt _).wr _ _

theorem fadeDrain (h : OpticsKept windowsLeft s t) (slot line : Nat) : OpticsKept windowsLeft s (t.fadeDrain slot line) := by
  refine h.foldl (fun t n h => .ite ?_ (h.fadeHold n line)) _
  exact (h.request n .laser).tryCal (fun _ _ _ _ _ => rfl) n

theorem fadeEvent (h : OpticsKept windowsLeft s t) (slot line level rel : Nat) :
    OpticsKept windowsLeft s (t.fadeEvent slot line level rel) := (h.hostEvent ..).fault ..

/-- The window of one line takes nothing from a capture. -/
theorem lineWindow (h : OpticsKept windowsLeft s t) (slot line ref p : Nat) :
    OpticsKept windowsLeft s (t.lineWindow slot line ref p) := by
  simp only [State.lineWindow]
  refine (((((h.free 35 2).onOpt _).wr _ _).when ?warn _).when ?drain _).when ?clear _
  case warn => exact fun _ h => ((h.wr _ _).fadeEvent ..).foldl (fun _ _ h => h.wr _ _) _
  case drain => exact fun _ h => ((h.wr _ _).fadeEvent ..).fadeDrain ..
  case clear =>
    exact fun _ h => (((h.wr _ _).wr _ _).foldl (fun _ _ h => h.wr _ _) _).foldl
      (fun _ n h => ((h.fadeFree n).wr _ _).reDrain n) _

end OpticsKept

/-- R225: the references of a slot are to be captured over its next 16 windows. -/
theorem doRecapture_shows (s : State) (slot : Nat) : (s.doRecapture slot).rd .optSlotCtrl_recapture slot = 1 ∧
    sget 0 (s.doRecapture slot).opt.capN slot = 16 :=
  ⟨rd_wr_same s .optSlotCtrl_recapture slot 1, sget_sset_same slot 16⟩

/-- R225: a capture takes one window, and with its last the references of the slot are held. -/
theorem captureWindow_shows {s : State} {slot : Nat} (bins dark : List Nat) (hleft : 0 < sget 0 s.opt.capN slot) :
    sget 0 (s.captureWindow slot bins dark).opt.capN slot = sget 0 s.opt.capN slot - 1 ∧ (sget 0 s.opt.capN slot = 1 →
      (s.captureWindow slot bins dark).rd .optSlotCtrl_refValid slot = 1 ∧
      (s.captureWindow slot bins dark).rd .optSlotCtrl_recapture slot = 0) := by
  have hsame : ∀ {t u : State}, OpticsKept windowsLeft t u → sget 0 u.opt.capN slot = sget 0 t.opt.capN slot := fun h =>
    congrArg (sget 0 · slot) h.view
  simp only [State.captureWindow, Nat.pos_iff_ne_zero.mp hleft, if_false]
  split
  · refine ⟨?_, fun _ => ⟨?_, ?_⟩⟩
    · refine Eq.trans (hsame ((((OpticsKept.refl _ _).foldl ?held _).wr _ _).wr _ _)) ?left
      case held => exact fun _ _ h => (h.onOpt _).wr _ _
      case left => exact sget_sset_same _ _
    · rw [rd_wr_other _ _ (.inl (by decide)), rd_wr_same]
      rfl
    · rw [rd_wr_same, Nat.zero_mod]
  · next hmore => exact ⟨sget_sset_same _ _, fun hlast => absurd hlast hmore⟩

/-- R225: what a window of a slot leaves of a capture there. -/
theorem doLinePowerWindow_shows {slot : Fin 64} {s : State} (hon : s.off = false)
    (hkind : s.rd .optModStatus_s8 slot = 1 ∨ s.rd .optModStatus_trefy slot = 1) (hleft : 0 < sget 0 s.opt.capN slot) :
    sget 0 (doLinePowerWindow slot s).opt.capN slot = sget 0 s.opt.capN slot - 1 ∧ (sget 0 s.opt.capN slot = 1 →
      (doLinePowerWindow slot s).rd .optSlotCtrl_refValid slot = 1 ∧ (doLinePowerWindow slot s).rd .optSlotCtrl_recapture slot = 0) := by
  have hsteered : (s.off || !(s.flag .optModStatus_s8 slot || s.flag .optModStatus_trefy slot)) = false := by
    obtain h | h := hkind <;> simp [hon, flag_def, h]
  have hcaptured : ∀ (u : State) (bins dark : List Nat), OpticsKept windowsLeft s u →
      sget 0 (u.captureWindow slot bins dark).opt.capN slot = sget 0 s.opt.capN slot - 1 ∧ (sget 0 s.opt.capN slot = 1 →
        (u.captureWindow slot bins dark).rd .optSlotCtrl_refValid slot = 1 ∧
        (u.captureWindow slot bins dark).rd .optSlotCtrl_recapture slot = 0) := fun u bins dark hu => by
    have hcapN : u.opt.capN = s.opt.capN := hu.view
    rw [← hcapN] at hleft ⊢
    exact captureWindow_shows bins dark hleft
  simp only [doLinePowerWindow, hsteered, Bool.false_eq_true, if_false]
  refine hcaptured _ _ _ (((OpticsKept.refl _ s).onOpt _).foldl (fun t k h => ?_) _)
  split
  · exact h.lineWindow ..
  · exact h

/-! The circuit plan: ARM and the drain lead (R222, R223). -/

/-- A lane in conflict is one of the part's. -/
theorem planConflict_lt {s : State} {n : Nat} (h : s.planConflict = some n) : n < 512 := by
  have hmem := List.mem_of_find?_eq_some h
  simp only [List.mem_flatMap, List.mem_filter, List.mem_map, List.mem_range] at hmem
  obtain ⟨slot, ⟨hslot, -⟩, j, hj, rfl⟩ := hmem
  omega

/-- A plan time that lies ahead, within half the range of TIME_NS, is not late. -/
theorem not_late {ahead : Nat} (hahead : 0 < ahead) (hnear : ahead < 2 ^ 31) : ¬ (ahead = 0 ∨ 2 ^ 31 ≤ ahead) := by
  omega

section Arm
variable {src : Src} {s : State} (hacc : s.accepts src .optPlanCtrl 0 = true)
include hacc

/-- R222: a plan time that has passed, or lies too far ahead, is refused as late. -/
theorem doPlanArm_late (hlate : span32 (s.ready src .optPlanCtrl 0).now ((s.ready src .optPlanCtrl 0).rd .optPlanTime_act 0) = 0 ∨
      2 ^ 31 ≤ span32 (s.ready src .optPlanCtrl 0).now ((s.ready src .optPlanCtrl 0).rd .optPlanTime_act 0)) :
    doPlanArm src s = (s.ready src .optPlanCtrl 0).wr .optPlanCtrl_planLate 0 1 := by
  rw [doPlanArm, onWrite_of_accepts hacc]
  exact if_pos hlate

variable (hahead : 0 < span32 (s.ready src .optPlanCtrl 0).now ((s.ready src .optPlanCtrl 0).rd .optPlanTime_act 0))
  (hnear : span32 (s.ready src .optPlanCtrl 0).now ((s.ready src .optPlanCtrl 0).rd .optPlanTime_act 0) < 2 ^ 31)
include hahead hnear

/-- R222: a plan without conflict is armed with its time. -/
theorem doPlanArm_armed (hfree : (s.ready src .optPlanCtrl 0).planConflict = none) :
    doPlanArm src s = ((s.ready src .optPlanCtrl 0).wr .optPlanCtrl_arm 0 1).onOpt
      (fun o => { o with plan := some ((s.ready src .optPlanCtrl 0).rd .optPlanTime_act 0), led := false, skip := [] }) := by
  rw [doPlanArm, onWrite_of_accepts hacc]
  simp only [not_late hahead hnear, if_false, hfree]

/-- R222: a plan in which two lanes would share a line is refused, and the lower of them shown. -/
theorem doPlanArm_conflict {n : Nat} (hconflict : (s.ready src .optPlanCtrl 0).planConflict = some n) :
    doPlanArm src s = ((s.ready src .optPlanCtrl 0).wr .optPlanCtrl_planConflict 0 1).wr .optPlanCtrl_conflictLane 0 n := by
  rw [doPlanArm, onWrite_of_accepts hacc]
  simp only [not_late hahead hnear, if_false, hconflict]

end Arm

/-- R223: the ports of a list that are in UP enter DRAINING, as the others leave them alone. -/
theorem foldl_request_drains (w : CalWait) (ns : List Nat) (s : State) :
    ∀ n, (n ∈ ns ∧ s.portState n = 3) ∨ s.portState n = 4 → (ns.foldl (fun s n => s.request n w) s).portState n = 4 := by
  induction ns generalizing s with
  | nil => exact fun n h => h.resolve_left (fun h => List.not_mem_nil h.1)
  | cons m ns ih =>
    intro n h
    refine ih _ n ?_
    by_cases hn : n = m
    · rw [hn] at h ⊢
      exact .inr (portState_request (h.imp_left And.right) w)
    · have hkept := ((LinkKept.refl _ s).request (Scope.port_moves m) w).portState (n := n) (by simpa [Scope.port] using hn)
      rw [hkept]
      exact h.imp_left (And.imp_left (fun h => (List.mem_cons.mp h).resolve_left hn))

/-- The plan's drain lead has come. -/
def planLed (s : State) : State := s.onOpt (fun o => { o with led := true })

theorem doPlanDrainLead_eq {a : Nat} {s : State} (hplan : s.opt.plan = some a) (hled : s.opt.led = false)
    (htime : s.reached ((a + 2 ^ 32 - s.drainLead) % 2 ^ 32) = true) : doPlanDrainLead s =
      ((planLed s).pendingLanes.filter (fun n => (planLed s).portState n == 3)).foldl (fun s n => s.request n .plan) (planLed s) := by
  rw [doPlanDrainLead, hplan]
  simp only [hled, htime, Bool.not_false, Bool.and_self, if_true]
  rfl

/-- R223: what the drain lead of a plan leaves. -/
theorem doPlanDrainLead_shows {a : Nat} {s : State} (hplan : s.opt.plan = some a) (hled : s.opt.led = false)
    (htime : s.reached ((a + 2 ^ 32 - s.drainLead) % 2 ^ 32) = true) : (doPlanDrainLead s).opt = { s.opt with led := true } ∧
    ∀ n, n < 512 → s.rd .optPlanNext_pending n = 1 → s.portState n = 3 → (doPlanDrainLead s).portState n = 4 := by
  have hrequests : OpticsKept wholeOptics (planLed s) (doPlanDrainLead s) := by
    rw [doPlanDrainLead_eq hplan hled htime]
    exact (OpticsKept.refl _ _).foldl (fun _ n h => h.request n .plan) _
  refine ⟨(Prod.mk.inj hrequests.view).1, fun n hn hpending hup => ?_⟩
  rw [doPlanDrainLead_eq hplan hled htime]
  refine foldl_request_drains _ _ _ n (.inl ⟨?_, hup⟩)
  simp only [State.pendingLanes, List.mem_filter, List.mem_range]
  exact ⟨⟨hn, beq_iff_eq.mpr hpending⟩, beq_iff_eq.mpr hup⟩

end Sys2Proof.Proofs

namespace Sys2Proof.Proofs
open Sys2Proof Sys2Proof.Machine Sys2Proof.Laws

/-! The circuit plan at its time (R223). -/

/-- The plan time captured at ARM. -/
def planTime (o : Opt) (_ : Nat) : Option Nat := o.plan

/-- A ring is heated for its new line once its port's setting names it. -/
theorem moveRing_kept (s : State) (key line : Nat) : OpticsKept planTime
    (s.wr (if key % 2 = 0 then .optChanCfg_txLine else .optChanCfg_rxLine) (key / 2) line) (s.moveRing key line) :=
  ((OpticsKept.refl _ _).heat key _).showTable key

/-- The lines of a port as its rings move to them. -/
def linesMoved (s : State) (n tx rx : Nat) : State := ((s.moveRing (2 * n) tx).moveRing (2 * n + 1) rx).wr .optPlanNext_pending n 0

theorem linesMoved_reads (s : State) (n tx rx : Nat) {f : Fld} (hf : f ∈ circuitFields) (i : Nat) : (linesMoved s n tx rx).rd f i =
    (((s.wr .optChanCfg_txLine n tx).wr .optChanCfg_rxLine n rx).wr .optPlanNext_pending n 0).rd f i := by
  have hkeys : 2 * n % 2 = 0 ∧ 2 * n / 2 = n ∧ (2 * n + 1) % 2 ≠ 0 ∧ (2 * n + 1) / 2 = n := by omega
  obtain ⟨htx, htxLane, hrx, hrxLane⟩ := hkeys
  have hmoved := fun g hg j => (moveRing_kept s (2 * n) tx).regs g hg j
  have hmoved' := (moveRing_kept (s.moveRing (2 * n) tx) (2 * n + 1) rx).regs f hf i
  rw [if_pos htx, htxLane] at hmoved
  rw [if_neg hrx, hrxLane] at hmoved'
  rw [linesMoved]
  simp only [rd_wr] at hmoved hmoved' ⊢
  rw [hmoved', hmoved f hf i]

/-- R223: the lines of the plan, of a port that stood at others. -/
theorem linesMoved_shows (s : State) (n : Nat) {tx rx : Nat} (htx : tx < 32) (hrx : rx < 32) :
    (linesMoved s n tx rx).rd .optChanCfg_txLine n = tx ∧ (linesMoved s n tx rx).rd .optChanCfg_rxLine n = rx ∧
      (linesMoved s n tx rx).rd .optPlanNext_pending n = 0 := by
  have htx' : tx % 2 ^ Fld.width .optChanCfg_txLine = tx := Nat.mod_eq_of_lt htx
  have hrx' : rx % 2 ^ Fld.width .optChanCfg_rxLine = rx := Nat.mod_eq_of_lt hrx
  have hread := fun f hf => linesMoved_reads s n tx rx (f := f) hf n
  refine ⟨(hread _ (by decide)).trans ?_, (hread _ (by decide)).trans ?_, (hread _ (by decide)).trans ?_⟩ <;> simp [rd_wr, htx', hrx']

/-- What a lane that moves shows, besides the plan's own fields. -/
def movedFields : List Fld := [.optChanCfg_txLine, .optChanCfg_rxLine, .optPlanNext_pending]

theorem linesMoved_other (s : State) (n tx rx : Nat) {f : Fld} {i : Nat} (hf : f ∈ circuitFields) (h : f ∉ movedFields ∨ i ≠ n) :
    (linesMoved s n tx rx).rd f i = s.rd f i := by
  have hother : ∀ g ∈ movedFields, f ≠ g ∨ i ≠ n := fun g hg => h.imp_left (fun hf hfg => hf (hfg ▸ hg))
  rw [linesMoved_reads s n tx rx hf, rd_wr_other _ _ (hother _ (by decide)), rd_wr_other _ _ (hother _ (by decide)),
    rd_wr_other _ _ (hother _ (by decide))]

theorem moveRing_plan (s : State) (key line : Nat) : (s.moveRing key line).opt.plan = s.opt.plan := (moveRing_kept s key line).view

theorem linesMoved_plan (s : State) (n tx rx : Nat) : (linesMoved s n tx rx).opt.plan = s.opt.plan := by
  rw [linesMoved, wr_opt, moveRing_plan, moveRing_plan]

/-- The port is in the calibration that its retune gives up. -/
def retunedInCal (s : State) (n : Nat) : Bool := s.opt.cal == some n && s.portState n == 5

/-- A retune up to the move of its lines: a calibration is given up, and the neighbour of the plan is expected (R223, R228). -/
def retuneBegun (s : State) (n : Nat) : State :=
  let s := s.when (retunedInCal s n) (fun s => ((s.restoreRings n).calOver).setPst n (fun x => { x with waits := .plan :: x.waits.drop 1 }))
  let s := s.wr .coreNbrExpect_valid n (s.rd .optPlanNext_peerValid n)
  let s := s.wr .coreNbrExpect_peerGid n (s.rd .optPlanNext_nextPeerGid n)
  let s := s.wr .coreNbrExpect_peerPort n (s.rd .optPlanNext_nextPeerPort n)
  s.setPst n (fun x => { x with seen := none })

/-- A retune from there on: it is counted, and the port retrains (R223). -/
def retuneEnded (s : State) (n : Nat) (inCal : Bool) : State :=
  let s := s.bumpOpt n .retune
  if s.portState n = 3 ∨ s.portState n = 4 then ((s.request n .plan).setPst n (fun x => { x with planDue := true })).tryCal n
  else if inCal then s
  else (s.setPst n (fun x => { x with waits := x.waits.filter (· != .plan) })).askFast n

theorem retune_eq (s : State) (n : Nat) : s.retune n = retuneEnded
    (linesMoved (retuneBegun s n) n (s.rd .optPlanNext_nextTx n) (s.rd .optPlanNext_nextRx n)) n (retunedInCal s n) := rfl

theorem retuneBegun_kept (s : State) (n : Nat) : OpticsKept planTime s (retuneBegun s n) := by
  have hblind : CalBlind planTime := fun _ _ _ _ _ => rfl
  simp only [retuneBegun]
  refine (((((OpticsKept.refl planTime s).when ?givenUp _).wr _ _).wr _ _).wr _ _).setPst n _
  exact fun _ h => ((h.restoreRings hblind n).calOver hblind).setPst n _

theorem retuneEnded_kept (s : State) (n : Nat) (inCal : Bool) : OpticsKept planTime s (retuneEnded s n inCal) := by
  have hcounted := (OpticsKept.refl planTime s).bumpOpt n .retune
  exact .ite (((hcounted.request n .plan).setPst n _).tryCal (fun _ _ _ _ _ => rfl) n)
    (.ite hcounted ((hcounted.setPst n _).askFast n))

/-- A lane at the lines of the plan, no longer pending. -/
structure AtPlan (s : State) (n : Nat) : Prop where
  pending : s.rd .optPlanNext_pending n = 0
  tx : s.rd .optChanCfg_txLine n = s.rd .optPlanNext_nextTx n
  rx : s.rd .optChanCfg_rxLine n = s.rd .optPlanNext_nextRx n

/-- The retune of a port leaves the plan, and the lines of every other. -/
theorem retune_other (s : State) (n : Nat) {f : Fld} {i : Nat} (hf : f ∈ circuitFields) (h : f ∉ movedFields ∨ i ≠ n) :
    (s.retune n).rd f i = s.rd f i := by
  rw [retune_eq, (retuneEnded_kept ..).regs f hf, linesMoved_other _ _ _ _ hf h, (retuneBegun_kept s n).regs f hf]

theorem retune_plan (s : State) (n : Nat) : (s.retune n).opt.plan = s.opt.plan := by
  rw [retune_eq]
  exact (retuneEnded_kept ..).view.trans ((linesMoved_plan ..).trans (retuneBegun_kept s n).view)

/-- R223: the retune of a port takes it to the lines of the plan. -/
theorem retune_atPlan (s : State) (n : Nat) : AtPlan (s.retune n) n := by
  obtain ⟨htx, hrx, hpending⟩ := linesMoved_shows (retuneBegun s n) n (rd_lt s .optPlanNext_nextTx n) (rd_lt s .optPlanNext_nextRx n)
  have hended := fun f hf => (retuneEnded_kept (linesMoved (retuneBegun s n) n (s.rd .optPlanNext_nextTx n) (s.rd .optPlanNext_nextRx n)) n
    (retunedInCal s n)).regs f hf n
  rw [← retune_eq] at hended
  exact ⟨(hended _ (by decide)).trans hpending,
    ((hended _ (by decide)).trans htx).trans (retune_other s n (by decide) (.inl (by decide))).symm,
    ((hended _ (by decide)).trans hrx).trans (retune_other s n (by decide) (.inl (by decide))).symm⟩

/-- The retunes of other ports leave a lane where it is. -/
theorem AtPlan.retune {s : State} {n : Nat} (h : AtPlan s n) (m : Nat) : AtPlan (s.retune m) n := by
  by_cases hn : n = m
  · rw [hn]
    exact retune_atPlan s m
  · have hkept := fun f hf => retune_other s m (f := f) (i := n) hf (.inr hn)
    exact ⟨by rw [hkept _ (by decide), h.pending], by rw [hkept _ (by decide), hkept _ (by decide), h.tx],
      by rw [hkept _ (by decide), hkept _ (by decide), h.rx]⟩

/-- Retunes of a list of ports leave the plan, and the lines of every port beside it. -/
theorem foldl_retune_other (ns : List Nat) (s : State) {f : Fld} {i : Nat} (hf : f ∈ circuitFields) (h : f ∉ movedFields ∨ i ∉ ns) :
    (ns.foldl State.retune s).rd f i = s.rd f i := by
  induction ns generalizing s with
  | nil => rfl
  | cons m ns ih =>
    rw [List.foldl_cons, ih _ (h.imp_right (fun h hi => h (List.mem_cons_of_mem _ hi))),
      retune_other s m hf (h.imp_right (List.ne_of_not_mem_cons))]

theorem foldl_retune_plan (ns : List Nat) (s : State) : (ns.foldl State.retune s).opt.plan = s.opt.plan := by
  induction ns generalizing s with
  | nil => rfl
  | cons m ns ih => rw [List.foldl_cons, ih, retune_plan]

/-- R223: every port of the list is taken to the lines of the plan. -/
theorem foldl_retune_atPlan (ns : List Nat) (s : State) {n : Nat} (h : n ∈ ns ∨ AtPlan s n) : AtPlan (ns.foldl State.retune s) n := by
  induction ns generalizing s with
  | nil => exact h.resolve_left List.not_mem_nil
  | cons m ns ih =>
    rw [List.foldl_cons]
    refine ih _ ?_
    by_cases hn : n = m
    · rw [hn]
      exact .inr (retune_atPlan s m)
    · exact h.imp (fun h => (List.mem_cons.mp h).resolve_left hn) (fun h => h.retune m)

/-- The plan is taken up. -/
def planTaken (s : State) : State := (s.onOpt (fun o => { o with plan := none, led := false, skip := [] })).wr .optPlanCtrl_arm 0 0

theorem activatePlan_eq (s : State) : s.activatePlan =
    ((planTaken s).pendingLanes.filter (fun n => !s.opt.skip.contains n)).foldl State.retune (planTaken s) := rfl

theorem doPlanActivate_eq {a : Nat} {s : State} (hplan : s.opt.plan = some a) (htime : s.reached a = true) :
    doPlanActivate s = s.activatePlan := by
  rw [doPlanActivate, hplan]
  exact if_pos htime

/-- Nothing but the arming changes as the plan is taken up. -/
theorem rd_planTaken (s : State) {f : Fld} (hf : f ≠ .optPlanCtrl_arm) (i : Nat) : (planTaken s).rd f i = s.rd f i :=
  rd_wr_other _ _ (.inl hf)

/-- R223: what a plan that is activated leaves. -/
theorem activatePlan_shows (s : State) : s.activatePlan.opt.plan = none ∧ s.activatePlan.rd .optPlanCtrl_arm 0 = 0 ∧
    ∀ n, n < 512 → n ∉ s.opt.skip → s.activatePlan.rd .optPlanNext_pending n = 0 ∧
      (s.rd .optPlanNext_pending n = 1 → s.activatePlan.rd .optChanCfg_txLine n = s.rd .optPlanNext_nextTx n ∧
        s.activatePlan.rd .optChanCfg_rxLine n = s.rd .optPlanNext_nextRx n) := by
  rw [activatePlan_eq]
  refine ⟨(foldl_retune_plan ..).trans rfl, ?_, fun n hn hskip => ?_⟩
  · rw [foldl_retune_other _ _ (by decide) (.inl (by decide)), planTaken, rd_wr_same, Nat.zero_mod]
  · have hmoves : n ∈ (planTaken s).pendingLanes.filter (fun n => !s.opt.skip.contains n) ↔ s.rd .optPlanNext_pending n = 1 := by
      simp [State.pendingLanes, hn, hskip, flag_def, rd_planTaken]
    by_cases hpending : s.rd .optPlanNext_pending n = 1
    · obtain ⟨hdone, htx, hrx⟩ := foldl_retune_atPlan _ (planTaken s) (.inl (hmoves.mpr hpending))
      have hplan := fun f hf hmoved => foldl_retune_other ((planTaken s).pendingLanes.filter (fun n => !s.opt.skip.contains n))
        (planTaken s) (f := f) (i := n) hf (.inl hmoved)
      refine ⟨hdone, fun _ => ⟨htx.trans ?_, hrx.trans ?_⟩⟩
      · exact (hplan _ (by decide) (by decide)).trans (rd_planTaken s (by decide) n)
      · exact (hplan _ (by decide) (by decide)).trans (rd_planTaken s (by decide) n)
    · have hflag : s.rd .optPlanNext_pending n < 2 := rd_lt ..
      refine ⟨?_, fun h => absurd h hpending⟩
      rw [foldl_retune_other _ _ (by decide) (.inr (mt hmoves.mp hpending)), rd_planTaken s (by decide)]
      omega

/-- Settles O44: the rotation takes one port, a calibration ends with its tables or a count of its failure, a retuned port and one given
the spare laser leave CAL, a capture takes a window, and the plan is armed, led and activated. -/
theorem calibrationAndPlan : Obligations.CalibrationAndPlan := by
  refine ⟨?start, ?ends, ?retuned, ?spare, ?recapture, ?window, ?arm, ?lead, ?activate⟩
  case start =>
    intro n s hon hen hidle htest hspaced hnext
    obtain ⟨u, hdo, hnext'⟩ := doCalibrationStart_takes hon hen hidle htest hspaced hnext
    obtain ⟨hn, hup⟩ := calNext_up hnext'
    exact completes_of_effect rfl hdo (takeCal_shows hn hup)
  case ends =>
    intro n codes own far seen s hon hcal hstate
    refine ⟨fun tx rx htx hrx hpass hpass' => ?_, fun hfails => ?_⟩
    · obtain ⟨hover, hactive, hrings, hleft⟩ := calSucceeds_shows ((s.takeTable (2 * n) tx).takeTable (2 * n + 1) rx) n
      obtain ⟨htxTable, hrxTable⟩ := tablesTaken_show s n tx rx
      refine completes_of_effect rfl (doCalibrationEnd_succeeds hcal hstate htx hrx hpass hpass') ?_
      rw [settled_opt, rd_settled, ringSt_settled, ringSt_settled, hrings, hrings, portState_settled]
      exact ⟨hover, hactive, htxTable, hrxTable, hleft⟩
    · exact completes_of_effect rfl (doCalibrationEnd_fails hcal hstate hfails) (calFails_shows hon hstate)
  case retuned =>
    intro n s hin
    exact completes_of_effect rfl (if_pos hin) (portState_leaveCal s n)
  case spare =>
    intro n s hin
    exact completes_of_effect rfl rfl (doSpareSettled_shows hin)
  case recapture =>
    intro src slot s hacc
    refine completes_of_effect rfl (onWrite_of_accepts hacc _) ?_
    rw [rd_settled, settled_opt]
    exact doRecapture_shows ..
  case window =>
    rintro region m slot s rfl hon hkind hleft
    exact completes_of_effect rfl rfl (doLinePowerWindow_shows hon hkind hleft)
  case arm =>
    rintro src s u hacc rfl
    refine ⟨fun hahead hnear hfree => ?_, fun hahead hnear n hconflict => ?_, fun hlate => ?_⟩
    · refine completes_of_effect rfl (doPlanArm_armed hacc hahead hnear hfree) ⟨?_, rfl⟩
      exact (rd_wr_same (s.ready src .optPlanCtrl 0) .optPlanCtrl_arm 0 1).trans rfl
    · have hlane : n % 2 ^ Fld.width .optPlanCtrl_conflictLane = n := Nat.mod_eq_of_lt (planConflict_lt hconflict)
      refine completes_of_effect rfl (doPlanArm_conflict hacc hahead hnear hconflict) ⟨?_, ?_, ?_, rfl⟩
      · rw [rd_settled, rd_wr_other _ _ (.inl (by decide)), rd_wr_same]
        rfl
      · rw [rd_settled, rd_wr_same, hlane]
      · rw [rd_settled, rd_wr_other _ _ (.inl (by decide)), rd_wr_other _ _ (.inl (by decide))]
    · refine completes_of_effect rfl (doPlanArm_late hacc hlate) ⟨?_, rfl⟩
      rw [rd_settled, rd_wr_same]
      rfl
  case lead =>
    intro a s hplan hled htime
    refine completes_of_effect rfl rfl ?_
    simp only [settled_opt, portState_settled]
    exact doPlanDrainLead_shows hplan hled htime
  case activate =>
    intro a s hplan htime
    refine completes_of_effect rfl (doPlanActivate_eq hplan htime) ?_
    simp only [settled_opt, rd_settled]
    exact activatePlan_shows s

end Sys2Proof.Proofs

/-! Conversion streams and utilisation windows: what each command shows (R250, R257, R284). -/

namespace Sys2Proof.Proofs
open Sys2Proof Sys2Proof.Machine Sys2Proof.Laws

/-- A change of the engines changes `eng` alone. -/
theorem onlyParts_onEng {l : List Part} (hl : .eng ∈ l) (s : State) (g : Eng → Eng) : OnlyParts l s (s.onEng g) := by
  refine ⟨rfl, fun p hp => ?_⟩
  cases p with
  | eng => exact absurd hl hp
  | _ => rfl

theorem StoresAt.onEng {ps : List Part} {fs : List Fld} {n : Nat} {s t : State} (h : StoresAt ps fs n s t) (g : Eng → Eng)
    (hp : .eng ∈ ps) : StoresAt ps fs n s (t.onEng g) :=
  ⟨onlyParts_trans h.parts (onlyParts_onEng hp t g), h.place⟩

/-- R422: an event of a conversion stream is counted once. -/
theorem bumpCvt_counts {s : State} (hon : s.off = false) (st : Nat) (e : CvtEv) :
    Counted 7 (8 * st + e.ctorIdx) s (s.bumpCvt st e) := by
  rw [State.bumpCvt, bumpN_event hon (by decide)]
  exact sget_sset_same _ _

/-! The step of a stream (R250). -/

/-- A stream whose step is asked for waits for its exchange. -/
theorem mem_askStep (s : State) (st : Nat) : st ∈ (s.askStep st).eng.steps := by
  simp only [State.askStep, onEng_eng]
  split
  · next h => simpa using h
  · simp

theorem doCvtStep_shows (s : State) (st : Nat) :
    (s.doCvtStep st).rd .cvtSctrl_step st = 1 ∧ st ∈ (s.doCvtStep st).eng.steps :=
  ⟨rd_wr_same s .cvtSctrl_step st 1, mem_askStep _ st⟩

/-- R257: CVT_QCLR clears the error average and QERR_HIGH, and nothing else. -/
theorem doQclr_shows (s : State) (st : Nat) : (s.doQclr st).rd .cvtSstatus_qerr st = 0 ∧ (s.doQclr st).rd .cvtSstatus_qerrHigh st = 0 ∧
    OnlyRegs [.cvtSstatus_qerr, .cvtSstatus_qerrHigh] s (s.doQclr st) := by
  have hstored : Stores [.regs] [.cvtSstatus_qerr, .cvtSstatus_qerrHigh] s (s.doQclr st) :=
    ((Stores.refl _ _ s).wr _ _ (by decide)).wr _ _ (by decide)
  refine ⟨?_, rd_wr_same _ .cvtSstatus_qerrHigh st 0, hstored.regs⟩
  rw [State.doQclr, rd_wr_other _ _ (.inl (by decide)), rd_wr_same]
  rfl

/-- The fields of a stream that an exchange stores. -/
def exchangeFields : List Fld := [.cvtAmax_amaxPrev, .cvtAmax_amax, .cvtSctrl_step]

/-- A stream's exchange: AMAX becomes AMAX_PREV, and the request is gone. -/
def amaxExchanged (s : State) (st : Nat) : State :=
  (((s.onEng (fun w => { w with steps := w.steps.filter (· != st) })).wr .cvtAmax_amaxPrev st (s.rd .cvtAmax_amax st)).wr
    .cvtAmax_amax st 0).wr .cvtSctrl_step st 0

/-- R250: the exchange is made once the conversions begun before the request have ended. -/
theorem doAmaxExchange_eq {s : State} {st : Nat} (hasked : st ∈ s.eng.steps) :
    s.doAmaxExchange st = if s.converting st then s else amaxExchanged s st := by
  have hcontains : s.eng.steps.contains st = true := by simpa using hasked
  simp only [State.doAmaxExchange, hcontains, Bool.true_and]
  cases s.converting st <;> rfl

theorem amaxExchanged_shows (s : State) (st : Nat) : (amaxExchanged s st).rd .cvtAmax_amaxPrev st = s.rd .cvtAmax_amax st ∧
    (amaxExchanged s st).rd .cvtAmax_amax st = 0 ∧ (amaxExchanged s st).rd .cvtSctrl_step st = 0 ∧
    st ∉ (amaxExchanged s st).eng.steps := by
  simp only [amaxExchanged, rd_wr, reduceCtorEq, false_and, if_false, true_and, if_true, Nat.zero_mod, wr_eng, onEng_eng]
  exact ⟨Nat.mod_eq_of_lt (rd_lt s .cvtAmax_amax st), by simp⟩

theorem amaxExchanged_storesAt (s : State) (st : Nat) : StoresAt [.eng, .regs] exchangeFields st s (amaxExchanged s st) :=
  ((((StoresAt.refl _ _ _ s).onEng _ (by decide)).wr _ (by decide)).wr _ (by decide)).wr _ (by decide)

/-! A checked block (R256, R257). -/

/-- The sample is counted and the error average stands. -/
def qerrTaken (s : State) (st q : Nat) : State := (s.bumpCvt st .qsampleCnt).wr .cvtSstatus_qerr st q

/-- QERR_HIGH is set, with its event and the signal of the stream's owner. -/
def qerrRaised (s : State) (st cfg : Nat) : State :=
  ((s.event .cvtSstatus .cvtSstatus_qerrEvent st).wr .cvtSstatus_qerrHigh st 1).when (scOwnerValid cfg)
    (fun s => s.signal (scOwner cfg) (scQevt cfg))

/-- QERR_HIGH of a stream as a command reads it. -/
theorem flag_qerrTaken (s : State) (st q : Nat) : (qerrTaken s st q).flag .cvtSstatus_qerrHigh st = s.flag .cvtSstatus_qerrHigh st := by
  rw [flag_def, flag_def, qerrTaken, rd_wr_other _ _ (.inl (by decide)), State.bumpCvt, rd_bumpN _ _ _ _ _ (by decide)]

/-- R257: after the average QERR_HIGH is set, cleared, or left. -/
theorem checked_eq (s : State) (st cfg e : Nat) : s.checked st cfg e =
    if (Elem.bf16.decode (scQthr cfg)).lt (n32 (qerrNext (s.rd .cvtSstatus_qerr st) e)) &&
        !(Elem.bf16.decode (scQthr cfg)).lt (n32 (s.rd .cvtSstatus_qerr st)) && !s.flag .cvtSstatus_qerrHigh st then
      qerrRaised (qerrTaken s st (qerrNext (s.rd .cvtSstatus_qerr st) e)) st cfg
    else if s.flag .cvtSstatus_qerrHigh st &&
        !((Elem.bf16.decode (scQthr cfg)).scale (-1)).lt (n32 (qerrNext (s.rd .cvtSstatus_qerr st) e)) then
      (qerrTaken s st (qerrNext (s.rd .cvtSstatus_qerr st) e)).wr .cvtSstatus_qerrHigh st 0
    else qerrTaken s st (qerrNext (s.rd .cvtSstatus_qerr st) e) := by
  simp only [← flag_qerrTaken s st (qerrNext (s.rd .cvtSstatus_qerr st) e)]
  rfl

theorem rd_signal (s : State) (i c : Nat) (f : Fld) (j : Nat) : (s.signal i c).rd f j = s.rd f j := by
  rw [State.signal]
  split <;> rfl

theorem signal_chk (s : State) (i c : Nat) : (s.signal i c).eng.chk = s.eng.chk := by
  rw [State.signal]
  split <;> rfl

theorem signal_tel (s : State) (i c : Nat) : (s.signal i c).tel = s.tel := by
  rw [State.signal]
  split <;> rfl

theorem rd_qerrRaised (s : State) (st cfg : Nat) {f : Fld} (hf : f ∉ .cvtSstatus_qerrHigh :: .cvtSstatus_qerrEvent :: ringFields)
    (i : Nat) : (qerrRaised s st cfg).rd f i = s.rd f i := by
  obtain ⟨hhigh, hevent⟩ := not_or.mp (mt List.mem_cons.mpr hf)
  simp only [qerrRaised, rd_when, rd_signal, ite_self]
  rw [rd_wr_other _ _ (.inl hhigh), rd_event_other _ _ _ _ hevent]

theorem qerrRaised_high (s : State) (st cfg : Nat) : (qerrRaised s st cfg).rd .cvtSstatus_qerrHigh st = 1 := by
  simp only [qerrRaised, rd_when, rd_signal, ite_self, rd_wr_same]
  rfl

theorem qerrRaised_kept (s : State) (st cfg : Nat) :
    (qerrRaised s st cfg).eng.chk = s.eng.chk ∧ (qerrRaised s st cfg).tel = s.tel := by
  simp only [qerrRaised, when_eng, when_tel, apply_ite Eng.chk, signal_chk, signal_tel, wr_eng, wr_tel, event_eng, event_tel, ite_self,
    and_self]

/-- R257: a checked block is counted, moves the error average, and leaves the checker as it is. -/
theorem checked_shows {s : State} (hon : s.off = false) (st cfg e : Nat) :
    (s.checked st cfg e).eng.chk = s.eng.chk ∧
    (s.checked st cfg e).rd .cvtSstatus_qerr st = qerrNext (s.rd .cvtSstatus_qerr st) e % 2 ^ 32 ∧
    Counted 7 (8 * st + CvtEv.qsampleCnt.ctorIdx) s (s.checked st cfg e) := by
  rw [checked_eq]
  generalize qerrNext (s.rd .cvtSstatus_qerr st) e = q
  have htaken : (qerrTaken s st q).eng.chk = s.eng.chk ∧ (qerrTaken s st q).rd .cvtSstatus_qerr st = q % 2 ^ 32 ∧
      Counted 7 (8 * st + CvtEv.qsampleCnt.ctorIdx) s (qerrTaken s st q) :=
    ⟨by rw [qerrTaken, wr_eng, bumpCvt_eng], rd_wr_same _ .cvtSstatus_qerr st q, bumpCvt_counts hon st .qsampleCnt⟩
  split
  · obtain ⟨hchk, htel⟩ := qerrRaised_kept (qerrTaken s st q) st cfg
    rw [hchk, rd_qerrRaised _ _ _ (by decide), Counted, State.count, htel]
    exact htaken
  · split
    · rw [wr_eng, rd_wr_other _ _ (.inl (by decide))]
      exact htaken
    · exact htaken

/-- R257: the average's passage above the threshold sets QERR_HIGH. -/
theorem checked_high {s : State} {st cfg e : Nat} (hlow : s.rd .cvtSstatus_qerrHigh st = 0)
    (habove : (Elem.bf16.decode (scQthr cfg)).lt (n32 (qerrNext (s.rd .cvtSstatus_qerr st) e)) = true)
    (hbelow : (Elem.bf16.decode (scQthr cfg)).lt (n32 (s.rd .cvtSstatus_qerr st)) = false) :
    (s.checked st cfg e).rd .cvtSstatus_qerrHigh st = 1 := by
  have hflag : s.flag .cvtSstatus_qerrHigh st = false := by rw [flag_def, hlow]; rfl
  rw [checked_eq, if_pos (by simp only [habove, hbelow, hflag, Bool.not_false, Bool.and_true])]
  exact qerrRaised_high ..

/-- The oldest block leaves a region's checker. -/
def chkTaken (s : State) (k : Nat) (rest : List (Nat × Nat × Nat)) : State :=
  s.onEng (fun w => { w with chk := if rest.isEmpty then kdel w.chk k else kput w.chk k rest })

theorem chkTaken_rest (s : State) (k : Nat) (rest : List (Nat × Nat × Nat)) : (kget (chkTaken s k rest).eng.chk k).getD [] = rest := by
  cases rest <;> simp [chkTaken]

theorem exec_accuracyCheck {k : Fin 8} {st cfg e : Nat} {rest : List (Nat × Nat × Nat)} {s : State}
    (hchk : kget s.eng.chk k = some ((st, cfg, e) :: rest)) :
    exec (.accuracyCheck k) s = settle s ((chkTaken s k rest).checked st cfg e) := by
  show execAccuracyCheck k s = _
  rw [execAccuracyCheck, hchk]
  rfl

/-! A utilisation window (R284). -/

/-- One level of a window is judged, and a saturated one counted. -/
def levelJudged (k : Nat) (us : List Nat) (waited : Bool) (s : State) (l : Nat) : State :=
  if saturated us (s.rd .engStealCfg_satThr 0) l waited then
    (s.bumpN 8 (4 * k + l) 1).wr .engSat_count (4 * k + l) (min (s.rd .engSat_count (4 * k + l) + 1) 0xFFFFFFFF)
  else s

/-- The window's four values are shown, and what else uses the stacks is drawn. -/
def utilShown (s : State) (k : Nat) (us : List Nat) : State :=
  let t := (((s.wr .engUtil_block k (nthD us 0 0)).wr .engUtil_region k (nthD us 1 0)).wr .engUtil_net k (nthD us 2 0)).wr
    .engUtil_hbm k (nthD us 3 0)
  (t.free 38 256).2.onEng (fun w => { w with stackMore := sset 0 w.stackMore (k / 2) (t.free 38 256).1 })

theorem doUtilWindow_eq (s : State) (k : Nat) (us : List Nat) (waited : Bool) :
    s.doUtilWindow k us waited = (List.range 4).foldl (levelJudged k us waited) (utilShown s k us) := rfl

section Levels
variable (k : Nat) (us : List Nat) (waited : Bool)

/-- A level's judgement stores its own count alone. -/
theorem rd_levelJudged_other (s : State) (l : Nat) {f : Fld} (i : Nat) (hwrap : f ≠ .telWrap_wrap)
    (h : f ≠ .engSat_count ∨ i ≠ 4 * k + l) : (levelJudged k us waited s l).rd f i = s.rd f i := by
  rw [levelJudged]
  split
  · rw [rd_wr_other _ _ h, rd_bumpN _ _ _ _ _ (by simpa using hwrap)]
  · rfl

theorem rd_levelJudged_same (s : State) (l : Nat) : (levelJudged k us waited s l).rd .engSat_count (4 * k + l) =
    if saturated us (s.rd .engStealCfg_satThr 0) l waited then min (s.rd .engSat_count (4 * k + l) + 1) 0xFFFFFFFF
    else s.rd .engSat_count (4 * k + l) := by
  have hfits : ∀ n, min n 0xFFFFFFFF % 2 ^ Fld.engSat_count.width = min n 0xFFFFFFFF := fun n => by
    simp only [show Fld.engSat_count.width = 32 from rfl]
    omega
  rw [levelJudged]
  split
  · rw [rd_wr_same, hfits]
  · rfl

theorem rd_foldl_levelJudged_other (ls : List Nat) (s : State) {f : Fld} (i : Nat) (hwrap : f ≠ .telWrap_wrap)
    (h : f ≠ .engSat_count ∨ ∀ l ∈ ls, i ≠ 4 * k + l) : (ls.foldl (levelJudged k us waited) s).rd f i = s.rd f i := by
  induction ls generalizing s with
  | nil => rfl
  | cons l ls ih =>
    rw [List.foldl_cons, ih _ (h.imp_right (fun h l hl => h l (List.mem_cons_of_mem _ hl))),
      rd_levelJudged_other _ _ _ _ _ _ hwrap (h.imp_right (fun h => h l List.mem_cons_self))]

/-- R284: of a list of levels each is judged once. -/
theorem rd_foldl_levelJudged_same {ls : List Nat} (hnodup : ls.Nodup) {l : Nat} (hl : l ∈ ls) (s : State) :
    (ls.foldl (levelJudged k us waited) s).rd .engSat_count (4 * k + l) =
      if saturated us (s.rd .engStealCfg_satThr 0) l waited then min (s.rd .engSat_count (4 * k + l) + 1) 0xFFFFFFFF
      else s.rd .engSat_count (4 * k + l) := by
  obtain ⟨before, after, rfl⟩ := List.append_of_mem hl
  obtain ⟨-, hafter, hdisjoint⟩ := List.nodup_append.mp hnodup
  have hapart : ∀ m ∈ before, 4 * k + l ≠ 4 * k + m := fun m hm heq => hdisjoint m hm l (by simp) (by omega)
  have hlater : ∀ m ∈ after, 4 * k + l ≠ 4 * k + m := fun m hm heq => (List.nodup_cons.mp hafter).1 (by
    obtain rfl : l = m := by omega
    exact hm)
  rw [List.foldl_append, List.foldl_cons, rd_foldl_levelJudged_other _ _ _ _ _ _ (by decide) (.inr hlater), rd_levelJudged_same,
    rd_foldl_levelJudged_other _ _ _ _ _ _ (by decide) (.inl (by decide)),
    rd_foldl_levelJudged_other _ _ _ _ _ _ (by decide) (.inr hapart)]

end Levels

/-- The fields in which a window is shown. -/
def utilFields : List Fld := [.engUtil_block, .engUtil_region, .engUtil_net, .engUtil_hbm]

theorem utilShown_other (s : State) (k : Nat) (us : List Nat) {f : Fld} (i : Nat) (hf : f ∉ utilFields) :
    (utilShown s k us).rd f i = s.rd f i :=
  (((((Stores.refl [.regs] utilFields s).wr k (nthD us 0 0) (f := .engUtil_block) (by decide)).wr k (nthD us 1 0)
    (f := .engUtil_region) (by decide)).wr k (nthD us 2 0) (f := .engUtil_net) (by decide)).wr k (nthD us 3 0)
    (f := .engUtil_hbm) (by decide)).regs f i hf

/-- R284: the window's values are shown. -/
theorem utilShown_shows (s : State) (k : Nat) (block region net hbm : BitVec 8) :
    let t := utilShown s k [block.toNat, region.toNat, net.toNat, hbm.toNat]
    t.rd .engUtil_block k = block.toNat ∧ t.rd .engUtil_region k = region.toNat ∧ t.rd .engUtil_net k = net.toNat ∧
      t.rd .engUtil_hbm k = hbm.toNat := by
  have hfits : ∀ b : BitVec 8, b.toNat % 2 ^ 8 = b.toNat := fun b => Nat.mod_eq_of_lt b.isLt
  simp only [utilShown, rd_onEng, rd_free, rd_wr, reduceCtorEq, false_and, if_false, true_and, if_true]
  exact ⟨hfits block, hfits region, hfits net, hfits hbm⟩

/-- The judgement of the levels leaves what is shown. -/
theorem doUtilWindow_other (s : State) (k : Nat) (us : List Nat) (waited : Bool) {f : Fld} (i : Nat)
    (hf : f ∉ [Fld.telWrap_wrap, Fld.engSat_count]) : (s.doUtilWindow k us waited).rd f i = (utilShown s k us).rd f i := by
  simp only [List.mem_cons, List.not_mem_nil, or_false, not_or] at hf
  rw [doUtilWindow_eq, rd_foldl_levelJudged_other _ _ _ _ _ _ hf.1 (.inl hf.2)]

/-- R284: a window counts at each level where it saturated. -/
theorem doUtilWindow_level (s : State) (k : Nat) (us : List Nat) (waited : Bool) {l : Nat} (hl : l < 4) :
    (s.doUtilWindow k us waited).rd .engSat_count (4 * k + l) =
      if saturated us (s.rd .engStealCfg_satThr 0) l waited then min (s.rd .engSat_count (4 * k + l) + 1) 0xFFFFFFFF
      else s.rd .engSat_count (4 * k + l) := by
  rw [doUtilWindow_eq, rd_foldl_levelJudged_same k us waited List.nodup_range (List.mem_range.mpr hl),
    utilShown_other _ _ _ _ (by decide), utilShown_other _ _ _ _ (by decide)]

/-- Settles O50: a step joins the exchange, which waits for its conversions; a checked block moves the average and passes QERR_HIGH; a
window is shown and each of its levels judged once. -/
theorem conversionStreamsAndUtilisation : Obligations.ConversionStreamsAndUtilisation := by
  refine ⟨?requests, ?exchange, ?check, ?window⟩
  case requests =>
    rintro src st s u hacc rfl
    exact ⟨completes_of_effect rfl (onWrite_of_accepts hacc _) (doCvtStep_shows _ st),
      completes_of_effect rfl (onWrite_of_accepts hacc _) (doQclr_shows _ st)⟩
  case exchange =>
    intro st s hasked
    refine ⟨fun hidle => completes_of_effect rfl ((doAmaxExchange_eq hasked).trans (if_neg (by simp [hidle]))) ?_,
      fun hbusy => completes_of_effect rfl ((doAmaxExchange_eq hasked).trans (if_pos hbusy)) (settled_self s)⟩
    have hstored := (amaxExchanged_storesAt s st).settled
    obtain ⟨hprev, hamax, hstep, hsteps⟩ := amaxExchanged_shows s st
    exact ⟨hprev, hamax, hstep, hsteps, hstored.parts, hstored.place⟩
  case check =>
    rintro k st cfg e q rest s hon hchk rfl
    obtain ⟨hkept, hqerr, hcounted⟩ := checked_shows (s := chkTaken s k rest) hon st cfg e
    refine completes_of_effect (exec_accuracyCheck hchk) rfl ⟨?_, hqerr, hcounted, fun hlow habove hbelow => ?_⟩
    · rw [settled_eng, hkept, chkTaken_rest]
    · exact checked_high (s := chkTaken s k rest) hlow habove hbelow
  case window =>
    intro k block region net hbm waited s
    have hshown := fun f i (hf : f ∉ [Fld.telWrap_wrap, Fld.engSat_count]) =>
      doUtilWindow_other s k [block.toNat, region.toNat, net.toNat, hbm.toNat] waited (f := f) i hf
    obtain ⟨hblock, hregion, hnet, hhbm⟩ := utilShown_shows s k block region net hbm
    exact completes_of_effect rfl rfl ⟨(hshown _ _ (by decide)).trans hblock, (hshown _ _ (by decide)).trans hregion,
      (hshown _ _ (by decide)).trans hnet, (hshown _ _ (by decide)).trans hhbm, fun l hl => doUtilWindow_level s k _ waited hl⟩

end Sys2Proof.Proofs

/-! What the commands of the part leave of the engines: a view of them carried through each operation. -/

namespace Sys2Proof.Proofs
open Sys2Proof Sys2Proof.Machine Sys2Proof.Laws

/-- A view `v` of the engines shows the same in `s` and `t`. Each rule below takes the relation through one more operation. -/
def EngKept {β : Type} (v : Eng → β) (s t : State) : Prop := v t.eng = v s.eng

/-- The view shows nothing of the contexts. -/
def InstBlind {β : Type} (v : Eng → β) : Prop := ∀ w x, v { w with inst := x } = v w

/-- The view shows nothing that the end of a descriptor changes. -/
def JobBlind {β : Type} (v : Eng → β) : Prop := ∀ w jobs xfe steps inst, v { w with jobs, xfe, steps, inst } = v w

theorem JobBlind.inst {β : Type} {v : Eng → β} (h : JobBlind v) : InstBlind v := fun w x => h w w.jobs w.xfe w.steps x

theorem jobBlind_run : JobBlind Eng.run := fun _ _ _ _ _ => rfl
theorem jobBlind_mem : JobBlind Eng.mem := fun _ _ _ _ _ => rfl

/-- A descriptor is taken from those in progress, and its step asked for. -/
def jobEnded (s : State) (j : Nat) (b : Job) : State :=
  (s.onEng (fun w => { w with jobs := kdel w.jobs j, xfe := w.xfe.filter (fun x => x.job != j) })).when
    (dOp b.words == 0x20 && dStepEnd b.words) (fun s => s.askStep (dStream b.words))

/-- A descriptor is taken from those of its context, which it signals. -/
def jobSignalled (s : State) (j : Nat) (b : Job) : State :=
  (s.setInst b.inst (fun c => { c with jobs := c.jobs.filter (· != j) })).when (dSigEn b.words)
    (fun s => s.signal b.inst (dSigCtr b.words))

theorem jobDone_of_none {s : State} {j : Nat} (h : kget s.eng.jobs j = none) : s.jobDone j = s := by
  rw [State.jobDone, h]

/-- R276, R278: a descriptor that completes signals its context where that has not stopped. -/
theorem jobDone_eq {s : State} {j : Nat} {b : Job} (h : kget s.eng.jobs j = some b) : s.jobDone j =
    if (s.inst b.inst).jobs.contains j then (jobSignalled (jobEnded s j b) j b).instDone? b.inst else jobEnded s j b := by
  rw [State.jobDone, h]
  rfl

namespace EngKept
variable {β : Type} {v : Eng → β} {s t u : State}

theorem refl (v : Eng → β) (s : State) : EngKept v s s := rfl

theorem eq (h : EngKept v s t) : v t.eng = v s.eng := h

theorem foldl {α : Type} {g : State → α → State} (h : EngKept v s t)
    (hg : ∀ t a, EngKept v s t → EngKept v s (g t a)) (l : List α) : EngKept v s (l.foldl g t) := by
  induction l generalizing t with
  | nil => exact h
  | cons a l ih => exact ih (hg t a h)

/-- The same for steps that carry a second component along. -/
theorem foldl_fst {α γ : Type} {g : State × γ → α → State × γ} {x : State × γ} (h : EngKept v s x.1)
    (hg : ∀ x a, EngKept v s x.1 → EngKept v s (g x a).1) (l : List α) : EngKept v s (l.foldl g x).1 := by
  induction l generalizing x with
  | nil => exact h
  | cons a l ih => exact ih (hg x a h)

theorem when {g : State → State} (h : EngKept v s t) (hg : ∀ t, EngKept v s t → EngKept v s (g t)) (c : Bool) :
    EngKept v s (t.when c g) := by
  cases c
  · exact h
  · exact hg t h

theorem ite {c : Prop} [Decidable c] (ht : EngKept v s t) (hu : EngKept v s u) : EngKept v s (if c then t else u) := by
  split
  · exact ht
  · exact hu

/-! The updates of the state. -/

/-- An operation that leaves the engines alone. -/
theorem apart (h : EngKept v s t) (hu : u.eng = t.eng) : EngKept v s u := (congrArg v hu).trans h

/-- A change of the engines that the view does not show. -/
theorem onEng (h : EngKept v s t) (g : Eng → Eng) (hg : ∀ w, v (g w) = v w := by intros; rfl) : EngKept v s (t.onEng g) :=
  (hg t.eng).trans h

theorem setInst (h : EngKept v s t) (hv : InstBlind v) (i : Nat) (g : Inst → Inst) : EngKept v s (t.setInst i g) :=
  h.onEng _ (fun w => hv w _)

section Apart
variable (h : EngKept v s t)
include h

theorem wr (f : Fld) (i x : Nat) : EngKept v s (t.wr f i x) := h.apart rfl
theorem free (tag n : Nat) : EngKept v s (t.free tag n).2 := h.apart rfl
theorem onSw (g : Sw → Sw) : EngKept v s (t.onSw g) := h.apart rfl
theorem onSvc (g : Svc → Svc) : EngKept v s (t.onSvc g) := h.apart rfl
theorem onFen (g : Fen → Fen) : EngKept v s (t.onFen g) := h.apart rfl
theorem onGw (g : Gw → Gw) : EngKept v s (t.onGw g) := h.apart rfl
theorem onCmn (g : Cmn → Cmn) : EngKept v s (t.onCmn g) := h.apart rfl
theorem setPst (n : Nat) (g : PortSt → PortSt) : EngKept v s (t.setPst n g) := h.apart rfl
theorem bumpN (g i n : Nat) : EngKept v s (t.bumpN g i n) := h.apart (bumpN_eng ..)
theorem bumpCvt (st : Nat) (e : CvtEv) (n : Nat) : EngKept v s (t.bumpCvt st e n) := h.apart (bumpCvt_eng ..)
theorem event (r : Reg) (f : Fld) (i b : Nat) : EngKept v s (t.event r f i b) := h.apart (event_eng ..)
theorem fault (code sev : Nat) (detail : List Nat) : EngKept v s (t.fault code sev detail) := h.apart (fault_eng ..)
theorem raiseIbi (c : Nat) : EngKept v s (t.raiseIbi c) := h.apart (raiseIbi_eng ..)

/-- Work that stores, where the engines are not among its components. -/
theorem stores {ps : List Part} {fs : List Fld} (hu : Stores ps fs t u) (hp : .eng ∉ ps := by decide) : EngKept v s u :=
  h.apart (hu.parts.2 .eng hp)

theorem reel (hu : Kept besideReel t u) : EngKept v s u := h.apart (hu.parts_of_reel.2 .eng (by decide))

/-! Packets that the part originates. -/

theorem originate (k : Nat) (p : Packet) : EngKept v s (t.originate k p) :=
  h.stores ((Stores.refl packetParts poolFields t).originate k p)

theorem wakeRegion (k : Nat) : EngKept v s (t.wakeRegion k) := h.stores ((Stores.refl tableParts tableFields t).wakeRegion k)

theorem hbmAccess (a : Nat) : EngKept v s (t.hbmAccess a) := by
  rw [State.hbmAccess]
  split
  · exact h.apart rfl
  · exact h

theorem idleC1 (c : Nat) : EngKept v s (t.idleC1 c) := h.apart (idleC1_kept t c).2

theorem idleAll (cs : List Nat) : EngKept v s (t.idleAll cs) := h.apart (idleAll_kept cs t).2

/-! The answers of a context that has ended (R299). -/

theorem markAnswered (n slot : Nat) : EngKept v s (t.markAnswered n slot) := by
  rw [State.markAnswered]
  split
  · exact h.onSvc _
  · exact h

theorem answerReq (n : Nat) (q : SvcReq) (reason detail : Nat) : EngKept v s (t.answerReq n q reason detail) :=
  .ite h ((h.originate ..).markAnswered ..)

theorem svcEnded (n reason detail : Nat) : EngKept v s (t.svcEnded n reason detail) := by
  rw [State.svcEnded]
  split
  · exact (h.foldl (fun _ q h => h.answerReq n q reason detail) _).onSvc _
  · exact h

theorem instAnswers (i reason detail : Nat) : EngKept v s (t.instAnswers i reason detail) := by
  rw [State.instAnswers]
  split
  · exact h.svcEnded ..
  · exact h

/-! The gateway's requests to a fenced GID (R352, R353). -/

theorem gwSend (r : GwReq) : EngKept v s (t.gwSend r) := ((h.onGw _).when (fun _ h => h.bumpN ..) _).originate ..

theorem gwRelease (k : Nat) : EngKept v s (t.gwRelease k) := by
  refine foldl_fst h (fun x r h => ?_) _
  dsimp only
  split
  · exact h.gwSend r
  · exact h

theorem gwAbandon (r : GwReq) : EngKept v s (t.gwAbandon r) :=
  (((((h.foldl (fun _ _ h => h.originate ..) _).bumpN ..).wr ..).wr ..).fault ..).onGw _ |>.gwRelease _

theorem gwFenced (g : Nat) : EngKept v s (t.gwFenced g) := h.foldl (fun _ _ h => h.gwAbandon _) _

/-! Ports whose neighbour is fenced (R359, Table 3.5). -/

theorem sendHello (n : Nat) (fast : Bool) : EngKept v s (t.sendHello n fast) := by
  simp only [State.sendHello]
  exact (((((h.free ..).free ..).setPst ..).onSw _).reel (enterEgress_kept ..).reel).reel (holdSeg_kept ..).egress.reel

theorem setPort (n st : Nat) : EngKept v s (t.setPort n st) :=
  .ite (h.wr ..) ((((h.wr ..).when (fun _ h => h.wr ..) _).wr ..).event ..)

theorem toDraining (n : Nat) : EngKept v s (t.toDraining n) :=
  (((h.setPort ..).wr ..).setPst ..).when (fun _ h => h.sendHello ..) _

theorem reDrain (n : Nat) : EngKept v s (t.reDrain n) := .ite (h.toDraining n) (.ite ((h.setPst ..).setPort ..) h)

theorem syncFence (n : Nat) : EngKept v s (t.syncFence n) := ((h.wr ..).wr ..).reDrain n

/-! The score of a GID falls (R355, R356, R360 to R371). -/

theorem originateFree (p : Packet) : EngKept v s (t.originateFree p) := ((h.free 1 (2 ^ 24)).free 2 (2 ^ 16)).originate ..

theorem sendFence (action g dgid : Nat) : EngKept v s (t.sendFence action g dgid) := (h.originateFree _).onFen _

theorem sitOut (g cause : Nat) : EngKept v s (t.sitOut g cause) :=
  have hout := (((((h.onFen _).wr ..).event ..).fault ..).foldl (fun _ _ h => h.syncFence _) _).gwFenced g
  .ite hout ((hout.sendFence ..).foldl (fun _ _ h => h.sendFence ..) _)

theorem hold (g cause : Nat) : EngKept v s (t.hold g cause) := .ite (h.onFen _) (h.bumpN ..)

theorem beginStorm : EngKept v s t.beginStorm := (((h.wr ..).event ..).raiseIbi ..).fault ..

theorem candidate (g cause : Nat) : EngKept v s (t.candidate g cause) :=
  .ite h (.ite (h.hold ..) (.ite (h.hold ..).beginStorm (h.sitOut ..)))

theorem testGid (g : Nat) : EngKept v s (t.testGid g) := .ite ((h.onFen _).candidate ..) (h.onFen _)

omit h in
theorem sendVotes (h : EngKept v s t) (gs : List Nat) (fuel : Nat) : EngKept v s (t.sendVotes gs fuel) := by
  induction fuel generalizing t gs with
  | zero => exact h
  | succ fuel ih => exact .ite h (ih (h.foldl (fun _ _ h => h.originateFree _) _) _)

theorem scoreChanged (g before : Nat) : EngKept v s (t.scoreChanged g before) :=
  have hvoted := h.when (fun _ h => h.sendVotes [g] 1) _
  .ite hvoted (hvoted.testGid g)

theorem requestLost (g : Nat) : EngKept v s (t.requestLost g) := by
  simp only [State.requestLost, State.lowerGid, State.scoreEntry]
  split
  · exact h.bumpN ..
  · next heq =>
    refine EngKept.scoreChanged (.onFen ?_ _) ..
    split at heq
    · cases heq
      exact h
    · split at heq
      · cases heq
      · cases heq
        exact (h.free ..).onFen _

end Apart

/-! Contexts, and the end of a descriptor (R276, R278). -/

section Blind
variable (h : EngKept v s t) (hv : InstBlind v)
include h hv

theorem setFlags (i fl : Nat) : EngKept v s (t.setFlags i fl) := h.when (fun _ h => h.setInst hv ..) _

theorem signal (i c : Nat) : EngKept v s (t.signal i c) := .ite (h.setInst hv ..) h

theorem jobSignalled (j : Nat) (b : Job) : EngKept v s (jobSignalled t j b) := (h.setInst hv ..).when (fun _ h => h.signal hv ..) _

theorem instDone? (i : Nat) : EngKept v s (t.instDone? i) := .ite ((h.setInst hv ..).instAnswers ..) h

end Blind

/-! The end of a descriptor (R276, R278). -/

section Ends
variable (h : EngKept v s t) (hv : JobBlind v)
include h hv

theorem askStep (st : Nat) : EngKept v s (t.askStep st) := h.onEng _ (fun w => hv w w.jobs w.xfe _ w.inst)

theorem jobEnded (j : Nat) (b : Job) : EngKept v s (jobEnded t j b) :=
  (h.onEng _ (fun w => hv w _ _ w.steps w.inst)).when (fun _ h => h.askStep hv _) _

theorem jobDone (j : Nat) : EngKept v s (t.jobDone j) := by
  cases hjob : kget t.eng.jobs j with
  | none => rw [jobDone_of_none hjob]; exact h
  | some b =>
    rw [jobDone_eq hjob]
    exact .ite (((h.jobEnded hv j b).jobSignalled hv.inst j b).instDone? hv.inst _) (h.jobEnded hv j b)

theorem jobDone? (j : Nat) : EngKept v s (t.jobDone? j) := by
  rw [State.jobDone?]
  split
  · exact .ite (h.jobDone hv j) h
  · exact h

theorem tileLeft (j : Nat) (x : Tile) : EngKept v s (t.tileLeft j x) := by
  rw [State.tileLeft]
  split
  · exact h.onEng _ (fun w => hv w _ w.xfe w.steps w.inst)
  · exact h

end Ends

/-! The tiles that run: what a command does between the start and the end of one (R236 to R286). -/

section Runs
variable (h : EngKept Eng.run s t)
include h

theorem memPut (a : Nat) (bs : List Byte) : EngKept Eng.run s (t.memPut a bs) := h.onEng _

theorem stopInst (i : Nat) : EngKept Eng.run s (t.stopInst i) := (((h.onEng _).onSvc _).onEng _).idleAll _

theorem instFault (i code desc : Nat) : EngKept Eng.run s (t.instFault i code desc) :=
  .ite ((((h.stopInst i).setInst jobBlind_run.inst ..).fault ..).instAnswers ..) h

/-! Results (R243, R270 to R272, R279). -/

theorem putResults (e : EngId) (i a : Nat) (el : Elem) (cs : List Conv) : EngKept Eng.run s (t.putResults e i a el cs) := by
  have hput : EngKept Eng.run s ((t.memPut a (packBytes el (cs.map (fun c => c.code)))).setFlags i (convFlags cs)) :=
    (h.memPut ..).setFlags jobBlind_run.inst ..
  cases e with
  | mxe x | vxe x => exact .ite hput (hput.bumpN ..)
  | _ => exact hput

theorem putRow (e : EngId) (i mode : Nat) (o : Opnd) (r j0 : Nat) (vs : List Flagged) :
    EngKept Eng.run s (t.putRow e i mode o r j0 vs) := (h.setFlags jobBlind_run.inst ..).putResults ..

theorem sortRow (e : EngId) (i mode : Nat) (w : List Nat) (n r : Nat) : EngKept Eng.run s (t.sortRow e i mode w n r) :=
  ((h.setFlags jobBlind_run.inst ..).putRow ..).memPut ..

theorem sampleIdx (x topp topk : Nat) (xs : List Machine.Num) : EngKept Eng.run s (t.sampleIdx x topp topk xs).2 := by
  simp only [State.sampleIdx]
  split
  · split <;> exact h
  · split
    · exact h.free 21 (2 ^ 32)
    · exact (h.free 21 (2 ^ 32)).free 21 (samplePrefix x topp topk xs).length

theorem sampleRow (i mode : Nat) (w : List Nat) (r : Nat) : EngKept Eng.run s (t.sampleRow i mode w r) := by
  simp only [State.sampleRow]
  exact ((h.sampleIdx ..).setFlags jobBlind_run.inst ..).memPut ..

omit h in
theorem gatherRows (h : EngKept Eng.run s t) (w rs : List Nat) : EngKept Eng.run s (t.gatherRows w rs).1 := by
  induction rs generalizing t with
  | nil => exact h
  | cons r rs ih =>
    simp only [State.gatherRows]
    repeat' split
    · exact h
    · exact ih ((h.memPut ..).memPut ..)
    · exact ih (h.memPut ..)

theorem matSum (e : EngId) (j : Nat) (b : Job) (x : Tile) (ob : Opnd) : EngKept Eng.run s (t.matSum e j b x ob) := by
  simp only [State.matSum]
  split
  · exact (h.setFlags jobBlind_run.inst ..).onEng _
  · refine EngKept.onEng ?_ _
    split
    · exact (h.setFlags jobBlind_run.inst ..).onSvc _
    · exact (h.setFlags jobBlind_run.inst ..).foldl (fun _ _ h => h.putRow ..) _

theorem matEnd (e : EngId) (r : Run) (b : Job) : EngKept Eng.run s (t.matEnd e r b) :=
  .ite ((h.tileLeft jobBlind_run ..).instFault ..) (h.matSum ..)

/-! Conversions (R244, R250 to R256). -/

theorem raiseAmax (st : Nat) (xs : List Machine.Num) : EngKept Eng.run s (t.raiseAmax st xs) := .ite h (h.wr ..)

theorem sampleBlock (st cfg : Nat) (xs qs : List Machine.Num) : EngKept Eng.run s (t.sampleBlock st cfg xs qs) := by
  have hdraw : ∀ {u : State}, EngKept Eng.run s u → ∀ (held : Prop) [Decidable held],
      EngKept Eng.run s (if held then (0, u) else u.free 37 2).2 := fun hu held _ => by
    split
    · exact hu
    · exact hu.free 37 2
  have hzero : EngKept Eng.run s (t.onEng (fun w => { w with sampled := sset 0 w.sampled st 0 })) := h.onEng _
  simp only [State.sampleBlock]
  exact .ite (.ite (.ite ((hdraw hzero _).bumpCvt ..) (hdraw hzero _).eq) (h.onEng _)) h

theorem putBit (i d a b : Nat) (x : Bool) : EngKept Eng.run s (t.putBit i d a b x) := .ite (h.instFault ..) (h.memPut ..)

theorem setEscIndex (c : CvtRun) (x : Nat) : EngKept Eng.run s (t.setEscIndex c x) := .ite (h.wr ..) (h.onEng _)

theorem satCounted (i fl : Nat) (st sats : Nat) :
    EngKept Eng.run s ((t.setFlags i fl).when (sats != 0) (fun s => s.bumpCvt st .satCnt sats)) :=
  (h.setFlags jobBlind_run.inst ..).when (fun _ h => h.bumpCvt ..) _

theorem putEscape (i d : Nat) (c : CvtRun) (mode : Nat) (o : Opnd) (r g : Nat) (xs : List Machine.Num) :
    EngKept Eng.run s (t.putEscape i d c mode o r g xs).1 := by
  simp only [State.putEscape]
  exact ((((((EngKept.ite (h.memPut ..) (h.instFault ..)).memPut ..).onEng _).memPut ..).setEscIndex ..).bumpCvt ..).satCounted ..

theorem putBlock (i : Nat) (c : CvtRun) (mode : Nat) (o : Opnd) (r g : Nat) (xs : List Machine.Num) :
    EngKept Eng.run s (t.putBlock i c mode o r g xs).1 := by
  simp only [State.putBlock]
  split
  · exact ((h.memPut ..).memPut ..).satCounted ..
  · exact (h.memPut ..).satCounted ..

/-- A block's values are read; a full escape area is counted. -/
theorem cvtRead (i fl st : Nat) (xs : List Machine.Num) (full : Bool) :
    EngKept Eng.run s (((t.setFlags i fl).raiseAmax st xs).when full
      (fun s => (s.bumpCvt st .escFullCnt).wr .cvtSstatus_escFull st 1)) :=
  ((h.setFlags jobBlind_run.inst ..).raiseAmax ..).when (fun _ h => (h.bumpCvt ..).wr ..) _

theorem cvtPut (escaped : Prop) [Decidable escaped] (i d : Nat) (c : CvtRun) (mode : Nat) (o : Opnd) (r g : Nat)
    (xs : List Machine.Num) :
    EngKept Eng.run s (if escaped then t.putEscape i d c mode o r g xs else t.putBlock i c mode o r g xs).1 := by
  split
  · exact h.putEscape ..
  · exact h.putBlock ..

/-- The block's bit of the escape bitmap, and the values drawn for its rounding. -/
theorem cvtMarked (esc rnd : Bool) (i d a b : Nat) (x : Bool) :
    EngKept Eng.run s ((t.when esc (fun s => s.putBit i d a b x)).when rnd (fun s => { s with freeCtr := s.freeCtr + 32 })) :=
  (h.when (fun _ h => h.putBit ..) _).when (g := fun s => { s with freeCtr := s.freeCtr + 32 }) (fun _ h => h.eq) _

theorem cvtBlock (i d : Nat) (c : CvtRun) (mode : Nat) (w : List Nat) (r g : Nat) :
    EngKept Eng.run s (t.cvtBlock i d c mode w r g) := by
  simp only [State.cvtBlock]
  refine EngKept.sampleBlock ?_ ..
  refine EngKept.cvtMarked ?_ ..
  refine EngKept.cvtPut ?_ ..
  exact h.cvtRead ..

theorem cvtAll (i d : Nat) (c : CvtRun) (mode : Nat) (w : List Nat) : EngKept Eng.run s (t.cvtAll i d c mode w) :=
  h.foldl (fun _ _ h => h.foldl (fun _ _ h => h.cvtBlock ..) _) _

/-- The work of a tile, whatever its opcode, leaves the tiles that run. -/
theorem tileWork (e : EngId) (r : Run) (b : Job) : EngKept Eng.run s (t.tileWork e r b) := by
  have hgather := h.gatherRows b.words (tileRows b.words r.tile)
  simp only [State.tileWork]
  split
  · exact h.matEnd ..
  iterate 4 exact (h.foldl (fun _ _ h => h.putRow ..) _).tileLeft jobBlind_run ..
  · refine EngKept.tileLeft ?_ jobBlind_run ..
    split
    · exact h.cvtAll ..
    · exact h
  · exact (h.foldl (fun _ _ h => h.sortRow ..) _).tileLeft jobBlind_run ..
  · exact (h.foldl (fun _ _ h => h.sortRow ..) _).tileLeft jobBlind_run ..
  · exact (h.foldl (fun _ _ h => h.putRow ..) _).tileLeft jobBlind_run ..
  · exact (h.foldl (fun _ _ h => h.sampleRow ..) _).tileLeft jobBlind_run ..
  · exact .ite ((hgather.tileLeft jobBlind_run ..).instFault ..) (hgather.tileLeft jobBlind_run ..)
  · exact h.tileLeft jobBlind_run ..

/-! The start of a tile (R250, R251, R273, R274, R280, R298, R327). -/

theorem pumpJob (j : Nat) : EngKept Eng.run s (t.pumpJob j) := by
  simp only [State.pumpJob]
  split
  · exact h
  · refine (foldl_fst h (fun x a h => ?_) _).onEng _
    split
    · exact (h.onEng _).wakeRegion _
    · exact h

theorem pump : EngKept Eng.run s t.pump := h.foldl (fun _ _ h => h.pumpJob _) _

/-- A conversion that starts shows its stream busy, and whether its scale fell back. -/
theorem streamBusy (st : Nat) (cvt fell : Bool) : EngKept Eng.run s (t.when cvt
    (fun s => (s.wr .cvtSstatus_busy st 1).when fell (fun s => s.wr .cvtSstatus_amaxFallback st 1))) :=
  h.when (fun _ h => (h.wr ..).when (fun _ h => h.wr ..) _) _

theorem sendReply (k : Nat) (q : SvcReq) (status : Nat) (bs : List Byte) : EngKept Eng.run s (t.sendReply k q status bs) :=
  (h.onEng _).foldl (fun _ _ h => (h.onEng _).originate ..) _

theorem replyStart (k i : Nat) (w : List Nat) : EngKept Eng.run s (t.replyStart k i w) := by
  simp only [State.replyStart]
  repeat' split
  · exact h
  · exact h
  · exact h.bumpN ..
  · exact (h.sendReply ..).markAnswered ..

theorem xfeStart (k j i : Nat) (w : List Nat) : EngKept Eng.run s (t.xfeStart k j i w) :=
  (h.onEng _).foldl (fun _ _ h => (h.onEng _).originate ..) _

theorem cmnAnswer (o : CmnOp) : EngKept Eng.run s (t.cmnAnswer o) :=
  .ite (.ite (h.originate ..) h) (.ite (h.originate ..) (h.originate ..))

theorem cmnPart (id at_ : Nat) (bs : List Byte) (err : Bool) : EngKept Eng.run s (t.cmnPart id at_ bs err) := by
  simp only [State.cmnPart]
  split
  · exact h
  · exact .ite ((h.onCmn _).cmnAnswer _) (h.onCmn _)

theorem replayDone (k g psn prior : Nat) (err : Bool) : EngKept Eng.run s (t.replayDone k g psn prior err) := by
  simp only [State.replayDone]
  split
  · exact h
  · exact h.onCmn _

theorem atomPrior (j i n prior : Nat) : EngKept Eng.run s (t.atomPrior j i n prior) := by
  simp only [State.atomPrior]
  split
  · exact h
  · exact (h.memPut ..).onEng _

theorem cmnPut (off : Nat) (bs : List Byte) : EngKept Eng.run s (t.cmnPut off bs) := h.onCmn _

theorem cmnApply (q : CmnReq) : EngKept Eng.run s (t.cmnApply q) := by
  simp only [State.cmnApply]
  split
  · next bs _ =>
    have hwritten := fun c g => (h.cmnPut q.off bs).when (g := fun s => s.onCmn g) (fun _ h => h.onCmn _) c
    split
    · exact (hwritten ..).cmnPart ..
    · exact hwritten ..
  · split
    · exact h.cmnPart ..
    · exact h
  · have hnew := fun c bs => h.when (g := fun s => s.cmnPut q.off bs) (fun _ h => h.cmnPut ..) c
    split
    · refine EngKept.cmnPart ?_ ..
      split
      · exact (hnew ..).replayDone ..
      · exact hnew ..
    · exact (hnew ..).atomPrior ..

theorem batchAdd (q : CmnReq) : EngKept Eng.run s (t.batchAdd q) := by
  simp only [State.batchAdd, State.batchApply]
  refine EngKept.onCmn ?_ _
  repeat' split
  · exact h
  · exact (h.onCmn _).foldl (fun _ _ h => h.cmnApply _) _
  · exact h
  · exact h

omit h in
theorem ateFeed (h : EngKept Eng.run s t) (j fuel : Nat) : EngKept Eng.run s (t.ateFeed j fuel) := by
  induction fuel generalizing t with
  | zero => exact h
  | succ fuel ih =>
    simp only [State.ateFeed]
    split
    · exact h
    · split
      · exact ih ((h.onEng _).batchAdd _)
      · exact h

theorem ateStart (j : Nat) : EngKept Eng.run s (t.ateStart j) := by
  rw [State.ateStart]
  split
  · exact h.ateFeed ..
  · exact h

end Runs
end EngKept
end Sys2Proof.Proofs

/-! ENG_INST_CMD and the issue of descriptors (R243, R266 to R269, R275, R276, R280, R285). -/

namespace Sys2Proof.Proofs
open Sys2Proof Sys2Proof.Machine Sys2Proof.Laws

/-! What the operations on a context show of it. -/

theorem wakeRegion_eng (s : State) (k : Nat) : (s.wakeRegion k).eng = s.eng := ((EngKept.refl id s).wakeRegion k).eq

theorem instAnswers_eng (s : State) (i reason detail : Nat) : (s.instAnswers i reason detail).eng = s.eng :=
  ((EngKept.refl id s).instAnswers i reason detail).eq

theorem hbmAccess_eng (s : State) (a : Nat) : (s.hbmAccess a).eng = s.eng := ((EngKept.refl id s).hbmAccess a).eq

/-- R285: an abort leaves a running context ABORTED. -/
theorem instAbort_state {s : State} {i : Nat} (hrun : s.running i = true) (reason : Nat) : ((s.instAbort i reason).inst i).state = 4 := by
  rw [State.instAbort, if_pos hrun, inst_of_eng (instAnswers_eng ..), inst_setInst_same]

/-- A running context as a fault leaves it. -/
def faulted (s : State) (i code desc : Nat) : State :=
  (s.stopInst i).setInst i (fun c => { c with state := 3, fault := code, fdesc := desc })

theorem instFault_eng {s : State} {i : Nat} (hrun : s.running i = true) (code desc : Nat) :
    (s.instFault i code desc).eng = (faulted s i code desc).eng := by
  rw [State.instFault, if_pos hrun]
  exact (instAnswers_eng ..).trans (fault_eng ..)

/-- R285: a fault leaves a running context FAULTED, with its cause and its descriptor. -/
theorem instFault_shows {s : State} {i : Nat} (hrun : s.running i = true) (code desc : Nat) :
    ((s.instFault i code desc).inst i).state = 3 ∧ ((s.instFault i code desc).inst i).fault = code ∧
      ((s.instFault i code desc).inst i).fdesc = desc := by
  have hinst : (s.instFault i code desc).inst i = { (s.stopInst i).inst i with state := 3, fault := code, fdesc := desc } :=
    (inst_of_eng (instFault_eng hrun code desc) i).trans (inst_setInst_same ..)
  simp only [hinst, and_self]

theorem setInst_xfe (s : State) (i : Nat) (g : Inst → Inst) : (s.setInst i g).eng.xfe = s.eng.xfe := rfl

theorem stopInst_xfe (s : State) (i : Nat) : (s.stopInst i).eng.xfe =
    s.eng.xfe.filter (fun x => !(s.inst i).jobs.contains x.job || (s.runningJobs i).contains x.job) := by
  simp only [State.stopInst]
  rw [(idleAll_kept _ _).2]
  rfl

/-- R285: of the packets that await an answer a fault takes those of the context away, and adds none. -/
theorem mem_xfe_of_instFault {s : State} {i code desc : Nat} {y : XReq} (hrun : s.running i = true)
    (h : y ∈ (s.instFault i code desc).eng.xfe) : y ∈ s.eng.xfe := by
  rw [instFault_eng hrun, faulted, setInst_xfe, stopInst_xfe] at h
  exact (List.mem_filter.mp h).1

/-- R276: a signal adds 1 to a counter of a running context. -/
theorem inst_signal {s : State} {i : Nat} (hrun : s.running i = true) (c : Nat) : (s.signal i c).inst i =
    { s.inst i with ctr := (s.inst i).ctr.set c ((nthD (s.inst i).ctr c 0 + 1) % 2 ^ 16) } := by
  rw [State.signal, if_pos hrun, inst_setInst_same]

/-! ENG_INST_CMD (R243, R266, R267). -/

/-- ENG_INST_CMD shows the command taken. -/
def instCmdShown (s : State) (op i : Nat) : State := (s.wr .engInstCmd_op 0 op).wr .engInstCmd_inst 0 i

/-- A command's RESULT is shown once its operation has acted. -/
theorem instCmd_shows {s t : State} {op i v : Nat} {g : State → State × Nat} (h : g (instCmdShown s op i) = (t, v))
    (hv : v < 16 := by decide) : (s.instCmd op i g).rd .engInstCmd_result 0 = v ∧ (s.instCmd op i g).eng = t.eng := by
  have hcmd : s.instCmd op i g = t.wr .engInstCmd_result 0 v :=
    congrArg (fun r : State × Nat => r.1.wr .engInstCmd_result 0 r.2) h
  rw [hcmd]
  exact ⟨(rd_wr_same ..).trans (Nat.mod_eq_of_lt hv), rfl⟩

theorem instCmd_inst {s t : State} {op i v : Nat} {g : State → State × Nat} (h : g (instCmdShown s op i) = (t, v))
    (hv : v < 16 := by decide) : (s.instCmd op i g).rd .engInstCmd_result 0 = v ∧ ∀ j, (s.instCmd op i g).inst j = t.inst j := by
  obtain ⟨hresult, heng⟩ := instCmd_shows h hv
  exact ⟨hresult, inst_of_eng heng⟩

/-- An operation that only answers. -/
theorem instCmd_answers {s : State} {op i v : Nat} {g : State → State × Nat} (h : g (instCmdShown s op i) = (instCmdShown s op i, v))
    (hv : v < 16 := by decide) : (s.instCmd op i g).rd .engInstCmd_result 0 = v ∧ (s.instCmd op i g).eng = s.eng :=
  instCmd_shows (t := instCmdShown s op i) h hv

theorem rd_instCmdShown (s : State) (op i : Nat) {f : Fld} (hf : f ∉ [Fld.engInstCmd_op, Fld.engInstCmd_inst]) (j : Nat) :
    (instCmdShown s op i).rd f j = s.rd f j := by
  simp only [List.mem_cons, List.not_mem_nil, or_false, not_or] at hf
  rw [instCmdShown, rd_wr_other _ _ (.inl hf.2), rd_wr_other _ _ (.inl hf.1)]

theorem hostFirst_instCmdShown (s : State) (op i : Nat) : (instCmdShown s op i).hostFirst = s.hostFirst := by
  rw [State.hostFirst, rd_instCmdShown _ _ _ (by decide), State.hostFirst]

/-- A context that START has begun (R266). -/
def instBegun (s : State) (i : Nat) : Inst :=
  { Inst.init with
    state := 1, region := s.rd .engInstHead_region 0, next := s.rd .engInstHead_head 0 / 64 * 64,
    mode := s.rd .engInstHead_mode 0, starts := (s.inst i).starts + 1, t0 := s.now }

section Start
variable {s : State} {i : Nat}

/-- R267: START names no context that is not reserved for the lease owner. -/
theorem doInstStart_program (h : i < s.hostFirst) : s.doInstStart i = (s, 2) := by
  rw [State.doInstStart, if_pos h]

theorem doInstStart_running (hhost : s.hostFirst ≤ i) (hrun : s.running i = true) : s.doInstStart i = (s, 1) := by
  rw [State.doInstStart, if_neg (Nat.not_lt.mpr hhost), if_pos hrun]

/-- R266: START begins the context at the head that ENG_INST_HEAD gives. -/
theorem doInstStart_begins (hhost : s.hostFirst ≤ i) (hidle : s.running i = false) : s.doInstStart i =
    ((s.setInst i (fun _ => instBegun s i)).wakeRegion (s.rd .engInstHead_region 0), 0) := by
  rw [State.doInstStart, if_neg (Nat.not_lt.mpr hhost), hidle]
  rfl

/-- R267: with no earlier BAR2 write waiting, START acts at once. -/
theorem startCmd_acts {src : Src} (h : (srcFn src).any (fun f => s.bar2Waits f s.pwr.nextBar2) = false) :
    s.startCmd src i = s.instCmd 0 i (fun s => s.doInstStart i) := by
  rw [State.startCmd]
  cases hfn : srcFn src with
  | none => rfl
  | some f =>
    rw [hfn] at h
    exact if_neg (by simpa using h)

/-- R267: otherwise START waits. -/
theorem startCmd_waits {src : Src} (h : (srcFn src).any (fun f => s.bar2Waits f s.pwr.nextBar2) = true) : s.startCmd src i =
    ((instCmdShown s 0 i).wr .engInstCmd_start 0 1).onEng
      (fun w => { w with startReq := (srcFn src).map (fun f => (f, s.pwr.nextBar2)) }) := by
  rw [State.startCmd]
  cases hfn : srcFn src with
  | none => simp [hfn] at h
  | some f =>
    rw [hfn] at h
    exact if_pos h

theorem instStart_program (hhost : i < s.hostFirst) : (s.instCmd 0 i (fun s => s.doInstStart i)).rd .engInstCmd_result 0 = 2 ∧
    (s.instCmd 0 i (fun s => s.doInstStart i)).eng = s.eng := by
  rw [← hostFirst_instCmdShown s 0 i] at hhost
  exact instCmd_answers (doInstStart_program hhost)

theorem instStart_running (hhost : s.hostFirst ≤ i) (hrun : s.running i = true) :
    (s.instCmd 0 i (fun s => s.doInstStart i)).rd .engInstCmd_result 0 = 1 ∧
    (s.instCmd 0 i (fun s => s.doInstStart i)).eng = s.eng := by
  rw [← hostFirst_instCmdShown s 0 i] at hhost
  exact instCmd_answers (doInstStart_running hhost hrun)

theorem instStart_begins (hhost : s.hostFirst ≤ i) (hidle : s.running i = false) :
    (s.instCmd 0 i (fun s => s.doInstStart i)).rd .engInstCmd_result 0 = 0 ∧
    (s.instCmd 0 i (fun s => s.doInstStart i)).inst i = instBegun s i := by
  rw [← hostFirst_instCmdShown s 0 i] at hhost
  obtain ⟨hresult, hinst⟩ := instCmd_inst (g := fun s => s.doInstStart i) (doInstStart_begins hhost hidle)
  refine ⟨hresult, ?_⟩
  rw [hinst, inst_of_eng (wakeRegion_eng ..), inst_setInst_same]
  simp only [instBegun, rd_instCmdShown _ _ _ (f := .engInstHead_region) (by decide),
    rd_instCmdShown _ _ _ (f := .engInstHead_head) (by decide), rd_instCmdShown _ _ _ (f := .engInstHead_mode) (by decide)]
  rfl

/-- R267: a START that waits is shown, and remembers which BAR2 writes it waits for. -/
theorem startCmd_waiting_shows {src : Src} (hi : i < 2 ^ 12) (h : (srcFn src).any (fun f => s.bar2Waits f s.pwr.nextBar2) = true) :
    (s.startCmd src i).rd .engInstCmd_start 0 = 1 ∧ (s.startCmd src i).rd .engInstCmd_inst 0 = i ∧
    (s.startCmd src i).eng = { s.eng with startReq := (srcFn src).map (fun f => (f, s.pwr.nextBar2)) } := by
  rw [startCmd_waits h, rd_onEng, rd_onEng, rd_wr_same, rd_wr_other _ _ (.inl (by decide)), instCmdShown, rd_wr_same]
  exact ⟨rfl, Nat.mod_eq_of_lt hi, rfl⟩

end Start

section Commands
variable {s : State} {i : Nat}

/-- R285: ABORT of a running context. -/
theorem instAbort_running (hrun : s.running i = true) :
    (s.instCmd 1 i (fun s => s.doInstAbort i)).rd .engInstCmd_result 0 = 0 ∧
    ((s.instCmd 1 i (fun s => s.doInstAbort i)).inst i).state = 4 := by
  have hshown : (instCmdShown s 1 i).running i = true := hrun
  obtain ⟨hresult, hinst⟩ := instCmd_inst (g := fun s => s.doInstAbort i) (if_pos hshown)
  exact ⟨hresult, by rw [hinst, instAbort_state hshown]⟩

theorem instAbort_idle (hidle : s.running i = false) :
    (s.instCmd 1 i (fun s => s.doInstAbort i)).rd .engInstCmd_result 0 = 3 ∧ (s.instCmd 1 i (fun s => s.doInstAbort i)).eng = s.eng := by
  have hshown : (instCmdShown s 1 i).running i = false := hidle
  exact instCmd_answers (if_neg (by simp [hshown]))

/-- R276: SIGNAL of a running context. -/
theorem instSignal_running (hrun : s.running i = true) (c : Nat) :
    (s.instCmd 4 i (fun s => s.doInstSignal i c)).rd .engInstCmd_result 0 = 0 ∧
    (s.instCmd 4 i (fun s => s.doInstSignal i c)).inst i =
      { s.inst i with ctr := (s.inst i).ctr.set c ((nthD (s.inst i).ctr c 0 + 1) % 2 ^ 16) } := by
  have hshown : (instCmdShown s 4 i).running i = true := hrun
  obtain ⟨hresult, hinst⟩ := instCmd_inst (g := fun s => s.doInstSignal i c) (if_pos hshown)
  exact ⟨hresult, (hinst i).trans (inst_signal hshown c)⟩

theorem instSignal_idle (hidle : s.running i = false) (c : Nat) :
    (s.instCmd 4 i (fun s => s.doInstSignal i c)).rd .engInstCmd_result 0 = 3 ∧
    (s.instCmd 4 i (fun s => s.doInstSignal i c)).eng = s.eng := by
  have hshown : (instCmdShown s 4 i).running i = false := hidle
  exact instCmd_answers (if_neg (by simp [hshown]))

/-- R243: CLEAR_FLAGS clears the flags alone. -/
theorem instClearFlags_shows (s : State) (i : Nat) : (s.instCmd 3 i (fun s => s.doClearFlags i)).rd .engInstCmd_result 0 = 0 ∧
    (s.instCmd 3 i (fun s => s.doClearFlags i)).inst i = { s.inst i with flags := 0 } := by
  obtain ⟨hresult, hinst⟩ := instCmd_inst (s := s) (op := 3) (i := i) (g := fun s => s.doClearFlags i) rfl
  exact ⟨hresult, (hinst i).trans (inst_setInst_same ..)⟩

/-- The state, the fault and the flags of a context stand in ENG_INST_STATUS. -/
def instStatusShown (s : State) (c : Inst) : State :=
  ((s.wr .engInstStatus_state 0 c.state).wr .engInstStatus_fault 0 c.fault).wr .engInstStatus_flags 0 c.flags

theorem instStatusShown_shows (s : State) (c : Inst) :
    (instStatusShown s c).rd .engInstStatus_state 0 = c.state % 2 ^ Fld.engInstStatus_state.width ∧
    (instStatusShown s c).rd .engInstStatus_fault 0 = c.fault % 2 ^ Fld.engInstStatus_fault.width ∧
    (instStatusShown s c).rd .engInstStatus_flags 0 = c.flags % 2 ^ Fld.engInstStatus_flags.width := by
  simp only [instStatusShown, rd_wr, reduceCtorEq, false_and, if_false, if_true, and_self]

/-- The rest that READ fills: the descriptor and the counters. -/
def readFields : List Fld := [.engInstStatus_desc, .engInstEvt_even, .engInstEvt_odd]

theorem doInstRead_stores (s : State) (i : Nat) : Stores [.regs] readFields (instStatusShown s (s.inst i)) (s.doInstRead i).1 := by
  simp only [State.doInstRead]
  exact ((Stores.refl _ _ _).wr _ _ (by decide)).foldl (fun _ _ h => (h.wr _ _ (by decide)).wr _ _ (by decide)) _

/-- R266: READ shows the context. -/
theorem instRead_shows (s : State) (i : Nat) : (s.instCmd 2 i (fun s => s.doInstRead i)).rd .engInstCmd_result 0 = 0 ∧
    (s.instCmd 2 i (fun s => s.doInstRead i)).eng = s.eng ∧
    (s.instCmd 2 i (fun s => s.doInstRead i)).rd .engInstStatus_state 0 = (s.inst i).state % 2 ^ Fld.engInstStatus_state.width ∧
    (s.instCmd 2 i (fun s => s.doInstRead i)).rd .engInstStatus_fault 0 = (s.inst i).fault % 2 ^ Fld.engInstStatus_fault.width ∧
    (s.instCmd 2 i (fun s => s.doInstRead i)).rd .engInstStatus_flags 0 = (s.inst i).flags % 2 ^ Fld.engInstStatus_flags.width := by
  have hstored := doInstRead_stores (instCmdShown s 2 i) i
  obtain ⟨hstate, hfault, hflags⟩ := instStatusShown_shows (instCmdShown s 2 i) (s.inst i)
  obtain ⟨hresult, heng⟩ := instCmd_shows (s := s) (op := 2) (i := i) (g := fun s => s.doInstRead i) rfl
  have hfield : ∀ f ∉ Fld.engInstCmd_result :: readFields,
      (s.instCmd 2 i (fun s => s.doInstRead i)).rd f 0 = (instStatusShown (instCmdShown s 2 i) (s.inst i)).rd f 0 := fun f hf => by
    obtain ⟨hother, hread⟩ := not_or.mp (mt List.mem_cons.mpr hf)
    exact (rd_wr_other _ _ (.inl hother)).trans (hstored.regs f 0 hread)
  exact ⟨hresult, heng.trans (hstored.parts.2 .eng (by decide)), (hfield _ (by decide)).trans hstate,
    (hfield _ (by decide)).trans hfault, (hfield _ (by decide)).trans hflags⟩

end Commands

/-! The dispatcher takes a descriptor (R269, R275, R276, R280). -/

/-- An access to the stack that holds a descriptor does not bear on the descriptor's faults. -/
theorem descFault_hbmAccess (s : State) (a i : Nat) (w : List Nat) : (s.hbmAccess a).descFault i w = s.descFault i w := by
  rw [State.hbmAccess]
  split <;> rfl

theorem running_of_mayIssue {s : State} {i : Nat} (h : s.mayIssue i = true) : s.running i = true ∧ (s.inst i).ended = false := by
  simp only [State.mayIssue, Bool.and_eq_true, Bool.not_eq_true'] at h
  exact ⟨h.1.1.1, h.1.1.2⟩

/-- The state in which a fetched descriptor acts. -/
def fetched (s : State) (i : Nat) : State := s.hbmAccess (s.inst i).next

theorem fetched_eng (s : State) (i : Nat) : (fetched s i).eng = s.eng := hbmAccess_eng ..

theorem inst_fetched (s : State) (i j : Nat) : (fetched s i).inst j = s.inst j := inst_of_eng (fetched_eng s i) j

section Issue
variable {s : State} {i : Nat} {w : List Nat}

/-- R275: of a context that may issue, the descriptor that can be fetched waits, faults or issues. -/
theorem doDescriptorIssue_eq (hon : s.off = false) (hmay : s.mayIssue i = true) (hgrp : s.instGrp i = none)
    (hawake : s.rd .pwrRegionStatus_state (s.inst i).region = 0) (hfetch : s.fetchFault i = 0)
    (hmem : (rangeRegions (s.inst i).next 64).any (fun k => s.rd .pwrRegionStatus_state k != 0) = false)
    (hw : w = descWords s.eng.mem (s.inst i).next) : doDescriptorIssue i s =
      if waitMet (s.inst i) w then
        if s.descFault i w = 0 then (fetched s i).issue i w else (fetched s i).instFault i (s.descFault i w) (s.inst i).next
      else fetched s i := by
  have hissue : doDescriptorIssue i s = s.issueNext i := by
    simp [doDescriptorIssue, hon, hmay, hgrp, hawake]
  rw [hissue, State.issueNext]
  simp only [hfetch, hmem, ← hw, ne_eq, not_true_eq_false, if_false, Bool.false_eq_true, descFault_hbmAccess]
  cases waitMet (s.inst i) w
  · rfl
  · simp only [Bool.not_true, Bool.false_eq_true, if_false, if_true, ite_not]
    rfl

/-- R269: SET_MODE completes as it issues, and the list goes on. -/
theorem issue_setMode (hkind : dKind w = 0xF) (hop : dOp w = 0xF1) (hend : dEnd w = false) (hsig : dSigEn w = false)
    (hopen : (s.inst i).ended = false) : (s.issue i w).eng.jobs = s.eng.jobs ∧
      (s.issue i w).inst i = { s.inst i with next := dNext w, mode := bits (dArg2 w) 0 8 } := by
  have hset : s.issue i w = ((s.setInst i (fun c => { c with mode := bits (dArg2 w) 0 8 })).advance i w).instDone? i := by
    rw [State.issue, if_pos (.inl hkind), State.ctlEffect, hop, hsig]
    rfl
  have hinst : ((s.setInst i (fun c => { c with mode := bits (dArg2 w) 0 8 })).advance i w).inst i =
      { s.inst i with next := dNext w, mode := bits (dArg2 w) 0 8 } := by
    rw [State.advance, inst_setInst_same, inst_setInst_same, hend]
    rfl
  have hgoes : ¬ (((s.setInst i (fun c => { c with mode := bits (dArg2 w) 0 8 })).advance i w).inst i).ended = true := by
    rw [hinst]
    simp [hopen]
  rw [hset, State.instDone?, if_neg (fun h => hgoes h.2.1)]
  exact ⟨rfl, hinst⟩

/-- A descriptor that opcode and kind agree on. -/
theorem dKind_of_descFault (h : s.descFault i w = 0) : dKind w = dOp w / 16 := by
  by_contra hne
  rw [State.descFault, if_pos (.inl hne)] at h
  exact absurd h (by decide)

/-- The job that a descriptor becomes as it is cut into tiles (R279, R280). -/
def jobOf (s : State) (i : Nat) (w : List Nat) : Job :=
  { inst := i, addr := (s.inst i).next, words := w, mode := (s.inst i).mode, left := tilesOf w,
    wait := (tilesOf w).map (fun (t : Nat × Nat) => Tile.mk s.eng.nextJob t.1 t.2 (homeRegion (s.inst i).region w)), accs := [],
    todo := dM w, sent := 0, router := none }

/-- The job stands among those in progress, and the list of its context goes on. -/
def jobIssued (s : State) (i : Nat) (w : List Nat) : State :=
  ((s.onEng (fun e => { e with jobs := kput e.jobs s.eng.nextJob (jobOf s i w), nextJob := s.eng.nextJob + 1 })).setInst i
    (fun c => { c with jobs := c.jobs ++ [s.eng.nextJob] })).advance i w

theorem issue_cuts (hkind : dKind w ≠ 0xF) (hshape : shapeZero w = false) :
    s.issue i w = (jobIssued s i w).pumpJob s.eng.nextJob := by
  rw [State.issue, if_neg (by simp [hkind, hshape])]
  rfl

/-- R280: queueing the tiles of a job leaves the contexts, and of the job all but what waits. -/
theorem pumpJob_shows {j : Nat} {b : Job} (hjob : kget s.eng.jobs j = some b) :
    (s.pumpJob j).eng.inst = s.eng.inst ∧ ∃ wait, kget (s.pumpJob j).eng.jobs j = some { b with wait := wait } := by
  simp only [State.pumpJob, hjob, onEng_eng]
  refine ⟨?_, _, kget_kput_same ..⟩
  refine (EngKept.foldl_fst (.refl Eng.inst s) (fun x t h => ?_) _).eq
  split
  · exact (h.onEng _).wakeRegion _
  · exact h

theorem advance_jobs (s : State) (i : Nat) (w : List Nat) : ((s.advance i w).inst i).jobs = (s.inst i).jobs := by
  rw [State.advance, inst_setInst_same]
  split <;> rfl

/-- R279: a descriptor that does not complete at issue becomes a job of its context. -/
theorem issue_job (hkind : dKind w ≠ 0xF) (hshape : shapeZero w = false) :
    ((s.issue i w).inst i).jobs = (s.inst i).jobs ++ [s.eng.nextJob] ∧
      (kget (s.issue i w).eng.jobs s.eng.nextJob).map (fun b => (b.inst, b.words, b.mode, b.left)) =
        some (i, w, (s.inst i).mode, tilesOf w) := by
  obtain ⟨hinst, wait, hjob⟩ := pumpJob_shows (s := jobIssued s i w) (j := s.eng.nextJob) (b := jobOf s i w) (kget_kput_same ..)
  rw [issue_cuts hkind hshape, hjob]
  refine ⟨?_, rfl⟩
  have hcontext : ((jobIssued s i w).pumpJob s.eng.nextJob).inst i = (jobIssued s i w).inst i := by
    simp only [State.inst, hinst]
  rw [hcontext, jobIssued, advance_jobs, inst_setInst_same]
  rfl

/-! Each of the four ways that the dispatcher may go (R269, R276, R279). -/

section Dispatch
variable (hon : s.off = false) (hmay : s.mayIssue i = true) (hgrp : s.instGrp i = none)
variable (hawake : s.rd .pwrRegionStatus_state (s.inst i).region = 0) (hfetch : s.fetchFault i = 0)
variable (hmem : (rangeRegions (s.inst i).next 64).any (fun k => s.rd .pwrRegionStatus_state k != 0) = false)
variable (hw : w = descWords s.eng.mem (s.inst i).next)
include hon hmay hgrp hawake hfetch hmem hw

theorem doDescriptorIssue_waits (hwait : waitMet (s.inst i) w = false) : (doDescriptorIssue i s).eng = s.eng := by
  rw [doDescriptorIssue_eq hon hmay hgrp hawake hfetch hmem hw, if_neg (by simp [hwait]), fetched_eng]

theorem doDescriptorIssue_faults (hmet : waitMet (s.inst i) w = true) (hfault : s.descFault i w ≠ 0) :
    ((doDescriptorIssue i s).inst i).state = 3 ∧ ((doDescriptorIssue i s).inst i).fault = s.descFault i w ∧
      ((doDescriptorIssue i s).inst i).fdesc = (s.inst i).next := by
  have hrun : (fetched s i).running i = true := by
    rw [State.running, inst_fetched]
    exact (running_of_mayIssue hmay).1
  rw [doDescriptorIssue_eq hon hmay hgrp hawake hfetch hmem hw, if_pos hmet, if_neg hfault]
  exact instFault_shows hrun _ _

theorem doDescriptorIssue_setMode (hmet : waitMet (s.inst i) w = true) (hfault : s.descFault i w = 0) (hop : dOp w = 0xF1)
    (hend : dEnd w = false) (hsig : dSigEn w = false) : (doDescriptorIssue i s).eng.jobs = s.eng.jobs ∧
      (doDescriptorIssue i s).inst i = { s.inst i with next := dNext w, mode := bits (dArg2 w) 0 8 } := by
  have hkind : dKind w = 0xF := by rw [dKind_of_descFault hfault, hop]
  have hopen : ((fetched s i).inst i).ended = false := by rw [inst_fetched]; exact (running_of_mayIssue hmay).2
  have hset := issue_setMode hkind hop hend hsig hopen
  rw [fetched_eng, inst_fetched] at hset
  rwa [doDescriptorIssue_eq hon hmay hgrp hawake hfetch hmem hw, if_pos hmet, if_pos hfault]

theorem doDescriptorIssue_job (hmet : waitMet (s.inst i) w = true) (hfault : s.descFault i w = 0) (hkind : dKind w ≠ 0xF)
    (hshape : shapeZero w = false) : ((doDescriptorIssue i s).inst i).jobs = (s.inst i).jobs ++ [s.eng.nextJob] ∧
      (kget (doDescriptorIssue i s).eng.jobs s.eng.nextJob).map (fun b => (b.inst, b.words, b.mode, b.left)) =
        some (i, w, (s.inst i).mode, tilesOf w) := by
  have hissued := issue_job (s := fetched s i) (i := i) hkind hshape
  rw [fetched_eng, inst_fetched] at hissued
  rwa [doDescriptorIssue_eq hon hmay hgrp hawake hfetch hmem hw, if_pos hmet, if_pos hfault]

end Dispatch
end Issue
end Sys2Proof.Proofs

/-! The tiles of the engines: taken, stolen and ended; the packets of an XFE resent (R243, R273, R276, R280, R281). -/

namespace Sys2Proof.Proofs
open Sys2Proof Sys2Proof.Machine Sys2Proof.Laws

/-! A tile starts (R281, R283). -/

/-- The run that a tile becomes on an engine. -/
def runOf (s : State) (e : EngId) (x : Tile) (cut : Bool) (b : Job) : Run :=
  ⟨x, cut, match e with
    | .cve _ => some (CvtRun.mk (dStream b.words) (s.storedReg .cvtScfg (dStream b.words))
        (s.scaleRule (dStream b.words) (s.storedReg .cvtScfg (dStream b.words)) (opC b.words).fmt.el).1
        (s.rd .cvtEscCfg_base (dStream b.words)) (s.rd .cvtEscCfg_cap (dStream b.words)) (sget 0 s.eng.escSeq (dStream b.words)))
    | _ => none⟩

/-- The regions that a run reaches into begin to wake. -/
def regionsWoken (s : State) (e : EngId) (r : Run) (b : Job) : State := (s.asleep e r b).foldl State.wakeRegion s

/-- The run stands on its engine, and the regions and stacks that it reaches into are awake or waking. -/
def runBegun (s : State) (e : EngId) (r : Run) (b : Job) : State :=
  (((regionsWoken s e r b).tileRanges e r b).foldl (fun s x => s.hbmAccess x.1) (regionsWoken s e r b)).onEng
    (fun w => { w with run := kput w.run e.num r })

/-- What follows leaves the run on its engine. -/
theorem startTile_kept {s : State} {x : Tile} {b : Job} (hjob : kget s.eng.jobs x.job = some b) (e : EngId) (cut : Bool) :
    EngKept Eng.run (runBegun s e (runOf s e x cut b) b) (s.startTile e x cut) := by
  have hbusy := (EngKept.refl Eng.run (runBegun s e (runOf s e x cut b) b)).streamBusy (dStream b.words)
  simp only [State.startTile, hjob]
  refine EngKept.pump ?_
  cases e with
  | xfe k => exact .ite ((hbusy ..).replyStart ..) ((hbusy ..).xfeStart ..)
  | ate k => exact (hbusy ..).ateStart _
  | _ => exact hbusy ..

/-- A tile that starts is the one that runs. -/
theorem startTile_runs {s : State} {x : Tile} {b : Job} (hjob : kget s.eng.jobs x.job = some b) (e : EngId) (cut : Bool) :
    (kget (s.startTile e x cut).eng.run e.num).map (·.tile) = some x := by
  rw [(startTile_kept hjob e cut).eq]
  exact congrArg (Option.map Run.tile) (kget_kput_same ..)

theorem startHead_runs {s : State} {e : EngId} {x : Tile} {rest : List Tile} {b : Job} (hq : s.tq e.queue = x :: rest)
    (hmay : s.mayBegin e x = true) (hjob : kget s.eng.jobs x.job = some b) :
    (kget (s.startHead e).eng.run e.num).map (·.tile) = some x := by
  have hjob' : kget (s.setTq e.queue rest).eng.jobs x.job = some b := hjob
  rw [State.startHead, hq]
  simp only [hmay, if_true]
  exact startTile_runs hjob' e false

/-- R281: an idle engine whose queue is not empty starts the head of it. -/
theorem seek_own {s : State} {e : EngId} {x : Tile} {rest : List Tile} (hfree : s.engineFree e = true)
    (hready : ∀ c, e.block? = some c → s.blockReady c = true) (hq : s.tq e.queue = x :: rest) : s.seek e = s.startHead e := by
  cases hblock : e.block? with
  | none => simp only [State.seek, hfree, hblock, Bool.not_true, Bool.false_eq_true, if_false]
  | some c => simp [State.seek, hfree, hblock, hq, hready c hblock]

/-- The later half of a sibling's queue stands in the queue of the block that takes it, which leaves C1 (R281). -/
def stolen (s : State) (q c : Nat) : State :=
  (((s.setTq q ((s.tq q).take ((s.tq q).length - ((s.tq q).length + 1) / 2))).setTq c
    ((s.tq q).drop ((s.tq q).length - ((s.tq q).length + 1) / 2)))).wr .pwrRegionStatus_c1 (c / 8)
      (clearMask (s.rd .pwrRegionStatus_c1 (c / 8)) (2 ^ (c % 8)))

theorem tq_setTq_same (s : State) (q : Nat) (l : List Tile) : (s.setTq q l).tq q = l := by
  cases l <;> simp [State.tq, State.setTq]

/-- R281: an idle MXE whose own queue is empty takes half the queue of the sibling with the longest. -/
theorem seek_steals {s : State} {n : Fin 512} {q : Nat} (hfree : s.engineFree (.mxe n) = true) (hown : s.tq (n.val / 8) = [])
    (hawake : bitAt (s.rd .pwrRegionStatus_c2 (n.val / 8 / 8)) (n.val / 8 % 8) = false) (hgrant : s.rd .pwrCbGrant_grant (n.val / 8) ≠ 0)
    (hsib : s.flag .engStealCfg_sibEn 0 = true) (hvictim : s.victim 0 (n.val / 8 / 8) (n.val / 8) = some q) (hsome : s.tq q ≠ []) :
    s.seek (.mxe n) = (stolen s q (n.val / 8)).startHead (.mxe n) := by
  have hsteal : s.seek (.mxe n) = s.steal (.mxe n) 0 (n.val / 8) := by
    simp [State.seek, hfree, EngId.block?, EngId.queue, hown, hawake, hgrant]
  have hqueue : (s.victim 0 (n.val / 8 / 8) (n.val / 8)).bind (fun q => if (s.tq q).isEmpty then none else some q) = some q := by
    simp [hvictim, hsome]
  rw [hsteal, State.steal]
  simp only [hsib, if_true, hqueue, Nat.mul_zero, Nat.zero_add]
  rfl

/-! A tile ends (R276). -/

theorem engineEnds_eng (s : State) (e : EngId) (r : Run) : (s.engineEnds e r).eng = { s.eng with run := kdel s.eng.run e.num } := by
  simp only [State.engineEnds]
  split <;> split <;> simp only [(idleC1_kept _ _).2, wr_eng, onEng_eng]

theorem tileDone_eq {s : State} {e : EngId} {r : Run} {b : Job} (hrun : kget s.eng.run e.num = some r)
    (hjob : kget s.eng.jobs r.tile.job = some b) :
    s.tileDone e = if s.tileEnds e r b then ((s.engineEnds e r).tileWork e r b).jobDone? r.tile.job else s := by
  rw [State.tileDone, hrun]
  simp only [hjob]

/-- R276: the engine of a tile that has ended is free. -/
theorem tileEnded_free (s : State) (e : EngId) (r : Run) (b : Job) :
    kget (((s.engineEnds e r).tileWork e r b).jobDone? r.tile.job).eng.run e.num = none := by
  rw [(((EngKept.refl Eng.run (s.engineEnds e r)).tileWork e r b).jobDone? jobBlind_run _).eq, engineEnds_eng]
  exact kget_kdel_same ..

/-- A descriptor that completes is no longer in progress. -/
theorem jobDone_gone (s : State) (j : Nat) : kget (s.jobDone j).eng.jobs j = none := by
  cases hjob : kget s.eng.jobs j with
  | none => rw [jobDone_of_none hjob, hjob]
  | some b =>
    have hjobs : InstBlind Eng.jobs := fun _ _ => rfl
    have hended : kget (jobEnded s j b).eng.jobs j = none := by
      have hstep : EngKept Eng.jobs (s.onEng (fun w => { w with jobs := kdel w.jobs j, xfe := w.xfe.filter (fun x => x.job != j) }))
          (jobEnded s j b) := (EngKept.refl _ _).when (fun _ h => h.onEng _) _
      rw [hstep.eq]
      exact kget_kdel_same ..
    rw [jobDone_eq hjob]
    split
    · rwa [(((EngKept.refl Eng.jobs (jobEnded s j b)).jobSignalled hjobs j b).instDone? hjobs b.inst).eq]
    · exact hended

/-- R276: a descriptor completes with the last of its tiles. -/
theorem tileLeft_last {s : State} {x : Tile} {b : Job} (hjob : kget s.eng.jobs x.job = some b) (hlast : b.left = [(x.num, x.part)]) :
    kget ((s.tileLeft x.job x).jobDone? x.job).eng.jobs x.job = none := by
  have hleft : kget (s.tileLeft x.job x).eng.jobs x.job = some { b with left := [] } := by
    rw [State.tileLeft, hjob]
    simp [hlast]
  rw [State.jobDone?, hleft]
  simp only [List.isEmpty_nil, Bool.true_or, if_true]
  exact jobDone_gone ..

/-- The opcodes of the XFE and the ATE, whose tile has no work left at its end. -/
theorem tileWork_transfer {b : Job} (hop : dOp b.words ∈ [0x60, 0x61, 0x62, 0x63, 0x70]) (s : State) (e : EngId) (r : Run) :
    s.tileWork e r b = s.tileLeft r.tile.job r.tile := by
  simp only [List.mem_cons, List.not_mem_nil, or_false] at hop
  rcases hop with hop | hop | hop | hop | hop <;> simp only [State.tileWork, hop]

/-! A row of a VXE's results (R248, R270). -/

/-- Bytes read where they were just written. -/
theorem bytesAt_putBytes (m : SMap) (a : Nat) (bs : List Byte) : bytesAt 0 (putBytes 0 m a bs) a bs.length = bs := by
  induction bs generalizing m a with
  | nil => rfl
  | cons b bs ih =>
    have hfirst : sget 0 (putBytes 0 (sset 0 m a b.toNat) (a + 1) bs) a = b.toNat := by
      rw [sget_putBytes_outside _ _ _ (.inl (by omega)), sget_sset_same]
    rw [putBytes, List.length_cons, bytesAt, hfirst, ih, BitVec.ofNat_toNat, BitVec.setWidth_eq]

theorem putResults_mem (s : State) (e : EngId) (i a : Nat) (el : Elem) (cs : List Conv) :
    EngKept Eng.mem (s.memPut a (packBytes el (cs.map (fun c => c.code)))) (s.putResults e i a el cs) := by
  have hflags := (EngKept.refl Eng.mem (s.memPut a (packBytes el (cs.map (fun c => c.code))))).setFlags jobBlind_mem.inst i (convFlags cs)
  cases e with
  | mxe x | vxe x => exact .ite hflags (hflags.bumpN ..)
  | _ => exact hflags

/-- The bytes of a row of results. -/
def rowBytes (mode : Nat) (o : Opnd) (vs : List Flagged) : List Byte :=
  packBytes o.fmt.el (vs.map (fun v => (convOut o.fmt.el mode .rne v.1).code))

/-- R243: a row of results is written from its first column on. -/
theorem putRow_mem (s : State) (e : EngId) (i mode : Nat) (o : Opnd) (r : Nat) (vs : List Flagged) :
    (s.putRow e i mode o r 0 vs).eng.mem = putBytes 0 s.eng.mem (o.row r) (rowBytes mode o vs) := by
  have hput := putResults_mem (s.setFlags i (flagsOf vs)) e i (o.row r + 0 * o.fmt.el.size) o.fmt.el
    (vs.map (fun v => convOut o.fmt.el mode .rne v.1))
  have hflags := (EngKept.refl Eng.mem s).setFlags jobBlind_mem.inst i (flagsOf vs)
  rw [State.putRow, hput.eq, State.memPut, onEng_eng, hflags.eq, List.map_map, Nat.zero_mul, Nat.add_zero]
  rfl

/-- The opcodes of a VXE, whose tile writes its rows. -/
theorem tileWork_rows {b : Job} (hop : dOp b.words ∈ [0x10, 0x11, 0x12, 0x13]) (s : State) (e : EngId) (r : Run) : s.tileWork e r b =
    ((tileRows b.words r.tile).foldl (fun s x => s.putRow e b.inst b.mode (opC b.words) x 0 (vxeRow s.eng.mem b.mode b.words x)) s).tileLeft
      r.tile.job r.tile := by
  simp only [List.mem_cons, List.not_mem_nil, or_false] at hop
  rcases hop with hop | hop | hop | hop <;> simp only [State.tileWork, hop]

/-- R270: the row that a tile of one row has computed stands in its place once the tile has ended. -/
theorem tileEnded_row {b : Job} {r : Run} {x : Nat} (hop : dOp b.words ∈ [0x10, 0x11, 0x12, 0x13])
    (hrow : tileRows b.words r.tile = [x]) (s : State) (e : EngId) :
    (((s.engineEnds e r).tileWork e r b).jobDone? r.tile.job).memGet ((opC b.words).row x)
      (rowBytes b.mode (opC b.words) (vxeRow s.eng.mem b.mode b.words x)).length =
        rowBytes b.mode (opC b.words) (vxeRow s.eng.mem b.mode b.words x) := by
  rw [tileWork_rows hop, hrow, List.foldl_cons, List.foldl_nil, State.memGet,
    (((EngKept.refl Eng.mem _).tileLeft jobBlind_mem _ _).jobDone? jobBlind_mem _).eq, putRow_mem, engineEnds_eng]
  exact bytesAt_putBytes ..

/-! A packet of the XFE without an answer (R273). -/

/-- The packet as it is resent. -/
def resent (s : State) (x : XReq) : XReq :=
  { x with pkt := { x.pkt with hops := BitVec.ofNat 6 s.hopsInit }, resends := x.resends + 1, got := 0, sentAt := s.tb.mono }

theorem exec_xfeRetryTimeout {s : State} {k : Fin 8} {psn : BitVec 24} {x : XReq}
    (hfind : s.eng.xfe.find? (fun x => x.k == k.val && x.psn == psn.toNat) = some x) :
    exec (.xfeRetryTimeout k psn) s = settle s (if x.sentAt + s.xfeRetryNs ≤ s.tb.mono then s.xfeRetry x else s) := by
  show execXfeRetryTimeout k psn s = _
  rw [execXfeRetryTimeout, hfind]
  simp only [State.when, decide_eq_true_eq]

section Retry
variable {s : State} {x : XReq} {b : Job}
variable (hjob : kget s.eng.jobs x.job = some b)
include hjob

/-- R273: while RETRIES is not reached the packet is sent again, with the HOPS_INIT in force. -/
theorem xfeRetry_resends (h : x.resends < s.rd .engXfeCfg_retries 0) :
    (s.xfeRetry x).eng.xfe = s.eng.xfe.map (fun z => if z = x then resent s x else z) := by
  rw [State.xfeRetry, hjob]
  simp only [if_neg (Nat.not_le.mpr h)]
  exact ((EngKept.refl Eng.xfe _).originate ..).eq

/-- R273: after RETRIES resends the context faults, and no packet of the descriptor awaits an answer. -/
theorem xfeRetry_faults (h : s.rd .engXfeCfg_retries 0 ≤ x.resends) (hrun : s.running b.inst = true) :
    ((s.xfeRetry x).inst b.inst).state = 3 ∧ ((s.xfeRetry x).inst b.inst).fault = 7 ∧
      ∀ y ∈ (s.xfeRetry x).eng.xfe, y.job ≠ x.job := by
  have hdropped : (s.onEng (fun e => { e with xfe := e.xfe.filter (fun y => y.job != x.job) })).running b.inst = true := hrun
  have hlost : (s.xfeRetry x).eng =
      ((s.onEng (fun e => { e with xfe := e.xfe.filter (fun y => y.job != x.job) })).instFault b.inst 7 b.addr).eng := by
    rw [State.xfeRetry, hjob]
    simp only [if_pos h]
    exact ((EngKept.refl id _).when (fun _ h => h.requestLost _) _).eq
  obtain ⟨hstate, hfault, -⟩ := instFault_shows hdropped 7 b.addr
  rw [inst_of_eng hlost, hlost]
  refine ⟨hstate, hfault, fun y hy => ?_⟩
  have hleft := mem_xfe_of_instFault hdropped hy
  simp only [onEng_eng, List.mem_filter, bne_iff_ne] at hleft
  exact hleft.2

end Retry

/-! The obligation. -/

/-- Settles O51: ENG_INST_CMD, the issue of a descriptor, the start and the end of a tile, and the retry of a packet, each by the rule
above for its case. -/
theorem instancesRunTheirDescriptors : Obligations.InstancesRunTheirDescriptors := by
  refine ⟨?commands, ?issue, ?seek, ?steal, ?ends, ?retry⟩
  case commands =>
    rintro src inst s u hacc rfl
    have hwrite := fun g => onWrite_of_accepts hacc g
    refine ⟨fun hclear => ?starts, fun hwaits => ?waits, fun hrun => ?running, fun hidle => ?idle, ?read, ?clear⟩
    case starts =>
      have hstart := (hwrite (fun s => s.startCmd src inst.toNat)).trans (startCmd_acts hclear)
      exact ⟨fun hprogram => completes_of_effect rfl hstart (instStart_program hprogram),
        fun hhost hrun => completes_of_effect rfl hstart (instStart_running hhost hrun),
        fun hhost hidle => completes_of_effect rfl hstart (instStart_begins hhost hidle)⟩
    case waits => exact completes_of_effect rfl (hwrite _) (startCmd_waiting_shows inst.isLt hwaits)
    case running =>
      exact ⟨completes_of_effect rfl (hwrite _) (instAbort_running hrun),
        fun ctr => completes_of_effect rfl (hwrite _) (instSignal_running (s := State.wr _ .engInstCmd_ctr 0 ctr.toNat) hrun ctr.toNat)⟩
    case idle =>
      exact ⟨completes_of_effect rfl (hwrite _) (instAbort_idle hidle),
        fun ctr => completes_of_effect rfl (hwrite _) (instSignal_idle (s := State.wr _ .engInstCmd_ctr 0 ctr.toNat) hidle ctr.toNat)⟩
    case read =>
      refine completes_of_effect rfl (hwrite _) ?_
      simp only [rd_settled, settled_eng]
      exact instRead_shows (s.ready src .engInstCmd 0) inst.toNat
    case clear => exact completes_of_effect rfl (hwrite _) (instClearFlags_shows (s.ready src .engInstCmd 0) inst.toNat)
  case issue =>
    intro inst w s hon hmay hgrp hawake hfetch hmem hw
    exact ⟨fun hwait => completes_of_effect rfl rfl (doDescriptorIssue_waits hon hmay hgrp hawake hfetch hmem hw hwait),
      fun hmet hfault => completes_of_effect rfl rfl (doDescriptorIssue_faults hon hmay hgrp hawake hfetch hmem hw hmet hfault),
      fun hmet hfault hop hend hsig =>
        completes_of_effect rfl rfl (doDescriptorIssue_setMode hon hmay hgrp hawake hfetch hmem hw hmet hfault hop hend hsig),
      fun hmet hfault hkind hshape =>
        completes_of_effect rfl rfl (doDescriptorIssue_job hon hmay hgrp hawake hfetch hmem hw hmet hfault hkind hshape)⟩
  case seek =>
    intro e x rest b s hfree hready hq hmay hjob
    exact completes_of_effect rfl (seek_own hfree hready hq) (startHead_runs hq hmay hjob)
  case steal =>
    rintro n q x l rest b s hfree hown hawake hgrant hsib hvictim rfl hhalf hjob
    have hsome : s.tq q ≠ [] := fun hnil => by simp [hnil] at hhalf
    refine completes_of_effect rfl (seek_steals hfree hown hawake hgrant hsib hvictim hsome) ?_
    exact startHead_runs (s := stolen s q (n.val / 8)) (e := .mxe n) ((tq_setTq_same ..).trans hhalf) rfl hjob
  case ends =>
    intro e r b s hrun hjob
    have heffect := tileDone_eq hrun hjob
    refine ⟨fun hends => completes_of_effect rfl (heffect.trans (if_pos hends)) ?_,
      fun hgoes => completes_of_effect rfl (heffect.trans (if_neg (by simp [hgoes]))) (settled_self s)⟩
    refine ⟨tileEnded_free s e r b, fun hop hlast => ?_, fun x hop hrow bs hbs => ?_⟩
    · have hjob' : kget (s.engineEnds e r).eng.jobs r.tile.job = some b := by rw [engineEnds_eng]; exact hjob
      rw [settled_eng, tileWork_transfer hop]
      exact tileLeft_last hjob' hlast
    · rw [hbs]
      exact tileEnded_row hop hrow s e
  case retry =>
    intro k psn x b s hfind hjob
    have hexec := exec_xfeRetryTimeout hfind
    exact ⟨fun hearly => completes_of_effect hexec (if_neg (Nat.not_le.mpr hearly)) (settled_self s),
      fun hdue hmore => completes_of_effect hexec (if_pos hdue) (xfeRetry_resends hjob hmore),
      fun hdue hnone hrun => completes_of_effect hexec (if_pos hdue) (xfeRetry_faults hjob hnone hrun)⟩

end Sys2Proof.Proofs

/-! The counters that packets of the part's own leave alone (R421, R422). -/

namespace Sys2Proof.Proofs
open Sys2Proof Sys2Proof.Machine Sys2Proof.Laws

/-- Between `s` and `t` the counters of group g were not moved. Each rule below takes the relation through one more operation. -/
structure CountsKept (g : Nat) (s t : State) : Prop where
  count : ∀ i, t.count g i = s.count g i

namespace CountsKept
variable {g : Nat} {s t u : State}

theorem refl (g : Nat) (s : State) : CountsKept g s s := ⟨fun _ => rfl⟩

theorem trans (hst : CountsKept g s t) (htu : CountsKept g t u) : CountsKept g s u :=
  ⟨fun i => (htu.count i).trans (hst.count i)⟩

/-- An operation that leaves the telemetry alone. -/
theorem apart (h : CountsKept g s t) (hu : u.tel = t.tel) : CountsKept g s u :=
  ⟨fun i => by rw [State.count, hu, ← State.count, h.count]⟩

theorem onSw (h : CountsKept g s t) (f : Sw → Sw) : CountsKept g s (t.onSw f) := h.apart rfl
theorem wr (h : CountsKept g s t) (f : Fld) (i v : Nat) : CountsKept g s (t.wr f i v) := h.apart rfl
theorem free (h : CountsKept g s t) (tag n : Nat) : CountsKept g s (t.free tag n).2 := h.apart rfl

theorem bumpN (h : CountsKept g s t) {g' : Nat} (hg : g ≠ g') (i n : Nat) : CountsKept g s (t.bumpN g' i n) :=
  h.trans ⟨fun j => count_bumpN_other t hg i n j⟩

/-- What a delivered packet held is freed: nothing is counted. -/
theorem takeLocal {pos : Nat} {ok : Deliv → Bool} {r : Deliv} (h : s.takeLocal pos ok = some (r, u)) : CountsKept g s u :=
  (refl g s).apart ((takeLocal_frees h).1.2 .tel (by decide))

section Packet
variable (h : CountsKept g s t) (hg : 5 < g)
include h hg

theorem bumpPort (n : Nat) (e : PortEv) : CountsKept g s (t.bumpPort n e) := by
  rw [State.bumpPort, State.when]
  split
  · exact h.bumpN (by omega) _ _
  · exact h

theorem bumpTab (e : TabEv) (n : Nat) : CountsKept g s (t.bumpTab e n) := h.bumpN (by omega) _ _

theorem bumpCore (k c : Nat) (e : CoreEv) (n : Nat) : CountsKept g s (t.bumpCore k c e n) := h.bumpN (by omega) _ _

theorem bumpIn (port : Option Nat) (e : PortEv) : CountsKept g s (t.bumpIn port e) := by
  cases port with
  | none => exact h
  | some n => exact h.bumpPort hg n e

omit hg in
theorem poolSub (k n : Nat) : CountsKept g s (t.poolSub k n) := h.wr ..

omit hg in
theorem enqueue (p : Pkt) : CountsKept g s (t.enqueue p) := by
  simp only [State.enqueue, State.setVoq]
  exact (h.onSw _).onSw _

omit hg in
theorem updStops (k : Nat) : CountsKept g s (t.updStops k) := by
  obtain ⟨_, _, hmoved⟩ := StopsMoved.updStops t k
  rw [hmoved]
  exact h.onSw _

theorem spillPacket (p : Pkt) : CountsKept g s (t.spillPacket p).1 := by
  simp only [State.spillPacket]
  split
  · exact (h.free ..).bumpCore hg ..
  · exact (((h.free ..).onSw _).wr ..).enqueue _

theorem admitPkt (p : Pkt) : CountsKept g s (t.admitPkt p).1 := by
  simp only [State.admitPkt]
  repeat' split
  · exact h.spillPacket hg p
  · dsimp only
    exact (((h.onSw _).poolSub ..).enqueue _).updStops _
  · dsimp only
    exact ((h.poolSub ..).enqueue _).updStops _
  · exact h.spillPacket hg p
  · exact h.bumpCore hg ..

omit hg in
theorem segIn (pid n : Nat) : CountsKept g s (t.segIn pid n) := by
  simp only [State.segIn, State.onPkt]
  split
  · exact (h.onSw _).onSw _
  · exact h.onSw _

theorem admitWhole (p : Pkt) : CountsKept g s (t.admitWhole p) := by
  have hadmit := h.admitPkt hg { p with whole := true }
  simp only [State.admitWhole]
  split <;> rename_i heq <;> rw [heq] at hadmit
  · exact hadmit.segIn ..
  · exact hadmit

theorem puntToken : CountsKept g s t.puntToken.1 := by
  have hrefresh : CountsKept g s t.puntRefresh := h.apart rfl
  have htaken := fun f => hrefresh.onSw f
  have hcounted := hrefresh.bumpTab hg .puntDrop 1
  simp only [State.puntToken]
  repeat' split
  all_goals simp only [htaken, hcounted]

/-- R119, R135: packets are admitted and dropped in counters of the ports, the core and the tables. -/
theorem injectAt (k : Nat) (b : Body) (cls : Nat) (v : Verdict) (puntPort itime : Nat) :
    CountsKept g s (t.injectAt k b cls v puntPort itime) := by
  simp only [State.injectAt]
  split
  · exact h
  · split
    · split
      · exact (h.puntToken hg).admitWhole hg _
      · exact h.puntToken hg
    · exact h.admitWhole hg _

omit hg in
theorem pickMember (group blk c : Nat) (spray : Bool) (input : List Byte) (ms : List (Nat × Nat × Nat)) :
    CountsKept g s (t.pickMember group blk c spray input ms).1 := by
  simp only [State.pickMember]
  repeat' split
  all_goals exact h.apart rfl

theorem toGroup (k blk c group : Nat) (eth spray : Bool) (input : List Byte) :
    CountsKept g s (t.toGroup k blk c group eth spray input).1 := by
  simp only [State.toGroup]
  repeat' split
  all_goals simp only [h, hg, bumpTab, pickMember]

theorem dtAction (k blk : Nat) (port : Option Nat) (p : Packet) : CountsKept g s (t.dtAction k blk port p).1 := by
  simp only [State.dtAction]
  repeat' split
  all_goals simp only [h, hg, bumpTab, bumpIn, toGroup]

theorem lookup (k blk : Nat) (port : Option Nat) (p : Packet) : CountsKept g s (t.lookup k blk port p).1 := by
  simp only [State.lookup]
  repeat' split
  · exact h
  · exact h.bumpIn hg ..
  · exact h.bumpCore hg ..
  · exact h.bumpTab hg ..
  · exact h.bumpCore hg ..
  · exact h
  · exact h.dtAction hg ..

/-- R65: a packet that the part originates counts in no group above those of ports, the core and the tables. -/
theorem originate (k : Nat) (p : Packet) : CountsKept g s (t.originate k p) := by
  rw [State.originate]
  split
  · exact h
  · exact (h.lookup hg ..).injectAt hg ..

theorem respond (r : Deliv) (kind w1k : Nat) (w2 : BitVec 64) (body : List Byte) : CountsKept g s (t.respond r kind w1k w2 body) :=
  h.originate hg _ _

theorem nack (r : Deliv) (code : Nat) : CountsKept g s (t.nack r code) := h.originate hg _ _

end Packet
end CountsKept

end Sys2Proof.Proofs

/-! Service GIDs, and the requests that are admitted or refused (R287, R288, R293 to R296). -/

namespace Sys2Proof.Proofs
open Sys2Proof Sys2Proof.Machine Sys2Proof.Laws

/-! Groups of requests (R296). -/

/-- The groups are part of `svc`. -/
theorem grp?_of_svc {s t : State} (h : t.svc = s.svc) (n : Nat) : t.grp? n = s.grp? n := by
  rw [State.grp?, h, State.grp?]

theorem num_of_grp? {s : State} {n : Nat} {g : SvcGrp} (h : s.grp? n = some g) : g.num = n := by
  simpa using List.find?_some h

/-- A group that is held is found under its number, or one before it that has the same. -/
theorem grp?_of_mem {s : State} {g : SvcGrp} (h : g ∈ s.svc.grps) : ∃ x, s.grp? g.num = some x :=
  Option.isSome_iff_exists.mp (List.find?_isSome.mpr ⟨g, h, beq_self_eq_true _⟩)

/-- A group that is replaced reads as it was given. -/
theorem grp?_setGrp_same {s : State} {g x : SvcGrp} (h : s.grp? g.num = some x) : (s.setGrp g).grp? g.num = some g := by
  have hnum : ∀ y : SvcGrp, ((if y.num = g.num then g else y).num == g.num) = (y.num == g.num) := fun y => by
    split
    · next hy => rw [hy]
    · rfl
  have hfind : s.svc.grps.find? (fun y => y.num == g.num) = some x := h
  rw [State.grp?, State.setGrp, onSvc_svc, List.find?_map, Function.comp_def]
  simp only [hnum, hfind, Option.map_some, num_of_grp? h, if_true]

theorem setGrp_nextGrp (s : State) (g : SvcGrp) : (s.setGrp g).svc.nextGrp = s.svc.nextGrp := rfl

theorem closeGrp_of_grp? {s : State} {n : Nat} {g : SvcGrp} (h : s.grp? n = some g) :
    s.closeGrp n = s.setGrp { g with closed := true } := by
  rw [State.closeGrp, h]

/-- R296: a group closes. -/
theorem closeGrp_closes {s : State} {n : Nat} {g : SvcGrp} (h : s.grp? n = some g) :
    ((s.closeGrp n).grp? n).map (·.closed) = some true := by
  obtain rfl := num_of_grp? h
  rw [closeGrp_of_grp? h, grp?_setGrp_same (g := { g with closed := true }) h]
  rfl

theorem closeGrp_parts (s : State) (n : Nat) : OnlyParts [.svc] s (s.closeGrp n) := by
  rw [State.closeGrp]
  split
  · exact onlyParts_onSvc (by decide) ..
  · exact onlyParts_refl ..

/-! Slots (R293, R294). -/

theorem slotPut_svc (s : State) (a : Nat) (bs : List Byte) : (s.slotPut a bs).svc = s.svc := by
  rw [State.slotPut]
  split <;> rfl

theorem slotPut_tb (s : State) (a : Nat) (bs : List Byte) : (s.slotPut a bs).tb = s.tb := by
  rw [State.slotPut]
  split <;> rfl

/-- Bytes written into a slot are no part of a context. -/
theorem inst_slotPut (s : State) (a : Nat) (bs : List Byte) (i : Nat) : (s.slotPut a bs).inst i = s.inst i := by
  rw [State.slotPut]
  split <;> rfl

theorem now_of_tb {s t : State} (h : t.tb = s.tb) : t.now = s.now := congrArg (fun b : TimeBase => b.ns.toNat) h

/-! Service GIDs (R287). -/

/-- R287: a GID that is taken already is refused. -/
theorem doSvcGidWrite_refused {s : State} {g val : Nat} (hvalid : bitAt val 31 = true)
    (htaken : s.svcGidTaken g (bits val 0 18) = true) : s.doSvcGidWrite g val = s.wr .svcGid_refused g 1 := by
  simp only [State.doSvcGidWrite, hvalid, htaken, Bool.and_self, if_true]

theorem rd_setDt (s : State) (g e : Nat) (f : Fld) (i : Nat) : (s.setDt g e).rd f i = s.rd f i := rfl

/-- The LOCAL entry of a service GID (Table 4.2). -/
theorem localEntry_svcGid (g : Nat) : localEntry (some g) = 2 ^ 63 + 2 ^ 62 + 3 * 2 ^ 59 + 16 + g := (Nat.add_assoc ..).symm

/-- R287: a GID that is free is given to its number, and its table entry is LOCAL. -/
theorem doSvcGidWrite_given {s : State} {g val : Nat} (hvalid : bitAt val 31 = true)
    (hfree : s.svcGidTaken g (bits val 0 18) = false) :
    (s.doSvcGidWrite g val).rd .svcGid_gid g = bits val 0 18 ∧ (s.doSvcGidWrite g val).rd .svcGid_valid g = 1 ∧
      (s.doSvcGidWrite g val).dt (bits val 0 18) = 2 ^ 63 + 2 ^ 62 + 3 * 2 ^ 59 + 16 + g := by
  have hgid : bits val 0 18 % 2 ^ Fld.width .svcGid_gid = bits val 0 18 := Nat.mod_mod ..
  simp only [State.doSvcGidWrite, hvalid, hfree, Bool.and_false, Bool.false_eq_true, if_false, when_true, rd_setDt, rd_wr_same,
    dt_setDt_same, localEntry_svcGid, rd_wr_other _ _ (.inl (by decide : Fld.svcGid_gid ≠ .svcGid_valid)), hgid, and_true]
  exact ⟨trivial, rfl⟩

/-! The first packet of a request (R288, R293, R295, R296). -/

section Admission
variable {s u : State} {pos sv e a : Nat} {r : Deliv}

/-- R295: a first packet for a USER service is tested for admission. -/
theorem doSvcReqReceived_first (htake : s.takeLocal pos (fun r => isSvcReq r && !s.otherSvc r) = some (r, u)) (hsv : sv = r.pkt.svc)
    (hfirst : u.assembling sv r = none) (hbound : u.bound? r = some (sv, e)) (hkind : seKind e = 0)
    (hnew : u.isRefused sv r = false) : doSvcReqReceived pos s = u.admitReq sv e r := by
  subst hsv
  simp [doSvcReqReceived, htake, hbound, hfirst, hnew, hkind]

/-- R295: a service that is being built answers that it is busy. -/
theorem admitReq_building (hclass : r.pkt.tc ≠ 7) (hgood : reqBad e r.pkt (reqNpkt e r.pkt) = false)
    (hready : u.rd .svcStatus_ready sv = 0) (hbuilding : u.rd .svcStatus_building sv = 1) :
    u.admitReq sv e r = (u.svcBusy sv e r).refuseReq sv r := by
  have htests : u.admTests sv e r = some (u.svcBusy sv e r) := by
    rw [State.admTests, if_neg (fun h => hclass h.1)]
    simp [flag_def, hready, hbuilding]
  simp only [State.admitReq, hgood, Bool.false_eq_true, if_false, htests]

/-- R295: a refusal is recorded in the services alone, apart from the groups. -/
theorem refuseReq_parts (s : State) (sv : Nat) (r : Deliv) : OnlyParts [.svc] s (s.refuseReq sv r) := by
  rw [State.refuseReq]
  split
  · exact onlyParts_onSvc (by decide) ..
  · exact onlyParts_refl ..

theorem refuseReq_grps (s : State) (sv : Nat) (r : Deliv) : (s.refuseReq sv r).svc.grps = s.svc.grps := by
  rw [State.refuseReq]
  split <;> rfl

/-- An answer of the part's own leaves what only the services hold. -/
theorem respond_svc (s : State) (r : Deliv) (kind w1k : Nat) (w2 : BitVec 64) (body : List Byte) :
    (s.respond r kind w1k w2 body).svc = s.svc :=
  ((Stores.refl packetParts poolFields s).originate ..).parts.2 .svc (by decide)

theorem svcBusy_svc (s : State) (sv e : Nat) (r : Deliv) : (s.svcBusy sv e r).svc = s.svc :=
  (respond_svc ..).trans (bumpN_svc ..)

/-- R295: SVC_BUSY is counted once. -/
theorem svcBusy_counts (hon : u.off = false) (sv e : Nat) (r : Deliv) :
    Counted 9 (16 * sv + SvcEv.svcBusyTx.ctorIdx) u (u.svcBusy sv e r) :=
  counted_congr (bumpN_counts hon (by decide) _).1 rfl (((CountsKept.refl 9 _).respond (by decide) ..).count _)

/-- R295: a request refused because its service is being built is counted, and joins no group. -/
theorem refusedBusy_shows (hon : u.off = false) (sv e : Nat) (r : Deliv) :
    Counted 9 (16 * sv + SvcEv.svcBusyTx.ctorIdx) u ((u.svcBusy sv e r).refuseReq sv r) ∧
      ((u.svcBusy sv e r).refuseReq sv r).svc.grps = u.svc.grps := by
  refine ⟨counted_congr (svcBusy_counts hon sv e r) rfl ?_, by rw [refuseReq_grps, svcBusy_svc]⟩
  exact ((CountsKept.refl 9 _).apart ((refuseReq_parts ..).2 .tel (by decide))).count _

/-- The group that a request which takes one of its own opens, on the slots from a up. -/
def ownGroupOf (s : State) (sv e a : Nat) : SvcGrp :=
  { num := s.svc.nextGrp, sv := sv, slot0 := a, entry := e, reqs := [], closed := true, alone := true, ready := none, waits := false,
    inst := none }

/-- The group stands behind the others, and its number is used up. -/
def groupOpened (s : State) (sv e a : Nat) : State :=
  s.onSvc (fun w => { w with grps := w.grps ++ [ownGroupOf s sv e a], nextGrp := s.svc.nextGrp + 1 })

theorem grp?_groupOpened (hfresh : s.grp? s.svc.nextGrp = none) (sv e a : Nat) :
    (groupOpened s sv e a).grp? s.svc.nextGrp = some (ownGroupOf s sv e a) := by
  have hnone : s.svc.grps.find? (fun g => g.num == s.svc.nextGrp) = none := hfresh
  simp [State.grp?, groupOpened, List.find?_append, hnone, ownGroupOf]

theorem admTake_parts (s : State) (sv e : Nat) : OnlyParts [.svc] s (s.admTake sv e) := by
  rw [State.admTake]
  split
  · exact onlyParts_onSvc (by decide) ..
  · exact onlyParts_refl ..

/-- R295: taking a token leaves the groups and their numbers. -/
theorem admTake_groups (s : State) (sv e : Nat) :
    (s.admTake sv e).svc.grps = s.svc.grps ∧ (s.admTake sv e).svc.nextGrp = s.svc.nextGrp := by
  rw [State.admTake]
  split <;> exact ⟨rfl, rfl⟩

/-- A request of one packet, before the packet takes its place. -/
def soleReq (s : State) (sv e a : Nat) (r : Deliv) : SvcReq :=
  { sv := sv, slot := a, first := r, hdr0 := none, npkt := 0, seen := [], lastLen := 0, t0 := s.now, ses := s.sesWord e r.pkt,
    whole := false, answered := false }

/-- R296: a request of one packet that takes a group of its own opens it on the lowest free slots. -/
theorem admitReq_alone (hgood : reqBad e r.pkt 0 = false) (hsole : reqNpkt e r.pkt = 0) (htests : u.admTests sv e r = none)
    (hown : ownGroup e r.pkt = true) (hfree : u.freeGroup sv e = some a) :
    u.admitReq sv e r = ((groupOpened u sv e a).admTake sv e).takePacket u.svc.nextGrp (soleReq u sv e a r) r.pkt := by
  simp only [State.admitReq, hsole, hgood, Bool.false_eq_true, if_false, htests, State.placeReq, hown, if_true, State.newGroup, hfree,
    Option.map_some]
  rfl

/-- R293: the packet of a request of one packet is packet 0. -/
theorem reqIdx_sole (hgood : reqBad e r.pkt 0 = false) (hsole : reqNpkt e r.pkt = 0) : reqIdx e r.pkt = 0 := by
  simp only [reqBad, hsole, Bool.or_eq_false_iff, decide_eq_false_iff_not, Nat.not_lt] at hgood
  obtain ⟨⟨⟨⟨hidx, -⟩, -⟩, -⟩, -⟩ := hgood
  exact Nat.le_zero.mp hidx

/-- R294: the length of a USER service's request is its own affair. -/
theorem lengthBad_user (s : State) {g : SvcGrp} (h : seKind g.entry = 0) (q : SvcReq) : s.lengthBad g q = false := by
  simp only [State.lengthBad, h]

/-- R294: a request that is whole makes its group ready. -/
theorem wholeReq_shows {g x : SvcGrp} {q : SvcReq} (hgrp : s.grp? g.num = some x) (hlength : s.lengthBad g q = false) :
    (s.wholeReq g q).grp? g.num = some { g with
      reqs := g.reqs.map (fun x => if x.slot = q.slot then { q with whole := true } else x), ready := some (g.ready.getD s.now) } ∧
    (s.wholeReq g q).svc.nextGrp = s.svc.nextGrp := by
  have hput := fun a bs => (grp?_of_svc (slotPut_svc s a bs) g.num).trans hgrp
  rw [State.wholeReq, hlength]
  simp only [Bool.false_eq_true, if_false, now_of_tb (slotPut_tb ..)]
  exact ⟨grp?_setGrp_same (hput _ _), (setGrp_nextGrp ..).trans (congrArg Svc.nextGrp (slotPut_svc ..))⟩

/-- A request whose one packet has come. -/
def packetSeen (q : SvcReq) (p : Packet) : SvcReq := { q with seen := [0], hdr0 := some p, lastLen := p.payload.length }

/-- The group of that request alone. -/
def groupOfSole (g : SvcGrp) (q : SvcReq) (p : Packet) : SvcGrp := { g with reqs := [packetSeen q p] }

/-- The packet lies in its slot, and the group holds its request. -/
def packetPlaced (s : State) (g : SvcGrp) (q : SvcReq) (p : Packet) : State :=
  (s.slotPut (slotAddr g.entry q.slot + 64 + 4096 * 0) p.payload).setGrp (groupOfSole g q p)

section Sole
variable {g : SvcGrp} {q : SvcReq} {p : Packet}
variable (hgrp : s.grp? g.num = some g) (hempty : g.reqs = []) (hclosed : g.closed = true)
variable (hidx : reqIdx g.entry p = 0) (hnpkt : q.npkt = 0) (hseen : q.seen = [])
include hgrp hempty hclosed hidx hnpkt hseen

/-- R293, R296: the only packet of the only request of a group that is closed. -/
theorem takePacket_sole : s.takePacket g.num q p = (packetPlaced s g q p).wholeReq (groupOfSole g q p) (packetSeen q p) := by
  simp only [State.takePacket, hgrp, hidx, hnpkt, hseen, hempty, hclosed, List.any_nil, Bool.false_eq_true, if_false, if_true,
    List.nil_append, List.length_singleton, Bool.true_or]
  simp only [packetPlaced, groupOfSole, packetSeen, hclosed, hnpkt]

/-- R293, R294: it makes the request whole and the group ready. -/
theorem takePacket_sole_shows (hkind : seKind g.entry = 0) (hready : g.ready = none) :
    (s.takePacket g.num q p).grp? g.num =
      some { g with reqs := [{ packetSeen q p with whole := true }], ready := some s.now } ∧
    (s.takePacket g.num q p).svc.nextGrp = s.svc.nextGrp := by
  have hplaced : (packetPlaced s g q p).grp? (groupOfSole g q p).num = some (groupOfSole g q p) :=
    grp?_setGrp_same (g := groupOfSole g q p) ((grp?_of_svc (slotPut_svc ..) _).trans hgrp)
  obtain ⟨hwhole, hnext⟩ := wholeReq_shows hplaced (lengthBad_user _ hkind (packetSeen q p))
  have hnow : (packetPlaced s g q p).now = s.now := now_of_tb (slotPut_tb ..)
  have hcount : (packetPlaced s g q p).svc.nextGrp = s.svc.nextGrp :=
    (setGrp_nextGrp ..).trans (congrArg Svc.nextGrp (slotPut_svc ..))
  rw [takePacket_sole hgrp hempty hclosed hidx hnpkt hseen]
  refine ⟨hwhole.trans ?_, hnext.trans hcount⟩
  simp [groupOfSole, hready, hnow]

end Sole

/-- R293, R294, R296: a request of one packet that takes a group of its own is whole in it. -/
theorem admitted_shows (hfresh : u.grp? u.svc.nextGrp = none) (hkind : seKind e = 0) (hidx : reqIdx e r.pkt = 0) :
    (((groupOpened u sv e a).admTake sv e).takePacket u.svc.nextGrp (soleReq u sv e a r) r.pkt).grp? u.svc.nextGrp = some
      { ownGroupOf u sv e a with reqs := [{ packetSeen (soleReq u sv e a r) r.pkt with whole := true }], ready := some u.now } ∧
    (((groupOpened u sv e a).admTake sv e).takePacket u.svc.nextGrp (soleReq u sv e a r) r.pkt).svc.nextGrp = u.svc.nextGrp + 1 := by
  obtain ⟨hgrps, hnext⟩ := admTake_groups (groupOpened u sv e a) sv e
  have hopen : ((groupOpened u sv e a).admTake sv e).grp? (ownGroupOf u sv e a).num = some (ownGroupOf u sv e a) := by
    rw [State.grp?, hgrps]
    exact grp?_groupOpened hfresh sv e a
  have hnow : ((groupOpened u sv e a).admTake sv e).now = u.now := now_of_tb ((admTake_parts ..).2 .tb (by decide))
  obtain ⟨hwhole, hcount⟩ := takePacket_sole_shows (q := soleReq u sv e a r) hopen rfl rfl hidx rfl rfl hkind rfl
  exact ⟨by rw [← hnow]; exact hwhole, hcount.trans hnext⟩

end Admission
end Sys2Proof.Proofs

/-! Requests and groups in time: their timeouts and their start (R293, R295 to R297, R300). -/

namespace Sys2Proof.Proofs
open Sys2Proof Sys2Proof.Machine Sys2Proof.Laws

/-! Timeouts of requests, refusals and groups (R293, R295, R296). -/

/-- R293: an unfinished request that is the only one of the only group is answered, and its group goes with it. -/
theorem exec_assemblyTimeout {s : State} {sv : Fin 64} {sgid : BitVec 18} {msgid : BitVec 16} {g : SvcGrp} {q : SvcReq}
    (hgrps : s.svc.grps = [g]) (hsv : g.sv = sv.val) (hreqs : g.reqs = [q]) (hopen : q.whole = false)
    (hsgid : q.first.pkt.sgid.toNat = sgid.toNat) (hmsgid : q.first.pkt.msgid = msgid) (hdue : s.asmNs ≤ span32 q.t0 s.now) :
    exec (.assemblyTimeout sv sgid msgid) s = settle s ((s.svcError q.first 2 0).dropReq g.num q.slot) := by
  show execAssemblyTimeout sv sgid msgid s = _
  simp [execAssemblyTimeout, hgrps, hsv, hreqs, hopen, hsgid, hmsgid, hdue]

/-- A group leaves with its last request. -/
theorem dropReq_last {s : State} {g : SvcGrp} {q : SvcReq} (hgrps : s.svc.grps = [g]) (hreqs : g.reqs = [q]) :
    (s.dropReq g.num q.slot).svc.grps = [] := by
  have hgrp : s.grp? g.num = some g := by simp [State.grp?, hgrps]
  simp [State.dropReq, hgrp, hreqs, State.freeGrp, hgrps]

/-- R295: of the refusal records only those of the request named, once their time has passed, are forgotten. -/
theorem refusalRecordExpiry_forgets (sv : Fin 64) (sgid : BitVec 18) (msgid : BitVec 16) (s : State) :
    Completes (.refusalRecordExpiry sv sgid msgid) s (fun t => OnlyParts [.svc] s t ∧
      ∀ x, x ∈ t.svc.refused ↔ x ∈ s.svc.refused ∧
        ¬ (x.1 = sv.val ∧ x.2.1 = sgid.toNat ∧ x.2.2.1 = msgid.toNat ∧ s.asmNs ≤ span32 x.2.2.2 s.now)) := by
  refine ⟨_, rfl, onlyParts_settled (onlyParts_onSvc (by decide) ..), fun x => ?_⟩
  refine List.mem_filter.trans (and_congr_right fun _ => ?_)
  simp only [Bool.not_eq_true', Bool.eq_false_iff, Bool.and_eq_true, beq_iff_eq, decide_eq_true_eq, and_assoc, ne_eq]

/-- R296: the join window of the open group of a service. -/
theorem exec_joinWindowExpiry {s : State} {sv : Fin 64} {g : SvcGrp} {a : Nat} (hopen : s.openGroup sv = some g)
    (hready : g.ready = some a) : exec (.joinWindowExpiry sv) s =
      settle s (if seJoinNs g.entry ≤ span32 a s.now then s.closeGrp g.num else s) := by
  show execJoinWindowExpiry sv s = _
  simp only [execJoinWindowExpiry, hopen, hready]

/-! The start of a group (R294, R297, R300). -/

section Start
variable {s : State} {sv : Fin 64} {g : SvcGrp} {i : Nat}

/-- R297: with no group waiting, the first group that is ready starts in the lowest free context, or waits. -/
theorem doGroupStart_eq (hfind : s.svc.grps.find? (fun g => g.sv == sv.val && g.startable) = some g)
    (hfirst : s.svc.grps.find? (fun x => x.startable && x.waits) = none) :
    doGroupStart sv s = match s.freeCtx with | some i => s.startGrp g i | none => s.ctxWait g := by
  simp only [doGroupStart, hfind, hfirst, Bool.false_eq_true, if_false]
  cases s.freeCtx <;> rfl

/-- The context that a group starts (R294, R297). -/
def groupContext (s : State) (g : SvcGrp) (i : Nat) : Inst :=
  { Inst.init with
    state := 1, region := seRegion g.entry, next := (seHead g.entry + g.slot0 * seLstride g.entry * 64) / 64 * 64,
    mode := seMode g.entry, starts := (s.inst i).starts + 1, t0 := s.now, grp := some g.num }

theorem wakeRegion_svc (s : State) (k : Nat) : (s.wakeRegion k).svc = s.svc := by
  rw [State.wakeRegion]
  split <;> rfl

/-- R297: the group's context is set, and the group names it. -/
theorem startGrp_shows (hgrp : g ∈ s.svc.grps) (i : Nat) :
    (s.startGrp g i).inst i = groupContext s g i ∧ ((s.startGrp g i).grp? g.num).bind (·.inst) = some i := by
  obtain ⟨x, hx⟩ := grp?_of_mem hgrp
  simp only [State.startGrp]
  constructor
  · rw [inst_of_eng (wakeRegion_eng ..), State.setGrp, inst_of_eng (onSvc_eng ..), inst_setInst_same, inst_slotPut,
      now_of_tb (slotPut_tb ..)]
    rfl
  · have hheld : ∀ a bs f, ((s.slotPut a bs).setInst i f).grp? g.num = some x := fun a bs f =>
      (grp?_of_svc ((onEng_svc ..).trans (slotPut_svc ..)) _).trans hx
    rw [grp?_of_svc (wakeRegion_svc ..), grp?_setGrp_same (g := { g with inst := some i, waits := false }) (hheld ..)]
    rfl

/-- R297: a group that finds no context is counted as it begins to wait. -/
theorem ctxWait_counts (hon : s.off = false) (hnew : g.waits = false) :
    Counted 9 (16 * g.sv + SvcEv.svcCtxWait.ctorIdx) s (s.ctxWait g) ∧ (s.ctxWait g).eng = s.eng := by
  rw [State.ctxWait, hnew]
  exact ⟨counted_congr (bumpN_counts (s := s.setGrp { g with waits := true }) hon (by decide) _).1 rfl rfl, bumpN_eng ..⟩

/-- R300: the run limit of a service's context. -/
theorem exec_runLimitExpiry {inst : BitVec 12} {e : Nat} (hentry : s.instEntry inst.toNat = some e) (hlimit : seRunLimit e ≠ 0)
    (hdue : 1000 * seRunLimit e ≤ span32 (s.inst inst.toNat).t0 s.now) :
    exec (.runLimitExpiry inst) s = settle s (s.instAbort inst.toNat 6) := by
  show execRunLimitExpiry inst s = _
  simp only [execRunLimitExpiry, hentry, hlimit, hdue, ne_eq, not_false_eq_true, and_self, if_true]

end Start

/-! The obligation. -/

/-- Settles O52, each clause by the rule above for it. -/
theorem requestsAreAdmittedAndStarted : Obligations.RequestsAreAdmittedAndStarted := by
  refine ⟨?gid, ?request, ?timeout, refusalRecordExpiry_forgets, ?window, ?start, ?limit⟩
  case gid =>
    rintro src g val s u hacc rfl
    have hwrite := onWrite_of_accepts hacc (fun s => s.doSvcGidWrite g val.toNat)
    refine ⟨fun hvalid htaken => completes_of_effect rfl (hwrite.trans (doSvcGidWrite_refused hvalid htaken)) ?_,
      fun hvalid hfree => completes_of_effect rfl hwrite ?_⟩
    · refine ⟨(rd_settled ..).trans (rd_wr_same ..), rfl, fun f i hf => ?_⟩
      rw [rd_settled, rd_wr_other]
      simpa using hf
    · obtain ⟨hgid, hshown, hentry⟩ := doSvcGidWrite_given hvalid hfree
      exact ⟨hgid, hshown, hentry⟩
  case request =>
    intro pos sv e a r s u htake hsv hfirst hbound hkind hnew
    have hparts := (takeLocal_frees htake).1
    have hadmit := doSvcReqReceived_first htake hsv hfirst hbound hkind hnew
    refine ⟨fun htests hgood hsole hown hfree hfresh => ?_, fun hon hclass hgood hready hbuilding => ?_⟩
    · refine completes_of_effect rfl (hadmit.trans (admitReq_alone hgood hsole htests hown hfree)) ?_
      obtain ⟨hgrp, hnext⟩ := admitted_shows (sv := sv) (a := a) hfresh hkind (reqIdx_sole hgood hsole)
      have hnow : u.now = s.now := now_of_tb (hparts.2 .tb (by decide))
      exact ⟨hnext, _, _, hgrp, rfl, rfl, rfl, rfl, congrArg some hnow, rfl, rfl, rfl, rfl⟩
    · have hon' : u.off = false := (hparts.2 .off (by decide)).trans hon
      obtain ⟨hcounted, hgrps⟩ := refusedBusy_shows hon' sv e r
      exact completes_of_effect rfl (hadmit.trans (admitReq_building hclass hgood hready hbuilding))
        ⟨counted_congr hcounted ((CountsKept.takeLocal htake).count _).symm rfl, hgrps⟩
  case timeout =>
    intro sv sgid msgid g q s hgrps hsv hreqs hopen hsgid hmsgid hdue
    refine completes_of_effect (exec_assemblyTimeout hgrps hsv hreqs hopen hsgid hmsgid hdue) rfl ?_
    exact dropReq_last ((congrArg Svc.grps (respond_svc ..)).trans hgrps) hreqs
  case window =>
    intro sv g a s hopen hready
    have hexec := exec_joinWindowExpiry hopen hready
    refine ⟨fun hdue => completes_of_effect hexec (if_pos hdue) ?_,
      fun hearly => completes_of_effect hexec (if_neg (Nat.not_le.mpr hearly)) (settled_self s)⟩
    obtain ⟨x, hx⟩ := grp?_of_mem (List.mem_of_find?_eq_some hopen)
    exact ⟨closeGrp_closes hx, onlyParts_settled (closeGrp_parts ..)⟩
  case start =>
    intro sv g s hfind hfirst
    have hstart := doGroupStart_eq hfind hfirst
    refine ⟨fun i hfree => ?_, fun hfull hon hnew => ?_⟩
    · rw [hfree] at hstart
      exact completes_of_effect rfl hstart (startGrp_shows (List.mem_of_find?_eq_some hfind) i)
    · rw [hfull] at hstart
      exact completes_of_effect rfl hstart (ctxWait_counts hon hnew)
  case limit =>
    intro inst e s hentry hlimit hdue hrun
    exact completes_of_effect (exec_runLimitExpiry hentry hlimit hdue) rfl (instAbort_state hrun 6)

end Sys2Proof.Proofs

/-! A GATE answer that no half slot can hold (R293, R313). -/

namespace Sys2Proof.Proofs
open Sys2Proof Sys2Proof.Machine Sys2Proof.Laws

/-- The packets that GATE_ANSWER takes (R313). -/
def isGateAnswer (s : State) (r : Deliv) : Bool :=
  isSvcReq r && r.pkt.op == 1 && (match s.bound? r with | some (_, e) => seKind e == 3 | none => false)

/-- A delivered packet of the kind asked for is taken. -/
theorem takeLocal_of_ok {s : State} {pos : Nat} {ok : Deliv → Bool} {r : Deliv} (hqueue : s.sw.localQ[pos]? = some r)
    (hok : ok r = true) : ∃ u, s.takeLocal pos ok = some (r, u) := by
  simp only [State.takeLocal, hqueue, hok, if_true]
  exact ⟨_, rfl⟩

/-- R293, R313: an answer whose bytes lie beyond half a slot is refused with a NACK, whatever its handle names. -/
theorem doGateAnswer_oversize {s u : State} {pos sv e : Nat} {r : Deliv} (htake : s.takeLocal pos (isGateAnswer s) = some (r, u))
    (hbound : u.bound? r = some (sv, e)) (hlarge : seSlotSize e / 2 < 4096 * reqIdx e r.pkt + r.pkt.payload.length) :
    doGateAnswer pos s = u.nack r 5 := by
  unfold doGateAnswer
  split
  · next hnone => cases hnone.symm.trans htake
  · next htaken =>
    obtain ⟨rfl, rfl⟩ := Prod.mk.inj (Option.some.inj (htaken.symm.trans htake))
    simp only [hbound]
    exact if_pos (Or.inr (Or.inr hlarge))

/-- What a service is bound to is part of the tables. -/
theorem bound?_of_tab {s t : State} (h : t.tab = s.tab) (r : Deliv) : t.bound? r = s.bound? r :=
  congrArg (fun w : Tab => State.bound? { s with tab := w } r) h

/-- With no GATE run a handle names nothing. -/
theorem gateFind_of_gates_nil {s : State} (h : s.svc.gates = []) (sv handle : Nat) : s.gateFind sv handle = none := by
  simp only [State.gateFind, h, List.find?_nil]

/-- What has been counted once was not left alone. -/
theorem not_counted_of_kept {g i : Nat} {s t : State} (h : CountsKept g s t) (hzero : s.count g i = 0) : ¬ Counted g i s t := by
  rw [Counted, h.count, hzero]
  decide

/-- A GATE service bound to service GID 0, with slots of 256 bytes. -/
def gateEntry : Nat := 2 ^ 511 + 3 * 2 ^ 506 + 2 ^ 483

/-- An ANSWER for service 3 with one byte more than half of such a slot. -/
def longAnswer : Deliv :=
  { pkt := { ver := 2, kind := 0x18, tc := 4, cm := 0, spray := false, last := false, echo := false, hops := 16, dgid := 0x111,
             sgid := 0x222, psn := 0, msgid := 0, len := 129, w1k := 0, w2 := BitVec.ofNat 64 (3 * 2 ^ 58 + 2 ^ 38), key := 0, ctx := 0,
             hcrc := 0, payload := List.replicate 129 0, ecrc := 0 }
    inPort := some 8, blk := 64, region := 0, fn := .svcGid 0, itime := 0, segs := 1 }

/-- A part that serves GATE as service 3, has no run in progress, and has been delivered that answer. -/
def lateAnswered : State :=
  { State.reset with
      tab := { State.reset.tab with svc := [(3, gateEntry)] }
      sw := { State.reset.sw with localQ := [longAnswer] } }

/-- Refutes O53, in the last clause on GATE_ANSWER, which asks nothing of the length of an answer: the answer that `lateAnswered` holds
does not fit half a slot, and is answered with a NACK (R293, R313), where the statement asks for GATE_LATE to count. -/
theorem not_servicesAreLoadedSteeredAndGated : ¬ Obligations.ServicesAreLoadedSteeredAndGated := by
  rintro ⟨-, -, -, -, -, hanswer, -⟩
  obtain ⟨u, htake⟩ : ∃ u, lateAnswered.takeLocal 0 (isGateAnswer lateAnswered) = some (longAnswer, u) :=
    takeLocal_of_ok rfl (by decide +kernel)
  have hfrees := (takeLocal_frees htake).1
  have hbound : u.bound? longAnswer = some (3, gateEntry) :=
    (bound?_of_tab (hfrees.2 .tab (by decide)) _).trans (by decide +kernel)
  have hnone : u.gateFind 3 longAnswer.pkt.ctx.toNat = none :=
    gateFind_of_gates_nil (congrArg Svc.gates (hfrees.2 .svc (by decide))) ..
  obtain ⟨-, hlate⟩ := hanswer 0 3 gateEntry 0 longAnswer ⟨0, 0, [], [], 0⟩ ⟨0, 0, [], 0, [], 0, false, false⟩ lateAnswered u htake hbound
    (by decide) (by decide)
  obtain ⟨t, hexec, hcounted, -⟩ := hlate hnone rfl
  have hnack : doGateAnswer 0 lateAnswered = u.nack longAnswer 5 := doGateAnswer_oversize htake hbound (by decide +kernel)
  obtain rfl : lateAnswered.settled (u.nack longAnswer 5) = t := by
    rw [← hnack]
    injection hexec
  have hkept : CountsKept 9 lateAnswered (u.nack longAnswer 5) := (CountsKept.takeLocal (g := 9) htake).nack (by decide) ..
  exact not_counted_of_kept hkept rfl hcounted

end Sys2Proof.Proofs
